-- ==== Sys2Proof/Word.lean ====
section
/-!
DEFINITION. Words, bytes, little-endian images and field extraction.

Host-memory structures and fabric headers are little-endian (R15). A structure is held as ONE natural
number, its little-endian image, and a field of a field map `offset [high:low]` is cut out of it by `bits`.
-/
namespace Sys2Proof

/-- One byte. -/
abbrev Byte := BitVec 8

/-- Bytes in address order. -/
abbrev Bytes := List Byte

/-- A table with natural keys: pairs in strictly rising key order (`Tab.wf` says so). -/
abbrev Tab (α : Type) := List (Nat × α)

/-- `w` bits of the image `r`, from bit `lo` of the byte at offset `off` (the field `off [lo+w-1:lo]`). -/
def bits (r off lo w : Nat) : Nat := r / 2 ^ (8 * off + lo) % 2 ^ w

/-- The field value `v` placed at bit `lo` of the byte at offset `off`, cut to `w` bits. -/
def place (off lo w v : Nat) : Nat := (v % 2 ^ w) * 2 ^ (8 * off + lo)

/-- The number whose little-endian bytes are given (R15). -/
def leNat : Bytes → Nat
  | [] => 0
  | b :: bs => b.toNat + 256 * leNat bs

/-- The first `n` little-endian bytes of a number (R15). -/
def leBytes : Nat → Nat → Bytes
  | 0, _ => []
  | n + 1, v => BitVec.ofNat 8 v :: leBytes n (v / 256)

/-- Division rounding up. -/
def ceilDiv (a b : Nat) : Nat := (b - 1 + a) / b

/-- A two's-complement number of `w` bits read as a signed value. -/
def toSigned (w v : Nat) : Int := if v < 2 ^ (w - 1) then (v : Int) else (v : Int) - 2 ^ w

/-- A signed value as a two's-complement number of `w` bits. -/
def ofSigned (w : Nat) (i : Int) : Nat := (i % (2 ^ w : Int)).toNat

/-- Bit `i` of a number. -/
def bitAt (v i : Nat) : Bool := v / 2 ^ i % 2 == 1

/-- The numbers below `n` whose bit of the mask `m` is set, lowest first. -/
def maskList (n m : Nat) : List Nat := (List.range n).filter (bitAt m)

/-- Number of elements for which a test holds. -/
def countP {α : Type} (p : α → Bool) (l : List α) : Nat := (l.filter p).length

/-- The element at a position, or the default. -/
def nth {α : Type} [Inhabited α] (l : List α) (i : Nat) : α := l.getD i default

/-- A list with the element at a position replaced (unchanged beyond its end). -/
def modNth {α : Type} (l : List α) (i : Nat) (f : α → α) : List α :=
  match l, i with
  | [], _ => []
  | x :: xs, 0 => f x :: xs
  | x :: xs, n + 1 => x :: modNth xs n f

/-- A value kept inside bounds. -/
def clampNat (lo hi v : Nat) : Nat := if v < lo then lo else if hi < v then hi else v

/-- The signed value kept inside bounds. -/
def clampInt (lo hi v : Int) : Int := if v < lo then lo else if hi < v then hi else v

end Sys2Proof
end

