-- ==== Sys2Proof/Syntax.lean ====
section
/-!
DEFINITION. The commands of the block: one constructor of `Instr` for each row of spec/opcode_table.json, with
the operands the row's step takes from outside (a register value, returned data, a packet, a frame, a flit).

An entry, a record or a descriptor that the part itself has read stands in the state; the command that acts on it
names the function, the queue pair, the channel or the key that holds it.
-/
namespace Sys2Proof

/-- The two host ports (R39). -/
inductive HPort where
  | A
  | B
  deriving DecidableEq, Repr, Inhabited

/-- What the host link negotiated (R39, R40, R54) and where the host placed the part's BARs (R147). -/
structure HostLink where
  width : Nat
  rate : Nat
  flit : Bool
  bars : List (Nat × Nat)
  deriving DecidableEq, Repr, Inhabited

/-- The events that take a host port to RESET (R73, R78). -/
inductive ResetWhy where
  | perst
  | hotReset
  | linkDisable
  | d3cold
  deriving DecidableEq, Repr, Inhabited

/-- How a read, an AtomicOp or a flush read the part issued was answered (R61, R62, R74, R75, R589). -/
inductive Answer where
  | data (d : Bytes)
  | poisoned (d : Bytes)
  | error
  | timeout
  deriving DecidableEq, Repr, Inhabited

/-- A write to a BAR2 doorbell slot (R106). -/
structure Doorbell where
  fn : Nat
  slot : Nat
  byteAt : Nat
  size : Nat
  value : Nat
  poisoned : Bool
  deriving DecidableEq, Repr, Inhabited

/-- The path by which a Ledger access came (R20): the mailbox of a function with its sequence number, a LAP
requester with its transaction identifier, or an in-band requester with its request identifier and arrival. -/
inductive Via where
  | mailbox (fn seq : Nat)
  | lap (src tid : Nat)
  | inband (dev reqId : Nat)
  deriving DecidableEq, Repr, Inhabited

/-- A fabric packet (R312 to R320). `ext` is the image of header bytes 0x28 to 0x3F (R316); `byteCount`, `poison`
and `crc` are the trailer; `rsv` is the image of every reserved header and trailer bit found set on arrival. -/
structure Packet where
  ptype : Nat
  tc : Nat
  esc : Nat
  mode : Nat
  ce : Bool
  nonmin : Bool
  tenant : Nat
  destDev : Nat
  destFn : Nat
  hops : Nat
  srcDev : Nat
  srcFn : Nat
  solicited : Bool
  flow : Nat
  qpn : Nat
  st : Bool
  inc : Nat
  psn : BitVec 32
  via : Nat
  destQueue : Nat
  ts : Nat
  ext : Nat
  payload : Bytes
  byteCount : Nat
  poison : Bool
  rsv : Nat
  crc : Nat
  deriving DecidableEq, Repr, Inhabited

/-- A 256-byte flit whose CRC passed (R384). -/
structure Flit where
  seq : BitVec 12
  ack : BitVec 12
  kind : Nat
  replayReq : Bool
  abort : Bool
  start : Nat
  fillAt : Nat
  pool : Nat
  crVc : Nat
  crPool : Nat
  crCount : Nat
  body : Bytes
  deriving DecidableEq, Repr, Inhabited

/-- A CAN FD frame as the management-bus controller receives or sends it (R509, R510). -/
structure LapFrame where
  ident : Nat
  data : Bytes
  deriving DecidableEq, Repr, Inhabited

/-- What is measured at a bell boundary and which domains finish their tasks within their budget (R26, R27). -/
structure BellInputs where
  /-- Bit *s* − 1: the domain of subindex *s* of `1100` finishes this bell's tasks before its deadline. -/
  finish : Nat
  /-- Total input power in this bell, in milliwatts (R534). -/
  powerMw : Nat
  /-- The readings of the sixteen temperature sensors, in millidegrees (R584). -/
  tempsMc : List Int
  /-- Rail voltages in millivolts, in the order of R576. -/
  railsMv : List Nat
  /-- Figures of merit measured for the lanes adapted in this bell: lane and value (R431). -/
  foms : List (Nat × Nat)
  /-- Corrected ECC errors found in this bell: source code 0x02 or 0x04 and instance (R551). -/
  corrected : List (Nat × Nat)
  /-- Uncorrectable ECC errors found in this bell: source code 0x01 or 0x03, instance and address (R552). -/
  uncorrectable : List (Nat × Nat × Nat)
  deriving DecidableEq, Repr, Inhabited

/-- One bid on a package-memory channel: class 0 to 6 in the order of R367 and the accesses of its bursts. -/
structure PmemBid where
  cls : Nat
  bursts : List Nat
  deriving DecidableEq, Repr, Inhabited

/-- The resource whose Auctioneer calls (R357 to R367): a crossbar output (0 to 63, or 64 to 67 for the ejection
connections), a host request path, or a package-memory channel with the bids present on it. -/
inductive AuctionSite where
  | output (n : Nat)
  | host (p : HPort)
  | pmem (ch : Nat) (bids : List PmemBid)
  deriving DecidableEq, Repr, Inhabited

/-- What a firmware load found: the bytes read (none when the read failed) and whether the ECDSA P-384 signature
over them verifies (R521). -/
structure FwRead where
  header : Option Bytes
  signatureOk : Bool
  deriving DecidableEq, Repr, Inhabited

/-- A step an equaliser asks of the peer transmitter (R430). -/
structure EqStep where
  post : Bool
  up : Bool
  fomBefore : Nat
  fomAfter : Nat
  deriving DecidableEq, Repr, Inhabited

/-- What the management-bus controller saw (R514, R515, ISO 11898-1). -/
inductive BusError where
  | txBit
  | txOther
  | rx
  | txOk
  | rxOk
  deriving DecidableEq, Repr, Inhabited

/-- The commands: one constructor for each row of spec/opcode_table.json, in the table's order. -/
inductive Instr where
  | bellBoundary (at_ : BellInputs)
  | bellOverrun (domain : Nat)
  | rwBellApply
  | quietPeriodExit (source : Nat)
  | throttleChange
  | thermalHold
  | thermalRelease
  | perstDeassert (p : HPort) (link : Option HostLink)
  | portReset (p : HPort) (why : ResetWhy)
  | surpriseDown (p : HPort)
  | fatalError (p : HPort)
  | freeze (p : HPort)
  | thaw (p : HPort)
  | freezeCauseClear (p : HPort) (mask : BitVec 32)
  | freezeRequest (via : Via) (p : HPort) (data : Bytes)
  | autoThaw (p : HPort)
  | thawComplete (p : HPort)
  | flr (fn : Nat)
  | flrComplete (fn : Nat)
  | numvfsWrite (p : HPort) (n : Nat)
  | powerStateWrite (fn : Nat) (d3hot : Bool) (pmeEn : Bool)
  | msixUnmask (fn : Nat) (vector : Option Nat)
  | l1Idle (p : HPort)
  | deviceStoreRead (p : HPort) (off len : Nat) (eccAt : Option Nat)
  | deviceStoreWrite (p : HPort) (off : Nat) (data : Bytes) (poisoned : Bool)
  | deviceStoreAtomic (p : HPort) (bar off op operand compare : Nat)
  | registerWrite (fn bar off : Nat) (data : Bytes) (poisoned : Bool)
  | completionTimeout (tag : Nat)
  | hostReadComplete (tag : Nat) (data : Bytes) (poisoned : Bool)
  | hostReadError (tag : Nat)
  | sqDoorbell (d : Doorbell)
  | rqDoorbell (d : Doorbell)
  | srqDoorbell (d : Doorbell)
  | cqDoorbell (d : Doorbell)
  | cqArm (d : Doorbell)
  | cqArmSolicited (d : Doorbell)
  | eqDoorbell (d : Doorbell)
  | adminSqDoorbell (d : Doorbell)
  | adminCqDoorbell (d : Doorbell)
  | cqReservationGrant (fn cq : Nat)
  | eqModerationExpiry (fn eq : Nat)
  | adminEnable (fn : Nat) (cfg : BitVec 32)
  | adminDisable (fn : Nat) (cfg : BitVec 32)
  | createCq (fn : Nat)
  | destroyCq (fn : Nat)
  | createEq (fn : Nat)
  | destroyEq (fn : Nat)
  | bindAdminCq (fn : Nat)
  | createQp (fn : Nat)
  | modifyQp (fn : Nat)
  | destroyQp (fn : Nat)
  | createSrq (fn : Nat)
  | destroySrq (fn : Nat)
  | recallQueue (fn : Nat)
  | queueAbort (fn : Nat)
  | queryQueue (fn : Nat)
  | createPd (fn : Nat)
  | destroyPd (fn : Nat)
  | registerRegion (fn : Nat)
  | pageListReadComplete (tag : Nat) (answer : Answer)
  | createAsk (fn : Nat)
  | destroyKey (fn : Nat)
  | destroyKeyComplete (fn : Nat)
  | invalidate (fn : Nat)
  | invalidateComplete (fn : Nat)
  | createMissQueue (fn : Nat)
  | destroyMissQueue (fn : Nat)
  | createTree (fn : Nat)
  | destroyTree (fn : Nat)
  | replaceTree (fn : Nat)
  | porterBind (fn : Nat)
  | porterUnbind (fn : Nat)
  | porterPause (fn : Nat)
  | porterDrain (fn : Nat)
  | porterResume (fn : Nat)
  | porterAbort (fn : Nat)
  | imageLoad (fn : Nat) (image : Option Bytes)
  | firmwareStage (fn : Nat)
  | firmwareSwitch (fn : Nat)
  | loadFirmware (p : HPort) (seq : Nat)
  | stageFirmware (p : HPort) (seq : Nat)
  | readLog (p : HPort) (seq : Nat)
  | ping (p : HPort) (seq : Nat)
  | bootUnknownCommand (p : HPort) (seq cmd : Nat)
  | firmwareLoaded (r : FwRead)
  | stagingDone (r : FwRead)
  | walkReadComplete (tag : Nat) (answer : Answer)
  | walkCasComplete (tag : Nat) (answer : Answer)
  | missTimeout (miss : Nat)
  | missRingDoorbell (d : Doorbell)
  | fillRingDoorbell (d : Doorbell)
  | fill (fn : Nat)
  | fault (fn : Nat)
  | send (qpn : Nat)
  | put (qpn : Nat)
  | putFlag (qpn : Nat)
  | get (qpn : Nat)
  | atomic (qpn : Nat)
  | durablePut (qpn : Nat)
  | replDurablePut (qpn : Nat)
  | mcastPut (qpn : Nat)
  | sendAtTimeRelease (qpn : Nat)
  | tsend (qpn : Nat)
  | trecv (fn srq : Nat)
  | tbuf (fn srq : Nat)
  | tcancel (fn srq : Nat)
  | barrier (qpn : Nat)
  | bcast (qpn : Nat)
  | reduce (qpn : Nat)
  | allreduce (qpn : Nat)
  | vote (qpn : Nat)
  | sendPacket (p : Packet)
  | putPacket (p : Packet)
  | putFlagData (p : Packet)
  | getReq (p : Packet)
  | atomicReq (p : Packet)
  | durablePutPacket (p : Packet)
  | replDurablePutPacket (p : Packet)
  | mcastPutPacket (p : Packet)
  | getResp (p : Packet)
  | atomicResp (p : Packet)
  | flag (p : Packet)
  | durableConf (p : Packet)
  | memberReply (p : Packet)
  | tsendEager (p : Packet)
  | tsendRts (p : Packet)
  | cts (p : Packet)
  | rndvData (p : Packet)
  | collSeg (p : Packet)
  | collHeartbeat (p : Packet)
  | collBreak (p : Packet)
  | ack (p : Packet)
  | nak (p : Packet)
  | refuse (p : Packet)
  | spillWritesIssued (ctx : Nat)
  | contextFetchComplete (tag : Nat) (answer : Answer)
  | retransmitTimerExpiry (ctx : Nat)
  | refusalBackoffExpiry (ctx : Nat) (psn : BitVec 32)
  | durableConfTimeout (ctx : Nat) (num : BitVec 32)
  | peerGoneExpiry (ctx : Nat)
  | flushReadComplete (tag : Nat) (answer : Answer)
  | targetAtomicComplete (tag : Nat) (answer : Answer)
  | groupDeadlineExpiry (qpn : Nat)
  | msnHoldExpiry (fn srq stream : Nat)
  | ctsWaitExpiry (qpn : Nat)
  | heartbeatDue (tree dev : Nat)
  | edgeDead (tree dev : Nat)
  | treeWrite (via : Via) (data : Bytes)
  | treeDestroy (via : Via) (data : Bytes)
  | transitPacket (inp vc : Nat)
  | priceBoard (port : Nat) (f : Flit)
  | tc3StaleDiscard (inp : Nat)
  | routingStall (inp vc : Nat)
  | mcastWrite (via : Via) (data : Bytes)
  | auctionCall (site : AuctionSite)
  | dataFlit (port : Nat) (f : Flit)
  | idleFlit (port : Nat) (f : Flit)
  | flitCrcFailure (port : Nat)
  | creditSync (port : Nat) (f : Flit)
  | undefinedControlFlit (port : Nat) (f : Flit)
  | replayTimeout (port : Nat)
  | symbolLockLost (lane : Nat)
  | symbolLockRegained (lane : Nat)
  | lockLossExpiry (lane : Nat)
  | receiverDetect (port lanes : Nat)
  | signonSymbols (port lanes : Nat)
  | commaLock (lane : Nat) (inverted : Bool)
  | capabilityFrame (lane : Nat) (record : Bytes)
  | rateSwitch (port : Nat)
  | rateLock (port lanes : Nat)
  | eqStep (lane : Nat) (step : EqStep)
  | equaliseComplete (port : Nat) (peerDone : Nat)
  | trainingStageTimeout (port : Nat)
  | portRetrain (via : Via) (port : Nat) (data : Bytes)
  | laneRequest (port : Nat) (f : Flit)
  | laneOrder (port : Nat) (f : Flit)
  | laneDone (port : Nat) (f : Flit)
  | switchMarker (port lanes : Nat)
  | laneRetrained (lane fom : Nat)
  | laneDegrade (lane : Nat)
  | widthRestore (port : Nat) (tx : Bool)
  | p1Idle (port : Nat)
  | p1Wake (port : Nat)
  | timeSync (port : Nat) (f : Flit) (arrival : Nat)
  | upstreamSilent
  | timeLock
  | timeUnlock
  | ppsInEdge (stamp localStamp : Nat)
  | referenceLost
  | refSecondsWrite (via : Via) (data : Bytes)
  | ppsOutPulse
  | ppsOutEnd
  | porterDoorbell (d : Doorbell)
  | descriptorStart (ch : Nat)
  | pieceIssue (ch : Nat)
  | descriptorWriteBack (ch : Nat)
  | porterPaused (ch : Nat)
  | mailboxRead (fn len seq : Nat)
  | mailboxWrite (fn len seq : Nat)
  | mailboxBadOp (fn len seq op : Nat)
  | lapRead (f : LapFrame)
  | lapWrite (f : LapFrame)
  | lapBlock (f : LapFrame)
  | lapRate (f : LapFrame)
  | lapPing (f : LapFrame)
  | lapForeignFrame (f : LapFrame)
  | lapRateSwitch
  | lapRateFallback
  | busOff
  | busOffRecovered
  | lapTxAbandon
  | mgmtReq (port : Nat) (p : Packet)
  | mgmtResp (port : Nat) (p : Packet)
  | directorySelect (via : Via) (data : Bytes)
  | mgmtKeyWrite (via : Via) (data : Bytes)
  | bulkLoadImage (via : Via)
  | bulkLoadFirmware (via : Via)
  | bulkStageFirmware (via : Via)
  | switchBellWrite (via : Via) (data : Bytes)
  | changeoverStart
  | changeoverReady
  | changeoverFallback
  | changeoverResume
  | resetRelease (maddr : Nat) (testMode : Bool)
  | orderViolation
  | railOutOfRange
  | refclkStop
  | pmemReady
  | agentsReady
  | requestOpen (via : Via) (data : Bytes)
  | enterOpen
  | deviceReset (via : Via) (data : Bytes)
  | pwrfailNFall
  | pwrfailLow
  | pwrfailNRise
  | drainDone
  | drainLimit
  | autoRestart
  | beadleSelect (via : Via) (data : Bytes)
  | beadleClear (via : Via) (data : Bytes)
  | tallyDump
  | tallyCountWrite (via : Via) (counter : Nat) (data : Bytes)
  | tallyDumpEnable (via : Via) (data : Bytes)
  | tallyDumpCi (via : Via) (data : Bytes)
  | dataLinkUp (p : HPort) (link : HostLink)
  | flitTime (port : Nat)
  | lapBitError (e : BusError)
  | thermalLimitExceeded
  | pmPmeRepeat (fn : Nat)
  | pmeStatusClear (fn : Nat)
  deriving DecidableEq, Repr

end Sys2Proof
end

