-- ==== Sys2Proof/Decode.lean ====
section
/-!
DEFINITION. The word decoder over the rows of spec/opcode_table.json that give bits. No row of this block's table
gives any (every row's "fields" is empty), so no word spells a command.
-/
namespace Sys2Proof

/-- The command that a word of `nbits` bits spells by the table's bits: none, since no row of the table gives bits. -/
def decodeTableWord (_nbits _w : Nat) : Option Instr := none

end Sys2Proof
end

