-- ==== Sys2Proof/Machine/Numbers.lean ====
section
/-!
DEFINITION. The arithmetic of the Exchange (R292 to R301): integer and IEEE 754 combination, the vote word, and the
Ledger Sum's conversions.
-/
namespace Sys2Proof.Machine

/-! ## IEEE 754 -/

/-- Mantissa and exponent widths of a binary format. -/
structure FpFmt where
  mant : Nat
  expo : Nat
  deriving DecidableEq, Repr

/-- binary16, binary32 and binary64 by TYPE (R285). -/
def fpOf (ty : Nat) : FpFmt := if ty = 4 then ⟨10, 5⟩ else if ty = 5 then ⟨23, 8⟩ else ⟨52, 11⟩

/-- Exponent bias. -/
def FpFmt.bias (f : FpFmt) : Int := (2 : Int) ^ (f.expo - 1) - 1
/-- The exponent field. -/
def FpFmt.exp (f : FpFmt) (x : Nat) : Nat := x / 2 ^ f.mant % 2 ^ f.expo
/-- The fraction field. -/
def FpFmt.frac (f : FpFmt) (x : Nat) : Nat := x % 2 ^ f.mant
/-- The sign bit. -/
def FpFmt.neg (f : FpFmt) (x : Nat) : Bool := bitAt x (f.mant + f.expo)
/-- The sign bit as a field. -/
def FpFmt.signBit (f : FpFmt) (n : Bool) : Nat := if n then 2 ^ (f.mant + f.expo) else 0
/-- A NaN. -/
def FpFmt.isNan (f : FpFmt) (x : Nat) : Bool := f.exp x == 2 ^ f.expo - 1 && f.frac x != 0
/-- An infinity. -/
def FpFmt.isInf (f : FpFmt) (x : Nat) : Bool := f.exp x == 2 ^ f.expo - 1 && f.frac x == 0
/-- The infinity of a sign. -/
def FpFmt.inf (f : FpFmt) (n : Bool) : Nat := f.signBit n + (2 ^ f.expo - 1) * 2 ^ f.mant
/-- The canonical quiet NaN (R295). -/
def FpFmt.nan (f : FpFmt) : Nat := (2 ^ f.expo - 1) * 2 ^ f.mant + 2 ^ (f.mant - 1)

/-- The magnitude of a finite number as an integer, and the exponent of its least bit. -/
def FpFmt.magnitude (f : FpFmt) (x : Nat) : Nat × Int :=
  if f.exp x = 0 then (f.frac x, 1 - f.bias - f.mant)
  else (2 ^ f.mant + f.frac x, (f.exp x : Int) - f.bias - f.mant)

/-- A magnitude divided by 2^k, rounded to nearest, ties to even. -/
def roundShift (m k : Nat) : Nat :=
  let q := m / 2 ^ k
  let r := m % 2 ^ k
  if 2 ^ k < 2 * r ∨ (2 * r = 2 ^ k ∧ k ≠ 0 ∧ q % 2 = 1) then q + 1 else q

/-- `mag × 2^e` rounded to a format, to nearest, ties to even (R295, R300). -/
def FpFmt.round (f : FpFmt) (n : Bool) (mag : Nat) (e : Int) : Nat :=
  if mag = 0 then f.signBit n else
  let low := 1 - f.bias - f.mant
  let q := max ((Nat.log2 mag : Int) + e - f.mant) low
  let m := if q ≤ e then mag * 2 ^ (e - q).toNat else roundShift mag (q - e).toNat
  let (m, q) := if 2 ^ (f.mant + 1) ≤ m then (m / 2, q + 1) else (m, q)
  if m < 2 ^ f.mant then f.signBit n + m
  else
    let ex := q + f.mant + f.bias
    if (2 : Int) ^ f.expo - 1 ≤ ex then f.inf n else f.signBit n + ex.toNat * 2 ^ f.mant + (m - 2 ^ f.mant)

/-- The signed value of a finite number over the least of two exponents. -/
def FpFmt.scaled (f : FpFmt) (x : Nat) (e : Int) : Int :=
  let (m, k) := f.magnitude x
  let v : Int := (m * 2 ^ (k - e).toNat : Nat)
  if f.neg x then -v else v

/-- IEEE 754 addition (R295). -/
def FpFmt.add (f : FpFmt) (a b : Nat) : Nat :=
  if f.isNan a || f.isNan b then f.nan
  else if f.isInf a then (if f.isInf b && f.neg a != f.neg b then f.nan else a)
  else if f.isInf b then b
  else
    let e := min (f.magnitude a).2 (f.magnitude b).2
    let v := f.scaled a e + f.scaled b e
    if v = 0 then f.signBit (f.neg a && f.neg b) else f.round (decide (v < 0)) v.natAbs e

/-- A finite or infinite number as a position in the order in which −0 lies below +0 (R296). -/
def FpFmt.rank (f : FpFmt) (x : Nat) : Int :=
  let m : Int := (x % 2 ^ (f.mant + f.expo) : Nat)
  if f.neg x then -m - 1 else m

/-- MIN and MAX (R296). -/
def FpFmt.pick (f : FpFmt) (small : Bool) (a b : Nat) : Nat :=
  if f.isNan a || f.isNan b then f.nan
  else if (f.rank a < f.rank b) = small then a else b

/-! ## Operators -/

/-- Width in bits of an integer TYPE (R285). -/
def intBits (ty : Nat) : Nat := if ty ≤ 1 then 32 else 64

/-- The order key of an integer: signed for i32 and i64. -/
def intKey (ty v : Nat) : Int := if ty = 0 ∨ ty = 2 then toSigned (intBits ty) v else v

/-- One combination of two elements (R286, R292, R295, R296, R299). -/
def combineElem (ty op a b : Nat) : Nat :=
  if ty = 7 then (a + b) % 2 ^ 256
  else if 4 ≤ ty then
    let f := fpOf ty
    if op = 0 then f.add a b else f.pick (op == 1) a b
  else
    match op with
    | 0 => (a + b) % 2 ^ intBits ty
    | 1 => if intKey ty a < intKey ty b then a else b
    | 2 => if intKey ty a < intKey ty b then b else a
    | 3 => Nat.land a b
    | 4 => Nat.lor a b
    | _ => Nat.xor a b

/-- A vote word from one vote (R294). -/
def voteWord (v : Nat) : Nat := v * 2 ^ 32 + v * 2 + v

/-- Two vote words combined (R294): counts add, ANY ors, ALL ands. -/
def combineVote (a b : Nat) : Nat :=
  (a / 2 ^ 32 + b / 2 ^ 32) % 2 ^ 32 * 2 ^ 32 + Nat.lor (a / 2 % 2) (b / 2 % 2) * 2 + Nat.land (a % 2) (b % 2)

/-! ## Ledger Sum -/

/-- A binary64 input converted to the 256-bit accumulator with least bit 2^L (R298): value, INEXACT, OVERFLOW. -/
def ledgerIn (x : Nat) (l : Int) : Nat × Bool × Bool :=
  let f := fpOf 6
  if f.isNan x || f.isInf x then (0, false, true)
  else
    let (m, e) := f.magnitude x
    let k := (l - e).toNat
    let v := if l ≤ e then m * 2 ^ (e - l).toNat else roundShift m k
    let inexact := decide (e < l) && m % 2 ^ k != 0
    if 2 ^ 224 ≤ v then (0, inexact, true)
    else (if f.neg x && v != 0 then 2 ^ 256 - v else v, inexact, false)

/-- An accumulated sum converted to binary64 at the root (R300): value and OVERFLOW. -/
def ledgerOut (a : Nat) (l : Int) : Nat × Bool :=
  let f := fpOf 6
  let s := toSigned 256 a
  let r := if s = 0 then 0 else f.round (decide (s < 0)) s.natAbs l
  (r, decide (2 ^ 224 ≤ s.natAbs) || f.isInf r)

end Sys2Proof.Machine
end

