-- ==== Sys2Proof/Machine/State.lean ====
section
/-!
DEFINITION. The state of the block, as plain data: every register, queue, buffer, counter, mode and pin that the
spec gives the part, the queue of waiting commands, and the model's own record of what the part has sent.

Each field's docstring names the rule that gives it and its reset value. Ledger parameters are held by address in
`ledger`, which lists those whose value differs from the power-up value of their Ledger table; the parameters that
report live state are computed from the fields below. Bell counts use `ticks` (R466).
-/
namespace Sys2Proof.Machine

/-! ## What the part issues -/

/-- The issuer of a host request (Ordering, before R58): the requests of one source leave in the order generated. -/
inductive Source where
  /-- One Stall acting for one context (its key). -/
  | stall (ctx : Nat)
  /-- The queue engine acting for one completion queue of a function. -/
  | cq (key : Nat)
  /-- The queue engine acting for one event queue of a function. -/
  | eq (key : Nat)
  /-- The queue engine fetching entries of a function. -/
  | fetch (fn : Nat)
  /-- One Porter channel. -/
  | porter (ch : Nat)
  /-- The Exchange acting for one tree. -/
  | exchange (tree : Nat)
  /-- The queue engine sending the interrupt messages of a function. -/
  | msix (fn : Nat)
  /-- The queue engine writing the miss ring of a function. -/
  | missRing (fn : Nat)
  /-- The Tally's dump. -/
  | tally
  /-- The Clerk. -/
  | clerk
  deriving DecidableEq, Repr, Inhabited

/-- What a host request does (R365). `entry` is a completion or event entry, written as one 32-byte write or as two
(R97). The operands of an AtomicOp are as R317 lays them out: the addend or the new value, then a CAS's compare value. -/
inductive HostOp where
  | write (addr : Nat) (data : Bytes) (poisoned : Bool)
  | entry (addr image : Nat)
  | read (tag addr len : Nat)
  | flush (tag addr : Nat)
  | atomic (tag addr op : Nat) (operands : Bytes)
  | msix (fn vector : Nat)
  deriving DecidableEq, Repr, Inhabited

/-- One request unit that bids on a host request path (R358, R365): the function it serves, its class in the order of
R366 (0 Clerk, 1 queue engine, 2 Stall TC1, 3 Exchange, 4 Stall TC0, 5 Porter), its requester in the Auctioneer's order,
its source, the sources whose earlier units must have been issued before it bids (R59), and the calls it has lost in a
row (R360). -/
structure HostUnit where
  fn : Nat
  cls : Nat
  req : Nat
  src : Source
  after : List Source
  op : HostOp
  /-- The key, first virtual address and bytes under which the access is made. R143, R166. -/
  acc : Option (Nat × Nat × Nat)
  losses : Nat
  /-- Clock at which it began to wait. R380. -/
  since : Nat
  deriving DecidableEq, Repr, Inhabited

/-- What the part puts on its interfaces. -/
inductive Output where
  /-- A request issued on a host port (R365). -/
  | host (p : HPort) (u : HostOp)
  /-- The completion of a host's read or AtomicOp with data, or poisoned (R49, R50, R67). -/
  | hostData (p : HPort) (data : Bytes) (poisoned : Bool)
  /-- Unsupported Request to a host's read or AtomicOp (R49, R50). -/
  | hostUr (p : HPort)
  /-- An AER report: true for Poisoned TLP Received, false for an advisory Unsupported Request (R49, R67). -/
  | aer (p : HPort) (poisonedTlp : Bool)
  /-- A PM_PME message of a function (R79). -/
  | pmPme (fn : Nat)
  /-- A request for ASPM L1 (R80). -/
  | l1 (p : HPort)
  /-- A flit sent on a logical port (R386). -/
  | flit (port : Nat) (f : Flit)
  /-- A capability frame, sign-on pattern or training frame of a lane: stage and content (R421, R424). -/
  | lane (lane stage content : Nat)
  /-- The answer to an equalisation step: true when the coefficient was at its limit (R430). -/
  | eqAnswer (lane : Nat) (atLimit : Bool)
  /-- A frame on the management bus (R510). -/
  | lap (f : LapFrame)
  /-- A SWITCH alignment marker on the lanes of a mask of a logical port (R434). -/
  | marker (port lanes : Nat)
  deriving DecidableEq, Repr, Inhabited

/-! ## Host ports and functions -/

/-- Port states of R73. -/
inductive PortState where
  | reset
  | up
  | frozen
  | thawing
  deriving DecidableEq, Repr, Inhabited

/-- One host port. -/
structure HostPort where
  /-- The state of R73. R51, 02; reset RESET, left when PERST is released and the link is up. -/
  state : PortState
  /-- PERST asserted. R73; reset released (DESIGN CHOICE false). -/
  perst : Bool
  /-- The data link is up. R72, R73; reset down. -/
  linkUp : Bool
  /-- HIF_LINK WIDTH, RATE, FLIT. R54; reset 0, 0, 0. -/
  link : HostLink
  /-- HIF_FREEZE_CAUSE, 6 bits. R52; reset 0. -/
  cause : BitVec 6
  /-- Bell count at the latest freeze cause, from which the hold runs. R72, R73; reset 0. -/
  frozenAt : Nat
  /-- The hold of this freeze: `2030:03` as it stood at entry. R72, R81; reset 0. -/
  hold : Nat
  /-- Consecutive completion timeouts. R75; reset 0. -/
  timeouts : Nat
  /-- Consecutive poisoned completions. R75; reset 0. -/
  poisons : Nat
  /-- The port asks for ASPM L1. R80; reset no. -/
  l1 : Bool
  /-- Functions whose refusal drove WAKE_N. R79; reset none. -/
  wake : List Nat
  /-- NumVFs. R42; reset 0. -/
  numVfs : Nat
  /-- Completion and event entries, and their messages, held while the port is FROZEN or THAWING, oldest first. R71; reset none. -/
  held : List HostUnit
  /-- Address last written on the host since the part's last flush read of the Shutter. R61, R541; reset none. -/
  dirty : Option Nat
  deriving DecidableEq, Repr, Inhabited

/-- The Ledger mailbox of a function. -/
structure Mailbox where
  /-- MBX_ADDR, 24 bits. R505; reset 0. -/
  addr : Nat
  /-- MBX_LEN, 16 bits. R505; reset 0. -/
  len : Nat
  /-- MBX_SEQ, 8 bits. R505; reset 0. -/
  seq : Nat
  /-- MBX_OP, 8 bits. R505; reset 0. -/
  op : Nat
  /-- MBX_DONE_LEN, 16 bits. R505; reset 0. -/
  doneLen : Nat
  /-- MBX_DONE_SEQ, 8 bits. R505; reset 0. -/
  doneSeq : Nat
  /-- MBX_RESULT, 8 bits. R505; reset 0. -/
  result : Nat
  /-- MBX_BELL, 64 bits. R505; reset 0. -/
  bell : Nat
  /-- MBX_DATA, 2,048 bytes, as one little-endian image. R505; reset 0. -/
  data : Nat
  /-- A request runs (it waits for the changeover or for a bulk action). R506; reset no. -/
  running : Bool
  deriving DecidableEq, Repr, Inhabited

/-- The Boot Channel of a physical function. -/
structure Boot where
  /-- BOOT_ADDR, 64 bits. R126; reset 0. -/
  addr : Nat
  /-- BOOT_LEN, 32 bits. R126; reset 0. -/
  len : Nat
  /-- BOOT_SEQ, 8 bits. R126; reset 0. -/
  seq : Nat
  /-- BOOT_CMD, 8 bits. R126; reset 0. -/
  cmd : Nat
  /-- BOOT_DONE_SEQ, 8 bits. R126; reset 0. -/
  doneSeq : Nat
  /-- BOOT_RESULT, 8 bits. R126; reset 0. -/
  result : Nat
  /-- BOOT_DONE_CMD, 8 bits. R126; reset 0. -/
  doneCmd : Nat
  /-- The command in progress: its number and sequence. R127; reset none. -/
  running : Option (Nat × Nat)
  deriving DecidableEq, Repr, Inhabited

/-- A function's miss queue (R159): the miss ring (CQ kind) and the fill ring (SQ kind). -/
structure MissQueue where
  /-- Miss-ring handle; the fill ring's is that plus 1. R169. -/
  handle : Nat
  missBase : Nat
  missLog2 : Nat
  missPi : BitVec 16
  missCi : BitVec 16
  fillBase : Nat
  fillLog2 : Nat
  fillPi : BitVec 16
  fillCi : BitVec 16
  fillFetching : Bool
  /-- Fill entries read and not yet acted on, oldest first. R163. -/
  fills : List Nat
  eq : Nat
  /-- A TLB_MISS event is outstanding. R162. -/
  eventOut : Bool
  deriving DecidableEq, Repr, Inhabited

/-- An administrative command that the path has read (R117): its ring index, its slots, its image. -/
structure AdminCmd where
  idx : BitVec 16
  slots : Nat
  raw : Nat
  /-- The command has been accepted and waits to complete: DESTROY_KEY, INVALIDATE, REGISTER_REGION, the Porter's
  PAUSE and DRAIN and ABORT, DESTROY_QP, RECALL, QUEUE_ABORT, FIRMWARE_STAGE. -/
  waiting : Bool
  /-- Entries completed ABORTED so far by a QUEUE_ABORT. R122. -/
  aux : Nat
  /-- PI of the queue when a QUEUE_ABORT was taken up. R122. -/
  mark : BitVec 16
  deriving DecidableEq, Repr, Inhabited

/-- One function (R42, R43). -/
structure Fn where
  /-- FLR_ACTIVE of HIF_FN_STATUS. R55; reset 0. -/
  flr : Bool
  /-- ADMIN_HALTED of HIF_FN_STATUS. R55, R124; reset 0. -/
  halted : Bool
  /-- PowerState is D3hot. R76; reset D0. -/
  d3hot : Bool
  /-- PME_En. R79; reset 0 (DESIGN CHOICE). -/
  pmeEn : Bool
  /-- PME_Status. R79; reset 0. -/
  pmeStatus : Bool
  /-- MSI-X Enable. R57; reset 0 (DESIGN CHOICE). -/
  msixOn : Bool
  /-- MSI-X table entries written: vector and 16-byte image; an unlisted entry is masked and otherwise zero. R47, R57, R73. -/
  vectors : Tab Nat
  /-- Pending bits of the PBA: the vectors set. R57; reset none. -/
  pba : List Nat
  /-- The Ledger mailbox. R505; reset 0. -/
  mailbox : Mailbox
  /-- QUE_ADM_SQ_BASE, in 4 KiB units, 52 bits. R114; reset 0. -/
  admSqBase : Nat
  /-- QUE_ADM_CQ_BASE, in 4 KiB units, 52 bits. R114; reset 0. -/
  admCqBase : Nat
  /-- QUE_ADM_CFG ENABLE. R114; reset 0. -/
  admOn : Bool
  /-- QUE_ADM_CFG CQ_LOG2. R114; reset 4. -/
  admCqLog2 : Nat
  /-- QUE_ADM_CFG SQ_LOG2. R114; reset 4. -/
  admSqLog2 : Nat
  /-- Administrative SQ producer index. R86; reset 0. -/
  admPi : BitVec 16
  /-- Administrative SQ consumer index. R86; reset 0. -/
  admCi : BitVec 16
  /-- A command fetch is outstanding. R117; reset no. -/
  admFetching : Bool
  /-- The command read and not yet completed. R117; reset none. -/
  admCur : Option AdminCmd
  /-- ENABLE was written 0 while a command ran: the path stops after it. R115; reset no. -/
  admStop : Bool
  /-- Protection domains of the function. R131; reset none. -/
  pds : List Nat
  /-- The miss queue. R159; reset none. -/
  missq : Option MissQueue
  /-- Completions owed to a CQ that had no room: CQ handle and image, oldest first. R71, R271; reset none. -/
  owed : List (Nat × Nat)
  deriving DecidableEq, Repr, Inhabited

/-! ## Queues -/

/-- Who waits for a reservation in a completion queue (R100). -/
inductive Waiter where
  | sq (qpn : Nat)
  | srq (key : Nat)
  deriving DecidableEq, Repr, Inhabited

/-- A completion queue (R82, R95 to R103); handle 1 is the administrative CQ. -/
structure Cq where
  base : Nat
  log2 : Nat
  /-- Producer index, the part's. R86; 0 at creation. -/
  pi : BitVec 16
  /-- Consumer index, software's. R86; 0 at creation. -/
  ci : BitVec 16
  /-- Armed for any completion. R102; no at creation. -/
  armed : Bool
  /-- Armed for solicited completions. R102; no at creation. -/
  armedSol : Bool
  /-- The EQ it names. R118. -/
  eq : Option Nat
  /-- Reservations held. R99; 0 at creation. -/
  reserved : Nat
  /-- Queues that wait for a reservation, in the order they asked. R100; none at creation. -/
  waiters : List Waiter
  /-- Indices of written completions that carry the solicited flag and lie beyond CI. R102; none at creation. -/
  solicited : List (BitVec 16)
  deriving DecidableEq, Repr, Inhabited

/-- A pending mark of an event that found its EQ full (R104): type, source and time of the latest event. -/
structure Mark where
  typ : Nat
  obj : Nat
  source : Nat
  ts : Nat
  deriving DecidableEq, Repr, Inhabited

/-- An event queue (R103 to R105). -/
structure EventQ where
  base : Nat
  log2 : Nat
  pi : BitVec 16
  ci : BitVec 16
  vector : Nat
  mod : Nat
  /-- Bell count at the last MSI-X message. R105; none at creation. -/
  lastMsg : Option Nat
  /-- Entries written and not yet announced by a message. R105; none at creation. -/
  owed : Bool
  marks : List Mark
  deriving DecidableEq, Repr, Inhabited

/-- Where an entry of a send queue stands. -/
inductive Stage where
  | fetched
  | waitTime
  | started
  | done
  deriving DecidableEq, Repr, Inhabited

/-- An entry of a send queue that the part has read (R89): first slot, slots, image, stage, and, once it is done,
what its completion carries. -/
structure Wqe where
  idx : BitVec 16
  slots : Nat
  raw : Nat
  stage : Stage
  reserved : Bool
  status : Nat
  bytes : Nat
  aux : Nat
  ts : Nat
  /-- Sources whose writes its completion reports. R59. -/
  after : List Source
  deriving DecidableEq, Repr, Inhabited

/-- A send queue (R82 to R94). -/
structure Sq where
  base : Nat
  log2 : Nat
  slot : Nat
  pi : BitVec 16
  ci : BitVec 16
  /-- Index of the next slot to fetch. R111. -/
  next : BitVec 16
  /-- A fetch is outstanding. R111. -/
  fetching : Bool
  /-- The next entry reaches beyond the announced PI: no fetch until a doorbell. R94. -/
  short : Bool
  /-- Entries read and not yet completed, in ring order. R98. -/
  ents : List Wqe
  /-- Held by a RECALL until a later doorbell announces a new PI. R113. -/
  recalled : Bool
  /-- Stands in the waiting list of its CQ. R100. -/
  waiting : Bool
  /-- Doorbells that announced entries not yet started: PI and clock, oldest first. R380. -/
  bells : List (BitVec 16 × Nat)
  deriving DecidableEq, Repr, Inhabited

/-- A receive entry bound to a message, in ring order, with its outcome once it is done (R98, R215). -/
structure Bound where
  idx : BitVec 16
  raw : Nat
  slots : Nat
  /-- Status, bytes, timestamp, solicited. R95. -/
  done : Option (Nat × Nat × Nat × Bool)
  after : List Source
  deriving DecidableEq, Repr, Inhabited

/-- A receive queue (R82, R213, R592). -/
structure Rq where
  base : Nat
  log2 : Nat
  slot : Nat
  pi : BitVec 16
  ci : BitVec 16
  next : BitVec 16
  fetching : Bool
  /-- As in a send queue. R94. -/
  short : Bool
  /-- Entries read and ready. R592. -/
  pool : List (BitVec 16 × Nat)
  bound : List Bound
  recalled : Bool
  /-- As in a send queue. R380. -/
  bells : List (BitVec 16 × Nat)
  deriving DecidableEq, Repr, Inhabited

/-- Queue-pair states of R202. -/
inductive QpState where
  | idle
  | ready
  | error
  | flushed
  deriving DecidableEq, Repr, Inhabited

/-- A queue pair (R83, R172, R201, R202). -/
structure Qp where
  fn : Nat
  st : Bool
  tc : Nat
  state : QpState
  pd : Nat
  peerDev : Nat
  peerFn : Nat
  peerQpn : Nat
  retryLimit : Nat
  unlimited : Bool
  cq : Nat
  rqCq : Nat
  srq : Option Nat
  eventEq : Option Nat
  indexed : Bool
  sq : Sq
  rq : Option Rq
  /-- The status that entries in progress complete with once the queue pair is in ERROR. R595. -/
  cause : Nat
  /-- Group-message counter. R316. -/
  groupNum : BitVec 32
  deriving DecidableEq, Repr, Inhabited

/-! ## Tag matching -/

/-- A tagged receive that is stored (R252): post number, ring index, image, wildcard or not, its CQ. -/
structure Posted where
  post : Nat
  idx : BitVec 16
  raw : Nat
  deriving DecidableEq, Repr, Inhabited

/-- A tagged receive that a message has taken (R262, R264): the message, its envelope, what is still to come. -/
structure Matched where
  /-- Landing handle, 24 bits. R262. -/
  handle : Nat
  idx : BitVec 16
  raw : Nat
  ctx : Nat
  num : BitVec 32
  /-- Device, function, rank, tag and full length of the matched message. R249. -/
  envDev : Nat
  envFn : Nat
  envRank : Nat
  envTag : Nat
  msgLen : Nat
  /-- Bytes that decide completion: the message length, or the grant. R264. -/
  need : Nat
  seen : Nat
  written : Nat
  /-- A copy from an overflow buffer is owed or in progress: buffer and offset. R267. -/
  copy : Option (Nat × Nat)
  /-- Offset of the next piece of the copy to be read. R267. -/
  copyNext : Nat
  /-- A piece that has been read and waits for the translation of its destination: bytes, poisoned. R157, R267. -/
  copyData : Option (Bytes × Bool)
  poisoned : Bool
  solicited : Bool
  deriving DecidableEq, Repr, Inhabited

/-- A message stored as UNEXPECTED or HELD (R252, R257, R266). -/
structure Stored where
  ctx : Nat
  num : BitVec 32
  srcDev : Nat
  srcFn : Nat
  rank : Nat
  context : Nat
  tag : Nat
  msn : BitVec 16
  len : Nat
  rts : Bool
  /-- Eligibility number; none while HELD. R255, R257. -/
  elig : Option Nat
  /-- Bell count at which it was stored. R258. -/
  at_ : Nat
  /-- Overflow buffer and offset of its payload. R266. -/
  buf : Option (Nat × Nat)
  complete : Bool
  poisoned : Bool
  solicited : Bool
  deriving DecidableEq, Repr, Inhabited

/-- A stream record (R243): its fields and the expected MSN. -/
structure Stream where
  srcDev : Nat
  srcFn : Nat
  rank : Nat
  context : Nat
  expected : BitVec 16
  deriving DecidableEq, Repr, Inhabited

/-- An overflow buffer (R266). -/
structure Tbuf where
  id : Nat
  idx : BitVec 16
  raw : Nat
  used : Nat
  closed : Bool
  live : Nat
  deriving DecidableEq, Repr, Inhabited

/-- A shared receive queue with its matching state (R82, R88, R243 to R276, R591). -/
structure Srq where
  base : Nat
  log2 : Nat
  pi : BitVec 16
  ci : BitVec 16
  fetching : Bool
  /-- As in a send queue. R94. -/
  short : Bool
  shadow : Nat
  cq : Nat
  pd : Nat
  lowLimit : Nat
  eventEq : Option Nat
  /-- The count of unread entries has stood at the limit or above since the last SRQ_LOW. R120. -/
  lowArmed : Bool
  pool : List (BitVec 16 × Nat)
  /-- Receive entries taken by messages and not completed. R121. -/
  inUse : Nat
  /-- An entry that was read and holds for a reservation in its CQ or for a free Match Store entry. R269. -/
  postHeld : Option (BitVec 16 × Nat)
  /-- That entry has been read and its TRECV, TBUF or TCANCEL has not yet been carried out. R255. -/
  postNew : Bool
  posted : List Posted
  matched : List Matched
  stored : List Stored
  streams : Tab Stream
  tbufs : List Tbuf
  /-- Post-number counter, 32 bits. R255. -/
  postNum : Nat
  /-- Eligibility-number counter. R255. -/
  eligNum : Nat
  /-- Next overflow-buffer number of the model. -/
  tbufNum : Nat
  deriving DecidableEq, Repr, Inhabited

/-! ## Contexts -/

/-- Residency of a context (R180). -/
inductive Residency where
  /-- Not made yet: it waits for a Shelf slot. R179; the model's own name for a context that no residency state holds. -/
  | waiting
  | resident
  | spilling
  | stored
  | fetching
  deriving DecidableEq, Repr, Inhabited

/-- A packet sent and not yet retired (R186, R189): PSN, packet, the message it belongs to, the bell count at which
it was last sent, whether it was resent for a SACK hole, whether it is acknowledged, and the bell count until which a
refusal holds it back (R196). -/
structure SentPkt where
  psn : BitVec 32
  pkt : Packet
  /-- Model number of the message it belongs to. -/
  id : Nat
  at_ : Nat
  resent : Bool
  sacked : Bool
  backoff : Option Nat
  deriving DecidableEq, Repr, Inhabited

/-- A message on the send side of a context. -/
structure TxMsg where
  /-- The model's own number of the message. -/
  id : Nat
  /-- It answers the peer's message of that number (R599). -/
  reply : Bool
  num : BitVec 32
  ptype : Nat
  /-- The entry that owns it: queue pair and first slot; none for a target's response and for a message that its
  queue pair no longer owns (R44, R595). -/
  owner : Option (Nat × BitVec 16)
  proto : Packet
  /-- Function whose memory the payload is read from, and the protection domain of the check of R139 (none for a
  response, which R140 has admitted). -/
  fn : Nat
  pd : Option Nat
  len : Nat
  /-- FLAG_KEY, FLAG_ADDR and FLAG_VALUE of a PUT_FLAG. R217. -/
  flag : Option (Nat × Nat × Nat)
  /-- Packets not yet sent: offset, bytes, and whether it is the FLAG packet. R318, R319. -/
  plan : List (Nat × Nat × Bool)
  /-- Key and virtual address from which the payload is read; none when it needs no read. R139, R140. -/
  src : Option (Nat × Nat)
  /-- Pieces not yet read: offset and bytes. R365. -/
  todo : List (Nat × Nat)
  /-- Payload read: offset, bytes, poisoned. R64. -/
  got : List (Nat × Bytes × Bool)
  unacked : Nat
  acked : Nat
  /-- Status with which the entry completes once every packet is answered. R241, R597. -/
  fail : Option Nat
  /-- The remaining packets go out poisoned with a zero payload. R595, R597. -/
  poisonRest : Bool
  /-- Some payload was read poisoned. R64. -/
  poisoned : Bool
  /-- Clock at which every packet was acknowledged (R228, R263), or the last resend of R228. -/
  ackedAt : Option Nat
  /-- Response bytes received and their number. R220. -/
  respCount : Nat
  /-- Replies received for a group message: OK, failed, last failure. R234. -/
  repOk : Nat
  repFail : Nat
  lastFail : Nat
  /-- Devices that have replied to a group message, and the members of its group. R231, R234. -/
  members : List Nat
  count : Nat
  /-- NOT_READY refusals of this message. R197. -/
  notReady : Nat
  /-- Bell count of the first transmission. R234. -/
  firstAt : Option Nat
  /-- The packet sent last, which R228 resends and a late NAK names. -/
  final : Option Packet
  /-- Timer expiries at which a group message was resent. R233. -/
  resends : Nat
  deriving DecidableEq, Repr, Inhabited

/-- Where the bytes of an arriving message go. -/
inductive Dest where
  | remote
  | none
  | rq (qpn : Nat) (idx : BitVec 16) (raw : Nat)
  | srq (key : Nat) (idx : BitVec 16) (raw : Nat)
  | trecv (key : Nat) (handle : Nat)
  | store (key : Nat) (buf off : Nat)
  deriving DecidableEq, Repr, Inhabited

/-- The open-message state of an arriving message (R210, R215, R219). -/
structure RxMsg where
  num : BitVec 32
  ptype : Nat
  len : Nat
  count : Nat
  written : Nat
  dest : Dest
  qpnSrc : Nat
  /-- A data packet of the message has passed. R219. -/
  begun : Bool
  failed : Option Nat
  poisoned : Bool
  solicited : Bool
  /-- Flag recorded: key, address, value. R219. -/
  flag : Option (Nat × Nat × Nat)
  /-- Host address of the last range written, for the flush read. R225. -/
  last : Option Nat
  /-- A flush read is outstanding, and it has completed. R225. -/
  flushing : Bool
  flushed : Bool
  /-- Function whose memory the message is written to, once a key has said it. R217. -/
  keyFn : Option Nat
  /-- Header of the packet with the greatest OFFSET seen, which an answer to the whole message names. -/
  hdr : Packet
  deriving DecidableEq, Repr, Inhabited

/-- A reliability context (R172 to R178): a queue pair's, a shared one, or a tree edge's. -/
structure Ctx where
  kind : Nat
  port : HPort
  peer : Nat
  tc : Nat
  res : Residency
  /-- It holds a Shelf slot. R179, R180. -/
  slot : Bool
  /-- Least-recent use, as a bell count. R179. -/
  used : Nat
  inc : BitVec 32
  sndNxt : BitVec 32
  sndUna : BitVec 32
  /-- Congestion window in 1/256 packet. R193. -/
  cwnd : Nat
  retry : Nat
  rcvNxt : BitVec 32
  rcvInc : BitVec 32
  /-- Incarnations of the receive side that were retired, newest last. R196, R199. -/
  rcvOld : List (BitVec 32)
  /-- The receive side has adopted no incarnation: it was never used, was lost, or was cleared. R182, R199, R596. -/
  rcvFresh : Bool
  rcvMap : BitVec 1024
  sent : List SentPkt
  msgs : List TxMsg
  rx : List RxMsg
  /-- Next message number. R316. -/
  nextNum : BitVec 32
  /-- Clock at which the retransmission timer was armed. R190. -/
  timer : Option Nat
  /-- Packets received in order since the last ACK. R188. -/
  unackedRx : Nat
  /-- CE-marked packets since the last ACK. R189, R378. -/
  ce : Nat
  /-- Bell count of the last window reduction. R194. -/
  cutAt : Option Nat
  /-- Newest durable message confirmed. R227. -/
  confirmed : Option (BitVec 32)
  /-- Header of the packet received last, which says where an ACK at a bell boundary goes. R188. -/
  ackTo : Option Packet
  /-- Function and bus address of the last range this source wrote. R61. -/
  lastAddr : Option (Nat × Nat)
  /-- Bell count since which the peer has had no valid path. R203. -/
  noPath : Option Nat
  deriving DecidableEq, Repr, Inhabited

/-- A packet that has passed its checks and whose host writes have not all been issued (R187): the context, the packet, the
units of its source still to be issued up to its last write, and the status of the NAK it is answered with (0: none). -/
structure Landing where
  ctx : Nat
  pkt : Packet
  left : Nat
  code : Nat
  deriving DecidableEq, Repr, Inhabited

/-- Why a packet stands on a waiting bench (R183). -/
inductive BenchWait where
  | context (ctx : Nat)
  | miss (id : Nat)
  /-- A SEND whose earlier packets have not all arrived: its place among the receive entries is not known. R213. -/
  | order (ctx : Nat)
  deriving DecidableEq, Repr, Inhabited

/-! ## Protection and translation -/

/-- A live entry of the key table (R134, R136). -/
structure Key where
  variant : Nat
  ask : Bool
  fn : Nat
  pd : Nat
  va : Nat
  len : Nat
  tenant : Nat
  /-- LOCAL_WRITE, REMOTE_READ, REMOTE_WRITE, REMOTE_ATOMIC, REMOTE_DURABLE, PERSIST from bit 0. R136. -/
  rights : Nat
  handler : Bool
  table : Nat
  winLo : Nat
  winHi : Nat
  deriving DecidableEq, Repr, Inhabited

/-- A translation (R145, R153): key INDEX, first page of the group, pages in the group, bus base, W, PM, D, the bell
in which it was loaded, pinned or not, and whether the first level holds a copy. -/
structure Tlb where
  index : Nat
  page : Nat
  pages : Nat
  base : Nat
  w : Bool
  pm : Bool
  d : Bool
  bell : Nat
  pinned : Bool
  l1 : Bool
  deriving DecidableEq, Repr, Inhabited

/-- What waits on a miss (R157): a packet on the bench waits by itself; these are the local accesses. -/
inductive MissWaiter where
  | payload (ctx id : Nat)
  | porter (ch : Nat)
  | bench
  | coll (tree : Nat) (osn : BitVec 32) (slot : Nat)
  | copy (srq handle : Nat)
  deriving DecidableEq, Repr, Inhabited

/-- An unanswered miss (R158): the key, the page, the kind of access (0 read, 1 write, 2 atomic), the level the walk
is at, the leaf it read, and the CAS attempts made. -/
structure Miss where
  key : Nat
  page : Nat
  access : Nat
  /-- Clock at which it was raised, and its limit in bells. R158. -/
  raised : Nat
  limit : Nat
  waiters : List MissWaiter
  level : Nat
  leaf : Nat
  leafAddr : Nat
  casTries : Nat
  casLimit : Nat
  /-- Written to the miss ring (or held for room in it). R160, R161. -/
  recorded : Bool
  ts : Nat
  deriving DecidableEq, Repr, Inhabited

/-- What a read of host memory serves. -/
inductive ReadFor where
  | sq (qpn : Nat)
  | rq (qpn : Nat)
  | srq (key : Nat)
  | admin (fn : Nat)
  | fill (fn : Nat)
  | payload (ctx id off : Nat)
  | walk (miss : Nat)
  | cas (miss : Nat)
  | context (ctx : Nat)
  | pageList (fn : Nat)
  | flush (ctx : Nat) (num : BitVec 32)
  | groupFlush (id : Nat)
  | atomic (ctx : Nat) (num : BitVec 32) (size : Nat)
  | copy (srq handle off : Nat)
  | coll (tree : Nat) (osn : BitVec 32) (slot off : Nat)
  | descriptor (ch : Nat)
  | piece (ch off : Nat)
  | drain (p : HPort)
  deriving DecidableEq, Repr, Inhabited

/-- A read request, flush read or AtomicOp outstanding on a host port (R62, R74). -/
structure HostRead where
  port : HPort
  for_ : ReadFor
  addr : Nat
  len : Nat
  /-- The function it serves. -/
  fn : Nat
  /-- The key, first virtual address and bytes under which the access is made. R143, R166. -/
  acc : Option (Nat × Nat × Nat)
  /-- Clock of its issue on the path, none while it bids. R74. -/
  at_ : Option Nat
  /-- `2030:01` as it stood at issue. R81. -/
  limitUs : Nat
  deriving DecidableEq, Repr, Inhabited

/-! ## The Exchange -/

/-- One contribution to, or the result of, a segment: element words, INEXACT and OVERFLOW (R299), and poison (R66). -/
structure SegVal where
  elems : List Nat
  inexact : Bool
  overflow : Bool
  poison : Bool
  deriving DecidableEq, Repr, Inhabited

/-- A segment in progress at a node, with its staging (R290, R292): contributions of local slots and of children by
device, and whether its combination has been sent on. -/
structure Seg where
  loc : Tab SegVal
  child : Tab SegVal
  sent : Bool
  deriving DecidableEq, Repr, Inhabited

/-- A local member's entry in an operation: the next segment it reads, input pieces not yet read and read, result pieces to
be written, and what its completion will carry. -/
structure Member where
  slot : Nat
  qpn : Nat
  idx : BitVec 16
  raw : Nat
  next : Nat
  todo : List (Nat × Nat)
  got : List (Nat × Bytes × Bool)
  out : List (Nat × Bytes × Bool)
  written : Nat
  segsDone : Nat
  inexact : Bool
  overflow : Bool
  fail : Option Nat
  finished : Bool
  deriving DecidableEq, Repr, Inhabited

/-- An operation in progress at a node (R289, R291). -/
structure CollOp where
  osn : BitVec 32
  /-- The descriptor all contributions must share, as it stands in bytes 0x30 to 0x3B of a COLL_SEG. R291. -/
  desc : Nat
  mismatch : Bool
  /-- A MALFORMED verdict has come down. R291. -/
  verdict : Bool
  /-- `7020:01` when the operation started. R290, R308. -/
  pipe : Nat
  members : List Member
  segs : Tab Seg
  /-- Down-phase segments that have passed this node. R291. -/
  downSegs : List Nat
  /-- Down-phase segments that wait for segment 0. R291. -/
  early : Tab SegVal
  finished : Bool
  deriving DecidableEq, Repr, Inhabited

/-- An edge of a node (R304): bell counts of the last packet sent and received. -/
structure Edge where
  tx : Nat
  rx : Nat
  deriving DecidableEq, Repr, Inhabited

/-- A tree node (R277 to R283). -/
structure Tree where
  /-- The node record, 512 bytes, as one image. R278. -/
  raw : Nat
  /-- The function that installed it; none for the Ledger. R281. -/
  owner : Option Nat
  broken : Bool
  /-- Next OSN of each local member. R288. -/
  next : List (BitVec 32)
  /-- Oldest incomplete OSN. R289. -/
  oldest : BitVec 32
  ops : List CollOp
  edges : Tab Edge
  deriving DecidableEq, Repr, Inhabited

/-! ## The Arcade, the traffic manager and the link layer -/

/-- A packet in an input buffer (R332): input (64 is the local injection side), virtual channel, pool and cells, the
outputs still to be served (none until its output has been chosen), the clock at which it reached the Arcade, the
bell count at which it last moved, the calls it has lost in a row (R360), and the packet as it came (R355). -/
structure InPkt where
  inp : Nat
  vc : Nat
  pool : Nat
  cells : Nat
  pkt : Packet
  routed : Bool
  outs : List Nat
  clock : Nat
  tick : Nat
  losses : Nat
  orig : Packet
  /-- Outputs on which its lot has been granted and whose last byte has not left. R352, R395. -/
  leaving : List Nat
  /-- The model's own number of the packet. -/
  id : Nat
  /-- Bytes of it that have arrived: it may leave before it has arrived whole. R355, R389. -/
  avail : Nat
  /-- The route-table bank in effect when its header reached the Arcade. R336. -/
  bank : Nat
  deriving DecidableEq, Repr, Inhabited

/-- The price boards kept for one port (R341, R342): the last publisher, whether a board has arrived since the link became
ACTIVE (R329), and per slice the board's image, its BELL and whether it has arrived since the port last became usable. -/
structure Boards where
  device : Nat
  seen : Bool
  slices : Tab (Nat × Nat × Bool)
  deriving DecidableEq, Repr, Inhabited

/-- The egress scheduler and the Auctioneer of one output (R359, R368). -/
structure Sched where
  v : BitVec 64
  s : List (BitVec 64)
  winner : Nat
  deriving DecidableEq, Repr, Inhabited

/-- A token bucket (R370, R371): its level in 1/256 byte, and the refills and rate from which its total is counted. -/
structure Bucket where
  level : Int
  refills : Nat
  rate : Nat
  deriving DecidableEq, Repr, Inhabited

/-- A flit kept for replay (R386, R404): its bytes but for ACK and credits, and whether it was spilled to the Cellar. -/
structure Kept where
  flit : Flit
  spilled : Bool
  /-- It was spilled and cannot be read back whole. R405. -/
  bad : Bool
  /-- Clock of its last transmission. R401. -/
  sentAt : Nat
  deriving DecidableEq, Repr, Inhabited

/-- A packet granted on a link (R363, R387): as it leaves, its credit pool, its number in its input buffer, the bytes of it
that have arrived there, and those that have left. -/
structure Sending where
  pkt : Packet
  pool : Nat
  id : Nat
  avail : Nat
  sent : Nat
  deriving DecidableEq, Repr, Inhabited

/-- A packet being received on a link (R388): its bytes, its credit pool, and its number once its header is whole. -/
structure Receiving where
  data : Bytes
  pool : Nat
  id : Option Nat
  deriving DecidableEq, Repr, Inhabited

/-- The link layer of one logical port, both directions (R384 to R415). -/
structure Link where
  /-- ACTIVE. R411; reset INACTIVE. -/
  active : Bool
  /-- Next SEQ to send, 12 bits. R398, R411; reset 0. -/
  seq : BitVec 12
  /-- Unacknowledged DATA flits, oldest first. R400; reset none. -/
  kept : List Kept
  /-- Flits of the replay in progress, still to be resent. R401; reset none. -/
  replay : List Kept
  /-- Replays started without an advance of the acknowledged sequence. R403; reset 0. -/
  replays : Nat
  /-- The sequence the last replay started from, and its clock. R401; reset none. -/
  replayFrom : Option (BitVec 12 × Nat)
  /-- Next SEQ expected, 12 bits. R399; reset 0. -/
  expected : BitVec 12
  /-- REPLAY_REQ is set in outgoing flits. R399; reset 0. -/
  replayReq : Bool
  /-- Private credit of each virtual channel, in cells. R392; reset 0 until ACTIVE. -/
  priv : List Nat
  /-- Shared credit. R392. -/
  shared : Nat
  /-- Shared cells each virtual channel has in use. R393. -/
  sharedUse : List Nat
  /-- Cells this receiver has free: private of each virtual channel. R395. -/
  rxPriv : List Nat
  /-- Cells this receiver has free: shared. R395. -/
  rxShared : Nat
  /-- Cells freed and not yet returned: index 2v + p. R395. -/
  owed : List Nat
  /-- RET, 32 of 32 bits. R407; reset 0. -/
  ret : List (BitVec 32)
  /-- GOT. R407; reset 0. -/
  got : List (BitVec 32)
  /-- The packet being received. R388. -/
  rx : Option Receiving
  /-- Packets granted and not yet begun on the link. R363, R387. -/
  queue : List Sending
  /-- The packet being sent. R387. -/
  tx : Option Sending
  /-- The next DATA flit carries ABORT. R390. -/
  abort : Bool
  /-- Control flits waiting to be sent: CTYPE and body. R410. -/
  control : List (Nat × Bytes)
  /-- The twelve health counters, u64. R413; reset 0. -/
  health : List (BitVec 64)
  /-- CRC failures in the window, and the bell count at which it began. R414. -/
  crcCount : Nat
  crcFrom : Nat
  deriving DecidableEq, Repr, Inhabited

/-! ## Lanes -/

/-- Training stages of R421. -/
inductive Train where
  | off
  | detect
  | signon
  | exchange
  | rate
  | equalise
  | active
  deriving DecidableEq, Repr, Inhabited

/-- The training state of one logical port (R421 to R443). -/
structure LanePort where
  stage : Train
  /-- Clock at which the stage was entered. R421; reset 0. -/
  since : Nat
  /-- Rate code in use. R418; reset 0. -/
  rate : Nat
  /-- This end leads. R425; reset 0. -/
  leader : Bool
  /-- RATE_GO has been sent or received; the code chosen, and the clock of its first frame. R426. -/
  rateGo : Option Nat
  rateGoAt : Nat
  /-- HOLD of the port status: 1 LOOPBACK, 2 SPLIT_MISMATCH. R443; reset 0. -/
  hold : Nat
  /-- SERIAL of the peer, and its allowed rates and split. R424, R443; reset 0. -/
  peerSerial : Nat
  peerRates : Nat
  /-- LOCKED of the peer's last record. R424; reset 0. -/
  peerLocked : Nat
  /-- Attempts that ended in DETECT, and tries of the current rate. R423, R427; reset 0. -/
  attempts : Nat
  rateTries : Nat
  /-- Lane sets of the two directions, as masks of the group's lanes. R417; reset 0. -/
  txSet : Nat
  rxSet : Nat
  /-- Power states: P1. R439; reset P0. -/
  txP1 : Bool
  rxP1 : Bool
  /-- The order in progress: ORDER_ID and image, repeated until LANE_DONE. R433, R434. -/
  order : Option Nat
  /-- The request in progress, repeated until an order answers it. R433. -/
  request : Option Nat
  /-- Next ORDER_ID. R433; reset 0 (DESIGN CHOICE). -/
  orderId : Nat
  /-- A set switched to when the SWITCH marker comes: direction is receive, and its order. R434. -/
  switching : Option Nat
  /-- Bells since the transmitter last sent a DATA flit. R440. -/
  idle : Nat
  /-- Bells the missing lanes have held the grade, transmit and receive. R437. -/
  goodTx : Nat
  goodRx : Nat
  /-- Reference lane, index within the group. R451; reset 0. -/
  refLane : Nat
  deriving DecidableEq, Repr, Inhabited

/-- One lane (R428 to R442). -/
structure Lane where
  locked : Bool
  /-- Polarity inverted. R422. -/
  inverted : Bool
  /-- Peer's lane index. R442. -/
  peerLane : Nat
  /-- A valid record has arrived, and the peer has acknowledged ours. R424. -/
  gotRecord : Bool
  gotAck : Bool
  /-- Pre-cursor and post-cursor magnitudes of the transmitter. R428. -/
  pre : Nat
  post : Nat
  /-- Figure of merit. R429; reset 0. -/
  fom : Nat
  /-- Steps since the last gain of 2 units. R430. -/
  stale : Nat
  done : Bool
  degraded : Bool
  /-- Bells the FOM has stood below the degrade level. R436. -/
  below : Nat
  /-- Lost symbol lock for a time shorter than `A010:01`. R436. -/
  blink : Bool
  /-- Clock at which symbol lock was lost, while it is lost. R411, R412. -/
  lostAt : Option Nat
  /-- Corrected and uncorrectable codewords. R442. -/
  corrected : BitVec 64
  uncorrectable : BitVec 64
  degrades : BitVec 32
  deriving DecidableEq, Repr, Inhabited

/-! ## Fabric time -/

/-- Time states of R461. -/
inductive TimeState where
  | free
  | acquire
  | locked
  | holdover
  deriving DecidableEq, Repr, Inhabited

/-- What the time unit knows of one port (R449 to R456). -/
structure TimePort where
  /-- SYNC_SEQ of the last sync sent, and the last 64 sent: sequence and TX_TIME with its
  sub-fraction. R450, R453. -/
  sent : BitVec 16
  sentLog : List (Nat × Nat)
  /-- The last sync received: its sequence, departure and arrival. R450. -/
  rxSeq : Option Nat
  rxTx : Nat
  rxAt : Nat
  /-- ECHO_SEQ of the last sample. R453. -/
  echo : Option Nat
  /-- One-way delay and offset, ps. R453; reset 0. -/
  delay : Nat
  theta : Int
  /-- Bell counts of the last sample and of the last sync. R456, R459. -/
  sampleAt : Option Nat
  syncAt : Option Nat
  /-- What the peer advertises: serial, priority, class, distance, state. R450. -/
  rootSerial : Nat
  rootPriority : Nat
  rootClass : Nat
  distance : Nat
  state : Nat
  deriving DecidableEq, Repr, Inhabited

/-- The time unit (R445 to R471). -/
structure TimeUnit where
  /-- Fabric time in units of 2^-48 s, 96 bits: 48-bit seconds, 32-bit fraction, 16-bit sub-fraction. R445 to R447; reset 0. -/
  now : Nat
  /-- Time elapsed on the local time base, in 2^-20 ps. R447; reset 0. -/
  localTime : Int
  /-- Time state. R461; reset FREE. -/
  state : TimeState
  /-- Frequency memory *f* in ps per bell. R459, R460; reset 0 (DESIGN CHOICE). -/
  f : Int
  /-- Correction *c* in ps per bell. R460; reset 0 (DESIGN CHOICE). -/
  c : Int
  /-- Error *e* of the last update in ps. R460, R471; reset 0. -/
  e : Int
  /-- Consecutive bells with |e| within `C030:03`, and above `C030:05`. R461; reset 0. -/
  lockRun : Nat
  unlockRun : Nat
  /-- This device is the root; the root's serial and this device's distance. R456; reset 0. -/
  isRoot : Bool
  rootSerial : Nat
  rootPriority : Nat
  rootClass : Nat
  distance : Nat
  /-- A root has been chosen since reset. R461; reset no. -/
  hadRoot : Bool
  /-- Consecutive updates with an empty upstream set. R461; reset 0. -/
  emptyRun : Nat
  /-- Bound at entry to HOLDOVER in ps, and the bell count of the entry. R462. -/
  boundAt : Nat
  holdoverAt : Nat
  /-- Reference: the last good PPS_IN edge on the local time base, the reference error, and whether it is in use. R458, R459. -/
  lastEdge : Option Nat
  refError : Int
  refInUse : Bool
  /-- The root's class fell for want of its reference. R459; reset no. -/
  refLost : Bool
  /-- Seconds to set at the next PPS_IN edge (`C020:02`). R458; reset none. -/
  refSeconds : Option Nat
  /-- Local time, in 2^-20 ps, of the last good edge or of the last loss of the reference. R459; reset 0. -/
  refFrom : Int
  /-- Ports, by logical port; of an unlisted one nothing is known. R449; reset none. -/
  ports : Tab TimePort
  /-- Level of PPS_OUT, and the clock at which its pulse ends. R470; reset low. -/
  ppsOut : Bool
  ppsEnd : Nat
  deriving DecidableEq, Repr, Inhabited

/-! ## The Porter -/

/-- Channel states of R486. -/
inductive ChState where
  | unbound
  | active
  | pausing
  | draining
  | paused
  | stopped
  deriving DecidableEq, Repr, Inhabited

/-- A Porter channel (R472 to R489). -/
structure Channel where
  state : ChState
  fn : Nat
  base : Nat
  log2 : Nat
  onError : Bool
  pd : Nat
  eq : Option Nat
  slot : Nat
  pi : BitVec 16
  ci : BitVec 16
  /-- Descriptors read ahead: index and image. R479. -/
  ahead : List (BitVec 16 × Nat)
  fetching : Bool
  /-- Stopped at an announced descriptor that read OWN = 0. R477. -/
  ownZero : Bool
  /-- The descriptor in progress. R479. -/
  cur : Option Nat
  /-- Stream offset of the next piece to issue. R486, R489. -/
  off : Nat
  /-- Bytes written at the destination. R475. -/
  done : Nat
  /-- Pieces issued and not finished: stream offset and bytes. R486. -/
  inflight : List (Nat × Nat)
  /-- Pieces whose bytes have arrived and wait for stream order. R481. -/
  arrived : List (Nat × Bytes × Bool)
  /-- Status with which the descriptor in progress ends. R483. -/
  fail : Option Nat
  /-- PI at PORTER_DRAIN. R486. -/
  drainAt : BitVec 16
  /-- The signed bucket of host-port bytes. R484, R485. -/
  bucket : Int
  /-- The function whose PAUSE, DRAIN or ABORT waits, and whether it is ABORT. R486. -/
  waiter : Option (Nat × Bool)
  /-- Waiting on a miss. R157. -/
  missed : Bool
  deriving DecidableEq, Repr, Inhabited

/-! ## Ledger, management bus, firmware -/

/-- A staged write (R31): the bell at which it takes effect, the address and the value, and whether it counts among the 256
rw-bell writes of that bell (R32): of an image only the first does (R502). -/
structure Staged where
  bell : Nat
  addr : Nat
  value : Nat
  counts : Bool
  deriving DecidableEq, Repr, Inhabited

/-- Work of the Clerk queued during a changeover (R523, R524). -/
inductive Queued where
  /-- One access: its path, whether it writes, address and data. -/
  | access (via : Via) (write : Bool) (addr : Nat) (data : Bytes)
  /-- A BLOCK of the management bus: offset and data. R520. -/
  | block (via : Via) (off : Nat) (data : Bytes)
  /-- A management packet, with the port on which it arrived. R516. -/
  | request (port : Nat) (p : Packet)
  /-- The image of an IMAGE_LOAD. R503. -/
  | image (fn : Nat) (d : Option Bytes)
  deriving DecidableEq, Repr, Inhabited

/-- An answered request that the Clerk keeps (R519): LAP or in-band, requester, identifier, bell count of the answer,
and the response (its frames, or its packet). -/
structure Kpt where
  inband : Bool
  requester : Nat
  ident : Nat
  at_ : Nat
  frames : List LapFrame
  packet : Option Packet
  deriving DecidableEq, Repr, Inhabited

/-- Who asked for the load of a firmware image: the Boot Channel of a port, a bulk action, or FIRMWARE_STAGE of a function. -/
inductive Loader where
  | boot (p : HPort)
  | bulk (via : Via)
  | admin (fn : Nat)
  deriving DecidableEq, Repr, Inhabited

/-- An in-band request in the middle (R517, R520): its port and packet, the response records so far and their number, and what acts
after the response. -/
structure PartReq where
  port : Nat
  pkt : Packet
  done : Bytes
  count : Nat
  after : List (Nat × Nat)
  deriving DecidableEq, Repr, Inhabited

/-- A frame that waits to be sent on the management bus: when it was queued, and the response it belongs to. R515. -/
structure LapTx where
  frame : LapFrame
  at_ : Nat
  resp : Nat
  deriving DecidableEq, Repr, Inhabited

/-- The management-bus controller (R508 to R515). -/
structure Lap where
  /-- Bus address sampled from MADDR. R508; reset MADDR[6:0] (operand of RESET_RELEASE). -/
  addr : Nat
  /-- Data-phase rate code. R513; reset 0. -/
  rate : Nat
  /-- A rate change scheduled: its code, and the clock at which it is due. R513; reset none. -/
  pendingRate : Option (Nat × Nat)
  /-- Since the last switch: a frame without error has been received. R513; reset no. -/
  goodSince : Bool
  /-- Clock at which the window of `F800:03` after the last switch ends. R513; reset 0. -/
  windowEnd : Nat
  /-- ISO 11898-1 transmit and receive error counters. R514; reset 0. -/
  txErr : Nat
  rxErr : Nat
  /-- Bus-off, and the clock at which it began. R514; reset no. -/
  off : Bool
  offAt : Nat
  /-- Bit errors in its own frames in a row. R515; reset 0. -/
  ownErrors : Nat
  /-- Frames waiting to be sent, oldest first. R515; reset none. -/
  txq : List LapTx
  /-- Responses made so far. The model's own; reset 0 (DESIGN CHOICE). -/
  resps : Nat
  /-- WRITE requests under assembly: requester, identifier, address, bytes so far, next segment. R511; reset none. -/
  writes : List (Nat × Nat × Nat × Bytes × Nat)
  /-- The seven counts of `F801`: own, foreign, errors, busoff, abandoned, overrun, conflict. R525; reset 0. -/
  counts : List (BitVec 32)
  deriving DecidableEq, Repr, Inhabited

/-- Firmware and the changeover (R521 to R525). -/
structure Clerk where
  /-- Running version, `0030:01` and HIF FW_VERSION. R51, R525; reset 0. -/
  version : Nat
  /-- `0030:02`: 0 NONE, 1 LOADING, 2 READY, 3 FAILED. R525; reset 0. -/
  staged : Nat
  /-- `0030:03`. R525; reset 0. -/
  stagedVersion : Nat
  /-- Bell of the pending switch. R523; reset none. -/
  switchBell : Option Nat
  /-- `0030:05`: 0 none, 1 pending, 2 done, 3 fell back, 4 cancelled. R525; reset 0. -/
  switchResult : Nat
  /-- `0030:06`. R525; reset 0. -/
  switchCount : Nat
  /-- A changeover pauses control work: the bell count at its start. R523; reset none. -/
  pausedAt : Option Nat
  /-- Accesses queued during the pause, oldest first. R523; reset none. -/
  queue : List Queued
  /-- The load of a firmware image in progress. R126, R503, R520; reset none. -/
  loader : Option Loader
  /-- The in-band request that waits for a bulk action. R517, R520; reset none. -/
  part : Option PartReq
  /-- A load waits for package memory to be trained. R531. -/
  pmemReady : Bool
  /-- The agents answer (step 8 of R531). R532; reset no. -/
  agentsReady : Bool
  /-- Management key, `0010:01`. R518; reset 0. -/
  key : Nat
  /-- Answered requests kept, newest first. R519; reset none. -/
  kept : List Kpt
  /-- A bulk action runs. R520; reset no. -/
  bulkBusy : Bool
  /-- Management responses that have arrived for the Clerk. R325. -/
  responses : List Packet
  deriving DecidableEq, Repr, Inhabited

/-! ## Lifecycle, power, faults, counters -/

/-- Lifecycle states of R10. -/
inductive Life where
  | dark
  | sealed
  | setup
  | open_
  | shutter
  | shut
  deriving DecidableEq, Repr, Inhabited

/-- What a device reset waits for (R526): the frames of a response on the management bus, a response packet, or the entries of a
function. -/
inductive ResetWait where
  | lap (resp : Nat)
  | packet (id : Nat)
  | entries (fn : Nat)
  deriving DecidableEq, Repr, Inhabited

/-- Pins and power (R526 to R544, R576 to R585). -/
structure Power where
  /-- PWRFAIL_N is low. R536; reset high. -/
  pwrfailN : Bool
  /-- PWRFAIL_N has counted as low since it fell. R536; reset no. -/
  pwrfail : Bool
  /-- Clock at which PWRFAIL_N fell last, and rose last. R526, R536, R542; reset 0. -/
  fallAt : Nat
  riseAt : Nat
  /-- SHUT_DONE. R542; reset low. -/
  shutDone : Bool
  /-- An order violation is latched. R578; reset no. -/
  violation : Bool
  /-- The power samples of the last 1,024 bells in mW, newest first; their average is `E010:03`. R534; reset none. -/
  samples : List Nat
  /-- Throttle level, `E010:04`. R534; reset 0. -/
  throttle : Nat
  /-- Bell count of the last change of level. R534; reset none. -/
  throttleAt : Option Nat
  /-- Bells the average has stood above the cap at level 12. R535; reset 0. -/
  capRun : Nat
  /-- Thermal hold, `E030:03`. R585; reset 0. -/
  hold : Bool
  /-- Consecutive bells with a sensor at 113 °C or more. R585; reset 0. -/
  hotRun : Nat
  /-- Sensor readings, rail voltages and the highest reading since reset release. R584, R588; reset none yet measured. -/
  tempsMc : List Int
  railsMv : List Nat
  peakMc : Option Int
  /-- `E020:06` and `E020:07`. R544; reset 0. -/
  abandoned : Nat
  glitches : BitVec 32
  /-- An open request is pending, `E000:04`. R527; reset 0. -/
  openPending : Bool
  /-- Final flush reads of the drain have been issued. R541; reset no. -/
  flushed : Bool
  /-- OPEN has been entered, and the rw-setup values have been read. R495; reset no. -/
  entered : Bool
  /-- A device reset that waits until the response to its request has been sent. R526; reset none. -/
  resetAfter : Option ResetWait
  deriving DecidableEq, Repr, Inhabited

/-- A fault source's record (R554) with the bell count of its latest occurrence. -/
structure FaultRec where
  active : Bool
  occurrences : Nat
  first : Nat
  last : Nat
  lastTick : Nat
  detail : Nat
  exits : Nat
  deriving DecidableEq, Repr, Inhabited

/-- The Beadle (R545 to R556). -/
structure Beadle where
  /-- Records by code × 256 + instance. R545, R554; reset none. -/
  sources : Tab FaultRec
  /-- The fault log, at most 1,024 records as images, oldest first. R555; reset empty. -/
  log : List Nat
  /-- `E100:02`. R549; reset 0. -/
  recoveries : BitVec 32
  /-- `E100:06` and `E100:07`. R551; reset 0. -/
  pmemCorrected : BitVec 64
  sramCorrected : BitVec 64
  /-- Corrected errors of the current window by code × 256 + instance. R551; reset none. -/
  window : Tab Nat
  /-- The number of that window (bell / 2^20), and `E100:03` as it stood at its beginning. R551, R556; reset 0, 1,024. -/
  windowNo : Nat
  limit : Nat
  /-- Level of FAULT_N: true is high (released). R548; reset released. -/
  faultN : Bool
  deriving DecidableEq, Repr, Inhabited

/-- The Tally (R557 to R569). -/
structure Tally where
  /-- The 512 counters of 48 bits; an unlisted one is 0. R557; reset 0. -/
  counts : Tab Nat
  /-- The latched set. R562; reset 0. -/
  latched : Tab Nat
  /-- The wrap map: counters that wrapped since the last record. R563; reset none. -/
  wraps : List Nat
  /-- Counters that raised an event in this bell. R563; reset none. -/
  raised : List Nat
  /-- Dump PI and CI, `F011`. R564; reset 0. -/
  pi : BitVec 16
  ci : BitVec 16
  /-- Dumps skipped since the last record. R565, R567; reset 0. -/
  missed : Nat
  /-- A dump that is due: the bell of its latch and the counters latched then. R28, R564; reset none. -/
  due : Option (Nat × Tab Nat)
  /-- Overrun counts and current runs by domain subindex. R568; reset 0. -/
  overruns : Tab Nat
  runs : Tab Nat
  /-- Bell count up to which each domain's overruns have been counted, plus 1. R30; reset none (the model's own). -/
  counted : Tab Nat
  deriving DecidableEq, Repr, Inhabited

/-- A package-memory channel's Auctioneer (R359, R367): the last winner, the losses of each class, the accesses of the last
lot. -/
structure PmemAuction where
  winner : Nat
  losses : List Nat
  lots : Nat
  deriving DecidableEq, Repr, Inhabited

/-! ## The state -/

/-- The state of the block. -/
structure State where
  /-- Commands that wait, first in, first out. The block's queue; reset empty. -/
  pending : List Instr
  /-- Lifecycle state. R10, R526; reset SEALED. -/
  life : Life
  /-- Bell boundaries since reset release, a time step counting as one bell. R466; reset 0. -/
  ticks : Nat
  /-- Place inside the bell of the last stamp, in 2^-32 s. R469; reset 0 (the model's own). -/
  sub : Nat
  /-- The switch of rw-bell values of the coming boundary has been made. R33; reset no (the model's own). -/
  switched : Bool
  /-- Draws of free values made so far. The model's own; reset 0 (DESIGN CHOICE). -/
  free : Nat
  /-- Tags of host reads given so far. The model's own; reset 0 (DESIGN CHOICE). -/
  tags : Nat
  /-- Bell tasks set aside, by domain subindex: the bells for which they were due, with what was measured there, oldest first.
  R27, R28; reset none. -/
  deferred : Tab (List (Nat × BellInputs))
  /-- Ledger parameters, by address, whose value is not the power-up value. R490, R525; reset none. -/
  ledger : Tab Nat
  /-- Staged rw-bell writes in acceptance order. R31, R32; reset none. -/
  staged : List Staged
  /-- Host Port A. R39, R73. -/
  hostA : HostPort
  /-- Host Port B. R39, R73. -/
  hostB : HostPort
  /-- Boot Channels of the two physical functions. R126. -/
  bootA : Boot
  bootB : Boot
  /-- Functions by device function number; an unlisted one is fresh. R43, R73; reset none. -/
  fns : Tab Fn
  /-- Completion queues by function × 65,536 + handle. R82; reset none. -/
  cqs : Tab Cq
  /-- Event queues, likewise. R82; reset none. -/
  eqs : Tab EventQ
  /-- Shared receive queues, likewise. R82; reset none. -/
  srqs : Tab Srq
  /-- Queue pairs by QPN. R83; reset none. -/
  qps : Tab Qp
  /-- Contexts by key: QPN; 2^24 + port × 2^19 + peer × 2 + TC; 2^26 + QPN for
  the group messages of a queue pair; 2^40 + tree × 2^18 + device for a tree edge. R172, R233, R289; reset none. -/
  ctxs : Tab Ctx
  /-- The waiting benches, oldest first: Stall, packet, why it waits. R183; reset empty. -/
  bench : List (Nat × Packet × BenchWait)
  /-- Packets whose writes are being issued, in order of arrival. R187; reset none. -/
  landing : List Landing
  /-- Requests the queue engine holds for a context being spilled or fetched: context and queue pair. R180; reset none. -/
  parked : List (Nat × Nat)
  /-- Group packets at this member whose flush read is outstanding, by a number of the model, with the landing function in
  place of DEST_FUNC. R231; reset none. -/
  groupRx : Tab Packet
  /-- Identities of the group messages last answered: Stall, SRC_DEVICE, SRC_QPN, MSG_NUM, reply; of one Stall the newest
  first, at most 1,024. R232; reset none. -/
  groupSeen : List (Nat × Nat × Nat × Nat × Nat)
  /-- The key table by INDEX. R134; reset none. -/
  keys : Tab Key
  /-- Variants issued for each INDEX. R135; reset none. -/
  variants : Tab (List Nat)
  /-- Keys destroyed whose accesses still run: function that waits and key. R143; reset none. -/
  dying : List (Nat × Nat)
  /-- Both TLB levels. R153; reset empty. -/
  tlb : List Tlb
  /-- Unanswered misses by MISS_ID. R158, R160; reset none. -/
  misses : Tab Miss
  /-- Next MISS_ID of the model. R160; reset 0 (DESIGN CHOICE). -/
  missNum : Nat
  /-- Reads, flush reads and AtomicOps outstanding by tag. R62, R74; reset none. -/
  reads : Tab HostRead
  /-- Units that bid on the path of Host Port A, in order of entry. R365; reset none. -/
  pathA : List HostUnit
  /-- Units that bid on the path of Host Port B. R365; reset none. -/
  pathB : List HostUnit
  /-- Last winner (source code) on each path. R359; reset 0 (DESIGN CHOICE). -/
  wonA : Nat
  wonB : Nat
  /-- Device Store content: bytes that are not zero. R36, R526; reset empty. -/
  store : List Host.Cell
  /-- 64-byte lines of the Device Store marked poisoned. R67; reset none. -/
  storePoison : List Nat
  /-- Bulk buffer: bytes that are not zero. R520; reset empty. -/
  bulk : List Host.Cell
  /-- Next address the scrubber reads. R553; reset 0 (DESIGN CHOICE). -/
  scrub : Nat
  /-- Tree nodes by tree ID. R277; reset none. -/
  trees : Tab Tree
  /-- Packets in the input buffers of the Arcade, in order of arrival. R332; reset none. -/
  inputs : List InPkt
  /-- Next number of a packet there. The model's own; reset 1 (DESIGN CHOICE). -/
  pktNum : Nat
  /-- Packets that left an ejection connection and wait for their receiver. R330; reset none. -/
  arrived : List Packet
  /-- Packets held at the Stalls by injection shapers, oldest first. R372; reset none. -/
  shaped : List Packet
  /-- Multicast Table by group, as 16-byte images; an unlisted entry is zero. R351; reset zeros. -/
  mcast : Tab Nat
  /-- Price boards by logical port. R342; reset none. -/
  boards : Tab Boards
  /-- The port that a tie went to last, by the set of outputs tied over. R343; reset none (DESIGN CHOICE). -/
  rr : Tab Nat
  /-- Egress schedulers by output. R368; reset V = 0, S = 0 (DESIGN CHOICE). -/
  sched : Tab Sched
  /-- Token buckets by shaper or meter. R370, R376; reset none. -/
  buckets : Tab Bucket
  /-- Latched samples by output (0 to 67), host path (68, 69) and watched queue (128 to 191), as images. R380; reset zeros. -/
  samples : Tab Nat
  /-- Samples latched at the last boundary and not yet recorded, numbered likewise. R28, R380; reset none. -/
  latch : Tab Nat
  /-- Package-memory Auctioneers by channel. R367. -/
  pmem : Tab PmemAuction
  /-- Link layers by logical port; an unlisted one is INACTIVE and unused. R411. -/
  links : Tab Link
  /-- Training state by logical port; an unlisted one is OFF. R421. -/
  ports : Tab LanePort
  /-- Lanes; an unlisted one is silent. R416, R442. -/
  lanes : Tab Lane
  /-- The time unit. R445. -/
  time : TimeUnit
  /-- Porter channels; an unlisted one is UNBOUND. R486. -/
  porter : Tab Channel
  /-- The management bus. R508. -/
  lap : Lap
  /-- Firmware and the Clerk. R490, R521. -/
  clerk : Clerk
  /-- Pins and power. R526, R533. -/
  power : Power
  /-- The Beadle. R545. -/
  beadle : Beadle
  /-- The Tally. R557. -/
  tally : Tally
  /-- Level of WAKE_N: true is high (released). R79; reset released. -/
  wakeN : Bool
  /-- What the part has put on its interfaces, oldest first. The model's own record; reset empty. -/
  out : List Output
  deriving DecidableEq, Repr, Inhabited

/-! ## Outcomes -/

/-- Why the machine stops with a fault. -/
inductive Fault where
  /-- Raised by no command: the spec gives every row an effect. Safe (nothing rests on it). -/
  | unreachable
  deriving DecidableEq, Repr

/-- Why a command has no meaning. -/
inductive Refusal where
  /-- Raised by the dispatch for a row that has no meaning yet; the mnemonic names it. Safe. -/
  | notModelled (mnemonic : String)
  deriving DecidableEq, Repr

/-! ## Reset -/

/-- A host port after reset (R73): RESET until PERST is released and the link is up. -/
def HostPort.fresh : HostPort :=
  { state := .reset, perst := false, linkUp := false, link := ⟨0, 0, false, []⟩, cause := 0, frozenAt := 0, hold := 0,
    timeouts := 0, poisons := 0, l1 := false, wake := [], numVfs := 0, held := [], dirty := none }

/-- A mailbox at its power-up values (R505). -/
def Mailbox.fresh : Mailbox := ⟨0, 0, 0, 0, 0, 0, 0, 0, 0, false⟩

/-- A Boot Channel at its power-up values (R126). -/
def Boot.fresh : Boot := ⟨0, 0, 0, 0, 0, 0, 0, none⟩

/-- A fresh function (R73): no queues, D0, vectors masked, registers at their power-up values (R55, R114, R505). -/
def Fn.fresh : Fn :=
  { flr := false, halted := false, d3hot := false, pmeEn := false, pmeStatus := false, msixOn := false, vectors := [],
    pba := [], mailbox := Mailbox.fresh, admSqBase := 0, admCqBase := 0, admOn := false, admCqLog2 := 4, admSqLog2 := 4,
    admPi := 0, admCi := 0, admFetching := false, admCur := none, admStop := false, pds := [], missq := none, owed := [] }

/-- A link that is not ACTIVE (R411), with its counters at 0 (R413). -/
def Link.fresh : Link :=
  { active := false, seq := 0, kept := [], replay := [], replays := 0, replayFrom := none, expected := 0,
    replayReq := false, priv := List.replicate 16 0, shared := 0, sharedUse := List.replicate 16 0,
    rxPriv := List.replicate 16 0, rxShared := 0, owed := List.replicate 32 0, ret := List.replicate 32 0,
    got := List.replicate 32 0, rx := none, queue := [], tx := none, abort := false, control := [],
    health := List.replicate 12 0, crcCount := 0, crcFrom := 0 }

/-- A logical port whose lanes are silent (R421, R443). -/
def LanePort.fresh : LanePort :=
  { stage := .off, since := 0, rate := 0, leader := false, rateGo := none, rateGoAt := 0, hold := 0, peerSerial := 0,
    peerRates := 0, peerLocked := 0, attempts := 0,
    rateTries := 0, txSet := 0, rxSet := 0, txP1 := false, rxP1 := false, order := none,
    request := none, orderId := 0, switching := none, idle := 0, goodTx := 0, goodRx := 0, refLane := 0 }

/-- A silent lane (R442). -/
def Lane.fresh : Lane :=
  { locked := false, inverted := false, peerLane := 0, gotRecord := false, gotAck := false, pre := 0, post := 0, fom := 0,
    stale := 0, done := false, degraded := false, below := 0, blink := false, lostAt := none, corrected := 0, uncorrectable := 0,
    degrades := 0 }

/-- A port of which the time unit knows nothing (R449). -/
def TimePort.fresh : TimePort :=
  { sent := 0, sentLog := [], rxSeq := none, rxTx := 0, rxAt := 0, echo := none, delay := 0, theta := 0, sampleAt := none,
    syncAt := none, rootSerial := 0, rootPriority := 0, rootClass := 0, distance := 0, state := 0 }

/-- The time unit at reset release (R447, R461). -/
def TimeUnit.fresh : TimeUnit :=
  { now := 0, localTime := 0, state := .free, f := 0, c := 0, e := 0, lockRun := 0,
    unlockRun := 0, isRoot := false, rootSerial := 0, rootPriority := 0, rootClass := 0, distance := 0, hadRoot := false,
    emptyRun := 0, boundAt := 0, holdoverAt := 0, lastEdge := none, refError := 0, refInUse := false, refLost := false,
    refSeconds := none, refFrom := 0, ports := [], ppsOut := false, ppsEnd := 0 }

/-- An unbound channel (R486, R489). -/
def Channel.fresh : Channel :=
  { state := .unbound, fn := 0, base := 0, log2 := 4, onError := false, pd := 0, eq := none, slot := 0, pi := 0, ci := 0,
    ahead := [], fetching := false, ownZero := false, cur := none, off := 0, done := 0, inflight := [], arrived := [],
    fail := none, drainAt := 0, bucket := 0, waiter := none, missed := false }

/-- A scheduler before its first packet (R368). -/
def Sched.fresh : Sched :=
  { v := 0, s := List.replicate 4 0, winner := 0 }

/-- The bus controller after reset (R508, R513, R514). -/
def Lap.fresh (addr : Nat) : Lap :=
  { addr := addr, rate := 0, pendingRate := none, goodSince := false, windowEnd := 0, txErr := 0, rxErr := 0, off := false,
    offAt := 0,
    ownErrors := 0, txq := [], resps := 0, writes := [], counts := List.replicate 7 0 }

/-- The Clerk before firmware (R525). -/
def Clerk.fresh : Clerk :=
  { version := 0, staged := 0, stagedVersion := 0, switchBell := none, switchResult := 0, switchCount := 0,
    pausedAt := none, queue := [], loader := none, part := none, pmemReady := false, agentsReady := false, key := 0, kept := [],
    bulkBusy := false, responses := [] }

/-- Power after reset release (R526, R534, R585). -/
def Power.fresh : Power :=
  { pwrfailN := false, pwrfail := false, fallAt := 0, riseAt := 0, shutDone := false, violation := false, samples := [], throttle := 0,
    throttleAt := none, capRun := 0, hold := false, hotRun := 0, tempsMc := [],
    railsMv := [], peakMc := none, abandoned := 0, glitches := 0, openPending := false, flushed := false, entered := false,
    resetAfter := none }

/-- The Beadle after power-up (R548, R554). -/
def Beadle.fresh : Beadle :=
  { sources := [], log := [], recoveries := 0, pmemCorrected := 0, sramCorrected := 0, window := [], windowNo := 0, limit := 1024,
    faultN := true }

/-- The Tally after reset (R557). -/
def Tally.fresh : Tally :=
  { counts := [], latched := [], wraps := [], raised := [], pi := 0, ci := 0, missed := 0, due := none, overruns := [],
    runs := [], counted := [] }

/-- The block right after reset release (R12, R447, R526): SEALED, every parameter at its power-up value. -/
def State.reset : State :=
  { pending := [], life := .sealed, ticks := 0, sub := 0, switched := false, free := 0, tags := 0, deferred := [],
    ledger := [], staged := [], hostA := HostPort.fresh, hostB := HostPort.fresh, bootA := Boot.fresh,
    bootB := Boot.fresh, fns := [], cqs := [], eqs := [], srqs := [], qps := [], ctxs := [], bench := [], landing := [], parked := [],
    groupRx := [], groupSeen := [], keys := [], variants := [], dying := [], tlb := [], misses := [], missNum := 0,
    reads := [], pathA := [], pathB := [], wonA := 0, wonB := 0, store := [], storePoison := [], bulk := [], scrub := 0,
    trees := [], inputs := [], pktNum := 1, arrived := [], shaped := [], mcast := [], boards := [], rr := [], sched := [],
    buckets := [], samples := [], latch := [], pmem := [], links := [], ports := [], lanes := [], time := TimeUnit.fresh,
    porter := [], lap := Lap.fresh 0, clerk := Clerk.fresh, power := Power.fresh, beadle := Beadle.fresh,
    tally := Tally.fresh, wakeN := true, out := [] }

end Sys2Proof.Machine
end

