-- ==== Sys2Proof/Machine/Flags.lean ====
section
/-!
DEFINITION. The codes the part reports: completion status (R129), administrative results (R118), Ledger results (R497),
refusal codes, fault sources (R545) and Tally events (R560), lifecycle codes (R51).
-/
namespace Sys2Proof.Machine

/-- Carried out (R129). -/
abbrev Status.ok : Nat := 0x00
/-- Not carried out (R129). -/
abbrev Status.aborted : Nat := 0x01
/-- Completed without execution (R129). -/
abbrev Status.flushed : Nat := 0x02
/-- Entry or command malformed (R129). -/
abbrev Status.malformed : Nat := 0x03
/-- Local protection-domain check failed (R129). -/
abbrev Status.protFault : Nat := 0x04
/-- Remote key invalid, wrong kind or wrong tenant (R129). -/
abbrev Status.remoteKey : Nat := 0x05
/-- Remote access outside the region or without the right (R129). -/
abbrev Status.remoteBounds : Nat := 0x06
/-- Translation walk failed (R129). -/
abbrev Status.translationFault : Nat := 0x07
/-- Retransmission limit reached (R129). -/
abbrev Status.retryExceeded : Nat := 0x08
/-- Peer device unreachable (R129). -/
abbrev Status.peerGone : Nat := 0x09
/-- Data was poisoned on the path (R129). -/
abbrev Status.poisoned : Nat := 0x0A
/-- Message longer than the receive buffer (R129). -/
abbrev Status.truncated : Nat := 0x0B
/-- Ledger Sum input had bits below the window (R129). -/
abbrev Status.inexact : Nat := 0x0C
/-- Ledger Sum left the window (R129). -/
abbrev Status.overflow : Nat := 0x0D
/-- A host read or a timed operation expired (R129). -/
abbrev Status.timeout : Nat := 0x0E
/-- Cancelled by software (R129). -/
abbrev Status.cancelled : Nat := 0x0F
/-- Refused by a target in SHUTTER (R129). -/
abbrev Status.refusedClosing : Nat := 0x10
/-- Target function reset, frozen or gone (R129). -/
abbrev Status.endpointGone : Nat := 0x11

/-- Administrative result 0 (R118). -/
abbrev Res.done : Nat := 0
/-- Administrative result 1 (R118). -/
abbrev Res.noResource : Nat := 1
/-- Administrative result 2 (R118). -/
abbrev Res.badState : Nat := 2
/-- Administrative result 3 (R118). -/
abbrev Res.notOwned : Nat := 3
/-- Administrative result 4 (R118). -/
abbrev Res.notPermitted : Nat := 4
/-- Ledger result 0 (R497). -/
abbrev Lres.ok : Nat := 0
/-- Ledger result 1 (R497). -/
abbrev Lres.noObject : Nat := 1
/-- Ledger result 2 (R497). -/
abbrev Lres.access : Nat := 2
/-- Ledger result 3 (R497). -/
abbrev Lres.range : Nat := 3
/-- Ledger result 4 (R497). -/
abbrev Lres.length : Nat := 4
/-- Ledger result 5 (R497). -/
abbrev Lres.state : Nat := 5
/-- Ledger result 6 (R497). -/
abbrev Lres.busy : Nat := 6
/-- Ledger result 7 (R497). -/
abbrev Lres.format : Nat := 7
/-- Ledger result 8 (R497). -/
abbrev Lres.signature : Nat := 8
/-- Fault source code 0x01 (R545). -/
abbrev FaultCode.pmemUncorrectable : Nat := 0x01
/-- Fault source code 0x02 (R545). -/
abbrev FaultCode.pmemCorrectableRate : Nat := 0x02
/-- Fault source code 0x03 (R545). -/
abbrev FaultCode.sramUncorrectable : Nat := 0x03
/-- Fault source code 0x04 (R545). -/
abbrev FaultCode.sramCorrectableRate : Nat := 0x04
/-- Fault source code 0x05 (R545). -/
abbrev FaultCode.bellBudget : Nat := 0x05
/-- Fault source code 0x06 (R545). -/
abbrev FaultCode.hostFreeze : Nat := 0x06
/-- Fault source code 0x07 (R545). -/
abbrev FaultCode.e2eIntegrity : Nat := 0x07
/-- Fault source code 0x08 (R545). -/
abbrev FaultCode.routingStall : Nat := 0x08
/-- Fault source code 0x09 (R545). -/
abbrev FaultCode.linkDown : Nat := 0x09
/-- Fault source code 0x0A (R545). -/
abbrev FaultCode.linkDegraded : Nat := 0x0A
/-- Fault source code 0x0B (R545). -/
abbrev FaultCode.cellar : Nat := 0x0B
/-- Fault source code 0x0C (R545). -/
abbrev FaultCode.bringUp : Nat := 0x0C
/-- Fault source code 0x0D (R545). -/
abbrev FaultCode.timeReferenceLost : Nat := 0x0D
/-- Fault source code 0x0E (R545). -/
abbrev FaultCode.timeAhead : Nat := 0x0E
/-- Fault source code 0x0F (R545). -/
abbrev FaultCode.timeStep : Nat := 0x0F
/-- Fault source code 0x10 (R545). -/
abbrev FaultCode.lapBusoff : Nat := 0x10
/-- Fault source code 0x11 (R545). -/
abbrev FaultCode.lapAddressConflict : Nat := 0x11
/-- Fault source code 0x12 (R545). -/
abbrev FaultCode.powerCap : Nat := 0x12
/-- Fault source code 0x13 (R545). -/
abbrev FaultCode.thermal : Nat := 0x13
/-- Fault source code 0x14 (R545). -/
abbrev FaultCode.firmwareFallback : Nat := 0x14
/-- Tally event 0x0001 (R560). -/
abbrev Event.mgmtDiscard : Nat := 0x0001
/-- Tally event 0x2001 (R560). -/
abbrev Event.bytesWritten : Nat := 0x2001
/-- Tally event 0x2002 (R560). -/
abbrev Event.bytesRead : Nat := 0x2002
/-- Tally event 0x2003 (R560). -/
abbrev Event.cplTimeouts : Nat := 0x2003
/-- Tally event 0x3001 (R560). -/
abbrev Event.started : Nat := 0x3001
/-- Tally event 0x3002 (R560). -/
abbrev Event.doorbellDiscard : Nat := 0x3002
/-- Tally event 0x3003 (R560). -/
abbrev Event.prefetchHits : Nat := 0x3003
/-- Tally event 0x4001 (R560). -/
abbrev Event.l1Miss : Nat := 0x4001
/-- Tally event 0x4002 (R560). -/
abbrev Event.l2Miss : Nat := 0x4002
/-- Tally event 0x4003 (R560). -/
abbrev Event.fillDiscard : Nat := 0x4003
/-- Tally event 0x5001 (R560). -/
abbrev Event.pktSent : Nat := 0x5001
/-- Tally event 0x5002 (R560). -/
abbrev Event.retransmit : Nat := 0x5002
/-- Tally event 0x5003 (R560). -/
abbrev Event.benchDiscard : Nat := 0x5003
/-- Tally event 0x5004 (R560). -/
abbrev Event.outOfWindow : Nat := 0x5004
/-- Tally event 0x5005 (R560). -/
abbrev Event.spills : Nat := 0x5005
/-- Tally event 0x5006 (R560). -/
abbrev Event.fetches : Nat := 0x5006
/-- Tally event 0x5008 (R560). -/
abbrev Event.arrivalDiscard : Nat := 0x5008
/-- Tally event 0x5009 (R560). -/
abbrev Event.lateReply : Nat := 0x5009
/-- Tally event 0x500A (R560). -/
abbrev Event.earlyRelease : Nat := 0x500A
/-- Tally event 0x500B (R560). -/
abbrev Event.lateRelease : Nat := 0x500B
/-- Tally event 0x500C (R560). -/
abbrev Event.refusals : Nat := 0x500C
/-- Tally event 0x500D (R560). -/
abbrev Event.noContext : Nat := 0x500D
/-- Tally event 0x6001 (R560). -/
abbrev Event.matches : Nat := 0x6001
/-- Tally event 0x6002 (R560). -/
abbrev Event.unexpected : Nat := 0x6002
/-- Tally event 0x6003 (R560). -/
abbrev Event.staleMsn : Nat := 0x6003
/-- Tally event 0x6004 (R560). -/
abbrev Event.skips : Nat := 0x6004
/-- Tally event 0x6005 (R560). -/
abbrev Event.chainWarn : Nat := 0x6005
/-- Tally event 0x6006 (R560). -/
abbrev Event.srqDiscard : Nat := 0x6006
/-- Tally event 0x7001 (R560). -/
abbrev Event.combined : Nat := 0x7001
/-- Tally event 0x7002 (R560). -/
abbrev Event.oldEpoch : Nat := 0x7002
/-- Tally event 0x8001 (R560). -/
abbrev Event.forwarded : Nat := 0x8001
/-- Tally event 0x8002 (R560). -/
abbrev Event.unroutable : Nat := 0x8002
/-- Tally event 0x8003 (R560). -/
abbrev Event.hopsDiscard : Nat := 0x8003
/-- Tally event 0x8004 (R560). -/
abbrev Event.tc3Stale : Nat := 0x8004
/-- Tally event 0x8005 (R560). -/
abbrev Event.badPort : Nat := 0x8005
/-- Tally event 0x8006 (R560). -/
abbrev Event.mcastDiscard : Nat := 0x8006
/-- Tally event 0x8007 (R560). -/
abbrev Event.ceMarks : Nat := 0x8007
/-- Tally event 0x9001 (R560). -/
abbrev Event.policed : Nat := 0x9001
/-- Tally event 0xC001 (R560). -/
abbrev Event.asymMismatch : Nat := 0xC001
/-- Tally event 0xC002 (R560). -/
abbrev Event.ppsDiscard : Nat := 0xC002
/-- Tally event 0xD001 (R560). -/
abbrev Event.porterBytes : Nat := 0xD001
/-- Tally event 0xE001 (R560). -/
abbrev Event.throttled : Nat := 0xE001

/-- Events that report a level in each cycle, and the issue-slot classes (R560, R561). -/
def Event.occupancy (e : Nat) : Bool :=
  [0x3004, 0x4004, 0x5007, 0x6007, 0x8008, 0x9002].contains e

/-- Events defined by R560 and R561. -/
def Event.defined (e : Nat) : Bool :=
  Event.occupancy e ||
  [0x0001, 0x2001, 0x2002, 0x2003, 0x3001, 0x3002, 0x3003, 0x4001, 0x4002, 0x4003, 0x5001, 0x5002, 0x5003, 0x5004, 0x5005, 0x5006, 0x5008, 0x5009, 0x500A, 0x500B, 0x500C, 0x500D, 0x6001, 0x6002, 0x6003, 0x6004, 0x6005, 0x6006, 0x7001, 0x7002, 0x8001, 0x8002, 0x8003, 0x8004, 0x8005, 0x8006, 0x8007, 0x9001, 0xC001, 0xC002, 0xD001, 0xE001].contains e || (0x50F0 ≤ e && e ≤ 0x50F6)

/-- A configuration word of a counter is acceptable (R558, R561): a defined event, MODE 0 unless it is an occupancy event. -/
def Event.cfgOk (v : Nat) : Bool :=
  Event.defined (v % 65536) && (Event.occupancy (v % 65536) || v / 2 ^ 30 % 4 == 0)

/-- LIFECYCLE codes (R51). DARK has no code, since nothing can be read then (0). -/
def Life.code : Life → Nat
  | .dark => 0 | .sealed => 1 | .setup => 2 | .open_ => 3 | .shutter => 4 | .shut => 5

/-- PORT codes (R51). -/
def PortState.code : PortState → Nat
  | .reset => 0 | .up => 1 | .frozen => 2 | .thawing => 3

/-- Queue-pair state codes (R121). -/
def QpState.code : QpState → Nat
  | .idle => 0 | .ready => 1 | .error => 2 | .flushed => 3

/-- Time-state codes (`C000:01`, R461). -/
def TimeState.code : TimeState → Nat
  | .free => 0 | .acquire => 1 | .locked => 2 | .holdover => 3

/-- Channel-state codes (R489). -/
def ChState.code : ChState → Nat
  | .unbound => 0 | .active => 1 | .pausing => 2 | .draining => 3 | .paused => 4 | .stopped => 5

end Sys2Proof.Machine
end

