-- ==== Sys2Proof/Machine/Operands.lean ====
section
/-!
DEFINITION. The operand fields of entries and commands, cut out of their images by the field maps of 03_queues.md,
04_protection_translation.md, 05_transport.md and 06_operations.md.
-/
namespace Sys2Proof.Machine

/-- LENGTH of an entry: its slots (R89). -/
def Ent.length (r : Nat) : Nat := bits r 0x00 0 5

/-- OPCODE of an entry (R89). -/
def Ent.opcode (r : Nat) : Nat := bits r 0x00 8 8

/-- SIGNAL (R89). -/
def Ent.signal (r : Nat) : Nat := bits r 0x00 16 1

/-- FENCE (R89). -/
def Ent.fence (r : Nat) : Nat := bits r 0x00 17 1

/-- INLINE (R89). -/
def Ent.inline (r : Nat) : Nat := bits r 0x00 18 1

/-- SOLICITED (R89). -/
def Ent.solicited (r : Nat) : Nat := bits r 0x00 19 1

/-- Reserved bits [31:20] of byte 0 (R89). -/
def Ent.flagsRsv (r : Nat) : Nat := bits r 0x00 20 12

/-- Reserved bits [7:5] of byte 0 (R89). -/
def Ent.lenRsv (r : Nat) : Nat := bits r 0x00 5 3

/-- OPCODE_ARG (R89). -/
def Ent.arg (r : Nat) : Nat := bits r 0x04 0 32

/-- WR_ID (R89). -/
def Ent.wrId (r : Nat) : Nat := bits r 0x08 0 64

/-- ATOMIC_OP (R206). -/
def Ent.atomicOp (r : Nat) : Nat := bits r 0x04 0 4

/-- K (R206). -/
def Ent.k (r : Nat) : Nat := bits r 0x04 4 4

/-- AT_TIME (R206). -/
def Ent.atTime (r : Nat) : Nat := bits r 0x04 31 1

/-- LKEY (R206). -/
def Ent.lkey (r : Nat) : Nat := bits r 0x10 0 32

/-- LEN (R206). -/
def Ent.len (r : Nat) : Nat := bits r 0x14 0 32

/-- LADDR (R206). -/
def Ent.laddr (r : Nat) : Nat := bits r 0x18 0 64

/-- RKEY (R206). -/
def Ent.rkey (r : Nat) : Nat := bits r 0x20 0 32

/-- DEST_DEVICE (R206). -/
def Ent.destDev (r : Nat) : Nat := bits r 0x24 0 18

/-- DEST_FUNC (R206). -/
def Ent.destFn (r : Nat) : Nat := bits r 0x24 18 8

/-- RADDR (R206). -/
def Ent.raddr (r : Nat) : Nat := bits r 0x28 0 64

/-- AT_TIME_VALUE (R206). -/
def Ent.atValue (r : Nat) : Nat := bits r 0x30 0 64

/-- DEST_QUEUE (R206). -/
def Ent.destQueue (r : Nat) : Nat := bits r 0x38 0 16

/-- DEADLINE_BELLS (R206). -/
def Ent.deadline (r : Nat) : Nat := bits r 0x3C 0 32

/-- FLAG_KEY (R207). -/
def Ent.flagKey (r : Nat) : Nat := bits r 0x40 0 32

/-- FLAG_ADDR (R207). -/
def Ent.flagAddr (r : Nat) : Nat := bits r 0x48 0 64

/-- FLAG_VALUE (R207). -/
def Ent.flagValue (r : Nat) : Nat := bits r 0x50 0 64

/-- OPERAND (R207). -/
def Ent.operand (r : Nat) : Nat := bits r 0x40 0 64

/-- OPERAND_HI (R207). -/
def Ent.operandHi (r : Nat) : Nat := bits r 0x48 0 64

/-- COMPARE (R207). -/
def Ent.compare (r : Nat) : Nat := bits r 0x50 0 64

/-- COMPARE_HI (R207). -/
def Ent.compareHi (r : Nat) : Nat := bits r 0x58 0 64

/-- RING_BASE of slot 1 (R118). -/
def Cmd.ringBase (r : Nat) : Nat := bits r 0x40 0 64

/-- RING2_BASE (R118). -/
def Cmd.ring2Base (r : Nat) : Nat := bits r 0x48 0 64

/-- LOG2 (R118). -/
def Cmd.log2 (r : Nat) : Nat := bits r 0x50 0 4

/-- LOG2_2 (R118). -/
def Cmd.log2b (r : Nat) : Nat := bits r 0x50 4 4

/-- VECTOR (R118). -/
def Cmd.vector (r : Nat) : Nat := bits r 0x50 8 8

/-- MOD_BELLS (R118). -/
def Cmd.mod (r : Nat) : Nat := bits r 0x50 16 16

/-- BIND (R118). -/
def Cmd.bind (r : Nat) : Nat := bits r 0x54 0 16

/-- BIND2 (R118). -/
def Cmd.bind2 (r : Nat) : Nat := bits r 0x54 16 16

/-- SQ_SLOT (R118). -/
def Cmd.sqSlot (r : Nat) : Nat := bits r 0x58 0 16

/-- RQ_SLOT (R118). -/
def Cmd.rqSlot (r : Nat) : Nat := bits r 0x58 16 16

/-- EVENT_EQ (R118). -/
def Cmd.eventEq (r : Nat) : Nat := bits r 0x5C 0 16

/-- INDEXED (R118). -/
def Cmd.indexed (r : Nat) : Nat := bits r 0x5C 16 1

/-- Reserved bits of slot 1 (R118). -/
def Cmd.ringRsv (r : Nat) : Nat := bits r 0x5C 17 15

/-- Bytes 0x60 to 0x7F of slot 1. -/
def Cmd.tail (r : Nat) : Nat := bits r 0x60 0 256

/-- transport of the transport block in the slot at byte `b` (R201). -/
def Tb.transport (r b : Nat) : Nat := bits r (b + 0x00) 0 2

/-- tc of the transport block in the slot at byte `b` (R201). -/
def Tb.tc (r b : Nat) : Nat := bits r (b + 0x00) 2 2

/-- target of the transport block in the slot at byte `b` (R201). -/
def Tb.target (r b : Nat) : Nat := bits r (b + 0x00) 4 2

/-- unlimited of the transport block in the slot at byte `b` (R201). -/
def Tb.unlimited (r b : Nat) : Nat := bits r (b + 0x00) 6 1

/-- rsv0 of the transport block in the slot at byte `b` (R201). -/
def Tb.rsv0 (r b : Nat) : Nat := bits r (b + 0x00) 7 9

/-- pd of the transport block in the slot at byte `b` (R201). -/
def Tb.pd (r b : Nat) : Nat := bits r (b + 0x00) 16 16

/-- peerDev of the transport block in the slot at byte `b` (R201). -/
def Tb.peerDev (r b : Nat) : Nat := bits r (b + 0x04) 0 18

/-- peerFn of the transport block in the slot at byte `b` (R201). -/
def Tb.peerFn (r b : Nat) : Nat := bits r (b + 0x04) 18 8

/-- rsv4 of the transport block in the slot at byte `b` (R201). -/
def Tb.rsv4 (r b : Nat) : Nat := bits r (b + 0x04) 26 6

/-- peerQpn of the transport block in the slot at byte `b` (R201). -/
def Tb.peerQpn (r b : Nat) : Nat := bits r (b + 0x08) 0 24

/-- rsv8 of the transport block in the slot at byte `b` (R201). -/
def Tb.rsv8 (r b : Nat) : Nat := bits r (b + 0x08) 24 8

/-- sendPsn of the transport block in the slot at byte `b` (R201). -/
def Tb.sendPsn (r b : Nat) : Nat := bits r (b + 0x0C) 0 32

/-- recvPsn of the transport block in the slot at byte `b` (R201). -/
def Tb.recvPsn (r b : Nat) : Nat := bits r (b + 0x10) 0 32

/-- retryLimit of the transport block in the slot at byte `b` (R201). -/
def Tb.retryLimit (r b : Nat) : Nat := bits r (b + 0x14) 0 8

/-- rsv14 of the transport block in the slot at byte `b` (R201). -/
def Tb.rsv14 (r b : Nat) : Nat := bits r (b + 0x14) 8 24

/-- rsv18 of the transport block in the slot at byte `b` (R201). -/
def Tb.rsv18 (r b : Nat) : Nat := bits r (b + 0x18) 0 320

/-- VA (R170). -/
def Prot.va (r : Nat) : Nat := bits r 0x40 0 64

/-- LEN (R170). -/
def Prot.len (r : Nat) : Nat := bits r 0x48 0 64

/-- TABLE (R170). -/
def Prot.table (r : Nat) : Nat := bits r 0x50 0 64

/-- AUX_BASE (R170). -/
def Prot.auxBase (r : Nat) : Nat := bits r 0x58 0 64

/-- LIMIT (R170). -/
def Prot.limit (r : Nat) : Nat := bits r 0x60 0 64

/-- RESULT (R170). -/
def Prot.result (r : Nat) : Nat := bits r 0x68 0 64

/-- PD (R170). -/
def Prot.pd (r : Nat) : Nat := bits r 0x70 0 16

/-- RIGHTS (R170). -/
def Prot.rights (r : Nat) : Nat := bits r 0x70 16 6

/-- HANDLER (R170). -/
def Prot.handler (r : Nat) : Nat := bits r 0x70 22 1

/-- Reserved bit 23 of 0x70 (R170). -/
def Prot.rsv (r : Nat) : Nat := bits r 0x70 23 1

/-- LOG2 (R170). -/
def Prot.log2 (r : Nat) : Nat := bits r 0x70 24 4

/-- LOG2_2 (R170). -/
def Prot.log2b (r : Nat) : Nat := bits r 0x70 28 4

/-- EQ (R170). -/
def Prot.eq (r : Nat) : Nat := bits r 0x74 0 16

/-- Reserved bytes 0x76 to 0x7F (R170). -/
def Prot.tail (r : Nat) : Nat := bits r 0x74 16 80

end Sys2Proof.Machine
end

