-- ==== Sys2Proof/Machine/Entry.lean ====
section
/-!
DEFINITION. Which entries are malformed (R92): the opcodes of each queue kind, the fields each opcode uses, their
encodings and the LENGTH rules (R205 to R209, R245 to R247, R284 to R286).
-/
namespace Sys2Proof.Machine

/-- A field's mask at a place in an entry. -/
def fieldMask (off lo w : Nat) : Nat := place off lo w (2 ^ w - 1)

/-- Every bit of the entry outside a mask is zero. -/
def onlyBits (r mask : Nat) : Bool := Nat.land r mask == r

/-- The header of an entry (R89): LENGTH, OPCODE, the four flags and WR_ID. -/
def maskHeader : Nat := fieldMask 0 0 5 + fieldMask 0 8 12 + fieldMask 8 0 64

/-- LKEY, LEN and LADDR (R206). -/
def maskLocal : Nat := fieldMask 0x10 0 128

/-- DEST_DEVICE and DEST_FUNC (R206). -/
def maskDest : Nat := fieldMask 0x24 0 26

/-- AT_TIME and AT_TIME_VALUE (R206). -/
def maskAtTime : Nat := fieldMask 0x04 31 1 + fieldMask 0x30 0 64

/-- The bits of slots 0 and 1 that a work-entry opcode uses (R206, R207, R246, R285), by transport. -/
def usedBits (op : Nat) (st : Bool) : Nat :=
  let dest := if st then maskDest else 0
  let remote := fieldMask 0x20 0 32 + fieldMask 0x28 0 64
  let base := maskHeader + maskAtTime
  match op with
  | 0x01 => base + maskLocal + dest + (if st then fieldMask 0x38 0 16 else 0)
  | 0x02 => base + maskLocal + dest + remote
  | 0x03 => base + maskLocal + dest + remote + fieldMask 0x40 0 32 + fieldMask 0x48 0 128
  | 0x04 => base + maskLocal + dest + remote
  | 0x05 => base + maskLocal + dest + remote + fieldMask 0x04 0 4 + fieldMask 0x40 0 256
  | 0x06 => base + maskLocal + dest + remote
  | 0x07 => base + maskLocal + fieldMask 0x04 4 4 + fieldMask 0x28 0 64 + fieldMask 0x38 0 16 + fieldMask 0x3C 0 32
  | 0x08 => base + maskLocal + fieldMask 0x28 0 64 + fieldMask 0x38 0 16 + fieldMask 0x3C 0 32
  | 0x10 => base + maskLocal + fieldMask 0x20 0 32 + maskDest + fieldMask 0x28 0 64 + fieldMask 0x38 0 18
  | 0x20 => base + fieldMask 0x24 0 20 + fieldMask 0x38 0 32
  | 0x21 => base + maskLocal + fieldMask 0x04 0 8 + fieldMask 0x04 12 16 + fieldMask 0x20 0 32 + fieldMask 0x24 0 20 +
            fieldMask 0x28 0 64 + fieldMask 0x38 0 64
  | 0x22 => base + maskLocal + fieldMask 0x04 0 8 + fieldMask 0x04 12 16 + fieldMask 0x20 0 32 + fieldMask 0x24 0 20 +
            fieldMask 0x28 0 64 + fieldMask 0x38 0 64
  | 0x23 => base + maskLocal + fieldMask 0x04 0 8 + fieldMask 0x04 12 16 + fieldMask 0x20 0 32 + fieldMask 0x24 0 20 +
            fieldMask 0x28 0 64 + fieldMask 0x38 0 32
  | 0x24 => base + fieldMask 0x04 8 1 + fieldMask 0x20 0 32 + fieldMask 0x24 0 20 + fieldMask 0x28 0 64 +
            fieldMask 0x38 0 32
  | _ => 0

/-- Mandatory slots of a work-entry opcode (R205, R245, R284). -/
def baseSlots (op : Nat) : Nat := if op = 0x03 ∨ op = 0x05 then 2 else 1

/-- The transports on which a work-entry opcode is defined (R205, R245, R284). -/
def sqOpcode (op : Nat) (st : Bool) : Bool :=
  (1 ≤ op && op ≤ 6) || (st && (op == 7 || op == 8 || op == 0x10 || (0x20 ≤ op && op ≤ 0x24)))

/-- TYPE of a collective entry (R285). -/
def Coll.type (r : Nat) : Nat := bits r 4 0 4
/-- OP of a collective entry (R285). -/
def Coll.op (r : Nat) : Nat := bits r 4 4 4
/-- VOTE_VALUE (R285). -/
def Coll.vote (r : Nat) : Nat := bits r 4 8 1
/-- LS_LSB (R285). -/
def Coll.lsb (r : Nat) : Nat := bits r 4 12 16
/-- RES_KEY (R285). -/
def Coll.resKey (r : Nat) : Nat := bits r 0x20 0 32
/-- TREE_ID (R285). -/
def Coll.tree (r : Nat) : Nat := bits r 0x24 0 16
/-- MEMBER (R285). -/
def Coll.member (r : Nat) : Nat := bits r 0x24 16 4
/-- RES_ADDR (R285). -/
def Coll.resAddr (r : Nat) : Nat := bits r 0x28 0 64
/-- OSN (R285). -/
def Coll.osn (r : Nat) : Nat := bits r 0x38 0 32
/-- ROOT_RANK (R285). -/
def Coll.rootRank (r : Nat) : Nat := bits r 0x3C 0 32

/-- Element size of a collective TYPE at the member (R285). -/
def elemBytes (t : Nat) : Nat := match t with | 0 => 4 | 1 => 4 | 4 => 2 | 5 => 4 | _ => 8

/-- TYPE and OP form an allowed pair (R286). -/
def pairAllowed (t op : Nat) : Bool :=
  if t ≤ 3 then op ≤ 5 else if t ≤ 6 then op ≤ 2 else t == 7 && op == 0

/-- TAG (R246). -/
def Tag.tag (r : Nat) : Nat := bits r 0x20 0 32
/-- SRC_RANK (R246, R247). -/
def Tag.rank (r : Nat) : Nat := bits r 0x28 0 32
/-- CONTEXT (R246, R247). -/
def Tag.context (r : Nat) : Nat := bits r 0x2C 0 16
/-- MSN (R246). -/
def Tag.msn (r : Nat) : Nat := bits r 0x2C 16 16
/-- PROTOCOL (R246). -/
def Tag.protocol (r : Nat) : Nat := bits r 0x38 16 2
/-- CQ of a TRECV, TBUF or TCANCEL (R247). -/
def Tag.cq (r : Nat) : Nat := bits r 4 0 16
/-- ANY_SOURCE (R247). -/
def Tag.anySource (r : Nat) : Nat := bits r 4 16 1
/-- TAG_IGNORE (R247). -/
def Tag.ignore (r : Nat) : Nat := bits r 0x24 0 32
/-- ENV_ADDR (R247). -/
def Tag.envAddr (r : Nat) : Nat := bits r 0x30 0 64
/-- CANCEL_WR_ID (R247). -/
def Tag.cancelId (r : Nat) : Nat := bits r 0x10 0 64

/-- The encodings of an opcode's own fields (R206, R207, R222, R236, R245, R246, R260, R285, R286). -/
def fieldsOk (op r : Nat) : Bool :=
  if op = 0x05 then
    let k := Ent.atomicOp r
    let size := if k = 0 ∨ k = 2 then 4 else if k = 5 then 16 else 8
    k ≤ 5 && Ent.raddr r % size == 0 && (k == 5 || (Ent.operandHi r == 0 && Ent.compareHi r == 0)) &&
    (4 ≤ k || Ent.compare r == 0)
  else if op = 0x03 then Ent.flagAddr r % 8 == 0 && Ent.len r ≤ 1073741824
  else if op = 0x07 then Ent.k r != 0 && Ent.len r ≤ 4096
  else if op = 0x08 then Ent.len r ≤ 4096
  else if op = 0x10 then
    Tag.protocol r ≤ 2 && Ent.len r ≤ 1073741824 && !(Tag.protocol r == 1 && 65536 < Ent.len r)
  else if op = 0x20 || op = 0x24 then true
  else if 0x20 < op then
    let t := Coll.type r
    let l := toSigned 16 (Coll.lsb r)
    pairAllowed t (Coll.op r) && Ent.len r ≤ 16777216 && Ent.len r % elemBytes t == 0 && Ent.laddr r % elemBytes t == 0 &&
    (if t = 7 then decide (-1074 ≤ l ∧ l ≤ 800) else Coll.lsb r == 0)
  else Ent.len r ≤ 1073741824

/-- LENGTH and INLINE (R208, R284): what the opcode's mandatory slots and inline payload take. -/
def slotsOk (op r : Nat) : Bool :=
  if Ent.inline r = 1 then
    op != 0x04 && op != 0x05 && op < 0x20 && Ent.lkey r == 0 && Ent.laddr r == 0 &&
    Ent.length r == baseSlots op + ceilDiv (Ent.len r) 64
  else Ent.length r == baseSlots op

/-- The bits of the mandatory slots of an entry. -/
def mandatory (op r : Nat) : Nat := r % 2 ^ (512 * baseSlots op)

/-- A send-queue entry other than PAD is malformed (R92). -/
def sqMalformed (r : Nat) (st : Bool) : Bool :=
  let op := Ent.opcode r
  !(sqOpcode op st && slotsOk op r && onlyBits (mandatory op r) (usedBits op st) && fieldsOk op r)

/-- A PAD entry (R90): only the reserved bits of its header are judged. -/
def isPad (r : Nat) : Bool := Ent.opcode r == 0 && Ent.lenRsv r == 0 && Ent.flagsRsv r == 0

/-- A RECV entry is well formed (R91, R209). -/
def recvOk (r : Nat) : Bool :=
  Ent.opcode r == 0x40 && Ent.length r == 1 && Ent.signal r == 0 && Ent.inline r == 0 &&
  onlyBits r (maskHeader + maskLocal) && Ent.len r ≤ 1073741824

/-- A TRECV, TBUF or TCANCEL entry (R245). -/
def isTagged (r : Nat) : Bool := 0x11 ≤ Ent.opcode r && Ent.opcode r ≤ 0x13

/-- A TRECV, TBUF or TCANCEL entry is well formed (R247). -/
def taggedOk (r : Nat) : Bool :=
  let op := Ent.opcode r
  let head := fieldMask 0 0 5 + fieldMask 0 8 8 + fieldMask 8 0 64 + fieldMask 4 0 16
  Ent.length r == 1 &&
  (if op = 0x11 then
     onlyBits r (head + fieldMask 4 16 1 + maskLocal + fieldMask 0x20 0 112 + fieldMask 0x30 0 64) &&
     Ent.len r ≤ 1073741824 && Tag.envAddr r % 16 == 0
   else if op = 0x12 then
     onlyBits r (head + maskLocal) && 4096 ≤ Ent.len r && Ent.len r ≤ 16777216 && Ent.len r % 64 == 0 &&
     Ent.laddr r % 64 == 0
   else op == 0x13 && onlyBits r (head + fieldMask 0x10 0 64))

/-- LENGTH judged against the ring end (R92, R93). -/
def lengthBad (r ringLeft : Nat) : Bool := Ent.length r == 0 || 16 < Ent.length r || ringLeft < Ent.length r

end Sys2Proof.Machine
end

