-- ==== Sys2Proof/Config.lean ====
section
/-!
DEFINITION. What one part fixes at manufacture, and the free values: constants WITHOUT a body, so that nothing in
Lean can evaluate them. A claim about them holds whatever they are.
-/
namespace Sys2Proof

/-- MAN_SERIAL, the 64-bit device serial number of the identity block (R45). -/
opaque Config.serial : BitVec 64

/-- MAN_DIE_ID of the identity block (R45). -/
opaque Config.dieId : BitVec 64

/-- MAN_STEPPING of the identity block (R45). -/
opaque Config.stepping : BitVec 8

/-- MAN_ROM_VERSION of the mask ROM (R45). -/
opaque Config.romVersion : BitVec 32

/-- MAN_KEY_ID of the mask ROM (R45). -/
opaque Config.keyId : BitVec 32

/-- FREE VALUE. The draws the part makes where the spec gives it a choice or states no value, one for each value of
the counter `State.free` (notes/assumptions/3.md). -/
opaque Config.draw : Nat → BitVec 64

/-- FREE VALUE. The name bytes of a parameter whose row of a Ledger table gives a word for a pattern (R498). -/
opaque Config.nameByte : Nat → Nat → BitVec 8

/-- FREE VALUE. The opaque bytes of a context record, by context and byte offset (R178). -/
opaque Config.opaqueByte : Nat → Nat → BitVec 8

/-- FREE VALUE. The bytes of the directory entry when no parameter stands at or above the address selected (R498). -/
opaque Config.noEntryByte : Nat → BitVec 8

end Sys2Proof
end

