-- ==== Sys2Proof/Machine/Tab.lean ====
section
/-!
DEFINITION. Tables with natural keys, kept in strictly rising key order (`Tab.wf`), so that equal tables are equal data,
and byte memories of that form (`Cells`), in which no listed byte is 0.
-/
namespace Sys2Proof

/-- The value at a key. -/
def Tab.look {α : Type} : Tab α → Nat → Option α
  | [], _ => none
  | (a, x) :: t, k => if a = k then some x else Tab.look t k

/-- A table with a key set. -/
def Tab.put {α : Type} : Tab α → Nat → α → Tab α
  | [], k, v => [(k, v)]
  | (a, x) :: t, k, v =>
    if k < a then (k, v) :: (a, x) :: t else if a = k then (k, v) :: t else (a, x) :: Tab.put t k v

/-- A table with a key removed. -/
def Tab.del {α : Type} : Tab α → Nat → Tab α
  | [], _ => []
  | (a, x) :: t, k => if a = k then t else (a, x) :: Tab.del t k

/-- The value at a key, or a default. -/
def Tab.getD {α : Type} (t : Tab α) (k : Nat) (d : α) : α := (Tab.look t k).getD d

/-- The value at a key changed, where there is one. -/
def Tab.mod {α : Type} (t : Tab α) (k : Nat) (f : α → α) : Tab α :=
  match Tab.look t k with
  | some x => Tab.put t k (f x)
  | none => t

/-- Every value changed. -/
def Tab.map {α β : Type} (t : Tab α) (f : Nat → α → β) : Tab β := List.map (fun e => (e.1, f e.1 e.2)) t

/-- The keys. -/
def Tab.keys {α : Type} (t : Tab α) : List Nat := List.map Prod.fst t

/-- A key is present. -/
def Tab.has {α : Type} (t : Tab α) (k : Nat) : Bool := (Tab.look t k).isSome

/-- The entries that pass a test. -/
def Tab.sub {α : Type} (t : Tab α) (p : Nat → α → Bool) : Tab α := List.filter (fun e => p e.1 e.2) t

/-- A table of numbers in which 0 is not listed: the value at a key. -/
def Tab.num (t : Tab Nat) (k : Nat) : Nat := Tab.getD t k 0

/-- A table of numbers in which 0 is not listed, with a key set. -/
def Tab.setNum (t : Tab Nat) (k v : Nat) : Tab Nat := if v = 0 then Tab.del t k else Tab.put t k v

/-- A table of numbers in which 0 is not listed, with a number added at a key. -/
def Tab.addNum (t : Tab Nat) (k v : Nat) : Tab Nat := Tab.setNum t k (Tab.num t k + v)

/-- The keys rise strictly. -/
def Tab.wf {α : Type} : Tab α → Bool
  | [] => true
  | [_] => true
  | (a, _) :: (b, y) :: t => decide (a < b) && Tab.wf ((b, y) :: t)

/-- Byte memory as cells in strictly rising address order; an unlisted byte is 0. -/
abbrev Cells := List (Nat × Byte)

/-- The byte at an address. -/
def Cells.read : Cells → Nat → Byte
  | [], _ => 0
  | (a, b) :: m, k => if a = k then b else Cells.read m k

/-- Memory with the byte at an address set; writing 0 removes the cell. -/
def Cells.write : Cells → Nat → Byte → Cells
  | [], k, v => if v = 0 then [] else [(k, v)]
  | (a, b) :: m, k, v =>
    if k < a then (if v = 0 then (a, b) :: m else (k, v) :: (a, b) :: m)
    else if a = k then (if v = 0 then m else (k, v) :: m)
    else (a, b) :: Cells.write m k v

/-- Bytes from an address upward. -/
def Cells.readBytes (m : Cells) : Nat → Nat → Bytes
  | _, 0 => []
  | a, n + 1 => Cells.read m a :: Cells.readBytes m (a + 1) n

/-- Memory with bytes written from an address upward. -/
def Cells.writeBytes (m : Cells) : Nat → Bytes → Cells
  | _, [] => m
  | a, b :: bs => Cells.writeBytes (Cells.write m a b) (a + 1) bs

/-- The addresses rise strictly and no listed byte is 0. -/
def Cells.wf : Cells → Bool
  | [] => true
  | [(_, b)] => b != 0
  | (a, b) :: (a', b') :: m => b != 0 && decide (a < a') && Cells.wf ((a', b') :: m)

/-- A free key at or above a place, at most `n` keys on (the place itself when all are taken). -/
def Tab.firstFree {α : Type} (t : Tab α) : Nat → Nat → Nat
  | 0, k => k
  | n + 1, k => if (Tab.look t k).isSome then Tab.firstFree t n (k + 1) else k

end Sys2Proof
end

