-- ==== Sys2Proof/Machine/Params.lean ====
section
/-!
DEFINITION. The parameters of the Ledger (R17, R490 to R495): the rows of the Ledger tables of every chapter, and what
they say of an address: its type, right, effect, power-up value, range and name.
-/
namespace Sys2Proof.Machine

/-- Parameter types (R491). -/
inductive PType where
  | bool | u8 | u16 | u32 | u64 | i64 | ftime
  | text (n : Nat)
  | blob (n : Nat)
  | enum
  deriving DecidableEq, Repr

/-- Access rights (R493). -/
inductive Right where
  | ro | rw | wo | rwSetup | rwBell
  deriving DecidableEq, Repr

/-- Which number a name pattern takes: the subindex, the subindex less 1, the index less the first, both counted
through, or a word that the table does not spell out. -/
inductive NameBy where
  | sub | sub0 | index | both | word
  deriving DecidableEq, Repr

/-- A dotted name or a pattern of one (R498). -/
inductive PName where
  | fixed (s : String)
  | num (pre : String) (by_ : NameBy) (post : String)
  deriving DecidableEq, Repr

/-- A row of a Ledger table: its range of indices and of subindices, type, right, whether it is of the boot set (R494),
effect code (R498), power-up value, least and greatest value, name. -/
structure Param where
  i0 : Nat
  i1 : Nat
  s0 : Nat
  s1 : Nat
  ty : PType
  right : Right
  boot : Bool
  effect : Nat
  pu : Nat
  lo : Int
  hi : Int
  name : PName
  deriving DecidableEq, Repr

/-- Parameters of the domain 0000, part 1. -/
def Param.ledger1 : List Param := [
  ⟨0x0000, 0x0000, 0x01, 0x01, .u16, .ro, true, 0, 1, 1, 1, (.fixed "ledger.format")⟩,
  ⟨0x0000, 0x0000, 0x02, 0x02, .u32, .ro, true, 0, 0, 0, 4294967295, (.fixed "ledger.params")⟩,
  ⟨0x0001, 0x0001, 0x01, 0x01, .u32, .rw, true, 1, 0, 0, 16777215, (.fixed "ledger.dir.select")⟩,
  ⟨0x0001, 0x0001, 0x02, 0x02, (.blob 128), .ro, true, 0, 0, 0, 0, (.fixed "ledger.dir.entry")⟩,
  ⟨0x0010, 0x0010, 0x01, 0x01, .u64, .wo, false, 4, 0, 0, 18446744073709551615, (.fixed "ledger.mgmt.key")⟩,
  ⟨0x0010, 0x0010, 0x02, 0x02, .bool, .rw, false, 1, 1, 0, 1, (.fixed "ledger.mgmt.enable")⟩,
  ⟨0x0010, 0x0010, 0x03, 0x03, .u32, .rw, false, 1, 1048576, 1024, 67108864, (.fixed "ledger.repeat.window_bells")⟩,
  ⟨0x0020, 0x0020, 0x01, 0x01, .u32, .rw, true, 1, 0, 0, 134217728, (.fixed "ledger.bulk.length")⟩,
  ⟨0x0020, 0x0020, 0x02, 0x02, .enum, .wo, true, 1, 0, 1, 3, (.fixed "ledger.bulk.action")⟩,
  ⟨0x0020, 0x0020, 0x03, 0x03, .u32, .ro, true, 0, 134217728, 0, 4294967295, (.fixed "ledger.bulk.size")⟩,
  ⟨0x0030, 0x0030, 0x01, 0x01, .u32, .ro, true, 0, 0, 0, 4294967295, (.fixed "clerk.fw.version")⟩,
  ⟨0x0030, 0x0030, 0x02, 0x02, .enum, .ro, true, 0, 0, 0, 3, (.fixed "clerk.fw.staged")⟩,
  ⟨0x0030, 0x0030, 0x03, 0x03, .u32, .ro, true, 0, 0, 0, 4294967295, (.fixed "clerk.fw.staged_version")⟩,
  ⟨0x0030, 0x0030, 0x04, 0x04, .u64, .wo, false, 4, 0, 0, 18446744073709551615, (.fixed "clerk.switch.bell")⟩,
  ⟨0x0030, 0x0030, 0x05, 0x05, .enum, .ro, false, 0, 0, 0, 4, (.fixed "clerk.switch.result")⟩,
  ⟨0x0030, 0x0030, 0x06, 0x06, .u32, .ro, false, 0, 0, 0, 4294967295, (.fixed "clerk.switch.count")⟩,
  ⟨0x0030, 0x0030, 0x07, 0x07, .enum, .ro, true, 0, 1, 1, 5, (.fixed "clerk.lifecycle")⟩]

/-- Parameters of the domain 1000, part 1. -/
def Param.device1 : List Param := [
  ⟨0x1000, 0x1000, 0x01, 0x01, .u32, .ro, false, 0, 34816, 0, 4294967295, (.fixed "identity.part")⟩,
  ⟨0x1000, 0x1000, 0x02, 0x02, .u64, .ro, false, 0, 0, 0, 18446744073709551615, (.fixed "identity.serial")⟩,
  ⟨0x1000, 0x1000, 0x03, 0x03, .u64, .ro, false, 0, 0, 0, 18446744073709551615, (.fixed "identity.die")⟩,
  ⟨0x1000, 0x1000, 0x04, 0x04, .u8, .ro, false, 0, 0, 0, 255, (.fixed "identity.stepping")⟩,
  ⟨0x1000, 0x1000, 0x05, 0x05, (.text 16), .ro, false, 0, 336508761548158248243540, 0, 0, (.fixed "identity.order_code")⟩,
  ⟨0x1010, 0x1010, 0x01, 0x01, .u32, .rwSetup, false, 3, 0, 0, 262143, (.fixed "device.id")⟩,
  ⟨0x1100, 0x1100, 0x00, 0x00, .u8, .ro, false, 0, 16, 16, 16, (.fixed "device.bell.budget.count")⟩,
  ⟨0x1100, 0x1100, 0x01, 0x01, .u16, .rwSetup, false, 4, 32, 8, 256, (.num "device.bell.budget." .word "")⟩,
  ⟨0x1100, 0x1100, 0x02, 0x02, .u16, .rwSetup, false, 4, 16, 8, 256, (.num "device.bell.budget." .word "")⟩,
  ⟨0x1100, 0x1100, 0x03, 0x03, .u16, .rwSetup, false, 4, 16, 8, 256, (.num "device.bell.budget." .word "")⟩,
  ⟨0x1100, 0x1100, 0x04, 0x04, .u16, .rwSetup, false, 4, 16, 8, 256, (.num "device.bell.budget." .word "")⟩,
  ⟨0x1100, 0x1100, 0x05, 0x05, .u16, .rwSetup, false, 4, 32, 8, 256, (.num "device.bell.budget." .word "")⟩,
  ⟨0x1100, 0x1100, 0x06, 0x06, .u16, .rwSetup, false, 4, 128, 8, 256, (.num "device.bell.budget." .word "")⟩,
  ⟨0x1100, 0x1100, 0x07, 0x07, .u16, .rwSetup, false, 4, 16, 8, 256, (.num "device.bell.budget." .word "")⟩,
  ⟨0x1100, 0x1100, 0x08, 0x08, .u16, .rwSetup, false, 4, 32, 8, 256, (.num "device.bell.budget." .word "")⟩,
  ⟨0x1100, 0x1100, 0x09, 0x09, .u16, .rwSetup, false, 4, 64, 8, 256, (.num "device.bell.budget." .word "")⟩,
  ⟨0x1100, 0x1100, 0x0A, 0x0A, .u16, .rwSetup, false, 4, 128, 8, 256, (.num "device.bell.budget." .word "")⟩,
  ⟨0x1100, 0x1100, 0x0B, 0x0B, .u16, .rwSetup, false, 4, 32, 8, 256, (.num "device.bell.budget." .word "")⟩,
  ⟨0x1100, 0x1100, 0x0C, 0x0C, .u16, .rwSetup, false, 4, 64, 8, 256, (.num "device.bell.budget." .word "")⟩,
  ⟨0x1100, 0x1100, 0x0D, 0x0D, .u16, .rwSetup, false, 4, 64, 8, 256, (.num "device.bell.budget." .word "")⟩,
  ⟨0x1100, 0x1100, 0x0E, 0x0E, .u16, .rwSetup, false, 4, 16, 8, 256, (.num "device.bell.budget." .word "")⟩,
  ⟨0x1100, 0x1100, 0x0F, 0x0F, .u16, .rwSetup, false, 4, 64, 8, 256, (.num "device.bell.budget." .word "")⟩,
  ⟨0x1100, 0x1100, 0x10, 0x10, .u16, .rwSetup, false, 4, 64, 8, 256, (.num "device.bell.budget." .word "")⟩,
  ⟨0x1101, 0x1101, 0x01, 0x01, .u32, .rw, false, 1, 4096, 1, 4294967295, (.fixed "device.bell.overrun.fault_run")⟩]

/-- Parameters of the domain 1000, part 2. -/
def Param.device2 : List Param := [
  ⟨0x1110, 0x1110, 0x01, 0x01, .u8, .rwSetup, false, 3, 2, 1, 8, (.fixed "device.pmem.exchange_gib")⟩,
  ⟨0x1110, 0x1110, 0x02, 0x02, .u8, .rwSetup, false, 3, 0, 0, 29, (.fixed "device.pmem.store_gib")⟩,
  ⟨0x1110, 0x1110, 0x03, 0x03, .enum, .rwSetup, false, 3, 0, 0, 2, (.fixed "device.pmem.store_ports")⟩]

/-- Parameters of the domain 2000, part 1. -/
def Param.host1 : List Param := [
  ⟨0x2030, 0x2030, 0x01, 0x01, .u32, .rw, false, 4, 16000, 100, 1000000, (.fixed "hif.cpl_timeout_us")⟩,
  ⟨0x2030, 0x2030, 0x02, 0x02, .u8, .rw, false, 1, 4, 1, 255, (.fixed "hif.freeze.cto_run")⟩,
  ⟨0x2030, 0x2030, 0x03, 0x03, .u32, .rw, false, 4, 1024, 64, 1048576, (.fixed "hif.freeze.min_hold_bells")⟩,
  ⟨0x2030, 0x2030, 0x04, 0x04, .bool, .rw, false, 1, 0, 0, 1, (.fixed "hif.freeze.auto_thaw")⟩,
  ⟨0x2030, 0x2030, 0x05, 0x05, .u8, .rw, false, 1, 16, 1, 255, (.fixed "hif.freeze.poison_run")⟩,
  ⟨0x2040, 0x2040, 0x01, 0x01, .enum, .rwBell, false, 2, 0, 0, 1, (.fixed "hif.poison.deliver")⟩,
  ⟨0x2050, 0x2050, 0x01, 0x01, .u16, .rw, false, 1, 32, 0, 65535, (.fixed "hif.l1.idle_us")⟩,
  ⟨0x2050, 0x2050, 0x02, 0x02, .enum, .rw, false, 1, 3, 0, 3, (.fixed "hif.wake.ports")⟩,
  ⟨0x2060, 0x2060, 0x01, 0x01, .bool, .wo, false, 4, 0, 1, 1, (.fixed "hif.freeze.request_a")⟩,
  ⟨0x2060, 0x2060, 0x02, 0x02, .bool, .wo, false, 4, 0, 1, 1, (.fixed "hif.freeze.request_b")⟩]

/-- Parameters of the domain 3000, part 1. -/
def Param.queue1 : List Param := [
  ⟨0x3010, 0x3010, 0x01, 0x01, .bool, .rwSetup, false, 3, 0, 0, 1, (.fixed "que.cq.split_write")⟩,
  ⟨0x3020, 0x3020, 0x01, 0x01, .u8, .rwBell, false, 2, 4, 0, 16, (.fixed "que.prefetch.depth")⟩,
  ⟨0x3020, 0x3020, 0x02, 0x02, .u16, .ro, false, 0, 16384, 16384, 16384, (.fixed "que.prefetch.slots")⟩,
  ⟨0x3030, 0x3030, 0x01, 0x01, .u16, .rw, false, 4, 0, 0, 65535, (.fixed "que.eq.min_mod_bells")⟩]

/-- Parameters of the domain 4000, part 1. -/
def Param.protection1 : List Param := [
  ⟨0x4000, 0x4000, 0x01, 0x01, .u32, .ro, false, 0, 1048576, 1048576, 1048576, (.fixed "prot.keys.total")⟩,
  ⟨0x4000, 0x4000, 0x02, 0x02, .u32, .ro, false, 0, 65536, 65536, 65536, (.fixed "prot.pd.total")⟩,
  ⟨0x4010, 0x4010, 0x01, 0x80, .u16, .rwBell, false, 2, 0, 0, 65535, (.num "prot.tenant.a." .sub0 "")⟩,
  ⟨0x4011, 0x4011, 0x01, 0x80, .u16, .rwBell, false, 2, 0, 0, 65535, (.num "prot.tenant.b." .sub0 "")⟩,
  ⟨0x4020, 0x4020, 0x01, 0x01, .u32, .ro, false, 0, 16384, 16384, 16384, (.fixed "tlb.l1.entries")⟩,
  ⟨0x4020, 0x4020, 0x02, 0x02, .u32, .ro, false, 0, 2097152, 2097152, 2097152, (.fixed "tlb.l2.entries")⟩,
  ⟨0x4020, 0x4020, 0x03, 0x03, .u32, .rwSetup, false, 3, 1048576, 0, 2097152, (.fixed "tlb.pinned.max")⟩,
  ⟨0x4030, 0x4030, 0x01, 0x01, .u32, .rwBell, false, 2, 0, 0, 4294967295, (.fixed "tlb.max_age_bells")⟩,
  ⟨0x4030, 0x4030, 0x02, 0x02, .u32, .rw, false, 4, 1024, 16, 1048576, (.fixed "tlb.miss.timeout_bells")⟩,
  ⟨0x4030, 0x4030, 0x03, 0x03, .u8, .rw, false, 4, 4, 1, 16, (.fixed "tlb.walk.cas_retries")⟩]

/-- Parameters of the domain 5000, part 1. -/
def Param.transport1 : List Param := [
  ⟨0x5000, 0x5000, 0x01, 0x01, .u32, .ro, false, 0, 65536, 65536, 65536, (.fixed "transport.shelf.ct")⟩,
  ⟨0x5000, 0x5000, 0x02, 0x02, .u32, .ro, false, 0, 32768, 32768, 32768, (.fixed "transport.shelf.st")⟩,
  ⟨0x5000, 0x5000, 0x03, 0x03, .u16, .ro, false, 0, 256, 256, 256, (.fixed "transport.bench.depth")⟩,
  ⟨0x5010, 0x5010, 0x01, 0x01, .u64, .rwSetup, false, 3, 0, 0, 18446744073709547520, (.fixed "transport.storeroom.a.base")⟩,
  ⟨0x5010, 0x5010, 0x02, 0x02, .u32, .rwSetup, false, 3, 65536, 4096, 8388608, (.fixed "transport.storeroom.a.ct_slots")⟩,
  ⟨0x5011, 0x5011, 0x01, 0x01, .u64, .rwSetup, false, 3, 0, 0, 18446744073709547520, (.fixed "transport.storeroom.b.base")⟩,
  ⟨0x5011, 0x5011, 0x02, 0x02, .u32, .rwSetup, false, 3, 65536, 4096, 8388608, (.fixed "transport.storeroom.b.ct_slots")⟩,
  ⟨0x5020, 0x5020, 0x01, 0x01, .u32, .rw, false, 4, 4000, 1000, 1000000, (.fixed "transport.rto.base_ns")⟩,
  ⟨0x5020, 0x5020, 0x02, 0x02, .u32, .rw, false, 4, 1000000, 4000, 100000000, (.fixed "transport.rto.max_ns")⟩,
  ⟨0x5020, 0x5020, 0x03, 0x03, .u8, .rw, false, 1, 7, 1, 255, (.fixed "transport.retry.limit")⟩,
  ⟨0x5020, 0x5020, 0x04, 0x04, .u8, .rwBell, false, 2, 8, 1, 64, (.fixed "transport.ack.coalesce")⟩,
  ⟨0x5020, 0x5020, 0x05, 0x05, .u8, .rwBell, false, 2, 2, 1, 255, (.fixed "transport.reorder_bells")⟩,
  ⟨0x5030, 0x5030, 0x01, 0x01, .u16, .rw, false, 4, 64, 1, 1024, (.fixed "transport.cc.cwnd_initial")⟩,
  ⟨0x5030, 0x5030, 0x02, 0x02, .u16, .rw, false, 1, 1, 1, 1024, (.fixed "transport.cc.cwnd_min")⟩,
  ⟨0x5030, 0x5030, 0x03, 0x03, .u8, .rw, false, 1, 3, 1, 8, (.fixed "transport.cc.decrease_shift")⟩,
  ⟨0x5040, 0x5040, 0x01, 0x01, .u8, .rw, false, 1, 0, 0, 255, (.fixed "transport.notready.limit")⟩,
  ⟨0x5040, 0x5040, 0x02, 0x02, .u16, .rw, false, 1, 8, 1, 65535, (.fixed "transport.notready.backoff_bells")⟩,
  ⟨0x5050, 0x5050, 0x01, 0x01, .u32, .rw, false, 1, 1024, 16, 1048576, (.fixed "transport.peer_gone_bells")⟩]

/-- Parameters of the domain 6000, part 1. -/
def Param.matching1 : List Param := [
  ⟨0x6000, 0x6000, 0x01, 0x01, .u32, .ro, false, 0, 4194304, 4194304, 4194304, (.fixed "match.store.entries")⟩,
  ⟨0x6000, 0x6000, 0x02, 0x02, .u32, .ro, false, 0, 262144, 262144, 262144, (.fixed "match.index.buckets")⟩,
  ⟨0x6000, 0x6000, 0x03, 0x03, .u8, .ro, false, 0, 4, 4, 4, (.fixed "match.lanes")⟩,
  ⟨0x6010, 0x6010, 0x01, 0x01, .u32, .rwBell, false, 2, 2097152, 0, 4194304, (.fixed "match.unexpected.max")⟩,
  ⟨0x6010, 0x6010, 0x02, 0x02, .u32, .rwBell, false, 2, 262144, 1, 4194304, (.fixed "match.unexpected.per_function")⟩,
  ⟨0x6010, 0x6010, 0x03, 0x03, .u8, .rw, false, 1, 75, 1, 100, (.fixed "match.index.chain_warn")⟩,
  ⟨0x6020, 0x6020, 0x01, 0x01, .u32, .rwBell, false, 2, 8192, 0, 65536, (.fixed "match.eager.threshold")⟩,
  ⟨0x6020, 0x6020, 0x02, 0x02, .u32, .rw, false, 4, 0, 0, 4294967295, (.fixed "match.rndv.cts_wait_bells")⟩,
  ⟨0x6030, 0x6030, 0x01, 0x01, .u32, .rw, false, 1, 4096, 16, 1048576, (.fixed "match.msn.hold_bells")⟩]

/-- Parameters of the domain 7000, part 1. -/
def Param.exchange1 : List Param := [
  ⟨0x7000, 0x7000, 0x01, 0x01, .u16, .ro, false, 0, 4096, 4096, 4096, (.fixed "exchange.nodes.max")⟩,
  ⟨0x7000, 0x7000, 0x02, 0x02, .u8, .ro, false, 0, 64, 64, 64, (.fixed "exchange.fanin.max")⟩,
  ⟨0x7000, 0x7000, 0x03, 0x03, .u8, .ro, false, 0, 4, 4, 4, (.fixed "exchange.osn.window")⟩,
  ⟨0x7020, 0x7020, 0x01, 0x01, .u8, .rwBell, false, 2, 16, 1, 64, (.fixed "exchange.pipeline.segments")⟩,
  ⟨0x7020, 0x7020, 0x02, 0x02, .u16, .rwSetup, false, 3, 64, 8, 1024, (.fixed "exchange.edge.window")⟩,
  ⟨0x7030, 0x7030, 0x01, 0x01, .u16, .rw, false, 1, 64, 4, 65535, (.fixed "exchange.live.heartbeat_bells")⟩,
  ⟨0x7030, 0x7030, 0x02, 0x02, .u32, .rw, false, 1, 1024, 16, 1048576, (.fixed "exchange.live.dead_bells")⟩,
  ⟨0x7100, 0x7100, 0x01, 0x01, (.blob 512), .wo, false, 1, 0, 0, 0, (.fixed "exchange.tree.write")⟩,
  ⟨0x7100, 0x7100, 0x02, 0x02, .u16, .wo, false, 1, 0, 0, 65535, (.fixed "exchange.tree.destroy")⟩,
  ⟨0x7101, 0x7101, 0x01, 0x01, .u16, .ro, false, 0, 0, 0, 4096, (.fixed "exchange.tree.count")⟩]

/-- Parameters of the domain 8000, part 1. -/
def Param.router1 : List Param := [
  ⟨0x8000, 0x8000, 0x01, 0x01, .u8, .ro, false, 0, 64, 64, 64, (.fixed "router.ports")⟩,
  ⟨0x8000, 0x8000, 0x02, 0x02, .u32, .ro, false, 0, 65536, 65536, 65536, (.fixed "router.mcast.entries")⟩,
  ⟨0x8001, 0x8001, 0x01, 0x40, .enum, .rwBell, false, 2, 0, 0, 2, (.num "router.port.class." .sub0 "")⟩,
  ⟨0x8010, 0x8010, 0x01, 0x01, .bool, .rwBell, false, 2, 1, 0, 1, (.fixed "router.nonmin.enable")⟩,
  ⟨0x8010, 0x8010, 0x02, 0x02, .u8, .rwBell, false, 2, 16, 0, 255, (.fixed "router.nonmin.bias")⟩,
  ⟨0x8010, 0x8010, 0x03, 0x03, .u8, .rwBell, false, 2, 32, 16, 255, (.fixed "router.nonmin.factor")⟩,
  ⟨0x8010, 0x8010, 0x04, 0x04, .u8, .rwBell, false, 2, 2, 1, 4, (.fixed "router.nonmin.candidates")⟩,
  ⟨0x8010, 0x8010, 0x05, 0x05, .u16, .rwBell, false, 2, 448, 0, 511, (.fixed "router.detour.threshold")⟩,
  ⟨0x8020, 0x8020, 0x01, 0x01, .u8, .rw, false, 1, 24, 8, 255, (.fixed "router.price.stale_bells")⟩,
  ⟨0x8030, 0x8030, 0x01, 0x01, .enum, .rwBell, false, 2, 0, 0, 1, (.fixed "router.mode.tc0")⟩,
  ⟨0x8030, 0x8030, 0x02, 0x02, .enum, .rwBell, false, 2, 0, 0, 1, (.fixed "router.mode.tc1")⟩,
  ⟨0x8030, 0x8030, 0x03, 0x03, .u16, .rwBell, false, 2, 32, 1, 384, (.fixed "router.ce.threshold_kib")⟩,
  ⟨0x8040, 0x8040, 0x01, 0x01, .u16, .rwSetup, false, 3, 512, 0, 1248, (.fixed "router.vc.shared_cap")⟩,
  ⟨0x8040, 0x8040, 0x02, 0x02, .u16, .rw, false, 1, 100, 10, 65535, (.fixed "router.tc3.stale_us")⟩,
  ⟨0x8040, 0x8040, 0x03, 0x03, .u32, .rw, false, 1, 65536, 1024, 4294967295, (.fixed "router.stall_bells")⟩,
  ⟨0x8100, 0x8103, 0x00, 0xFF, (.blob 16), .rwBell, false, 2, 0, 0, 0, (.num "router.group.b0." .both "")⟩,
  ⟨0x8104, 0x8107, 0x00, 0xFF, (.blob 16), .rwBell, false, 2, 0, 0, 0, (.num "router.group.b1." .both "")⟩,
  ⟨0x8110, 0x8110, 0x00, 0xFF, (.blob 16), .rwBell, false, 2, 0, 0, 0, (.num "router.local.b0." .sub "")⟩,
  ⟨0x8111, 0x8111, 0x00, 0xFF, (.blob 16), .rwBell, false, 2, 0, 0, 0, (.num "router.local.b1." .sub "")⟩,
  ⟨0x8120, 0x8120, 0x01, 0x01, .enum, .rwBell, false, 2, 0, 0, 1, (.fixed "router.table.bank")⟩,
  ⟨0x8200, 0x8200, 0x01, 0x01, (.blob 18), .wo, false, 1, 0, 0, 0, (.fixed "router.mcast.write")⟩,
  ⟨0x8200, 0x8200, 0x02, 0x02, .u16, .rw, false, 1, 0, 0, 65535, (.fixed "router.mcast.select")⟩,
  ⟨0x8200, 0x8200, 0x03, 0x03, (.blob 16), .ro, false, 0, 0, 0, 0, (.fixed "router.mcast.entry")⟩,
  ⟨0x8300, 0x8300, 0x01, 0x40, (.blob 1920), .ro, false, 0, 0, 0, 0, (.num "router.price.seen." .sub0 "")⟩]

/-- Parameters of the domain 9000, part 1. -/
def Param.traffic1 : List Param := [
  ⟨0x9000, 0x9000, 0x01, 0x01, .u8, .rwBell, false, 2, 1, 1, 16, (.fixed "tm.auction.xbar.lot_packets")⟩,
  ⟨0x9000, 0x9000, 0x02, 0x02, .u8, .rwBell, false, 2, 16, 1, 255, (.fixed "tm.auction.xbar.patience")⟩,
  ⟨0x9001, 0x9001, 0x01, 0x01, .u32, .rwBell, false, 2, 4096, 256, 65536, (.fixed "tm.auction.host.lot_bytes")⟩,
  ⟨0x9001, 0x9001, 0x02, 0x02, .u8, .rwBell, false, 2, 16, 1, 255, (.fixed "tm.auction.host.patience")⟩,
  ⟨0x9001, 0x9001, 0x03, 0x03, .u8, .rwBell, false, 2, 6, 0, 7, (.num "tm.auction.host.rank." .word "")⟩,
  ⟨0x9001, 0x9001, 0x04, 0x04, .u8, .rwBell, false, 2, 5, 0, 7, (.num "tm.auction.host.rank." .word "")⟩,
  ⟨0x9001, 0x9001, 0x05, 0x05, .u8, .rwBell, false, 2, 4, 0, 7, (.num "tm.auction.host.rank." .word "")⟩,
  ⟨0x9001, 0x9001, 0x06, 0x06, .u8, .rwBell, false, 2, 4, 0, 7, (.num "tm.auction.host.rank." .word "")⟩,
  ⟨0x9001, 0x9001, 0x07, 0x07, .u8, .rwBell, false, 2, 2, 0, 7, (.num "tm.auction.host.rank." .word "")⟩,
  ⟨0x9001, 0x9001, 0x08, 0x08, .u8, .rwBell, false, 2, 1, 0, 7, (.num "tm.auction.host.rank." .word "")⟩,
  ⟨0x9002, 0x9002, 0x01, 0x01, .u8, .rwBell, false, 2, 16, 1, 64, (.fixed "tm.auction.pmem.lot_accesses")⟩,
  ⟨0x9002, 0x9002, 0x02, 0x02, .u8, .rwBell, false, 2, 32, 1, 255, (.fixed "tm.auction.pmem.patience")⟩,
  ⟨0x9002, 0x9002, 0x03, 0x03, .u8, .rwBell, false, 2, 6, 0, 7, (.num "tm.auction.pmem.rank." .word "")⟩,
  ⟨0x9002, 0x9002, 0x04, 0x04, .u8, .rwBell, false, 2, 5, 0, 7, (.num "tm.auction.pmem.rank." .word "")⟩,
  ⟨0x9002, 0x9002, 0x05, 0x05, .u8, .rwBell, false, 2, 5, 0, 7, (.num "tm.auction.pmem.rank." .word "")⟩,
  ⟨0x9002, 0x9002, 0x06, 0x06, .u8, .rwBell, false, 2, 3, 0, 7, (.num "tm.auction.pmem.rank." .word "")⟩,
  ⟨0x9002, 0x9002, 0x07, 0x07, .u8, .rwBell, false, 2, 3, 0, 7, (.num "tm.auction.pmem.rank." .word "")⟩,
  ⟨0x9002, 0x9002, 0x08, 0x08, .u8, .rwBell, false, 2, 2, 0, 7, (.num "tm.auction.pmem.rank." .word "")⟩,
  ⟨0x9002, 0x9002, 0x09, 0x09, .u8, .rwBell, false, 2, 0, 0, 7, (.num "tm.auction.pmem.rank." .word "")⟩,
  ⟨0x9010, 0x9010, 0x01, 0x01, .u8, .rwBell, false, 2, 1, 1, 255, (.fixed "tm.sched.weight.tc0")⟩,
  ⟨0x9010, 0x9010, 0x02, 0x02, .u8, .rwBell, false, 2, 4, 1, 255, (.fixed "tm.sched.weight.tc1")⟩,
  ⟨0x9010, 0x9010, 0x03, 0x03, .u8, .rwBell, false, 2, 2, 1, 255, (.fixed "tm.sched.weight.tc2")⟩,
  ⟨0x9010, 0x9010, 0x04, 0x04, .u8, .rwBell, false, 2, 1, 1, 255, (.fixed "tm.sched.weight.tc3")⟩,
  ⟨0x9100, 0x913F, 0x01, 0x01, .u32, .rwBell, false, 2, 0, 0, 1000000, (.num "tm.shaper.port." .index ".rate.tc0")⟩]

/-- Parameters of the domain 9000, part 2. -/
def Param.traffic2 : List Param := [
  ⟨0x9100, 0x913F, 0x02, 0x02, .u32, .rwBell, false, 2, 0, 0, 1000000, (.num "tm.shaper.port." .index ".rate.tc1")⟩,
  ⟨0x9100, 0x913F, 0x03, 0x03, .u32, .rwBell, false, 2, 0, 0, 1000000, (.num "tm.shaper.port." .index ".rate.tc2")⟩,
  ⟨0x9100, 0x913F, 0x04, 0x04, .u32, .rwBell, false, 2, 0, 0, 1000000, (.num "tm.shaper.port." .index ".rate.tc3")⟩,
  ⟨0x9100, 0x913F, 0x05, 0x05, .u32, .rwBell, false, 2, 16384, 64, 16777216, (.num "tm.shaper.port." .index ".burst.tc0")⟩,
  ⟨0x9100, 0x913F, 0x06, 0x06, .u32, .rwBell, false, 2, 16384, 64, 16777216, (.num "tm.shaper.port." .index ".burst.tc1")⟩,
  ⟨0x9100, 0x913F, 0x07, 0x07, .u32, .rwBell, false, 2, 16384, 64, 16777216, (.num "tm.shaper.port." .index ".burst.tc2")⟩,
  ⟨0x9100, 0x913F, 0x08, 0x08, .u32, .rwBell, false, 2, 16384, 64, 16777216, (.num "tm.shaper.port." .index ".burst.tc3")⟩,
  ⟨0x9100, 0x913F, 0x09, 0x09, .u32, .rwBell, false, 2, 0, 0, 1000000, (.num "tm.shaper.port." .index ".rate")⟩,
  ⟨0x9100, 0x913F, 0x0A, 0x0A, .u32, .rwBell, false, 2, 16384, 64, 16777216, (.num "tm.shaper.port." .index ".burst")⟩,
  ⟨0x9100, 0x913F, 0x0B, 0x0B, .i64, .rwBell, false, 2, 0, (-64), 255, (.num "tm.port." .index ".overhead")⟩,
  ⟨0x9200, 0x92FF, 0x01, 0x01, .u32, .rwBell, false, 2, 0, 0, 1000000, (.num "tm.inject." .index ".rate.tc0")⟩,
  ⟨0x9200, 0x92FF, 0x02, 0x02, .u32, .rwBell, false, 2, 0, 0, 1000000, (.num "tm.inject." .index ".rate.tc1")⟩,
  ⟨0x9200, 0x92FF, 0x03, 0x03, .u32, .rwBell, false, 2, 16384, 64, 16777216, (.num "tm.inject." .index ".burst.tc0")⟩,
  ⟨0x9200, 0x92FF, 0x04, 0x04, .u32, .rwBell, false, 2, 16384, 64, 16777216, (.num "tm.inject." .index ".burst.tc1")⟩,
  ⟨0x9200, 0x92FF, 0x05, 0x05, .i64, .rwBell, false, 2, 0, (-64), 255, (.num "tm.inject." .index ".overhead")⟩,
  ⟨0x9300, 0x93FF, 0x01, 0x01, .bool, .rwBell, false, 2, 0, 0, 1, (.num "tm.police.fn." .index ".enable")⟩,
  ⟨0x9300, 0x93FF, 0x02, 0x02, .u32, .rwBell, false, 2, 0, 0, 1000000, (.num "tm.police.fn." .index ".cir.tc0")⟩,
  ⟨0x9300, 0x93FF, 0x03, 0x03, .u32, .rwBell, false, 2, 4168, 4168, 16777216, (.num "tm.police.fn." .index ".cbs.tc0")⟩,
  ⟨0x9300, 0x93FF, 0x04, 0x04, .u32, .rwBell, false, 2, 0, 0, 1000000, (.num "tm.police.fn." .index ".pir.tc0")⟩,
  ⟨0x9300, 0x93FF, 0x05, 0x05, .u32, .rwBell, false, 2, 4168, 4168, 16777216, (.num "tm.police.fn." .index ".pbs.tc0")⟩,
  ⟨0x9300, 0x93FF, 0x06, 0x06, .u32, .rwBell, false, 2, 0, 0, 1000000, (.num "tm.police.fn." .index ".cir.tc1")⟩,
  ⟨0x9300, 0x93FF, 0x07, 0x07, .u32, .rwBell, false, 2, 4168, 4168, 16777216, (.num "tm.police.fn." .index ".cbs.tc1")⟩,
  ⟨0x9300, 0x93FF, 0x08, 0x08, .u32, .rwBell, false, 2, 0, 0, 1000000, (.num "tm.police.fn." .index ".pir.tc1")⟩,
  ⟨0x9300, 0x93FF, 0x09, 0x09, .u32, .rwBell, false, 2, 4168, 4168, 16777216, (.num "tm.police.fn." .index ".pbs.tc1")⟩]

/-- Parameters of the domain 9000, part 3. -/
def Param.traffic3 : List Param := [
  ⟨0x9400, 0x9400, 0x01, 0x01, .enum, .rwBell, false, 2, 0, 0, 2, (.fixed "tm.police.port.a.mode")⟩,
  ⟨0x9400, 0x9400, 0x02, 0x02, .u32, .rwBell, false, 2, 0, 0, 1000000, (.fixed "tm.police.port.a.cir.tc0")⟩,
  ⟨0x9400, 0x9400, 0x03, 0x03, .u32, .rwBell, false, 2, 4168, 4168, 16777216, (.fixed "tm.police.port.a.cbs.tc0")⟩,
  ⟨0x9400, 0x9400, 0x04, 0x04, .u32, .rwBell, false, 2, 0, 0, 1000000, (.fixed "tm.police.port.a.pir.tc0")⟩,
  ⟨0x9400, 0x9400, 0x05, 0x05, .u32, .rwBell, false, 2, 4168, 4168, 16777216, (.fixed "tm.police.port.a.pbs.tc0")⟩,
  ⟨0x9400, 0x9400, 0x06, 0x06, .u32, .rwBell, false, 2, 0, 0, 1000000, (.fixed "tm.police.port.a.cir.tc1")⟩,
  ⟨0x9400, 0x9400, 0x07, 0x07, .u32, .rwBell, false, 2, 4168, 4168, 16777216, (.fixed "tm.police.port.a.cbs.tc1")⟩,
  ⟨0x9400, 0x9400, 0x08, 0x08, .u32, .rwBell, false, 2, 0, 0, 1000000, (.fixed "tm.police.port.a.pir.tc1")⟩,
  ⟨0x9400, 0x9400, 0x09, 0x09, .u32, .rwBell, false, 2, 4168, 4168, 16777216, (.fixed "tm.police.port.a.pbs.tc1")⟩,
  ⟨0x9401, 0x9401, 0x01, 0x01, .enum, .rwBell, false, 2, 0, 0, 2, (.fixed "tm.police.port.b.mode")⟩,
  ⟨0x9401, 0x9401, 0x02, 0x02, .u32, .rwBell, false, 2, 0, 0, 1000000, (.fixed "tm.police.port.b.cir.tc0")⟩,
  ⟨0x9401, 0x9401, 0x03, 0x03, .u32, .rwBell, false, 2, 4168, 4168, 16777216, (.fixed "tm.police.port.b.cbs.tc0")⟩,
  ⟨0x9401, 0x9401, 0x04, 0x04, .u32, .rwBell, false, 2, 0, 0, 1000000, (.fixed "tm.police.port.b.pir.tc0")⟩,
  ⟨0x9401, 0x9401, 0x05, 0x05, .u32, .rwBell, false, 2, 4168, 4168, 16777216, (.fixed "tm.police.port.b.pbs.tc0")⟩,
  ⟨0x9401, 0x9401, 0x06, 0x06, .u32, .rwBell, false, 2, 0, 0, 1000000, (.fixed "tm.police.port.b.cir.tc1")⟩,
  ⟨0x9401, 0x9401, 0x07, 0x07, .u32, .rwBell, false, 2, 4168, 4168, 16777216, (.fixed "tm.police.port.b.cbs.tc1")⟩,
  ⟨0x9401, 0x9401, 0x08, 0x08, .u32, .rwBell, false, 2, 0, 0, 1000000, (.fixed "tm.police.port.b.pir.tc1")⟩,
  ⟨0x9401, 0x9401, 0x09, 0x09, .u32, .rwBell, false, 2, 4168, 4168, 16777216, (.fixed "tm.police.port.b.pbs.tc1")⟩,
  ⟨0x9500, 0x9500, 0x01, 0x40, .u32, .rw, false, 1, 0, 0, 4294967295, (.num "tm.watch.select." .sub "")⟩,
  ⟨0x9501, 0x9501, 0x01, 0x40, (.blob 16), .ro, false, 0, 0, 0, 0, (.num "tm.watch.sample." .sub "")⟩,
  ⟨0x9510, 0x9510, 0x01, 0x44, (.blob 40), .ro, false, 0, 0, 0, 0, (.num "tm.sample.output." .sub0 "")⟩,
  ⟨0x9520, 0x9520, 0x01, 0x01, (.blob 16), .ro, false, 0, 0, 0, 0, (.fixed "tm.sample.host.a")⟩,
  ⟨0x9520, 0x9520, 0x02, 0x02, (.blob 16), .ro, false, 0, 0, 0, 0, (.fixed "tm.sample.host.b")⟩]

/-- Parameters of the domain A000, part 1. -/
def Param.link1 : List Param := [
  ⟨0xA000, 0xA000, 0x01, 0x01, .u16, .ro, false, 0, 256, 256, 256, (.fixed "link.flit.bytes")⟩,
  ⟨0xA000, 0xA000, 0x02, 0x02, .u16, .ro, false, 0, 384, 384, 384, (.fixed "link.replay.ondie_flits")⟩,
  ⟨0xA000, 0xA000, 0x03, 0x03, .u16, .ro, false, 0, 2048, 2048, 2048, (.fixed "link.replay.window")⟩,
  ⟨0xA010, 0xA010, 0x01, 0x01, .u32, .rw, false, 1, 2000, 1, 64000, (.fixed "link.down.lock_loss_us")⟩,
  ⟨0xA010, 0xA010, 0x02, 0x02, .u32, .rw, false, 1, 8000, 500, 1000000, (.fixed "link.replay.timeout_ns")⟩,
  ⟨0xA010, 0xA010, 0x03, 0x03, .u8, .rw, false, 1, 8, 1, 255, (.fixed "link.replay.limit")⟩,
  ⟨0xA010, 0xA010, 0x04, 0x04, .bool, .rwSetup, false, 3, 1, 0, 1, (.fixed "link.cellar.enable")⟩,
  ⟨0xA011, 0xA011, 0x01, 0x01, .u32, .rwBell, false, 2, 1024, 64, 1048576, (.fixed "link.credit.resync_bells")⟩,
  ⟨0xA020, 0xA020, 0x01, 0x01, .u32, .rw, false, 1, 1048576, 1024, 4294967295, (.fixed "link.health.window_bells")⟩,
  ⟨0xA020, 0xA020, 0x02, 0x02, .u32, .rw, false, 1, 1000, 1, 4294967295, (.fixed "link.health.crc_limit")⟩,
  ⟨0xA100, 0xA13F, 0x01, 0x0C, .u64, .ro, false, 0, 0, 0, 18446744073709551615, (.num "link.port." .index ".counter")⟩]

/-- Parameters of the domain B000, part 1. -/
def Param.lanes1 : List Param := [
  ⟨0xB000, 0xB000, 0x01, 0x01, .u8, .ro, false, 0, 128, 128, 128, (.fixed "lanes.count")⟩,
  ⟨0xB001, 0xB001, 0x01, 0x20, .bool, .rwSetup, false, 3, 0, 0, 1, (.num "lanes.pg." .sub0 ".split")⟩,
  ⟨0xB002, 0xB002, 0x01, 0x20, .u8, .rwBell, false, 4, 7, 1, 7, (.num "lanes.pg." .sub0 ".rates")⟩,
  ⟨0xB003, 0xB003, 0x01, 0x20, .bool, .rwBell, false, 2, 1, 0, 1, (.num "lanes.pg." .sub0 ".enable")⟩,
  ⟨0xB010, 0xB010, 0x01, 0x01, .u16, .rw, false, 4, 120, 0, 400, (.fixed "lanes.fom.enter.rate1")⟩,
  ⟨0xB010, 0xB010, 0x02, 0x02, .u16, .rw, false, 4, 160, 0, 400, (.fixed "lanes.fom.enter.rate2")⟩,
  ⟨0xB010, 0xB010, 0x03, 0x03, .u16, .rw, false, 4, 180, 0, 400, (.fixed "lanes.fom.enter.rate3")⟩,
  ⟨0xB010, 0xB010, 0x04, 0x04, .u16, .rw, false, 1, 15, 0, 200, (.fixed "lanes.fom.degrade_margin")⟩,
  ⟨0xB010, 0xB010, 0x05, 0x05, .u32, .rw, false, 1, 64, 8, 1048576, (.fixed "lanes.fom.degrade_bells")⟩,
  ⟨0xB011, 0xB011, 0x01, 0x01, .u32, .rw, false, 1, 65536, 1024, 4294967295, (.fixed "lanes.width.restore_bells")⟩,
  ⟨0xB011, 0xB011, 0x02, 0x02, .bool, .rw, false, 1, 1, 0, 1, (.fixed "lanes.spare.enable")⟩,
  ⟨0xB012, 0xB012, 0x01, 0x01, .u8, .rw, false, 4, 5, 0, 7, (.fixed "lanes.eq.initial_preset")⟩,
  ⟨0xB020, 0xB020, 0x01, 0x01, .u32, .rw, false, 1, 50000, 1000, 1000000, (.fixed "lanes.train.stage_us")⟩,
  ⟨0xB020, 0xB020, 0x02, 0x02, .u32, .rw, false, 1, 20000, 1000, 1000000, (.fixed "lanes.train.eq_us")⟩,
  ⟨0xB020, 0xB020, 0x03, 0x03, .u8, .rw, false, 1, 16, 1, 255, (.fixed "lanes.train.fault_attempts")⟩,
  ⟨0xB020, 0xB020, 0x04, 0x04, .u8, .rw, false, 1, 2, 1, 16, (.fixed "lanes.train.rate_attempts")⟩,
  ⟨0xB030, 0xB030, 0x01, 0x01, .bool, .rwBell, false, 2, 0, 0, 1, (.fixed "lanes.power.p1.enable")⟩,
  ⟨0xB030, 0xB030, 0x02, 0x02, .u16, .rwBell, false, 2, 64, 4, 65535, (.fixed "lanes.power.p1.idle_bells")⟩,
  ⟨0xB030, 0xB030, 0x03, 0x03, .u32, .ro, false, 0, 4000, 4000, 4000, (.fixed "lanes.power.p1.wake_ns")⟩,
  ⟨0xB040, 0xB040, 0x01, 0x40, .u32, .ro, false, 0, 0, 0, 4294967295, (.num "lanes.port." .sub0 ".status")⟩,
  ⟨0xB050, 0xB050, 0x01, 0x40, .u64, .ro, false, 0, 0, 0, 18446744073709551615, (.num "lanes.port." .sub0 ".peer_serial")⟩,
  ⟨0xB060, 0xB060, 0x01, 0x40, .bool, .wo, false, 1, 0, 1, 1, (.num "lanes.port." .sub0 ".retrain")⟩,
  ⟨0xB100, 0xB17F, 0x01, 0x01, .u32, .ro, false, 0, 0, 0, 4294967295, (.num "lanes.lane." .index ".status")⟩,
  ⟨0xB100, 0xB17F, 0x02, 0x02, .u32, .ro, false, 0, 0, 0, 4294967295, (.num "lanes.lane." .index ".fir")⟩]

/-- Parameters of the domain B000, part 2. -/
def Param.lanes2 : List Param := [
  ⟨0xB100, 0xB17F, 0x03, 0x03, .u64, .ro, false, 0, 0, 0, 18446744073709551615, (.num "lanes.lane." .index ".corrected")⟩,
  ⟨0xB100, 0xB17F, 0x04, 0x04, .u64, .ro, false, 0, 0, 0, 18446744073709551615, (.num "lanes.lane." .index ".uncorrectable")⟩,
  ⟨0xB100, 0xB17F, 0x05, 0x05, .u32, .ro, false, 0, 0, 0, 4294967295, (.num "lanes.lane." .index ".degrades")⟩]

/-- Parameters of the domain C000, part 1. -/
def Param.time1 : List Param := [
  ⟨0xC000, 0xC000, 0x01, 0x01, .enum, .ro, false, 0, 0, 0, 3, (.fixed "time.state")⟩,
  ⟨0xC000, 0xC000, 0x02, 0x02, .bool, .ro, false, 0, 0, 0, 1, (.fixed "time.root.self")⟩,
  ⟨0xC000, 0xC000, 0x03, 0x03, .u64, .ro, false, 0, 0, 0, 18446744073709551615, (.fixed "time.root.serial")⟩,
  ⟨0xC000, 0xC000, 0x04, 0x04, .u8, .ro, false, 0, 0, 0, 15, (.fixed "time.root.distance")⟩,
  ⟨0xC000, 0xC000, 0x05, 0x05, .i64, .ro, false, 0, 0, (-9223372036854775808), 9223372036854775807, (.fixed "time.offset_ps")⟩,
  ⟨0xC000, 0xC000, 0x06, 0x06, .u32, .ro, false, 0, 4294967295, 0, 4294967295, (.fixed "time.bound_ps")⟩,
  ⟨0xC000, 0xC000, 0x07, 0x07, .ftime, .ro, false, 0, 0, 0, 0, (.fixed "time.now")⟩,
  ⟨0xC010, 0xC010, 0x01, 0x01, .u8, .rwBell, false, 2, 128, 0, 255, (.fixed "time.root.priority")⟩,
  ⟨0xC020, 0xC020, 0x01, 0x01, .enum, .rwBell, false, 2, 0, 0, 2, (.fixed "time.ref.mode")⟩,
  ⟨0xC020, 0xC020, 0x02, 0x02, .u64, .wo, false, 4, 0, 0, 281474976710655, (.fixed "time.ref.seconds")⟩,
  ⟨0xC020, 0xC020, 0x03, 0x03, .i64, .rw, false, 1, 0, (-1000000), 1000000, (.fixed "time.ref.pps_delay_ps")⟩,
  ⟨0xC030, 0xC030, 0x01, 0x01, .u32, .rw, false, 1, 1000, 10, 1000000000, (.fixed "time.servo.step_ns")⟩,
  ⟨0xC030, 0xC030, 0x02, 0x02, .u16, .rw, false, 1, 100, 60, 500, (.fixed "time.servo.slew_ppm")⟩,
  ⟨0xC030, 0xC030, 0x03, 0x03, .u32, .rw, false, 1, 100, 20, 100000, (.fixed "time.servo.lock_ps")⟩,
  ⟨0xC030, 0xC030, 0x04, 0x04, .u32, .rw, false, 1, 1024, 16, 1048576, (.fixed "time.servo.lock_bells")⟩,
  ⟨0xC030, 0xC030, 0x05, 0x05, .u32, .rw, false, 1, 500, 50, 1000000, (.fixed "time.servo.unlock_ps")⟩,
  ⟨0xC030, 0xC030, 0x06, 0x06, .u16, .rw, false, 1, 64, 8, 65535, (.fixed "time.servo.silent_bells")⟩,
  ⟨0xC030, 0xC030, 0x07, 0x07, .bool, .rw, false, 1, 1, 0, 1, (.fixed "time.step.open_forward")⟩,
  ⟨0xC030, 0xC030, 0x08, 0x08, .u32, .rw, false, 1, 100, 0, 100000, (.fixed "time.holdover.drift_ppb")⟩,
  ⟨0xC040, 0xC040, 0x01, 0x40, .i64, .rwBell, false, 2, 0, (-1000000), 1000000, (.num "time.port." .sub0 ".asym_ps")⟩,
  ⟨0xC050, 0xC050, 0x01, 0x40, .u32, .ro, false, 0, 0, 0, 4294967295, (.num "time.port." .sub0 ".delay_ps")⟩,
  ⟨0xC051, 0xC051, 0x01, 0x40, .i64, .ro, false, 0, 0, (-9223372036854775808), 9223372036854775807, (.num "time.port." .sub0 ".offset_ps")⟩,
  ⟨0xC052, 0xC052, 0x01, 0x40, .u8, .ro, false, 0, 0, 0, 3, (.num "time.port." .sub0 ".ref_lane")⟩,
  ⟨0xC060, 0xC060, 0x01, 0x01, .enum, .rw, false, 4, 0, 0, 2, (.fixed "time.pps_out.mode")⟩]

/-- Parameters of the domain C000, part 2. -/
def Param.time2 : List Param := [
  ⟨0xC060, 0xC060, 0x02, 0x02, .u32, .rw, false, 4, 100000, 1, 500000, (.fixed "time.pps_out.width_us")⟩,
  ⟨0xC060, 0xC060, 0x03, 0x03, .i64, .rw, false, 4, 0, (-1000000), 1000000, (.fixed "time.pps_out.delay_ps")⟩]

/-- Parameters of the domain D000, part 1. -/
def Param.porter1 : List Param := [
  ⟨0xD000, 0xD000, 0x01, 0x01, .u8, .ro, false, 0, 16, 16, 16, (.fixed "porter.channels")⟩,
  ⟨0xD000, 0xD000, 0x02, 0x02, .u32, .ro, false, 0, 0, 0, 4294967295, (.fixed "porter.port.a.bytes_per_bell")⟩,
  ⟨0xD000, 0xD000, 0x03, 0x03, .u32, .ro, false, 0, 0, 0, 4294967295, (.fixed "porter.port.b.bytes_per_bell")⟩,
  ⟨0xD010, 0xD010, 0x01, 0x01, .u8, .rwBell, false, 2, 4, 0, 16, (.fixed "porter.prefetch")⟩,
  ⟨0xD010, 0xD010, 0x02, 0x02, .u32, .rwSetup, false, 3, 65536, 4096, 1048576, (.fixed "porter.read_window")⟩,
  ⟨0xD100, 0xD100, 0x01, 0x10, .u16, .rwBell, false, 2, 256, 1, 256, (.num "porter.channel." .sub0 ".share")⟩,
  ⟨0xD101, 0xD101, 0x01, 0x10, .u64, .ro, false, 0, 0, 0, 18446744073709551615, (.num "porter.channel." .sub0 ".status")⟩]

/-- Parameters of the domain E000, part 1. -/
def Param.lifecycle1 : List Param := [
  ⟨0xE000, 0xE000, 0x01, 0x01, .bool, .wo, false, 4, 0, 1, 1, (.fixed "life.request_open")⟩,
  ⟨0xE000, 0xE000, 0x02, 0x02, .bool, .rw, false, 1, 1, 0, 1, (.fixed "life.open.wait_lock")⟩,
  ⟨0xE000, 0xE000, 0x03, 0x03, .bool, .wo, true, 4, 0, 1, 1, (.fixed "life.reset")⟩,
  ⟨0xE000, 0xE000, 0x04, 0x04, .bool, .ro, false, 0, 0, 0, 1, (.fixed "life.open.pending")⟩,
  ⟨0xE010, 0xE010, 0x01, 0x01, .u16, .rw, false, 2, 0, 0, 400, (.fixed "power.cap_w")⟩,
  ⟨0xE010, 0xE010, 0x02, 0x02, .u16, .rw, false, 1, 10, 1, 100, (.fixed "power.cap.hysteresis_w")⟩,
  ⟨0xE010, 0xE010, 0x03, 0x03, .u32, .ro, false, 0, 0, 0, 4294967295, (.fixed "power.avg_mw")⟩,
  ⟨0xE010, 0xE010, 0x04, 0x04, .u8, .ro, false, 0, 0, 0, 12, (.fixed "power.throttle_level")⟩,
  ⟨0xE020, 0xE020, 0x01, 0x01, .u32, .rwSetup, false, 3, 16777216, 65536, 268435456, (.fixed "shutter.init_bytes")⟩,
  ⟨0xE020, 0xE020, 0x02, 0x02, .u32, .rwSetup, false, 3, 16777216, 65536, 268435456, (.fixed "shutter.target_bytes")⟩,
  ⟨0xE020, 0xE020, 0x03, 0x03, .u16, .rwSetup, false, 3, 480, 50, 480, (.fixed "shutter.limit_us")⟩,
  ⟨0xE020, 0xE020, 0x04, 0x04, .bool, .rw, false, 1, 1, 0, 1, (.fixed "shutter.auto_restart")⟩,
  ⟨0xE020, 0xE020, 0x05, 0x05, .u16, .rw, false, 1, 100, 1, 10000, (.fixed "shutter.restart_ms")⟩,
  ⟨0xE020, 0xE020, 0x06, 0x06, .u32, .ro, false, 0, 0, 0, 4294967295, (.fixed "shutter.abandoned")⟩,
  ⟨0xE020, 0xE020, 0x07, 0x07, .u32, .ro, false, 0, 0, 0, 4294967295, (.fixed "shutter.glitches")⟩,
  ⟨0xE030, 0xE030, 0x01, 0x01, .i64, .ro, false, 0, 0, (-40000), 125000, (.fixed "power.temp.junction_mc")⟩,
  ⟨0xE030, 0xE030, 0x02, 0x02, .i64, .ro, false, 0, 0, (-40000), 125000, (.fixed "power.temp.peak_mc")⟩,
  ⟨0xE030, 0xE030, 0x03, 0x03, .bool, .ro, false, 0, 0, 0, 1, (.fixed "power.thermal.hold")⟩,
  ⟨0xE031, 0xE031, 0x01, 0x08, .u32, .ro, false, 0, 0, 0, 4000, (.num "power.rail." .sub ".mv")⟩,
  ⟨0xE100, 0xE100, 0x01, 0x01, .u32, .rw, false, 4, 1048576, 1024, 4294967295, (.fixed "beadle.quiet_bells")⟩,
  ⟨0xE100, 0xE100, 0x02, 0x02, .u32, .ro, false, 0, 0, 0, 4294967295, (.fixed "beadle.recoveries")⟩,
  ⟨0xE100, 0xE100, 0x03, 0x03, .u32, .rw, false, 4, 1024, 1, 4294967295, (.fixed "beadle.ecc.corrected_limit")⟩,
  ⟨0xE100, 0xE100, 0x04, 0x04, .u8, .rw, false, 1, 110, 80, 115, (.fixed "beadle.thermal_limit_c")⟩,
  ⟨0xE100, 0xE100, 0x05, 0x05, .u16, .ro, false, 0, 0, 0, 8192, (.fixed "beadle.active.count")⟩]

/-- Parameters of the domain E000, part 2. -/
def Param.lifecycle2 : List Param := [
  ⟨0xE100, 0xE100, 0x06, 0x06, .u64, .ro, false, 0, 0, 0, 18446744073709551615, (.fixed "beadle.pmem.corrected")⟩,
  ⟨0xE100, 0xE100, 0x07, 0x07, .u64, .ro, false, 0, 0, 0, 18446744073709551615, (.fixed "beadle.sram.corrected")⟩,
  ⟨0xE101, 0xE101, 0x01, 0x01, (.blob 1024), .ro, false, 0, 0, 0, 0, (.fixed "beadle.active.map")⟩,
  ⟨0xE102, 0xE102, 0x01, 0x01, .u16, .rw, false, 1, 0, 0, 65535, (.fixed "beadle.select")⟩,
  ⟨0xE102, 0xE102, 0x02, 0x02, (.blob 32), .ro, false, 0, 0, 0, 0, (.fixed "beadle.record")⟩,
  ⟨0xE102, 0xE102, 0x03, 0x03, .u16, .wo, false, 1, 0, 0, 65535, (.fixed "beadle.clear")⟩]

/-- Parameters of the domain F000, part 1. -/
def Param.tally1 : List Param := [
  ⟨0xF000, 0xF000, 0x01, 0x01, .u16, .ro, false, 0, 512, 512, 512, (.fixed "tally.counters")⟩,
  ⟨0xF010, 0xF010, 0x01, 0x01, .u64, .rw, false, 4, 0, 0, 18446744073709547520, (.fixed "tally.dump.base")⟩,
  ⟨0xF010, 0xF010, 0x02, 0x02, .u8, .rw, false, 4, 4, 2, 12, (.fixed "tally.dump.log2")⟩,
  ⟨0xF010, 0xF010, 0x03, 0x03, .u32, .rwBell, false, 2, 1024, 16, 1048576, (.fixed "tally.dump.period_bells")⟩,
  ⟨0xF010, 0xF010, 0x04, 0x04, .u8, .rw, false, 4, 0, 0, 255, (.fixed "tally.dump.function")⟩,
  ⟨0xF010, 0xF010, 0x05, 0x05, .u16, .rw, false, 1, 65535, 0, 65535, (.fixed "tally.overflow.eq")⟩,
  ⟨0xF010, 0xF010, 0x06, 0x06, .bool, .rw, false, 4, 0, 0, 1, (.fixed "tally.dump.enable")⟩,
  ⟨0xF011, 0xF011, 0x01, 0x01, .u16, .rw, false, 1, 0, 0, 65535, (.fixed "tally.dump.ci")⟩,
  ⟨0xF011, 0xF011, 0x02, 0x02, .u16, .ro, false, 0, 0, 0, 65535, (.fixed "tally.dump.pi")⟩,
  ⟨0xF020, 0xF020, 0x01, 0x10, .u64, .ro, false, 0, 0, 0, 18446744073709551615, (.num "tally.overrun." .word "")⟩,
  ⟨0xF021, 0xF021, 0x01, 0x10, .u32, .ro, false, 0, 0, 0, 4294967295, (.num "tally.overrun.run." .word "")⟩,
  ⟨0xF100, 0xF101, 0x00, 0xFF, .u64, .rwBell, false, 2, 0, 0, 18446744073709551615, (.num "tally.cfg." .both "")⟩,
  ⟨0xF200, 0xF201, 0x00, 0xFF, .u64, .rw, false, 1, 0, 0, 281474976710655, (.num "tally.count." .both "")⟩,
  ⟨0xF300, 0xF301, 0x00, 0xFF, .u64, .ro, false, 0, 0, 0, 18446744073709551615, (.num "tally.latched." .both "")⟩,
  ⟨0xF800, 0xF800, 0x01, 0x01, .u16, .rw, true, 4, 1024, 0, 1536, (.fixed "lap.id_base")⟩,
  ⟨0xF800, 0xF800, 0x02, 0x02, .enum, .ro, true, 0, 0, 0, 3, (.fixed "lap.rate")⟩,
  ⟨0xF800, 0xF800, 0x03, 0x03, .u16, .rw, true, 4, 500, 10, 10000, (.fixed "lap.rate.fallback_ms")⟩,
  ⟨0xF800, 0xF800, 0x04, 0x04, .u16, .rw, true, 1, 100, 0, 10000, (.fixed "lap.busoff.hold_ms")⟩,
  ⟨0xF800, 0xF800, 0x05, 0x05, .u16, .rw, true, 1, 50, 5, 10000, (.fixed "lap.tx.abandon_ms")⟩,
  ⟨0xF800, 0xF800, 0x06, 0x06, .u8, .ro, true, 0, 0, 0, 127, (.fixed "lap.address")⟩,
  ⟨0xF801, 0xF801, 0x01, 0x01, .u32, .ro, true, 0, 0, 0, 4294967295, (.fixed "lap.count.own")⟩,
  ⟨0xF801, 0xF801, 0x02, 0x02, .u32, .ro, true, 0, 0, 0, 4294967295, (.fixed "lap.count.foreign")⟩,
  ⟨0xF801, 0xF801, 0x03, 0x03, .u32, .ro, true, 0, 0, 0, 4294967295, (.fixed "lap.count.errors")⟩,
  ⟨0xF801, 0xF801, 0x04, 0x04, .u32, .ro, true, 0, 0, 0, 4294967295, (.fixed "lap.count.busoff")⟩]

/-- Parameters of the domain F000, part 2. -/
def Param.tally2 : List Param := [
  ⟨0xF801, 0xF801, 0x05, 0x05, .u32, .ro, true, 0, 0, 0, 4294967295, (.fixed "lap.count.abandoned")⟩,
  ⟨0xF801, 0xF801, 0x06, 0x06, .u32, .ro, true, 0, 0, 0, 4294967295, (.fixed "lap.count.overrun")⟩,
  ⟨0xF801, 0xF801, 0x07, 0x07, .u32, .ro, true, 0, 0, 0, 4294967295, (.fixed "lap.count.conflict")⟩]

/-- Every row of the Ledger tables, in the order of the domains (R18). -/
def Param.rows : List Param :=
  Param.ledger1 ++ Param.device1 ++ Param.device2 ++ Param.host1 ++ Param.queue1 ++ Param.protection1 ++
  Param.transport1 ++ Param.matching1 ++ Param.exchange1 ++ Param.router1 ++ Param.traffic1 ++
  Param.traffic2 ++ Param.traffic3 ++ Param.link1 ++ Param.lanes1 ++ Param.lanes2 ++ Param.time1 ++
  Param.time2 ++ Param.porter1 ++ Param.lifecycle1 ++ Param.lifecycle2 ++ Param.tally1 ++ Param.tally2

/-- Type code (R491). -/
def PType.code : PType → Nat
  | .bool => 0 | .u8 => 1 | .u16 => 2 | .u32 => 3 | .u64 => 4 | .i64 => 5 | .ftime => 6
  | .text _ => 7 | .blob _ => 8 | .enum => 9

/-- Fixed length in bytes (R491). -/
def PType.bytes : PType → Nat
  | .bool => 1 | .u8 => 1 | .u16 => 2 | .u32 => 4 | .u64 => 8 | .i64 => 8 | .ftime => 10
  | .text n => n | .blob n => n | .enum => 1

/-- A numeric type, whose bounds the directory gives (R498). -/
def PType.numeric : PType → Bool
  | .u8 | .u16 | .u32 | .u64 | .i64 => true
  | _ => false

/-- Right code (R493). -/
def Right.code : Right → Nat
  | .ro => 0 | .rw => 1 | .wo => 2 | .rwSetup => 3 | .rwBell => 4

/-- A row holds an address. -/
def Param.holds (r : Param) (addr : Nat) : Bool :=
  decide (r.i0 ≤ addr / 256 ∧ addr / 256 ≤ r.i1 ∧ r.s0 ≤ addr % 256 ∧ addr % 256 ≤ r.s1)

/-- The row of an address. -/
def Param.find (addr : Nat) : Option Param := Param.rows.find? (fun r => Param.holds r addr)

/-- The addresses a row counts (R525, `0000:02`). -/
def Param.count (r : Param) : Nat := (r.i1 - r.i0 + 1) * (r.s1 - r.s0 + 1)

/-- The first address of a row at or above an address. -/
def Param.atOrAbove (r : Param) (addr : Nat) : Option Nat :=
  let i := addr / 256
  let s := addr % 256
  if i < r.i0 then some (r.i0 * 256 + r.s0)
  else if r.i1 < i then none
  else if s ≤ r.s0 then some (i * 256 + r.s0)
  else if s ≤ r.s1 then some (i * 256 + s)
  else if i + 1 ≤ r.i1 then some ((i + 1) * 256 + r.s0)
  else none

/-- The first of the rows' addresses at or above an address (R498). -/
def Param.first (rows : List Param) (addr : Nat) : Option Nat :=
  rows.foldl (fun best r =>
    match Param.atOrAbove r addr, best with
    | some a, some b => some (min a b)
    | some a, none => some a
    | none, b => b) none

/-- The power-up value of a parameter as its image (R12); measured and computed values are not of this table. -/
def Param.powerUp (addr : Nat) : Nat :=
  match Param.find addr with
  | some r => r.pu
  | none => 0

/-- The bytes of a dotted name (R498). -/
def Param.nameOf (r : Param) (addr : Nat) : Bytes :=
  let str (t : String) : Bytes := t.toList.map (fun c => BitVec.ofNat 8 c.toNat)
  match r.name with
  | .fixed t => str t
  | .num pre b post =>
    let i := addr / 256
    let sub := addr % 256
    match b with
    | .sub => str (pre ++ toString sub ++ post)
    | .sub0 => str (pre ++ toString (sub - 1) ++ post)
    | .index => str (pre ++ toString (i - r.i0) ++ post)
    | .both => str (pre ++ toString ((i - r.i0) * 256 + sub) ++ post)
    | .word => (List.range 80).map (Config.nameByte addr)

end Sys2Proof.Machine
end

