-- ==== Sys2Proof/Machine/Ops.lean ====
section
/-!
DEFINITION. The named operations on the state that every family of commands shares: functions, host ports, parameters,
time, free draws, what the part sends, host requests, interrupts, completion and event entries, fault occurrences and
counters.
-/
namespace Sys2Proof.Machine

/-! ## Functions and host ports -/

/-- The host port of a device function number (R43). -/
def fnPort (fn : Nat) : HPort := if fn < 128 then .A else .B

/-- The physical function of a host port (R43). -/
def portPf (p : HPort) : Nat := match p with | .A => 0 | .B => 128

/-- The function is a PF (R43). -/
def fnIsPf (fn : Nat) : Bool := fn % 128 == 0

/-- The other host port. -/
def otherPort (p : HPort) : HPort := match p with | .A => .B | .B => .A

/-- Number of a host port: 0 for A, 1 for B (R45). -/
def portNum (p : HPort) : Nat := match p with | .A => 0 | .B => 1

/-- A function; one not listed is fresh (R73). -/
def State.fn (s : State) (fn : Nat) : Fn := Tab.getD s.fns fn Fn.fresh

/-- A function changed. -/
def State.setFn (s : State) (fn : Nat) (f : Fn → Fn) : State := { s with fns := Tab.put s.fns fn (f (s.fn fn)) }

/-- A host port. -/
def State.port (s : State) (p : HPort) : HostPort := match p with | .A => s.hostA | .B => s.hostB

/-- A host port changed. -/
def State.setPort (s : State) (p : HPort) (f : HostPort → HostPort) : State :=
  match p with
  | .A => { s with hostA := f s.hostA }
  | .B => { s with hostB := f s.hostB }

/-- A host port changed in all but its state, its freeze causes and its NumVFs. -/
def State.tunePort (s : State) (p : HPort) (f : HostPort → HostPort) : State :=
  s.setPort p (fun q => { f q with state := q.state, cause := q.cause, numVfs := q.numVfs })

/-- A Boot Channel. -/
def State.boot (s : State) (p : HPort) : Boot := match p with | .A => s.bootA | .B => s.bootB

/-- A Boot Channel changed. -/
def State.setBoot (s : State) (p : HPort) (f : Boot → Boot) : State :=
  match p with
  | .A => { s with bootA := f s.bootA }
  | .B => { s with bootB := f s.bootB }

/-- The units that bid on a host path. -/
def State.path (s : State) (p : HPort) : List HostUnit := match p with | .A => s.pathA | .B => s.pathB

/-- The units that bid on a host path, replaced. -/
def State.setPath (s : State) (p : HPort) (l : List HostUnit) : State :=
  match p with
  | .A => { s with pathA := l }
  | .B => { s with pathB := l }

/-- The function exists: a PF always, VF *n* when NumVFs is at least *n* (R42, R43). -/
def State.fnExists (s : State) (fn : Nat) : Bool :=
  fn < 256 && (fnIsPf fn || decide (fn % 128 ≤ (s.port (fnPort fn)).numVfs))

/-- The host port is UP. -/
def State.portUp (s : State) (p : HPort) : Bool := (s.port p).state == .up

/-- The host port is FROZEN or THAWING. -/
def State.portFrozen (s : State) (p : HPort) : Bool := (s.port p).state == .frozen || (s.port p).state == .thawing

/-- The function may issue no request: it, or the PF of its port, is in D3hot (R77). -/
def State.asleep (s : State) (fn : Nat) : Bool := (s.fn fn).d3hot || (s.fn (portPf (fnPort fn))).d3hot

/-- The function may issue requests: its port is UP and it is awake (R68, R77). -/
def State.awake (s : State) (fn : Nat) : Bool := s.portUp (fnPort fn) && !s.asleep fn

/-- Number of MSI-X vectors of a function (R43). -/
def fnVectors (fn : Nat) : Nat := if fnIsPf fn then 256 else 32

/-- Number of handles and of doorbell slots of a function (R47, R82). -/
def fnSlots (fn : Nat) : Nat := if fnIsPf fn then 65536 else 1024

/-- Key of a queue of a function in the tables of queues. -/
def qkey (fn handle : Nat) : Nat := fn * 65536 + handle

/-! ## Parameters, lifecycle and time -/

/-- The value of a stored parameter in effect (R490, R495). -/
def State.param (s : State) (addr : Nat) : Nat :=
  match Tab.look s.ledger addr with
  | some v => v
  | none => Param.powerUp addr

/-- A stored parameter set; a value equal to the power-up value is not listed. -/
def State.setParam (s : State) (addr v : Nat) : State :=
  { s with ledger := if v = Param.powerUp addr then Tab.del s.ledger addr else Tab.put s.ledger addr v }

/-- The device has entered OPEN since its last reset. -/
def Life.opened : Life → Bool
  | .open_ | .shutter | .shut => true
  | _ => false

/-- The value in effect of a parameter that is read on entry to OPEN (R495): its power-up value before that. -/
def State.openParam (s : State) (addr : Nat) : Nat := if s.power.entered then s.param addr else Param.powerUp addr

/-- A bool parameter. -/
def State.flag (s : State) (addr : Nat) : Bool := s.param addr != 0

/-- The current bell number (R24). -/
def State.bell (s : State) : Nat := s.time.now / 2 ^ 28 % 2 ^ 64

/-- Short ftime at the current place in the bell (R469): 32 bits of seconds, 32 of fraction. -/
def State.shortTime (s : State) : Nat := (s.time.now / 2 ^ 28 * 2 ^ 12 + s.sub) % 2 ^ 64

/-- Time elapsed since reset release in 2^-32 s, for timers that bells pace (R466). -/
def State.clock (s : State) : Nat := s.ticks * 4096 + s.sub

/-- A length of nanoseconds in units of 2^-32 s, rounded up. -/
def nsUnits (ns : Nat) : Nat := ceilDiv (ns * 2 ^ 32) 1000000000

/-- A length in units of 2^-32 s in nanoseconds, saturating at 4,294,967,295 (R380). -/
def unitsNs (u : Nat) : Nat := min (u * 1000000000 / 2 ^ 32) 4294967295

/-- A free number below a bound, and the counter of draws advanced. -/
def State.draw (s : State) (bound : Nat) : Nat × State :=
  ((Config.draw s.free).toNat % bound, { s with free := s.free + 1 })

/-- Time goes on inside the bell to a free place at or after the present one (R469). -/
def State.later (s : State) : State :=
  { s with sub := s.sub + (Config.draw s.free).toNat % (4096 - s.sub), free := s.free + 1 }

/-- The state once the clock has reached a time, where that lies in the past or inside the current bell: a timer at clock rate
has come due. -/
def State.until (s : State) (t : Nat) : Option State :=
  if t ≤ s.clock then some s
  else if t < (s.ticks + 1) * 4096 then some { s with sub := t - s.ticks * 4096 }
  else none

/-- What happens at a clock value (a time limit that runs out): where that instant has come or still lies within this bell, time
moves on to it and the effect follows; otherwise nothing happens. -/
def State.atTime (s : State) (t : Nat) (go : State → State) : State :=
  match s.until t with
  | some s => go s
  | none => s

/-- The bell tasks of a domain are not set aside, and no changeover pauses them (R27, R523). -/
def State.onTime (s : State) (domain : Nat) : Bool := (Tab.getD s.deferred domain []).isEmpty && s.clerk.pausedAt.isNone

/-- The part sends something. -/
def State.emit (s : State) (o : Output) : State := { s with out := s.out ++ [o] }

/-! ## Host requests -/

/-- Requesters of a host path in the Auctioneer's fixed order (R359, R366): the Clerk 0, the queue engine 1, the Stalls
with TC1 contexts 2 to 17, the Exchange 18, the Stalls with TC0 contexts 19 to 34, the Porter 35. -/
def requester (cls stall : Nat) : Nat :=
  match cls with
  | 0 => 0
  | 1 => 1
  | 2 => 2 + stall % 16
  | 3 => 18
  | 4 => 19 + stall % 16
  | _ => 35

/-- An operation that writes a completion, an event or an interrupt message (R71). -/
def HostOp.held : HostOp → Bool
  | .entry _ _ => true
  | .msix _ _ => true
  | _ => false

/-- The host port issues requests: it is UP, or THAWING, in which the held entries and the flush go out (R68, R71). -/
def State.portOpen (s : State) (p : HPort) : Bool := (s.port p).state == .up || (s.port p).state == .thawing

/-- A unit enters the path of its function's port. While the port is FROZEN the queue engine holds entries and their
messages (R71) and the part issues nothing else (R68); in RESET it issues nothing. -/
def State.request (s : State) (u : HostUnit) : State :=
  let p := fnPort u.fn
  let u := { u with since := s.clock }
  match (s.port p).state with
  | .up => s.setPath p (s.path p ++ [u])
  | .thawing => s.setPath p (s.path p ++ [u])
  | .reset => s
  | .frozen => if u.op.held then s.tunePort p (fun q => { q with held := q.held ++ [u] }) else s

/-- A write of a source, under the key, address and length of `acc`. -/
def State.hostWrite (s : State) (fn cls stall : Nat) (src : Source) (addr : Nat) (data : Bytes) (poisoned : Bool)
    (acc : Option (Nat × Nat × Nat)) : State :=
  s.request { fn := fn, cls := cls, req := requester cls stall, src := src, after := [],
              op := .write addr data poisoned, acc := acc, losses := 0, since := 0 }

/-- The class of a Stall's requests for a traffic class (R366). -/
def stallClass (tc : Nat) : Nat := if tc = 1 then 2 else 4

/-- A read, flush read or AtomicOp is recorded under a fresh tag until it is answered or abandoned (R62, R74). -/
def State.newRead (s : State) (fn addr len : Nat) (why : ReadFor) (acc : Option (Nat × Nat × Nat)) : State :=
  { s with tags := s.tags + 1,
           reads := Tab.put s.reads s.tags { port := fnPort fn, for_ := why, addr := addr, len := len, fn := fn,
                                             acc := acc, at_ := none, limitUs := 0 } }

/-- A read of host memory (R62, R365). A function whose port issues no request reads nothing. -/
def State.hostRead (s : State) (fn cls stall : Nat) (src : Source) (addr len : Nat) (why : ReadFor)
    (acc : Option (Nat × Nat × Nat)) : State :=
  if s.portOpen (fnPort fn) then
    (s.newRead fn addr len why acc).request
      { fn := fn, cls := cls, req := requester cls stall, src := src, after := [], op := .read s.tags addr len,
        acc := acc, losses := 0, since := 0 }
  else s

/-- A flush read after the writes of a source (R61). -/
def State.hostFlush (s : State) (fn cls stall : Nat) (src : Source) (after : List Source) (addr : Nat) (why : ReadFor) :
    State :=
  if s.portOpen (fnPort fn) then
    (s.newRead fn addr 0 why none).request
      { fn := fn, cls := cls, req := requester cls stall, src := src, after := after, op := .flush s.tags addr,
        acc := none, losses := 0, since := 0 }
  else s

/-- An AtomicOp on host memory (R222, R150). -/
def State.hostAtomic (s : State) (fn cls stall : Nat) (src : Source) (addr op : Nat) (operands : Bytes) (why : ReadFor)
    (acc : Option (Nat × Nat × Nat)) : State :=
  if s.portOpen (fnPort fn) then
    (s.newRead fn addr operands.length why acc).request
      { fn := fn, cls := cls, req := requester cls stall, src := src, after := [], op := .atomic s.tags addr op operands,
        acc := acc, losses := 0, since := 0 }
  else s

/-- A unit of the queue engine: an entry or a message. -/
def queueUnit (fn : Nat) (src : Source) (after : List Source) (op : HostOp) : HostUnit :=
  { fn := fn, cls := 1, req := 1, src := src, after := after, op := op, acc := none, losses := 0, since := 0 }

/-! ## Interrupts -/

/-- The vector is masked (bit 0 of the vector control word of its table entry); an unlisted entry is masked. -/
def Fn.masked (f : Fn) (v : Nat) : Bool :=
  match Tab.look f.vectors v with
  | some e => bits e 12 0 1 == 1
  | none => true

/-- An MSI-X message for a vector (R56, R57), issued after the entries it announces (R59): it sets the pending bit
while the vector is masked, MSI-X is disabled or the function sleeps (R77). -/
def State.msix (s : State) (fn v : Nat) (after : List Source) : State :=
  let f := s.fn fn
  if f.msixOn = false ∨ f.masked v = true ∨ s.asleep fn = true then
    if f.pba.contains v then s else s.setFn fn (fun f => { f with pba := f.pba ++ [v] })
  else
    s.request (queueUnit fn (.msix fn) after (.msix fn v))

/-! ## Entries -/

/-- The 32 bytes of a completion entry but for PHASE (R95). -/
def entryImage (wrId ts bytes qpn status idx opcode flags aux : Nat) : Nat :=
  place 0x00 0 64 wrId + place 0x08 0 64 ts + place 0x10 0 32 bytes + place 0x14 0 24 qpn + place 0x14 24 8 status +
  place 0x18 0 16 idx + place 0x1A 0 8 opcode + place 0x1B 0 8 flags + place 0x1C 0 24 aux

/-- PHASE of a ring position (R96): 1 on the first pass, inverted on each later one. -/
def phaseOf (pi : BitVec 16) (log2 : Nat) : Nat := if pi.toNat / 2 ^ log2 % 2 = 0 then 1 else 0

/-- Entries in a ring (R85). -/
def ringUsed (pi ci : BitVec 16) : Nat := (pi - ci).toNat

/-- The message of an event queue (R105): sent at once when the moderation count has passed since the last one. -/
def State.announce (s : State) (fn eq : Nat) : State :=
  match Tab.look s.eqs (qkey fn eq) with
  | none => s
  | some e =>
    let free := match e.lastMsg with
      | none => true
      | some t => decide (t + e.mod ≤ s.ticks)
    if free then
      let s := { s with eqs := Tab.put s.eqs (qkey fn eq) { e with lastMsg := some s.ticks, owed := false } }
      s.msix fn e.vector [.eq (qkey fn eq)]
    else { s with eqs := Tab.put s.eqs (qkey fn eq) { e with owed := true } }

/-- An event entry is written into an event queue that has room (R97, R103). -/
def State.writeEvent (s : State) (fn eq typ source ts : Nat) (after : List Source) : State :=
  match Tab.look s.eqs (qkey fn eq) with
  | none => s
  | some e =>
    let img := entryImage 0 ts 0 0 0 0 typ 0 source + place 0x1C 31 1 (phaseOf e.pi e.log2)
    let addr := e.base + e.pi.toNat % 2 ^ e.log2 * 32
    let s := { s with eqs := Tab.put s.eqs (qkey fn eq) { e with pi := e.pi + 1 } }
    let s := s.request (queueUnit fn (.eq (qkey fn eq)) after (.entry addr img))
    s.announce fn eq

/-- A mark of a type from a source object is set, or merged into the one that is pending (R104). -/
def addMark (l : List Mark) (m : Mark) : List Mark :=
  if l.any (fun x => x.typ == m.typ && x.obj == m.obj) then
    l.map (fun x => if x.typ == m.typ && x.obj == m.obj then m else x)
  else l ++ [m]

/-- An event of a type from a source object (`obj` tells the objects of one type apart; `source` is the AUX field) for
an event queue: written into a free entry, or held as a mark (R103, R104). No event queue, no event. -/
def State.postEvent (s : State) (fn eq typ obj source : Nat) (after : List Source) : State :=
  let s := s.later
  match Tab.look s.eqs (qkey fn eq) with
  | none => s
  | some e =>
    if e.marks.isEmpty && decide (ringUsed e.pi e.ci < 2 ^ e.log2) then
      s.writeEvent fn eq typ source s.shortTime after
    else
      { s with eqs := Tab.put s.eqs (qkey fn eq) { e with marks := addMark e.marks ⟨typ, obj, source, s.shortTime⟩ } }

/-- Held events are written in the order of their marks as entries become free (R104). -/
def State.drainMarks (s : State) (fn eq : Nat) : Nat → State
  | 0 => s
  | n + 1 =>
    match Tab.look s.eqs (qkey fn eq) with
    | none => s
    | some e =>
      match e.marks with
      | [] => s
      | m :: ms =>
        if ringUsed e.pi e.ci < 2 ^ e.log2 then
          let s := { s with eqs := Tab.put s.eqs (qkey fn eq) { e with marks := ms } }
          State.drainMarks (s.writeEvent fn eq m.typ m.source m.ts []) fn eq n
        else s

/-! ## Counters and faults -/

/-- Configuration word of a counter (R558). -/
def State.tallyCfg (s : State) (n : Nat) : Nat := s.param ((0xF100 + n / 256) * 256 + n % 256)

/-- The counters whose configuration word is not the power-up value. -/
def State.tallyActive (s : State) : List Nat :=
  (s.ledger.filter (fun e => 0xF10000 ≤ e.1 && e.1 < 0xF10200)).map (fun e => e.1 - 0xF10000)

/-- A counter raised by an amount (R557, R563): a wrap sets its bit in the wrap map and, with OVF_INT, raises one
TALLY_OVERFLOW event a bell. -/
def State.tallyAdd (s : State) (n amount : Nat) : State :=
  let v := Tab.num s.tally.counts n + amount
  let t := { s.tally with counts := Tab.setNum s.tally.counts n (v % 2 ^ 48) }
  if v < 2 ^ 48 then { s with tally := t }
  else
    let t := { t with wraps := if t.wraps.contains n then t.wraps else t.wraps ++ [n] }
    if bitAt (s.tallyCfg n) 28 && !t.raised.contains n then
      let s := { s with tally := { t with raised := t.raised ++ [n] } }
      s.postEvent (s.param 0xF01004) (s.param 0xF01005) 0x30 n n []
    else { s with tally := t }

/-- The instance of an event for which R560 names no unit: every INSTANCE selects it. -/
abbrev anyUnit : Nat := 256

/-- A count event of an instance (R558, R560): every enabled counter that selects it adds the amount. -/
def State.count (s : State) (event inst amount : Nat) : State :=
  s.tallyActive.foldl (fun s n =>
    let c := s.tallyCfg n
    if bitAt c 29 && c % 65536 == event && (inst == anyUnit || c / 65536 % 256 == 255 || c / 65536 % 256 == inst) then s.tallyAdd n amount
    else s) s

/-- The image of a fault source's record (R554). -/
def recordImage (code inst : Nat) (r : FaultRec) : Nat :=
  place 0x00 0 8 code + place 0x00 8 8 inst + place 0x00 16 1 (if r.active then 1 else 0) +
  place 0x04 0 32 r.occurrences + place 0x08 0 64 r.first + place 0x10 0 64 r.last + place 0x18 0 32 r.detail +
  place 0x1C 0 32 r.exits

/-- A record before any occurrence (R554). -/
def FaultRec.fresh : FaultRec := ⟨false, 0, 0, 0, 0, 0, 0⟩

/-- A record appended to the 1,024-entry fault log, over the oldest when the log is full (R555). -/
def logAppend (l : List Nat) (r : Nat) : List Nat := (if l.length < 1024 then l else l.drop 1) ++ [r]

/-- The Beadle after one occurrence of a source in a bell (R546 to R548, R554, R555). -/
def Beadle.occur (b : Beadle) (code inst detail bell ticks : Nat) : Beadle :=
  let k := code * 256 + inst
  let r := Tab.getD b.sources k FaultRec.fresh
  let r' := { r with active := true, occurrences := min (r.occurrences + 1) 4294967295, last := bell,
                     first := if r.active then r.first else bell, lastTick := ticks, detail := detail }
  { b with sources := Tab.put b.sources k r', faultN := false,
           log := if r.active then b.log else logAppend b.log (recordImage code inst r') }

/-- One occurrence of a fault source (R545). -/
def State.occur (s : State) (code inst detail : Nat) : State :=
  { s with beadle := s.beadle.occur code inst detail s.bell s.ticks }

/-- The Beadle after the exit of a source (R549, R550, R555). -/
def Beadle.exit (b : Beadle) (k : Nat) : Beadle :=
  let r := Tab.getD b.sources k FaultRec.fresh
  if r.active then
    let r' := { r with active := false, exits := (r.exits + 1) % 2 ^ 32 }
    let src := Tab.put b.sources k r'
    { b with sources := src, recoveries := b.recoveries + 1, log := logAppend b.log (recordImage (k / 256) (k % 256) r'),
             faultN := !(src.any (fun e => e.2.active)) }
  else b

/-! ## Completions -/

/-- A completion queue has a free entry that is not reserved (R99). -/
def Cq.room (q : Cq) : Bool := decide (ringUsed q.pi q.ci + q.reserved < 2 ^ q.log2)

/-- A CQ_NOTIFY event of an armed queue, which it disarms (R102). -/
def State.cqNotify (s : State) (fn cq : Nat) : State :=
  match Tab.look s.cqs (qkey fn cq) with
  | none => s
  | some q =>
    let s := { s with cqs := Tab.put s.cqs (qkey fn cq) { q with armed := false, armedSol := false } }
    match q.eq with
    | none => s
    | some e => s.postEvent fn e 0x01 cq cq [.cq (qkey fn cq)]

/-- A completion entry is written into a completion queue after every write it reports (R59, R96, R97, R102). -/
def State.writeCompletion (s : State) (fn cq img : Nat) (solicited : Bool) (after : List Source) : State :=
  match Tab.look s.cqs (qkey fn cq) with
  | none => s
  | some q =>
    let img := img + place 0x1C 31 1 (phaseOf q.pi q.log2)
    let addr := q.base + q.pi.toNat % 2 ^ q.log2 * 32
    let q' := { q with pi := q.pi + 1, reserved := q.reserved - 1,
                       solicited := if solicited then q.solicited ++ [q.pi] else q.solicited }
    let s := { s with cqs := Tab.put s.cqs (qkey fn cq) q' }
    let s := s.request (queueUnit fn (.cq (qkey fn cq)) after (.entry addr img))
    if q.armed || (q.armedSol && solicited) then s.cqNotify fn cq else s

/-- A reservation in a completion queue is taken, where it has room and nobody waits (R99, R100). -/
def State.reserve (s : State) (fn cq : Nat) : Option State :=
  match Tab.look s.cqs (qkey fn cq) with
  | none => none
  | some q =>
    if q.room && q.waiters.isEmpty then
      some { s with cqs := Tab.put s.cqs (qkey fn cq) { q with reserved := q.reserved + 1 } }
    else none

/-- A reservation is released without a write (R99). -/
def State.unreserve (s : State) (fn cq : Nat) : State :=
  { s with cqs := Tab.mod s.cqs (qkey fn cq) (fun q => { q with reserved := q.reserved - 1 }) }

end Sys2Proof.Machine
end

