-- ==== Sys2Proof/Machine/Packet.lean ====
section
/-!
DEFINITION. Fabric packets (09_fabric_packets.md): the fields of bytes 0x28 to 0x3F, the image of a header, its CRC, the
bytes on the wire and back, the cut of a message into packets, and the checks on arrival.
-/
namespace Sys2Proof.Machine

/-- A field of bytes 0x28 to 0x3F, by its header offset (R316). -/
def Packet.ext (p : Packet) (off lo w : Nat) : Nat := bits p.ext (off - 0x28) lo w

/-- A field value placed in the image of bytes 0x28 to 0x3F. -/
def extAt (off lo w v : Nat) : Nat := place (off - 0x28) lo w v

/-- MSG_NUM (R316). -/
def Packet.msgNum (p : Packet) : BitVec 32 := BitVec.ofNat 32 (Packet.ext p 0x28 0 32)

/-- MSG_LEN (R316). -/
def Packet.msgLen (p : Packet) : Nat := Packet.ext p 0x2C 0 32

/-- OFFSET (R316). -/
def Packet.offset (p : Packet) : Nat := Packet.ext p 0x30 0 32

/-- RKEY, FLAG_KEY or SRC_RANK, at 0x34 (R316). -/
def Packet.key (p : Packet) : Nat := Packet.ext p 0x34 0 32

/-- RADDR or FLAG_ADDR, at 0x38 (R316). -/
def Packet.raddr (p : Packet) : Nat := Packet.ext p 0x38 0 64

/-- Packet bytes: header, payload and trailer (R312, R368). -/
def Packet.bytes (p : Packet) : Nat := 72 + p.payload.length

/-- The header as its 64-byte image (R312); `rw` says whether the fields that forwarding devices may change are shown. -/
def Packet.header (p : Packet) (rw : Bool) : Nat :=
  let v (x : Nat) : Nat := if rw then x else 0
  let mgmt := p.ptype == 0x40 || p.ptype == 0x41
  let ext := if mgmt && !rw then
      p.ext - extAt 0x30 4 4 (Packet.ext p 0x30 4 4) - extAt 0x34 0 96 (Packet.ext p 0x34 0 96)
    else p.ext
  place 0x00 0 8 p.ptype + place 0x00 8 2 p.tc + place 0x00 10 2 (v p.esc) + place 0x00 12 2 p.mode +
  place 0x00 14 1 (v p.ce.toNat) + place 0x00 15 1 (v p.nonmin.toNat) + place 0x00 16 16 p.tenant +
  place 0x04 0 18 p.destDev + place 0x04 18 8 p.destFn + place 0x04 26 6 (v p.hops) +
  place 0x08 0 18 p.srcDev + place 0x08 18 8 p.srcFn + place 0x08 26 1 p.solicited.toNat +
  place 0x0C 0 13 p.payload.length + place 0x0C 16 16 p.flow + place 0x10 0 24 p.qpn + place 0x10 24 1 p.st.toNat +
  place 0x14 0 32 p.inc + place 0x18 0 32 p.psn.toNat + place 0x1C 0 10 (v p.via) + place 0x1C 16 16 p.destQueue +
  place 0x20 0 64 p.ts + place 0x28 0 192 ext

/-- Trailer bytes 0x04 to 0x07 (R320). -/
def Packet.trailer (p : Packet) (rw : Bool) : Nat := p.byteCount % 2 ^ 13 + (if rw && p.poison then 2 ^ 13 else 0)

/-- One byte of CRC-32C, reflected. -/
def crcByte (c : Nat) (b : Byte) : Nat :=
  (List.range 8).foldl (fun c _ => if c % 2 = 1 then Nat.xor (c / 2) 0x82F63B78 else c / 2) (Nat.xor c b.toNat)

/-- CRC-32C (R321). -/
def crc32c (d : Bytes) : Nat := Nat.xor (d.foldl crcByte 0xFFFFFFFF) 0xFFFFFFFF

/-- The bytes over which E2E_CRC is taken (R321). -/
def Packet.crcBytes (p : Packet) : Bytes :=
  leBytes 64 (Packet.header p false) ++ p.payload ++ leBytes 4 (Packet.trailer p false)

/-- E2E_CRC of a packet (R321). -/
def Packet.computeCrc (p : Packet) : Nat := crc32c (Packet.crcBytes p)

/-- A packet with BYTE_COUNT and E2E_CRC set by its source (R320, R321). -/
def Packet.sealed (p : Packet) : Packet :=
  let p := { p with byteCount := p.payload.length, rsv := 0 }
  { p with crc := Packet.computeCrc p }

/-- The bytes of a packet on the wire: header, payload, trailer (R312, R320); reserved bits are those of `rsv`. -/
def Packet.wire (p : Packet) : Bytes :=
  leBytes 64 (Packet.header p true + p.rsv % 2 ^ 512) ++ p.payload ++
  leBytes 4 p.crc ++ leBytes 4 (Packet.trailer p true + p.rsv / 2 ^ 512)

/-- The image of the reserved header bits that are set (R312, R316): reserved fields, and fields of 0x28 to 0x3F that the
type does not use. -/
def headerReserved (h : Nat) : Nat :=
  place 0x08 27 5 (bits h 0x08 27 5) + place 0x0C 13 3 (bits h 0x0C 13 3) + place 0x10 25 7 (bits h 0x10 25 7) +
  place 0x1C 10 6 (bits h 0x1C 10 6)

/-- A packet from its bytes on the wire: PAYLOAD_LEN says where the payload ends (R312). -/
def Packet.ofWire (d : Bytes) : Packet :=
  let h := leNat (d.take 64)
  let len := bits h 0x0C 0 13
  let t := leNat ((d.drop (64 + len)).take 8)
  { ptype := bits h 0 0 8, tc := bits h 0 8 2, esc := bits h 0 10 2, mode := bits h 0 12 2, ce := bits h 0 14 1 == 1,
    nonmin := bits h 0 15 1 == 1, tenant := bits h 0 16 16, destDev := bits h 4 0 18, destFn := bits h 4 18 8,
    hops := bits h 4 26 6, srcDev := bits h 8 0 18, srcFn := bits h 8 18 8, solicited := bits h 8 26 1 == 1,
    flow := bits h 0x0C 16 16, qpn := bits h 0x10 0 24, st := bits h 0x10 24 1 == 1, inc := bits h 0x14 0 32,
    psn := BitVec.ofNat 32 (bits h 0x18 0 32), via := bits h 0x1C 0 10, destQueue := bits h 0x1C 16 16,
    ts := bits h 0x20 0 64, ext := bits h 0x28 0 192, payload := (d.drop 64).take len, byteCount := bits t 4 0 13,
    poison := bits t 4 13 1 == 1,
    rsv := headerReserved h + 2 ^ 512 * (bits t 4 14 18 * 2 ^ 14), crc := bits t 0 0 32 }

/-- A packet with every field zero, from which the part builds its packets. -/
def Packet.blank : Packet :=
  { ptype := 0, tc := 0, esc := 0, mode := 0, ce := false, nonmin := false, tenant := 0, destDev := 0, destFn := 0,
    hops := 0, srcDev := 0, srcFn := 0, solicited := false, flow := 0, qpn := 0, st := false, inc := 0, psn := 0, via := 0,
    destQueue := 0, ts := 0, ext := 0, payload := [], byteCount := 0, poison := false, rsv := 0, crc := 0 }

/-! ## Types -/

/-- Unicast types: those that a transport context carries (R311, R314). -/
def unicastType (t : Nat) : Bool :=
  (1 ≤ t && t ≤ 6) || (9 ≤ t && t ≤ 0x0C) || (0x10 ≤ t && t ≤ 0x13)

/-- Unsequenced types (R315). -/
def unsequenced (t : Nat) : Bool := [0x07, 0x08, 0x0D, 0x21, 0x22, 0x30, 0x40, 0x41].contains t

/-- Types whose breaks follow RADDR + OFFSET (R318). -/
def breaksByAddress (t : Nat) : Bool := t == 2 || t == 3 || t == 6 || t == 9

/-- Types whose payload is a range of a message (DATA and TAGGED eager layouts, R316). -/
def rangeType (t : Nat) : Bool := [1, 2, 3, 6, 9, 0x10, 0x13].contains t

/-- The payload length, class and route mode that a type allows (R314). A SACK travels on TC2 in mode 2 exactly when it
is a tree edge's. -/
def typeAllows (t tc mode len : Nat) : Bool :=
  if t == 0x30 then len == 160 && ((tc ≤ 1 && mode ≤ 1) || (tc == 2 && mode == 2))
  else if t == 0x07 || t == 0x08 || t == 0x20 then tc == 2 && mode == 2 && len ≤ 4096
  else if t == 0x21 || t == 0x22 then tc == 2 && mode == 2 && len == 0
  else if t == 0x40 || t == 0x41 then tc == 3 && (mode == 0 || mode == 3) && len ≤ 4096
  else if t == 0x0D then tc == 1 && mode ≤ 1 && len == 0
  else tc ≤ 1 && mode ≤ 1 &&
    (if t == 0x04 || t == 0x0C || t == 0x11 || t == 0x12 then len == 0
     else if t == 0x05 then len == 8 || len == 16 || len == 32
     else if t == 0x0A then len == 4 || len == 8 || len == 16
     else if t == 0x0B then len == 8
     else unicastType t && len ≤ 4096)

/-- Bytes 0x28 to 0x3F that a type uses, as a mask (R316). -/
def extMask (t : Nat) : Nat :=
  let m (off lo w : Nat) : Nat := place (off - 0x28) lo w (2 ^ w - 1)
  if t == 0x01 then m 0x28 0 96
  else if t == 0x02 || t == 0x03 || t == 0x06 then m 0x28 0 192
  else if t == 0x09 then m 0x28 0 96 + m 0x38 0 64
  else if t == 0x13 then m 0x28 0 96 + m 0x34 0 24
  else if t == 0x0B then m 0x28 0 64 + m 0x34 0 32 + m 0x38 0 64
  else if t == 0x04 then m 0x28 0 64 + m 0x34 0 32 + m 0x38 0 64
  else if t == 0x05 then m 0x28 0 32 + m 0x2C 0 4 + m 0x34 0 32 + m 0x38 0 64
  else if t == 0x0A || t == 0x0C then m 0x28 0 32
  else if t == 0x0D then m 0x28 0 32 + m 0x2C 0 8
  else if t == 0x10 || t == 0x11 then m 0x28 0 192
  else if t == 0x12 then m 0x28 0 64 + m 0x30 0 24
  else if t == 0x07 || t == 0x08 then m 0x28 0 64 + m 0x30 0 24 + m 0x38 0 64
  else if t == 0x20 then m 0x28 0 96 + m 0x34 0 29 + m 0x38 0 32
  else if t == 0x21 || t == 0x22 then m 0x2C 0 16
  else if t == 0x30 then m 0x2C 0 16
  else if t == 0x40 then m 0x28 0 64 + m 0x30 0 8 + m 0x30 16 16 + m 0x34 0 90
  else if t == 0x41 then m 0x30 0 8 + m 0x30 16 16 + m 0x34 0 90
  else 0

/-- Every reserved field is zero (R312, R316, R320, R323). -/
def Packet.reservedZero (p : Packet) : Bool :=
  p.rsv == 0 && Nat.land p.ext (extMask p.ptype) == p.ext &&
  (if p.st then p.qpn == 0 else true) && (if unsequenced p.ptype then p.psn == 0 else true)

/-- Where a packet of a message that starts at an offset ends (R318): the next break, or the message's end. -/
def packetEnd (t raddr off len : Nat) : Nat :=
  if breaksByAddress t then min len (off + (4096 - (raddr + off) % 4096)) else min len ((off / 4096 + 1) * 4096)

/-- The packets of a message from an offset: offset and bytes (R318). -/
def cutFrom (t raddr len : Nat) : Nat → Nat → List (Nat × Nat)
  | 0, _ => []
  | n + 1, off =>
    if len ≤ off then [] else
    let e := packetEnd t raddr off len
    (off, e - off) :: cutFrom t raddr len n e

/-- The packets of a message (R318): LEN = 0 is one empty packet. -/
def cutMessage (t raddr len : Nat) : List (Nat × Nat) :=
  if len = 0 then [(0, 0)] else cutFrom t raddr len (ceilDiv len 4096 + 1) 0

/-- PAYLOAD_LEN, OFFSET and MSG_LEN agree (check 3 of R323): the packet is one that R318 cuts. -/
def Packet.rangeOk (p : Packet) : Bool :=
  if rangeType p.ptype then
    let len := p.payload.length
    let off := Packet.offset p
    let tot := Packet.msgLen p
    let ra := if breaksByAddress p.ptype then Packet.raddr p else 0
    decide (off + len ≤ tot) &&
    (if tot = 0 then off == 0 && len == 0
     else decide (off < tot) && (off == 0 || (if breaksByAddress p.ptype then (ra + off) % 4096 == 0 else off % 4096 == 0)) &&
       off + len == packetEnd p.ptype ra off tot)
  else if p.ptype == 0x07 || p.ptype == 0x08 then Packet.msgLen p == p.payload.length
  else true

/-- The payload of an ATOMIC_REQ fits its kind (R206, R317). -/
def Packet.atomicOk (p : Packet) : Bool :=
  if p.ptype == 0x05 then
    let k := Packet.ext p 0x2C 0 4
    p.payload.length == (if k ≤ 3 then 8 else if k = 4 then 16 else 32) && k ≤ 5
  else true

/-- The checks of R323 that a packet meets on arrival: the first that fails, 0 when all pass. -/
def Packet.arrivalCheck (p : Packet) : Nat :=
  if Packet.computeCrc p ≠ p.crc ∨ p.byteCount ≠ p.payload.length then 1
  else if !typeAllows p.ptype p.tc p.mode p.payload.length || !Packet.reservedZero p || !Packet.atomicOk p then 2
  else if !Packet.rangeOk p then 3
  else 0

end Sys2Proof.Machine
end

