-- ==== Sys2Proof/Machine/Protect.lean ====
section
/-!
DEFINITION. Protection domains, keys and translation (04_protection_translation.md): the key checks, the TLB lookup, the
raising of a miss with its walk read or miss record, the page-table entry rules, and what a translation loads.
-/
namespace Sys2Proof.Machine

/-! ## Keys -/

/-- INDEX of a key value (R134). -/
def keyIndex (v : Nat) : Nat := v / 256 % 2 ^ 20

/-- The value of a key (R134). -/
def Key.value (k : Key) (idx : Nat) : Nat := (if k.ask then 2 else 1) * 2 ^ 28 + idx * 256 + k.variant

/-- The key-table entry of a value, live or being destroyed (R143). -/
def State.keyRaw (s : State) (v : Nat) : Option Key :=
  match Tab.look s.keys (keyIndex v) with
  | some k => if Key.value k (keyIndex v) = v then some k else none
  | none => none

/-- The live key of a value: KIND valid, INDEX live, VARIANT matches (R140 step 1); a key whose DESTROY_KEY has been
accepted is not live (R143). -/
def State.keyOf (s : State) (v : Nat) : Option Key := if s.dying.any (fun d => d.2 == v) then none else s.keyRaw v

/-- The end of the region: for an ASK, LEN = 0 means all to 2^48 - 1 (R136). -/
def Key.last (k : Key) : Nat := if k.ask && k.len == 0 then 2 ^ 48 else k.va + k.len

/-- Every byte lies in the region (R136, R139, R140 step 4). -/
def Key.covers (k : Key) (va len : Nat) : Bool := decide (k.va ≤ va ∧ va + len ≤ Key.last k)

/-- LOCAL_WRITE. -/
def Key.localWrite (k : Key) : Bool := bitAt k.rights 0

/-- The right a remote access needs: bit of RIGHTS (R136, R205). -/
inductive RemoteOp where
  | read | write | atomic | durable
  deriving DecidableEq, Repr

/-- The right for the operation is set (R140 step 3); a durable write needs REMOTE_DURABLE, which implies the rest (R137). -/
def Key.permits (k : Key) : RemoteOp → Bool
  | .read => bitAt k.rights 1
  | .write => bitAt k.rights 2
  | .atomic => bitAt k.rights 3
  | .durable => bitAt k.rights 4

/-- The local check of R139; a buffer of length 0 is not checked. The status, or OK. -/
def State.localCheck (s : State) (pd fn key va len : Nat) (write : Bool) : Nat :=
  if len = 0 then Status.ok else
  match s.keyOf key with
  | none => Status.protFault
  | some k =>
    if k.fn = fn ∧ k.pd = pd ∧ Key.covers k va len = true ∧ (write = true → Key.localWrite k = true) then Status.ok
    else Status.protFault

/-- Steps 1 to 4 of R140: the status, or OK. A packet without payload touches no byte. A key whose function is under FLR or
whose port is not UP is refused before step 1 (R44, R70, the table after R143). -/
def State.remoteCheck (s : State) (key tenant va len : Nat) (op : RemoteOp) : Nat :=
  match s.keyOf key with
  | none => Status.remoteKey
  | some k =>
    if !s.portUp (fnPort k.fn) || (s.fn k.fn).flr then Status.endpointGone
    else if k.tenant ≠ tenant then Status.remoteKey
    else if !Key.permits k op then Status.remoteBounds
    else if len != 0 && !Key.covers k va len then Status.remoteBounds
    else Status.ok

/-! ## Page-table entries -/

/-- ADDR of an entry, as a byte address (R144). -/
def Pte.addr (e : Nat) : Nat := e / 2 ^ 12 % 2 ^ 40 * 4096
/-- HINT (R144). -/
def Pte.hint (e : Nat) : Nat := e / 2 ^ 6 % 8
/-- PM (R144). -/
def Pte.pm (e : Nat) : Bool := bitAt e 5
/-- D (R144). -/
def Pte.d (e : Nat) : Bool := bitAt e 3
/-- A (R144). -/
def Pte.a (e : Nat) : Bool := bitAt e 2
/-- W (R144). -/
def Pte.w (e : Nat) : Bool := bitAt e 1
/-- V (R144). -/
def Pte.v (e : Nat) : Bool := bitAt e 0

/-- A non-leaf entry is well formed: V set, bits [11:1] zero (R144, R147). -/
def Pte.tableOk (e : Nat) : Bool := Pte.v e && e % 2 ^ 12 == 1

/-- A leaf is well formed: V set, bits [11:9] and 4 zero, HINT valid (R144, R147). -/
def Pte.leafOk (e : Nat) : Bool := Pte.v e && e / 2 ^ 9 % 8 == 0 && !bitAt e 4 && decide (Pte.hint e ≤ 4)

/-- Pages of a hint's group (R144). -/
def hintPages (h : Nat) : Nat := match h with | 0 => 1 | 1 => 16 | 2 => 512 | 3 => 8192 | _ => 262144

/-- The group a leaf loads (R145): first page, pages, bus base. A base that is not aligned to the group is one page. -/
def Pte.group (e page : Nat) : Nat × Nat × Nat :=
  let n := hintPages (Pte.hint e)
  let pos := page % n
  if pos * 4096 ≤ Pte.addr e ∧ (Pte.addr e - pos * 4096) % (n * 4096) = 0 then (page - pos, n, Pte.addr e - pos * 4096)
  else (page, 1, Pte.addr e)

/-- A range of bus addresses meets a BAR of the part, on either host port (R147). -/
def State.inBar (s : State) (addr len : Nat) : Bool :=
  (s.hostA.link.bars ++ s.hostB.link.bars).any (fun b => decide (addr < b.1 + b.2 ∧ b.1 < addr + len))

/-- A leaf's page, or its hinted group, avoids every BAR of the part (R147). -/
def State.leafClear (s : State) (e page : Nat) : Bool :=
  let g := Pte.group e page
  !s.inBar g.2.2 (g.2.1 * 4096)

/-- A table pointer lies in the walk window and outside every BAR (R147). -/
def State.tableClear (s : State) (k : Key) (addr : Nat) : Bool :=
  decide (k.winLo ≤ addr ∧ addr + 4095 ≤ k.winHi) && !s.inBar addr 4096

/-! ## The TLB -/

/-- Capacity of the first level (R153, `4020:01`). -/
def tlbL1Max : Nat := 16384

/-- Capacity of the second level (R153, `4020:02`). -/
def tlbL2Max : Nat := 2097152

/-- A translation holds a page of a key. -/
def Tlb.holds (e : Tlb) (idx page : Nat) : Bool := decide (e.index = idx ∧ e.page ≤ page ∧ page < e.page + e.pages)

/-- A translation has reached the maximum age `4030:01` (R168); pinned entries have no age. -/
def State.expired (s : State) (e : Tlb) : Bool :=
  let a := s.param 0x403001
  !e.pinned && a != 0 && decide (e.bell + a ≤ s.ticks)

/-- The most recent entries stand first; beyond its capacity the first level forgets its last copies. -/
def trimL1 (l : List Tlb) : Nat → List Tlb
  | 0 => l.map (fun e => { e with l1 := false })
  | n + 1 =>
    match l with
    | [] => []
    | e :: t => if e.l1 then e :: trimL1 t n else e :: trimL1 t (n + 1)

/-- Beyond its capacity the second level forgets its least recently used unpinned entry (R156). -/
def trimL2 (l : List Tlb) : List Tlb :=
  if l.length ≤ tlbL2Max then l else
  match (l.reverse).find? (fun e => !e.pinned) with
  | some v => l.filter (fun e => e != v)
  | none => l

/-- A translation loaded, in place of any that overlaps it. -/
def State.loadTlb (s : State) (e : Tlb) : State :=
  let rest := s.tlb.filter (fun x => !(x.index == e.index && decide (x.page < e.page + e.pages ∧ e.page < x.page + x.pages)))
  { s with tlb := trimL1 (trimL2 (e :: rest)) tlbL1Max }

/-- What an access through a translation needs. -/
inductive Access where
  | read | write | atomic
  deriving DecidableEq, Repr

/-- The access writes. -/
def Access.writes : Access → Bool
  | .read => false
  | _ => true

/-- ACCESS code of a miss record (R160). -/
def Access.code : Access → Nat
  | .read => 0 | .write => 1 | .atomic => 2

/-- The outcome of reaching a range: bus spans, a page that misses, a page that is not writable, a page that is not in
the persistence domain, or a translation fault. -/
inductive Reach where
  | ok (spans : List (Nat × Nat))
  | miss (page : Nat)
  | readOnly
  | notPm
  | fault
  deriving DecidableEq, Repr

/-- A page that misses goes to the key's handler; the Clerk's walk fails at once when the root pointer fails its tests
(R147, R148, R153). -/
def State.missPage (s : State) (k : Key) (page : Nat) : Reach :=
  if k.handler || s.tableClear k k.table then .miss page else .fault

/-- One page looked up (R152, R153, R140 steps 5 to 7). A hit moves the entry to the front and into the first level; a
write through an ASK translation with D = 0 is a miss. -/
def State.lookPage (s : State) (idx : Nat) (k : Key) (page : Nat) (acc : Access) (durable : Bool) : Reach × State :=
  if k.ask && decide (2 ^ 36 ≤ page) then (.fault, s) else
  match s.tlb.find? (fun e => e.holds idx page && !s.expired e) with
  | none =>
    if k.ask then (s.missPage k page, (s.count Event.l1Miss anyUnit 1).count Event.l2Miss anyUnit 1) else (.fault, s)
  | some e =>
    let s := if e.l1 then s else s.count Event.l1Miss anyUnit 1
    let s := { s with tlb := trimL1 ({ e with l1 := true } :: s.tlb.filter (fun x => x != e)) tlbL1Max }
    if acc.writes && !e.w then (.readOnly, s)
    else if durable && k.ask && !e.pm then (.notPm, s)
    else if acc.writes && k.ask && !e.d then (s.missPage k page, s)
    else (.ok [(e.base + (page - e.page) * 4096, 4096)], s)

/-- A range looked up page by page: the bus spans in address order (R140 steps 5 to 7). -/
def State.reach (s : State) (idx : Nat) (k : Key) (acc : Access) (durable : Bool) : Nat → Nat → Nat → Reach × State
  | 0, _, _ => (.ok [], s)
  | n + 1, va, len =>
    if len = 0 then (.ok [], s) else
    match s.lookPage idx k (va / 4096) acc durable with
    | (.ok ((b, _) :: _), s) =>
      let here := min len (4096 - va % 4096)
      match State.reach s idx k acc durable n (va + here) (len - here) with
      | (.ok l, s) => (.ok ((b + va % 4096, here) :: l), s)
      | r => r
    | (.ok [], s) => (.fault, s)
    | r => r

/-- A local or remote range of at most 4,096 bytes, or of a longer local buffer, under a key value. -/
def State.reachKey (s : State) (key va len : Nat) (acc : Access) (durable : Bool) : Reach × State :=
  match s.keyRaw key with
  | none => (.fault, s)
  | some k => s.reach (keyIndex key) k acc durable (len / 4096 + 2) va len

/-- The status of a failed local access (R139). -/
def Reach.localStatus : Reach → Nat
  | .ok _ => Status.ok
  | .readOnly => Status.protFault
  | _ => Status.translationFault

/-- The status of a failed remote access (R140 steps 5 to 7). -/
def Reach.remoteStatus : Reach → Nat
  | .ok _ => Status.ok
  | .readOnly => Status.remoteBounds
  | .notPm => Status.remoteBounds
  | _ => Status.translationFault

/-! ## Misses -/

/-- Index of a page at a level of the page table (level 4 is the root). -/
def tableIndex (page level : Nat) : Nat := page / 2 ^ (9 * (level - 1)) % 512

/-- The Clerk reads the entry of a level for a walk (R147, R149): the pointer has passed its tests. -/
def State.walkRead (s : State) (id : Nat) (m : Miss) (fn table level : Nat) : State :=
  let addr := table + tableIndex m.page level * 8
  let s := { s with misses := Tab.put s.misses id { m with level := level, leafAddr := addr } }
  s.hostRead fn 0 0 .clerk addr 8 (.walk id) none

/-- The image of a miss record but for PHASE (R160). -/
def missRecord (m : Miss) (key id : Nat) : Nat :=
  place 0x00 0 64 (m.page * 4096) + place 0x08 0 32 key + place 0x0C 0 16 id + place 0x0C 16 2 m.access +
  place 0x10 0 64 m.ts

/-- A held miss record is written when the miss ring has room, with a TLB_MISS event when none is outstanding
(R160 to R162). -/
def State.writeMiss (s : State) (fn id : Nat) : State :=
  match (s.fn fn).missq, Tab.look s.misses id with
  | some q, some m =>
    if m.recorded || decide (2 ^ q.missLog2 ≤ ringUsed q.missPi q.missCi) then s else
    match Tab.look s.keys m.key with
    | none => s
    | some k =>
      let img := missRecord m (Key.value k m.key) id + place 0x1C 31 1 (phaseOf q.missPi q.missLog2)
      let addr := q.missBase + q.missPi.toNat % 2 ^ q.missLog2 * 32
      let s := { s with misses := Tab.put s.misses id { m with recorded := true } }
      let s := s.setFn fn (fun f => { f with missq := some { q with missPi := q.missPi + 1, eventOut := true } })
      let s := s.request (queueUnit fn (.missRing fn) [] (.entry addr img))
      if q.eventOut then s else s.postEvent fn q.eq 0x10 q.handle q.handle [.missRing fn]
  | _, _ => s

/-- Every held miss of a function's host-side keys is written while the ring has room, oldest first (R161). -/
def State.writeMisses (s : State) (fn : Nat) : State :=
  (Tab.keys s.misses).foldl (fun s id =>
    match Tab.look s.misses id with
    | some m =>
      match Tab.look s.keys m.key with
      | some k => if k.handler && k.fn == fn then s.writeMiss fn id else s
      | none => s
    | none => s) s

/-- The next MISS_ID that is not in use (R160); 0xFFFF is never one (R163). -/
def State.freshMiss (s : State) : Nat := Tab.firstFree s.misses 65535 (s.missNum % 65535)

/-- A miss is raised for a page of a key, or an access joins the one that is unanswered (R158). A Clerk-walked key starts
its walk at the root table (R147); a host-handled one takes a miss record (R160). -/
def State.raiseMiss (s : State) (idx : Nat) (k : Key) (page : Nat) (acc : Access) (w : MissWaiter) : State :=
  match s.misses.find? (fun e => e.2.key == idx && e.2.page == page) with
  | some (id, m) =>
    { s with misses := Tab.put s.misses id { m with waiters := m.waiters ++ [w], access := max m.access acc.code } }
  | none =>
    let s := s.later
    let id := s.freshMiss
    let m : Miss := { key := idx, page := page, access := acc.code, raised := s.clock, limit := s.param 0x403002,
                      waiters := [w], level := 4, leaf := 0, leafAddr := 0, casTries := 0, casLimit := s.param 0x403003,
                      recorded := false, ts := s.shortTime }
    let s := { s with misses := Tab.put s.misses id m, missNum := s.missNum + 1 }
    if k.handler then s.writeMiss k.fn id else s.walkRead id m k.fn k.table 4

/-- The translation that a leaf loads for a key (R145, R152, R154). -/
def State.leafEntry (s : State) (idx page e : Nat) (d pinned : Bool) : Tlb :=
  let g := Pte.group e page
  { index := idx, page := g.1, pages := g.2.1, base := g.2.2, w := Pte.w e, pm := Pte.pm e, d := d, bell := s.ticks,
    pinned := pinned, l1 := !pinned }

/-- An access under a key is in progress on a host port: a unit that bids or a read that is outstanding (R143, R166). -/
def State.accessing (s : State) (p : Nat × Nat × Nat → Bool) : Bool :=
  let hit (a : Option (Nat × Nat × Nat)) : Bool := match a with | some x => p x | none => false
  s.pathA.any (fun u => hit u.acc) || s.pathB.any (fun u => hit u.acc) || s.reads.any (fun e => hit e.2.acc)

end Sys2Proof.Machine
end

