-- ==== Sys2Proof/Machine/Rings.lean ====
section
/-!
DEFINITION. Rings: changing a queue, and reading the entries of a ring (R89, R93, R94, R111).
-/
namespace Sys2Proof.Machine

/-- A queue pair changed. -/
def State.modQp (s : State) (qpn : Nat) (f : Qp → Qp) : State := { s with qps := Tab.mod s.qps qpn f }

/-- A send queue changed. -/
def State.modSq (s : State) (qpn : Nat) (f : Sq → Sq) : State := s.modQp qpn (fun q => { q with sq := f q.sq })

/-- A receive queue changed, where the queue pair has one. -/
def State.modRq (s : State) (qpn : Nat) (f : Rq → Rq) : State :=
  s.modQp qpn (fun q => { q with rq := q.rq.map f })

/-- A shared receive queue changed. -/
def State.modSrq (s : State) (key : Nat) (f : Srq → Srq) : State := { s with srqs := Tab.mod s.srqs key f }

/-- The source of a function's entry fetches. -/
def fetchSource (fn : Nat) : Source := .fetch fn

/-- A slot to be read lies before the announced PI (R85, R111); a PI behind what has been read announces nothing. -/
def announced (next pi : BitVec 16) (log2 : Nat) : Bool := decide (next ≠ pi ∧ (pi - next).toNat ≤ 2 ^ log2)

/-- Slots from an index to the announced PI, to the ring end and to 16 (R89, R111). -/
def fetchSlots (next pi : BitVec 16) (log2 : Nat) : Nat :=
  min 16 (min (pi - next).toNat (2 ^ log2 - next.toNat % 2 ^ log2))

/-- The read of the entry at an index of a ring. -/
def State.fetchEntry (s : State) (fn base log2 : Nat) (next pi : BitVec 16) (why : ReadFor) : State :=
  s.hostRead fn 1 0 (fetchSource fn) (base + next.toNat % 2 ^ log2 * 64) (fetchSlots next pi log2 * 64) why none

/-- The first entry of a run of slots that were read: its slots and whether it reaches beyond them (R93, R94). -/
def parseEntry (raw slotsRead ringLeft : Nat) : Nat × Bool :=
  if lengthBad raw ringLeft then (1, false) else (Ent.length raw, decide (slotsRead < Ent.length raw))

end Sys2Proof.Machine
end

