-- ==== Sys2Proof/Machine/AdminPath.lean ====
section
/-!
DEFINITION. The administrative path of a function (R114 to R118): reading a command, and completing the one in progress.
-/
namespace Sys2Proof.Machine

/-- Key of the administrative CQ of a function (handle 1, R82). -/
def admCqKey (fn : Nat) : Nat := qkey fn 1

/-- The administrative path may read a command (R116, R117, R77): enabled, not halted, none in progress or being read, in
SETUP or OPEN, the port UP, the function awake, and a completion can be reserved. -/
def State.fetchAdmin (s : State) (fn : Nat) : State :=
  let f := s.fn fn
  if f.admOn && !f.halted && !f.admStop && f.admCur.isNone && !f.admFetching && (s.life == .setup || s.life == .open_) &&
      s.awake fn && decide (f.admCi ≠ f.admPi) then
    match s.reserve fn 1 with
    | some s => (s.setFn fn (fun f => { f with admFetching := true })).fetchEntry fn (f.admSqBase * 4096) f.admSqLog2 f.admCi
        f.admPi (.admin fn)
    | none => s
  else s

/-- The administrative path is off: both indices go to 0 (R115). -/
def State.adminOff (s : State) (fn : Nat) : State :=
  { s.setFn fn (fun f => { f with admOn := false, admStop := false, admPi := 0, admCi := 0, admFetching := false, admCur := none })
    with cqs := Tab.del s.cqs (admCqKey fn), reads := s.reads.filter (fun r => r.2.for_ != .admin fn) }

/-- The command in progress completes (R117): its slots are free, and the next command is read. -/
def State.admDone (s : State) (fn status aux qpn : Nat) (after : List Source) : State :=
  match (s.fn fn).admCur with
  | none => s
  | some c =>
    let s := s.later
    let img := entryImage (Ent.wrId c.raw) s.shortTime 0 qpn status c.idx.toNat (Ent.opcode c.raw) 0 aux
    let s := s.setFn fn (fun f => { f with admCur := none, admCi := c.idx + BitVec.ofNat 16 c.slots })
    let s := s.writeCompletion fn 1 img false after
    if (s.fn fn).admStop then s.adminOff fn else s.fetchAdmin fn

/-- The command in progress completes OK with a return value in AUX[23:8] (R118). -/
def State.admOk (s : State) (fn ret : Nat) : State := s.admDone fn Status.ok (ret * 256) 0 []

/-- The command in progress completes ABORTED with a result code (R118). -/
def State.admAbort (s : State) (fn res : Nat) : State := s.admDone fn Status.aborted res 0 []

/-- The command in progress has been accepted and waits to complete. -/
def State.admWait (s : State) (fn : Nat) (mark : BitVec 16) : State :=
  s.setFn fn (fun f => { f with admCur := f.admCur.map (fun c => { c with waiting := true, mark := mark }) })

end Sys2Proof.Machine
end

