-- ==== Sys2Proof/Machine/Records.lean ====
section
/-!
DEFINITION. Contexts as keys and as records of the Storeroom (R172, R175, R178).
-/
namespace Sys2Proof.Machine

/-! ## Keys and kinds -/

/-- Context kind 1: Connected Transport (R178). -/
abbrev Kind.ct : Nat := 1
/-- Context kind 2: Shared Transport (R178). -/
abbrev Kind.st : Nat := 2
/-- Context kind 3: a tree edge (R289 and the text before R290). -/
abbrev Kind.edge : Nat := 3
/-- Context kind 4: the group messages of one ST queue pair, whose packets are unsequenced (R233, R315). -/
abbrev Kind.group : Nat := 4

/-- Key of the group messages of a queue pair. -/
def groupKey (qpn : Nat) : Nat := 2 ^ 26 + qpn

/-- Key of the edge context of a tree and a device (R311). -/
def edgeKey (tree dev : Nat) : Nat := 2 ^ 40 + tree * 2 ^ 18 + dev

/-- Source key of the landing of group messages of a device (R231): not a context. -/
def landingKey (dev : Nat) : Nat := 2 ^ 27 + dev

/-- The Stall that owns a context (R172). -/
def Ctx.stall (c : Ctx) (key : Nat) : Nat := if c.kind = Kind.st then c.peer % 16 else key % 16

/-- Key of the context of a queue pair that is CT. -/
def ctKey (qpn : Nat) : Nat := qpn

/-- Key of the ST context of a host port, peer device and traffic class (R172, R173). -/
def stKey (p : HPort) (peer tc : Nat) : Nat := 2 ^ 24 + portNum p * 2 ^ 19 + peer * 2 + tc

/-! ## The Storeroom -/

/-- The Storeroom base of a host port (R175). -/
def State.storeBase (s : State) (p : HPort) : Nat := s.openParam (0x501001 + portNum p * 256)

/-- Configured CT slots of a host port (R172). -/
def State.ctSlots (s : State) (p : HPort) : Nat := s.openParam (0x501002 + portNum p * 256)

/-- Address of the record of a context (R175). -/
def State.recordAddr (s : State) (key : Nat) (c : Ctx) : Nat :=
  s.storeBase c.port + (if c.kind = Kind.st then (c.peer * 2 + c.tc) * 512 else 2 ^ 28 + key % 2 ^ 23 * 512)

/-- SND_SACKED of a context record (R178). -/
def Ctx.sackedMap (c : Ctx) : Nat :=
  c.sent.foldl (fun n p => if p.sacked then n + 2 ^ (p.psn.toNat % 1024) else n) 0

/-- The opaque bytes of a record: free values (R178, notes/assumptions/3.md). -/
def opaqueBytes (key lo hi : Nat) : Nat :=
  (List.range (hi - lo)).foldl (fun n i => n + place (lo + i) 0 8 (Config.opaqueByte key (lo + i)).toNat) 0

/-- The 512-byte record of a context (R178). -/
def State.record (s : State) (key : Nat) (c : Ctx) : Nat :=
  let q := Tab.look s.qps key
  let st := c.kind == Kind.st
  let (qst, unl, pq) := match q with
    | some q => if st then (0, 0, 0) else (QpState.code q.state, q.unlimited.toNat, q.peerQpn)
    | none => (0, 0, 0)
  let nr := match c.msgs with
    | m :: _ => min m.notReady 255
    | [] => 0
  place 0x000 0 2 c.kind + place 0x000 2 2 qst + place 0x000 4 1 c.tc + place 0x000 5 1 unl + place 0x004 0 18 c.peer +
  place 0x008 0 24 pq + place 0x00C 0 32 (if st then c.inc.toNat else 0) + place 0x010 0 32 c.sndNxt.toNat +
  place 0x014 0 32 c.sndUna.toNat + place 0x018 0 32 c.cwnd + place 0x01C 0 8 c.retry + place 0x01C 8 8 nr +
  place 0x020 0 32 c.rcvNxt.toNat + place 0x024 0 32 (if st then c.rcvInc.toNat else 0) + opaqueBytes key 0x028 0x080 +
  place 0x080 0 1024 (Ctx.sackedMap c) + place 0x100 0 1024 c.rcvMap.toNat + opaqueBytes key 0x180 0x1F8 +
  place 0x1F8 0 64 s.bell

end Sys2Proof.Machine
end

