-- ==== Sys2Proof/Machine/Queue.lean ====
section
/-!
DEFINITION. The queue engine (03_queues.md): fetching entries, parsing them, reservations, completions in ring order, the
flush of a queue pair in ERROR, and the receive pools.
-/
namespace Sys2Proof.Machine

/-! ## Send queues: completion in ring order -/

/-- The image of a work entry's completion (R95). -/
def wqeCompletion (qpn : Nat) (w : Wqe) : Nat :=
  entryImage (Ent.wrId w.raw) w.ts w.bytes qpn w.status w.idx.toNat (Ent.opcode w.raw) 0 w.aux

/-- The entry at the head of the queue is retired once it is done (R98): with a completion when it failed or has SIGNAL,
which frees its slots (R87); silently otherwise. -/
def State.retireHead (s : State) (qpn : Nat) (q : Qp) (w : Wqe) : State :=
  let rest := q.sq.ents.drop 1
  if w.reserved = false then s.modSq qpn (fun x => { x with ents := rest })
  else if w.status = Status.ok ∧ Ent.signal w.raw = 0 then
    (s.modSq qpn (fun x => { x with ents := rest })).unreserve q.fn q.cq
  else
    (s.modSq qpn (fun x => { x with ents := rest, ci := w.idx + BitVec.ofNat 16 w.slots })).writeCompletion q.fn q.cq
      (wqeCompletion qpn w) false w.after

/-- Every entry that is done and has no earlier entry before it is retired (R98). -/
def State.retireSq (s : State) (qpn : Nat) : Nat → State
  | 0 => s
  | n + 1 =>
    match Tab.look s.qps qpn with
    | none => s
    | some q =>
      match q.sq.ents with
      | [] => s
      | w :: _ => if w.stage = .done then State.retireSq (s.retireHead qpn q w) qpn n else s

/-- An entry done with what its completion carries. -/
def Wqe.finish (w : Wqe) (status bytes aux ts : Nat) (after : List Source) : Wqe :=
  { w with stage := .done, status := status, bytes := bytes, aux := aux, ts := ts, after := after }

/-- The first entry of a send queue that is not started (R98, R237). -/
def Sq.firstWaiting (q : Sq) : Option Wqe := q.ents.find? (fun w => w.stage == .fetched || w.stage == .waitTime)

/-- Index of the first announced slot that is not started; the next slot to fetch where every entry read is (R380). -/
def Sq.unstarted (q : Sq) : BitVec 16 :=
  match q.firstWaiting with
  | some w => w.idx
  | none => q.next

/-- Likewise of a receive queue: no message has taken it (R380). -/
def Rq.unstarted (q : Rq) : BitVec 16 :=
  match q.pool with
  | e :: _ => e.1
  | [] => q.next

/-- An entry of a send queue changed, by its index. -/
def Sq.modEnt (q : Sq) (idx : BitVec 16) (f : Wqe → Wqe) : Sq :=
  { q with ents := q.ents.map (fun w => if w.idx = idx then f w else w) }

/-- The first unstarted entry reserves its completion (R99), or its queue waits for one (R100). -/
def State.reserveFor (s : State) (qpn : Nat) (q : Qp) (w : Wqe) : State :=
  match s.reserve q.fn q.cq with
  | some s => s.modSq qpn (fun x => Sq.modEnt x w.idx (fun w => { w with reserved := true }))
  | none =>
    if q.sq.waiting then s else
    let s := s.modSq qpn (fun x => { x with waiting := true })
    { s with cqs := Tab.mod s.cqs (qkey q.fn q.cq) (fun c => { c with waiters := c.waiters ++ [.sq qpn] }) }

/-- The queue pair that a command names in OPCODE_ARG with bit 31 set (R118). -/
def Cmd.qpn (r : Nat) : Option Nat := if bits r 4 31 1 = 1 then some (bits r 4 0 24) else none

/-- An index lies before a mark in a ring of 2^`log2` slots. -/
def beforeMark (idx mark : BitVec 16) (log2 : Nat) : Bool :=
  decide (idx ≠ mark ∧ (mark - idx).toNat ≤ 2 ^ log2)

/-- The mark of the QUEUE_ABORT that runs on a queue pair (R122). -/
def State.abortMark (s : State) (qpn : Nat) (q : Qp) : Option (BitVec 16) :=
  match (s.fn q.fn).admCur with
  | some c => if c.waiting ∧ Ent.opcode c.raw = 0x0C ∧ Cmd.qpn c.raw = some qpn then some c.mark else none
  | none => none

/-- A QUEUE_ABORT completes the entry: it lies before the mark of the command. -/
def State.aborting (s : State) (qpn : Nat) (q : Qp) (w : Wqe) : Bool :=
  match s.abortMark qpn q with
  | some m => beforeMark w.idx m q.sq.log2
  | none => false

/-- A QUEUE_ABORT counts an entry that it completed ABORTED (R122). -/
def State.countAbort (s : State) (fn : Nat) : State :=
  s.setFn fn (fun f => { f with admCur := f.admCur.map (fun c => { c with aux := c.aux + 1 }) })

/-- The unstarted entries that need no start are settled in ring order: a PAD is skipped (R90), a malformed entry
completes MALFORMED (R92), an entry that a QUEUE_ABORT meets completes ABORTED (R122), an entry of a queue pair in ERROR
completes FLUSHED (R110), while the port is FROZEN only on release (R71); the first entry that can be started reserves its
completion. -/
def State.settleSq (s : State) (qpn : Nat) : Nat → State
  | 0 => s
  | n + 1 =>
    match Tab.look s.qps qpn with
    | none => s
    | some q =>
      match q.sq.firstWaiting with
      | none => s
      | some w =>
        if isPad w.raw then
          State.settleSq (s.modSq qpn (fun x => Sq.modEnt x w.idx (fun w => { w with stage := .done }))) qpn n
        else if w.reserved then
          if q.state = .error ∧ (s.port (fnPort q.fn)).state = .frozen then s
          else if q.state = .error then
            State.settleSq (s.modSq qpn (fun x => Sq.modEnt x w.idx
              (fun w => Wqe.finish w (if w.status = 0 then Status.flushed else w.status) 0 0 s.shortTime []))) qpn n
          else if s.aborting qpn q w then
            State.settleSq ((s.modSq qpn (fun x => Sq.modEnt x w.idx
              (fun w => Wqe.finish w Status.aborted 0 0 s.shortTime []))).countAbort q.fn) qpn n
          else if w.stage = .fetched ∧ (lengthBad w.raw 16 = true ∨ w.slots ≠ Ent.length w.raw ∨
              sqMalformed w.raw q.st = true) then
            State.settleSq (s.modSq qpn (fun x => Sq.modEnt x w.idx
              (fun w => Wqe.finish w Status.malformed 0 0 s.shortTime []))) qpn n
          else s
        else
          let s' := s.reserveFor qpn q w
          match Tab.look s'.qps qpn with
          | some q' => if q'.sq.waiting then s' else State.settleSq s' qpn n
          | none => s'

/-- The part reads the next announced entry of a send queue (R111): the port issues requests, the function is awake, no
read of the queue is outstanding, no RECALL holds it, it waits for no reservation, and at most `3020:01` entries beyond
the one to start have been read. A queue pair in ERROR reads on to complete its entries FLUSHED (R110). -/
def State.fetchSq (s : State) (qpn : Nat) : State :=
  match Tab.look s.qps qpn with
  | none => s
  | some q =>
    let unstarted := countP (fun w => w.stage == .fetched || w.stage == .waitTime) q.sq.ents
    let ready := q.state == .error || (q.state == .ready && s.portUp (fnPort q.fn) && s.life == .open_)
    if ready && s.portOpen (fnPort q.fn) && !s.asleep q.fn && !q.sq.fetching && !q.sq.recalled && !q.sq.waiting &&
        !q.sq.short && announced q.sq.next q.sq.pi q.sq.log2 && decide (unstarted ≤ s.param 0x302001) then
      (s.modSq qpn (fun x => { x with fetching := true })).fetchEntry q.fn q.sq.base q.sq.log2 q.sq.next q.sq.pi (.sq qpn)
    else s

/-! ## Receive queues of a queue pair -/

/-- The image of a receive entry's completion (R95): CQ_FLAGS[0] for an SRQ, [1] for a solicited message. -/
def recvCompletion (qpn : Nat) (idx : BitVec 16) (raw status bytes ts : Nat) (fromSrq solicited : Bool) : Nat :=
  entryImage (Ent.wrId raw) ts bytes qpn status idx.toNat (Ent.opcode raw) (fromSrq.toNat + 2 * solicited.toNat) 0

/-- Receive entries that are done are completed in ring order (R98). -/
def State.retireRq (s : State) (qpn : Nat) : Nat → State
  | 0 => s
  | n + 1 =>
    match Tab.look s.qps qpn with
    | none => s
    | some q =>
      match q.rq with
      | none => s
      | some r =>
        match r.bound with
        | [] => s
        | b :: bs =>
          match b.done with
          | none => s
          | some (status, bytes, ts, sol) =>
            let s := s.modRq qpn (fun x => { x with bound := bs, ci := b.idx + BitVec.ofNat 16 b.slots })
            State.retireRq (s.writeCompletion q.fn q.rqCq (recvCompletion qpn b.idx b.raw status bytes ts false sol) sol
              b.after) qpn n

/-- The head of a receive pool is settled: a PAD is skipped, and a malformed entry completes MALFORMED once the CQ has
room; in ERROR every entry completes FLUSHED. -/
def State.settleRq (s : State) (qpn : Nat) : Nat → State
  | 0 => s
  | n + 1 =>
    match Tab.look s.qps qpn with
    | none => s
    | some q =>
      match q.rq with
      | none => s
      | some r =>
        match r.pool with
        | [] => s
        | (idx, raw) :: rest =>
          if isPad raw then State.settleRq (s.modRq qpn (fun x => { x with pool := rest })) qpn n
          else if (recvOk raw && q.state != .error) || (s.port (fnPort q.fn)).state == .frozen then s
          else
            match s.reserve q.fn q.rqCq with
            | none => s
            | some s =>
              let st := if q.state = .error then Status.flushed else Status.malformed
              let slots := if lengthBad raw 16 then 1 else Ent.length raw
              State.settleRq (s.modRq qpn (fun x => { x with pool := rest, bound := x.bound ++
                [{ idx := idx, raw := raw, slots := slots, done := some (st, 0, s.shortTime, false), after := [] }] })) qpn n

/-- The part keeps at least one announced entry of a receive queue read, and at most `3020:01` + 1 (R592). -/
def State.fetchRq (s : State) (qpn : Nat) : State :=
  match Tab.look s.qps qpn with
  | none => s
  | some q =>
    match q.rq with
    | none => s
    | some r =>
      let ready := q.state == .error || (q.state == .ready && s.portUp (fnPort q.fn) && s.life == .open_)
      if ready && s.portOpen (fnPort q.fn) && !s.asleep q.fn && !r.fetching && !r.recalled && !r.short &&
          announced r.next r.pi r.log2 && decide (r.pool.length ≤ s.param 0x302001) then
        (s.modRq qpn (fun x => { x with fetching := true })).fetchEntry q.fn r.base r.log2 r.next r.pi (.rq qpn)
      else s

/-! ## A queue pair as a whole -/

/-- The last outstanding entry of a queue pair in ERROR has completed: it goes to FLUSHED (R202). An entry whose last slots
are not announced (R94) is not outstanding. -/
def State.flushDone (s : State) (qpn : Nat) : State :=
  match Tab.look s.qps qpn with
  | none => s
  | some q =>
    let sqDone := q.sq.ents.isEmpty && (q.sq.short || decide (q.sq.next = q.sq.pi))
    let rqDone := match q.rq with
      | none => true
      | some r => r.pool.isEmpty && r.bound.isEmpty && (r.short || decide (r.next = r.pi))
    if q.state = .error ∧ sqDone = true ∧ rqDone = true then s.modQp qpn (fun q => { q with state := .flushed }) else s

/-- A queue pair is destroyed (R119): it goes, with its context. The record of a context that is stored is marked free by
writing KIND = 0 (R180). -/
def State.destroyQp (s : State) (qpn : Nat) (q : Qp) : State :=
  let key := ctKey qpn
  let s := match Tab.look s.ctxs key with
    | some c =>
      if !q.st && decide (c.res = Residency.stored) && s.storeBase c.port != 0 then
        let img := s.record key c % 2 ^ 32
        s.hostWrite (portPf c.port) (stallClass c.tc) (Ctx.stall c key) (.stall key) (s.recordAddr key c)
          (leBytes 4 (img - img % 4)) false none
      else s
    | none => s
  let ctxs := Tab.del (if q.st then s.ctxs else Tab.del s.ctxs key) (groupKey qpn)
  let landing := if q.st then s.landing else s.landing.filter (fun l => l.ctx != key)
  { s with qps := Tab.del s.qps qpn, ctxs := ctxs, landing := landing, parked := s.parked.filter (fun x => x.2 != qpn) }

/-- Every entry of a send queue before a mark has completed and left it (R122). -/
def Sq.cleared (q : Sq) (mark : BitVec 16) : Bool :=
  (q.short || !beforeMark q.next mark q.log2) && !q.ents.any (fun w => beforeMark w.idx mark q.log2)

/-- The command of the queue pair's function that waits on it completes once its queue has done what it waits for (R113,
R119, R122). -/
def State.queueCommand (s : State) (qpn : Nat) : State :=
  match Tab.look s.qps qpn with
  | none => s
  | some q =>
    match (s.fn q.fn).admCur with
    | none => s
    | some c =>
      if c.waiting ∧ Cmd.qpn c.raw = some qpn then
        let rest := q.state == .flushed || q.state == .idle
        match Ent.opcode c.raw with
        | 0x08 => if rest then (s.destroyQp qpn q).admDone q.fn Status.ok 0 0 [] else s
        | 0x0B =>
          if !rest then s
          else if bits c.raw 4 30 1 = 0 then
            (s.modSq qpn (fun x => { x with recalled := true })).admDone q.fn Status.ok q.sq.pi.toNat 0 []
          else
            match q.rq with
            | some r => (s.modRq qpn (fun x => { x with recalled := true })).admDone q.fn Status.ok r.pi.toNat 0 []
            | none => s
        | 0x0C =>
          if q.sq.cleared c.mark then
            let s := if q.sq.short then s else s.modSq qpn (fun x => { x with ci := c.mark })
            s.admDone q.fn Status.ok (c.aux % 65536 * 256) 0 []
          else s
        | _ => s
      else s

/-- The queue engine takes a queue pair as far as it goes without a start: settled, retired, fetched. -/
def State.advanceQp (s : State) (qpn : Nat) : State :=
  match Tab.look s.qps qpn with
  | none => s
  | some q =>
    let n := q.sq.ents.length + 1
    let m := match q.rq with
      | some r => r.pool.length + r.bound.length + 1
      | none => 0
    let s := (s.settleSq qpn (2 * n)).retireSq qpn n
    let s := (s.settleRq qpn m).retireRq qpn m
    (((s.fetchSq qpn).fetchRq qpn).flushDone qpn).queueCommand qpn

/-- A started entry is done (R98): it completes with a status once every earlier entry of its queue has. An entry that
has completed already is left as it is (R241). -/
def State.finishWqe (s : State) (qpn : Nat) (idx : BitVec 16) (status bytes aux : Nat) (after : List Source) : State :=
  let s := s.later
  let ts := s.shortTime
  (s.modSq qpn (fun x => Sq.modEnt x idx
    (fun w => if w.stage = .done then w else Wqe.finish w status bytes aux ts after))).advanceQp qpn

/-- A bound receive entry of a queue pair is done (R98, R215). -/
def State.finishRecv (s : State) (qpn : Nat) (idx : BitVec 16) (status bytes : Nat) (solicited : Bool)
    (after : List Source) : State :=
  let s := s.later
  let ts := s.shortTime
  (s.modRq qpn (fun r => { r with bound := r.bound.map (fun b =>
    if b.idx = idx ∧ b.done = none then { b with done := some (status, bytes, ts, solicited), after := after } else b) })
    ).advanceQp qpn

/-- The entries in progress of a queue pair complete with a cause (R595): started entries, and receive entries bound to
messages that are not complete. -/
def Qp.failStarted (q : Qp) (cause ts : Nat) : Qp :=
  { q with sq := { q.sq with ents := q.sq.ents.map (fun w =>
             if w.stage = .started then Wqe.finish w cause 0 0 ts [] else w) },
           rq := q.rq.map (fun r => { r with bound := r.bound.map (fun b =>
             if b.done = none then { b with done := some (cause, 0, ts, false) } else b) }) }

/-- The messages of an ST queue pair that its context has been handed lose their owner; what of them is not sent goes
out poisoned and empty, and what is not begun is not sent (R44, R595). -/
def disown (qpn : Nat) (l : List TxMsg) (begun : TxMsg → Bool) : List TxMsg :=
  (l.filter (fun m => match m.owner with
    | some (q, _) => q != qpn || begun m
    | none => true)).map (fun m => match m.owner with
    | some (q, _) => if q = qpn then { m with owner := none, poisonRest := true, src := none, todo := [] } else m
    | none => m)

/-- A message on the send side has had a packet sent. -/
def Ctx.begun (c : Ctx) (m : TxMsg) : Bool := c.sent.any (fun p => p.id == m.id) || m.acked != 0 || m.firstAt.isSome

/-- A receive entry taken from an SRQ is done: its completion goes to the SRQ's CQ, in the order in which messages
complete (R98, R591). -/
def State.finishSrq (s : State) (key qpn : Nat) (idx : BitVec 16) (raw status bytes : Nat) (solicited : Bool)
    (after : List Source) : State :=
  match Tab.look s.srqs key with
  | none => s
  | some q =>
    let s := s.later
    (s.modSrq key (fun q => { q with inUse := q.inUse - 1 })).writeCompletion (key / 65536) q.cq
      (recvCompletion qpn idx raw status bytes s.shortTime true solicited) solicited after

/-- The receive entries of an SRQ that messages of a context hold complete with a status (R199, R595). -/
def State.failSrqRecvs (s : State) (l : List RxMsg) (qpn status : Nat) : State :=
  l.foldl (fun s m =>
    match m.dest, m.failed with
    | .srq key idx raw, none => s.finishSrq key qpn idx raw status m.written m.solicited []
    | _, _ => s) s

/-- A queue pair enters ERROR (R202, R595): QP_ERROR is raised, entries in progress complete with the cause, the rest is
flushed, and its messages are withdrawn from its context (CT) or disowned on it (ST). -/
def State.qpError (s : State) (qpn cause : Nat) : State :=
  match Tab.look s.qps qpn with
  | none => s
  | some q =>
    if q.state ≠ .ready then s else
    let s := s.later
    let ts := s.shortTime
    let s := s.modQp qpn (fun q => { Qp.failStarted q cause ts with state := .error, cause := cause })
    let s := if q.st then { s with ctxs := Tab.map s.ctxs (fun _ c =>
          { c with msgs := (disown qpn c.msgs (Ctx.begun c)).filter (fun m => c.kind != 4 || m.owner.isSome) }) }
      else
        let s := match Tab.look s.ctxs (ctKey qpn) with
          | some c => s.failSrqRecvs c.rx qpn cause
          | none => s
        { s with ctxs := Tab.mod s.ctxs (ctKey qpn) (fun c =>
            { c with sent := [], msgs := [], rx := [], timer := none, sndUna := c.sndNxt }) }
    let s := match q.eventEq with
      | some e => s.postEvent q.fn e 0x02 qpn qpn []
      | none => s
    s.advanceQp qpn

/-! ## Entries that have been read -/

/-- The work entry at the head of what was read of a send queue is taken in (R89 to R94, R111). -/
def State.takeSqEntry (s : State) (qpn : Nat) (data : Bytes) : State :=
  match Tab.look s.qps qpn with
  | none => s
  | some q =>
    let raw := leNat data
    let left := 2 ^ q.sq.log2 - q.sq.next.toNat % 2 ^ q.sq.log2
    let (slots, short) := parseEntry raw (data.length / 64) left
    if short then s.modSq qpn (fun x => { x with fetching := false, short := true })
    else
      let w : Wqe := { idx := q.sq.next, slots := slots, raw := raw % 2 ^ (512 * slots), stage := .fetched,
                       reserved := false, status := 0, bytes := 0, aux := 0, ts := 0, after := [] }
      (s.modSq qpn (fun x => { x with fetching := false, next := x.next + BitVec.ofNat 16 slots, ents := x.ents ++ [w] })
        ).advanceQp qpn

/-- An entry whose fetch failed (R67, R589): its content is not known, and the queue pair goes to ERROR with a status
that the entry completes with. WR_ID and OPCODE are free values. -/
def State.failSqFetch (s : State) (qpn status : Nat) : State :=
  match Tab.look s.qps qpn with
  | none => s
  | some q =>
    let (wr, s) := s.draw (2 ^ 64)
    let (opc, s) := s.draw 256
    let st := if q.state = .error then Status.flushed else status
    let w : Wqe := { idx := q.sq.next, slots := 1, raw := 1 + place 0 8 8 opc + place 8 0 64 wr, stage := .started, reserved := false,
                     status := st, bytes := 0, aux := 0, ts := 0, after := [] }
    let s := s.modSq qpn (fun x => { x with fetching := false, next := x.next + 1, ents := x.ents ++ [w] })
    let s := match s.reserve q.fn q.cq with
      | some s => s.modSq qpn (fun x => Sq.modEnt x w.idx (fun w => { w with reserved := true }))
      | none => s.modSq qpn (fun x => Sq.modEnt x w.idx (fun w => { w with stage := .fetched }))
    let s := s.qpError qpn st
    (s.modSq qpn (fun x => Sq.modEnt x w.idx (fun w => { w with status := st }))).advanceQp qpn

/-- The receive entry that was read is taken into the pool of its queue (R592, R598). -/
def State.takeRqEntry (s : State) (qpn : Nat) (data : Bytes) : State :=
  match Tab.look s.qps qpn with
  | some q =>
    match q.rq with
    | some r =>
      let raw := leNat data
      let left := 2 ^ r.log2 - r.next.toNat % 2 ^ r.log2
      let (slots, short) := parseEntry raw (data.length / 64) left
      if short then s.modRq qpn (fun x => { x with fetching := false, short := true })
      else
        (s.modRq qpn (fun x => { x with fetching := false, next := x.next + BitVec.ofNat 16 slots,
                                        pool := x.pool ++ [(x.next, raw % 2 ^ (512 * slots))] })).advanceQp qpn
    | none => s
  | none => s

/-- A receive entry whose fetch failed (R67, R589): the queue pair goes to ERROR with the status that the entry completes
with; where its CQ has no room it completes with the flush. WR_ID and OPCODE are free values. -/
def State.failRqFetch (s : State) (qpn status : Nat) : State :=
  let (wr, s) := s.draw (2 ^ 64)
  let (opc, s) := s.draw 256
  let s := s.modRq qpn (fun x => { x with fetching := false, next := x.next + 1 })
  match Tab.look s.qps qpn with
  | some q =>
    match q.rq, s.reserve q.fn q.rqCq with
    | some r, some s' =>
      let st := if q.state = .error then Status.flushed else status
      ((s'.modRq qpn (fun x => { x with bound := x.bound ++
        [{ idx := r.next - 1, raw := 1 + place 0 8 8 opc + place 8 0 64 wr, slots := 1,
           done := some (st, 0, s'.shortTime, false), after := [] }] })).qpError qpn st).advanceQp qpn
    | some r, none =>
      ((s.modRq qpn (fun x => { x with pool := x.pool ++ [(r.next - 1, 1 + place 0 8 8 opc + place 8 0 64 wr)] })).qpError qpn
        status).advanceQp qpn
    | none, _ => s
  | none => s

/-! ## Shared receive queues -/

/-- Announced entries of an SRQ not yet read (R120). -/
def Srq.unread (q : Srq) : Nat := ringUsed q.pi q.ci

/-- SRQ_LOW is raised when the unread entries fall below the limit, once until they have risen to it again (R120). -/
def State.srqLow (s : State) (key : Nat) : State :=
  match Tab.look s.srqs key with
  | none => s
  | some q =>
    if q.lowLimit ≤ q.unread then s.modSrq key (fun q => { q with lowArmed := true })
    else if q.lowArmed then
      let s := s.modSrq key (fun q => { q with lowArmed := false })
      match q.eventEq with
      | some e => s.postEvent (key / 65536) e 0x03 (key % 65536) (key % 65536) []
      | none => s
    else s

/-- The part reads the next announced entry of an SRQ into its receive pool (R88, R592). Nothing is read while a post
waits for its reservation (R269). -/
def State.fetchSrq (s : State) (key : Nat) : State :=
  match Tab.look s.srqs key with
  | none => s
  | some q =>
    let fn := key / 65536
    if s.portUp (fnPort fn) && s.life == .open_ && !s.asleep fn && !q.fetching && !q.short && q.postHeld.isNone &&
        decide (q.ci ≠ q.pi) && decide (q.pool.length ≤ s.param 0x302001) then
      (s.modSrq key (fun x => { x with fetching := true })).fetchEntry fn q.base q.log2 q.ci q.pi (.srq key)
    else s

end Sys2Proof.Machine
end

