-- ==== Sys2Proof/Machine/Inject.lean ====
section
/-!
DEFINITION. Token buckets (R370, R371, R373), the injection shapers, and the entry of the part's own packets into the
Arcade (R372, 09_fabric_packets.md).
-/
namespace Sys2Proof.Machine

/-! ## Buckets -/

/-- Number of the bucket of an output port and class (class 4: the port as a whole). R370. -/
def portBucket (port cls : Nat) : Nat := port * 8 + cls

/-- Number of the bucket of an injection shaper (R372). -/
def injectBucket (fn tc : Nat) : Nat := 1024 + fn * 2 + tc

/-- Number of a bucket of a function meter: `peak` 1 for P, 0 for C (R374). -/
def fnMeterBucket (fn tc peak : Nat) : Nat := 2048 + fn * 4 + tc * 2 + peak

/-- Number of a bucket of a port meter (R375). -/
def portMeterBucket (port tc peak : Nat) : Nat := 4096 + port * 4 + tc * 2 + peak

/-- The level of a bucket in 1/256 byte; one that has never been drawn on is full (R373). -/
def State.bucketLevel (s : State) (id burst : Nat) : Int :=
  match Tab.look s.buckets id with
  | some b => b.level
  | none => (burst * 256 : Nat)

/-- A charge is subtracted from a bucket (R370). -/
def State.drawBucket (s : State) (id rate burst : Nat) (charge : Int) : State :=
  let b := Tab.getD s.buckets id { level := (burst * 256 : Nat), refills := 0, rate := rate }
  { s with buckets := Tab.put s.buckets id { b with level := b.level - charge * 256 } }

/-- What `n` refills at a rate in Mb/s have added in all, in 1/256 byte (R371). -/
def refillTotal (n rate : Nat) : Nat := n * rate * 125000 / 4096

/-- One refill of a bucket, clipped to its burst (R371). -/
def Bucket.refill (b : Bucket) (burst : Nat) : Bucket :=
  { b with level := min (b.level + (refillTotal (b.refills + 1) b.rate - refillTotal b.refills b.rate : Nat)) (burst * 256 : Nat),
           refills := b.refills + 1 }

/-! ## Injection -/

/-- The injection shaper of a function and class: rate, burst, overhead (R372, `9200+f`). -/
def State.injectShaper (s : State) (fn tc : Nat) : Nat × Nat × Int :=
  let i := (0x9200 + fn) * 256
  (s.param (i + 1 + tc), s.param (i + 3 + tc), toSigned 64 (s.param (i + 5)))

/-- An injection shaper covers a packet: TC0 or TC1, not a SACK (R372). -/
def shapedPacket (p : Packet) : Bool := p.tc ≤ 1 && p.ptype != 0x30

/-- Two packets of one function belong to one context (R372). -/
def sameFlow (p q : Packet) : Bool :=
  p.srcFn == q.srcFn && p.tc == q.tc && p.st == q.st && (if p.st then p.destDev == q.destDev else p.inc == q.inc)

/-- The Stall that sends a packet (R172). -/
def sendStall (p : Packet) : Nat := if p.st then p.destDev % 16 else p.flow % 16

/-- Types that a Stall sends. -/
def stallType (t : Nat) : Bool := t < 0x20

/-- A tree notes the bell of a packet sent on an edge (R304). -/
def Tree.touch (t : Tree) (dev tick : Nat) : Tree :=
  { t with edges := Tab.mod t.edges dev (fun (e : Edge) => { e with tx := tick }) }

/-- A packet of a tree edge keeps the edge from needing a heartbeat (R304): its bell is noted. -/
def State.touchEdge (s : State) (p : Packet) : State :=
  if p.tc = 2 ∧ p.mode = 2 ∧ p.ptype ≠ 7 ∧ p.ptype ≠ 8 then
    { s with trees := Tab.mod s.trees p.flow (fun (t : Tree) => t.touch p.destDev s.ticks) }
  else s

/-- A packet of this device enters the crossbar at the injection side (input 64): its TIMESTAMP and CRC are set for this
transmission (R312, R321). -/
def State.enterArcade (s : State) (p : Packet) : State :=
  let s := s.later
  let p := Packet.sealed { p with ts := s.shortTime }
  let i : InPkt := { inp := 64, vc := p.tc * 4 + p.esc, pool := 0, cells := 0, pkt := p, routed := false, outs := [],
                     clock := s.clock, tick := s.ticks, losses := 0, orig := p, leaving := [], id := s.pktNum, avail := Packet.bytes p,
                     bank := s.param 0x812001 }
  let s := { s with inputs := s.inputs ++ [i], pktNum := s.pktNum + 1 }
  if stallType p.ptype then s.count Event.pktSent (sendStall p) 1 else s.touchEdge p

/-- The shaper of a packet's function lets it start: unshaped, or at or above 0 (R370). -/
def State.shaperOpen (s : State) (p : Packet) : Bool :=
  let (rate, burst, _) := s.injectShaper p.srcFn p.tc
  rate == 0 || decide (0 ≤ s.bucketLevel (injectBucket p.srcFn p.tc) burst)

/-- A packet starts, and its charge is taken from the shaper (R370, R372). -/
def State.startPacket (s : State) (p : Packet) : State :=
  let (rate, burst, overhead) := s.injectShaper p.srcFn p.tc
  let s := if shapedPacket p && rate != 0 then
      s.drawBucket (injectBucket p.srcFn p.tc) rate burst ((Packet.bytes p : Int) + overhead)
    else s
  s.enterArcade p

/-- The part sends a packet: at once, or held at the Stall behind its shaper and earlier packets of its context (R372). -/
def State.sendPacket (s : State) (p : Packet) : State :=
  if shapedPacket p && (!s.shaperOpen p || s.shaped.any (sameFlow p)) then { s with shaped := s.shaped ++ [p] }
  else s.startPacket p

/-- Held packets start in order while their shapers let them; a packet that stays holds back later packets of its own
context (R372). -/
def State.releaseShaped (s : State) : List Packet → List Packet → State
  | [], kept => { s with shaped := kept }
  | p :: ps, kept =>
    if s.shaperOpen p && !kept.any (sameFlow p) then State.releaseShaped (s.startPacket p) ps kept
    else State.releaseShaped s ps (kept ++ [p])

/-! ## What every packet of this device carries -/

/-- This device's ID (R310). -/
def State.deviceId (s : State) : Nat := s.openParam 0x101001

/-- The tenant tag of a function (R171): `4010+p`, subindex the function's number on its port plus 1. -/
def State.tenantOf (s : State) (fn : Nat) : Nat := s.param ((0x4010 + portNum (fnPort fn)) * 256 + fn % 128 + 1)

/-- ROUTE_MODE of the unicast types of a class (R338, `8030`). -/
def State.routeMode (s : State) (tc : Nat) : Nat := if tc = 1 then s.param 0x803002 else s.param 0x803001

end Sys2Proof.Machine
end

