-- ==== Sys2Proof/Machine/Context.lean ====
section
/-!
DEFINITION. Reliability contexts (R172 to R185): their keys, their owning Stall, their places on the Shelf, spill and
fetch, and the waiting benches.
-/
namespace Sys2Proof.Machine

/-! ## Contexts -/

/-- A fresh context (R173, R193, R202): the window is `5030:01` packets. -/
def State.freshCtx (s : State) (kind : Nat) (port : HPort) (peer tc : Nat) : Ctx :=
  { kind := kind, port := port, peer := peer, tc := tc, res := .resident, slot := false, used := s.ticks, inc := 0,
    sndNxt := 0, sndUna := 0, cwnd := s.param 0x503001 * 256, retry := 0, rcvNxt := 0, rcvInc := 0, rcvOld := [],
    rcvFresh := true, rcvMap := 0, sent := [], msgs := [], rx := [], nextNum := 0, timer := none, unackedRx := 0, ce := 0,
    cutAt := none, confirmed := none, ackTo := none, lastAddr := none, noPath := none }

/-- A context changed. -/
def State.modCtx (s : State) (key : Nat) (f : Ctx → Ctx) : State := { s with ctxs := Tab.mod s.ctxs key f }

/-- A 32-bit incarnation that differs from the one before it: a free value (R198, notes/assumptions/3.md). -/
def State.drawInc (s : State) (old : BitVec 32) : BitVec 32 × State :=
  let (v, s) := s.draw (2 ^ 32 - 1)
  (old + 1 + BitVec.ofNat 32 v, s)

/-! ## The Shelf -/

/-- Contexts of a kind that one Stall's share of the Shelf holds (R172). -/
def shelfShare (kind : Nat) : Nat := if kind = Kind.st then 2048 else 4096

/-- Contexts of a kind that hold a slot in a Stall's share. -/
def State.shelfUsed (s : State) (kind stall : Nat) : Nat :=
  countP (fun e => e.2.kind == kind && Ctx.stall e.2 e.1 == stall && e.2.slot) s.ctxs

/-- A Stall's share for a kind of context has no free slot (R179). -/
def State.shelfFull (s : State) (kind stall : Nat) : Bool := decide (shelfShare kind ≤ s.shelfUsed kind stall)

/-- A packet for a context stands on a bench. -/
def State.benched (s : State) (key : Nat) : Bool :=
  s.bench.any (fun b => match b.2.2 with
    | .context k => k == key
    | .order k => k == key
    | .miss _ => false)

/-- A started entry of a CT queue pair has not completed. -/
def State.ctBusy (s : State) (key : Nat) : Bool :=
  match Tab.look s.qps key with
  | some q => q.sq.ents.any (fun w => w.stage == .started)
  | none => false

/-- A context may be spilled (R179): nothing outstanding, nothing benched or in process, no started entry (the note kept of a
TSEND that timed out, R263, is no message). A port whose Storeroom base is 0 spills nothing (R177). -/
def State.spillable (s : State) (key : Nat) (c : Ctx) : Bool :=
  c.res == .resident && c.slot && s.storeBase c.port != 0 && s.portUp c.port && c.sndUna == c.sndNxt &&
  c.msgs.all (fun m => m.ptype == 0x11 && m.owner.isNone && m.plan.isEmpty) &&
  !c.rx.any (fun m => m.flushing) && !s.landing.any (fun l => l.ctx == key) && !s.benched key && !(c.kind == Kind.ct && s.ctBusy key) &&
  !s.reads.any (fun r => match r.2.for_ with
    | .atomic k _ _ => k == key
    | .flush k _ => k == key
    | _ => false)

/-- The least recently used spillable context of a Stall's share (R179). -/
def State.spillVictim (s : State) (kind stall : Nat) : Option (Nat × Ctx) :=
  s.ctxs.foldl (fun best e =>
    if e.2.kind == kind && Ctx.stall e.2 e.1 == stall && s.spillable e.1 e.2 then
      match best with
      | some b => if e.2.used < b.2.used then some e else best
      | none => some e
    else best) none

/-- The spill of a context begins (R180): its record is written in ascending address order, SPILL_BELL last. -/
def State.spill (s : State) (key : Nat) (c : Ctx) : State :=
  let img := s.record key c
  let addr := s.recordAddr key c
  let s := (s.modCtx key (fun c => { c with res := .spilling })).count Event.spills (Ctx.stall c key) 1
  (List.range 8).foldl (fun s i =>
    s.hostWrite (portPf c.port) (stallClass c.tc) (Ctx.stall c key) (.stall key) (addr + 64 * i)
      (leBytes 64 (img / 2 ^ (512 * i))) false none) s

/-- The fetch read of a context that has been given a slot is issued (R180, R181). -/
def State.fetchContext (s : State) (key : Nat) (c : Ctx) : State :=
  let s := (s.modCtx key (fun c => { c with res := .fetching, slot := true })).count Event.fetches (Ctx.stall c key) 1
  s.hostRead (portPf c.port) (stallClass c.tc) (Ctx.stall c key) (.stall key) (s.recordAddr key c) 512 (.context key) none

/-- The contexts of a Stall's share that want a slot: those to be fetched and those to be made. -/
def State.wanting (s : State) (kind stall : Nat) : List Nat :=
  Tab.keys (s.ctxs.filter (fun e => e.2.kind == kind && Ctx.stall e.2 e.1 == stall && !e.2.slot &&
    (e.2.res == .fetching || e.2.res == .waiting)))

/-- Slots of a Stall's share are handed to the contexts that want one; with none free, one victim is spilled for each that
is not yet covered by a spill in progress (R179, R180). -/
def State.grantSlots (s : State) (kind stall : Nat) : State :=
  (s.wanting kind stall).foldl (fun s key =>
    match Tab.look s.ctxs key with
    | none => s
    | some c =>
      if !s.shelfFull kind stall then
        if c.res == .waiting then s.modCtx key (fun c => { c with res := .resident, slot := true })
        else s.fetchContext key c
      else
        let spilling := countP (fun e => e.2.kind == kind && Ctx.stall e.2 e.1 == stall && e.2.res == .spilling) s.ctxs
        if (s.wanting kind stall).length ≤ spilling then s else
        match s.spillVictim kind stall with
        | some (k, v) => s.spill k v
        | none => s) s

/-- A stored context is to be fetched (R180). -/
def State.wakeCtx (s : State) (key : Nat) : State :=
  match Tab.look s.ctxs key with
  | none => s
  | some c =>
    if c.res == .stored then
      (s.modCtx key (fun c => { c with res := .fetching })).grantSlots c.kind (Ctx.stall c key)
    else s

/-- A context is made: resident when the share has room; otherwise it waits for a slot (R173, R179). Edge and group
contexts take no Shelf slot. -/
def State.makeCtx (s : State) (key : Nat) (c : Ctx) : State :=
  if c.kind = Kind.edge ∨ c.kind = Kind.group then { s with ctxs := Tab.put s.ctxs key c }
  else if s.shelfFull c.kind (Ctx.stall c key) then
    ({ s with ctxs := Tab.put s.ctxs key { c with res := .waiting } }).grantSlots c.kind (Ctx.stall c key)
  else { s with ctxs := Tab.put s.ctxs key { c with slot := true } }

/-- A new context of its share can be made, at once or after a spill: a port without a Storeroom spills nothing (R177). -/
def State.roomFor (s : State) (kind stall : Nat) (p : HPort) : Bool := !s.shelfFull kind stall || s.storeBase p != 0

/-- The ST context of a host port, peer and class, made when it is first needed (R173); none when the Shelf has no room
(R177). -/
def State.needSt (s : State) (p : HPort) (peer tc : Nat) : Option State :=
  let key := stKey p peer tc
  if Tab.has s.ctxs key then some s
  else if s.roomFor Kind.st (peer % 16) p then
    let (inc, s) := s.drawInc 0
    some (s.makeCtx key { s.freshCtx Kind.st p peer tc with inc := inc })
  else none

/-- A context is resident. -/
def State.resident (s : State) (key : Nat) : Bool :=
  match Tab.look s.ctxs key with
  | some c => c.res == .resident
  | none => false

/-- A request of a queue pair waits in the queue engine for its context (R180). -/
def State.park (s : State) (key qpn : Nat) : State :=
  (if s.parked.contains (key, qpn) then s else { s with parked := s.parked ++ [(key, qpn)] }).wakeCtx key

/-! ## The waiting bench -/

/-- Packets a bench holds (R183). -/
def benchDepth : Nat := 256

/-- A packet is placed on its Stall's bench, or discarded and counted when the bench is full (R183, R184). -/
def State.toBench (s : State) (stall : Nat) (p : Packet) (why : BenchWait) : State :=
  if countP (fun b => b.1 == stall) s.bench < benchDepth then { s with bench := s.bench ++ [(stall, p, why)] }
  else s.count Event.benchDiscard stall 1

end Sys2Proof.Machine
end

