-- ==== Sys2Proof/Machine/Sender.lean ====
section
/-!
DEFINITION. The send side of a context (05_transport.md): messages, the reading of their payload, the window, what a SACK
record does, retransmission, refusals, NAKs, new incarnations, and when a message completes its work entry.
-/
namespace Sys2Proof.Machine

/-! ## Messages -/

/-- A message with nothing in it, from which the part builds its messages. -/
def TxMsg.blank : TxMsg :=
  { id := 0, reply := false, num := 0, ptype := 0, owner := none, proto := Packet.blank, fn := 0, pd := none, len := 0,
    flag := none, plan := [], src := none, todo := [], got := [], unacked := 0, acked := 0, fail := none,
    poisonRest := false, poisoned := false, ackedAt := none, respCount := 0, repOk := 0, repFail := 0, lastFail := 0,
    members := [], count := 0, notReady := 0, firstAt := none, final := none, resends := 0 }

/-- A message is handed to a context: a response keeps the number it answers, any other takes the next one (R316, R599). -/
def State.addMsg (s : State) (key : Nat) (m : TxMsg) : State :=
  let id := s.tags
  { s with tags := s.tags + 1 }.modCtx key (fun c =>
    { c with msgs := c.msgs ++ [{ m with id := id, num := if m.reply then m.num else c.nextNum }],
             nextNum := if m.reply then c.nextNum else c.nextNum + 1, used := s.ticks })

/-- A message of a context changed. -/
def State.modMsg (s : State) (key id : Nat) (f : TxMsg → TxMsg) : State :=
  s.modCtx key (fun c => { c with msgs := c.msgs.map (fun m => if m.id = id then f m else m) })

/-- A message of a context. -/
def State.msgOf (s : State) (key id : Nat) : Option TxMsg :=
  match Tab.look s.ctxs key with
  | some c => c.msgs.find? (fun m => m.id == id)
  | none => none

/-- A message leaves its context. -/
def State.dropMsg (s : State) (key id : Nat) : State :=
  s.modCtx key (fun c => { c with msgs := c.msgs.filter (fun m => m.id != id) })

/-- Nothing of a message is left to send or to be answered. -/
def TxMsg.quiet (m : TxMsg) : Bool := m.plan.isEmpty && m.unacked == 0

/-- A message ends at once with a status (R200, R241): its entry completes, and what is left of it goes out poisoned and
empty, so that the context's sequence stays whole. -/
def State.endMsg (s : State) (key : Nat) (m : TxMsg) (status : Nat) : State :=
  let begun := match Tab.look s.ctxs key with
    | some c => Ctx.begun c m
    | none => false
  let s := if begun && !m.quiet then
      s.modMsg key m.id (fun m => { m with owner := none, poisonRest := true, src := none, todo := [] })
    else s.dropMsg key m.id
  match m.owner with
  | some (q, idx) => s.finishWqe q idx status m.acked 0 []
  | none => s

/-! ## Payload -/

/-- Payload is read at most this far ahead of what has been sent: the model's choice (notes/assumptions/9.md). -/
def readAhead : Nat := 65536

/-- Offset of the first packet not yet sent. -/
def TxMsg.nextOff (m : TxMsg) : Nat :=
  match m.plan with
  | (off, _, _) :: _ => off
  | [] => m.len

/-- A local read for a message fails (R597): with nothing sent, the entry completes at once and nothing is sent; otherwise
the rest goes out poisoned and empty, and the entry completes once every packet is answered. A response goes out poisoned
and empty as a whole. -/
def State.localFail (s : State) (key : Nat) (m : TxMsg) (status : Nat) : State :=
  let begun := match Tab.look s.ctxs key with
    | some c => Ctx.begun c m
    | none => false
  if begun || m.reply then
    s.modMsg key m.id (fun m => { m with fail := if m.fail.isSome then m.fail else some status, poisonRest := true, src := none,
                                         todo := [] })
  else s.endMsg key m status

/-- The class and Stall of a context's host requests (R366). -/
def Ctx.lane (c : Ctx) (key : Nat) : Nat × Nat := (stallClass c.tc, Ctx.stall c key)

/-- The reads of a piece's bus spans are issued (R365). -/
def State.readSpans (s : State) (fn cls stall : Nat) (src : Source) (key va : Nat) (why : Nat → ReadFor) :
    List (Nat × Nat) → Nat → State
  | [], _ => s
  | (a, n) :: t, off => State.readSpans (s.hostRead fn cls stall src a n (why off) (some (key, va, n))) fn cls stall src key
      (va + n) why t (off + n)

/-- Payload of a message is read piece by piece, in ascending OFFSET, as far as the read-ahead allows (R139, R365). A miss
waits (R157). -/
def State.readMore (s : State) (key id : Nat) : Nat → State
  | 0 => s
  | n + 1 =>
    match Tab.look s.ctxs key, s.msgOf key id with
    | some c, some m =>
      match m.todo, m.src with
      | (off, len) :: rest, some (k, va) =>
        if m.nextOff + readAhead ≤ off then s else
        let st := match m.pd with
          | some pd => s.localCheck pd m.fn k (va + off) len false
          | none => if (s.keyRaw k).isSome then Status.ok else Status.translationFault
        if st ≠ Status.ok then s.localFail key m st else
        match s.reachKey k (va + off) len .read false with
        | (.ok spans, s) =>
          let s := s.modMsg key id (fun m => { m with todo := rest })
          let (cls, stall) := Ctx.lane c key
          State.readMore (s.readSpans m.fn cls stall (.stall key) k (va + off) (.payload key id) spans off) key id n
        | (.miss page, s) =>
          match s.keyRaw k with
          | some kk => s.raiseMiss (keyIndex k) kk page .read (.payload key id)
          | none => s
        | (r, s) => s.localFail key m r.localStatus
      | _, _ => s
    | _, _ => s

/-- The payload bytes of a range, from pieces that have been read. -/
def gatherBytes (got : List (Nat × Bytes × Bool)) : Nat → Nat → Nat → Option (Bytes × Bool)
  | 0, _, len => if len = 0 then some ([], false) else none
  | n + 1, off, len =>
    if len = 0 then some ([], false) else
    match got.find? (fun g => decide (g.1 ≤ off ∧ off < g.1 + g.2.1.length)) with
    | none => none
    | some (o, d, p) =>
      let b := (d.drop (off - o)).take len
      match gatherBytes got n (off + b.length) (len - b.length) with
      | some (r, q) => some (b ++ r, p || q)
      | none => none

/-! ## Sending -/

/-- The payload and poison of the next packet of a message, once it is there. -/
def TxMsg.ready (m : TxMsg) : Option (Bytes × Bool) :=
  match m.plan with
  | [] => none
  | (off, len, flag) :: _ =>
    if flag then
      match m.flag with
      | some (_, _, v) => some (if m.poisonRest then List.replicate 8 0 else leBytes 8 v, m.poisonRest)
      | none => none
    else if m.poisonRest then some (List.replicate len 0, true)
    else gatherBytes m.got (m.got.length + 1) off len

/-- Bytes 0x28 to 0x3F of a packet of a message (R316). -/
def TxMsg.extOf (m : TxMsg) (off : Nat) (flag : Bool) : Nat :=
  if flag then
    match m.flag with
    | some (k, a, _) => extAt 0x28 0 32 m.num.toNat + extAt 0x2C 0 32 m.len + extAt 0x34 0 32 k + extAt 0x38 0 64 a
    | none => 0
  else if m.ptype = 0x20 then m.proto.ext
  else m.proto.ext + extAt 0x28 0 32 m.num.toNat + (if rangeType m.ptype then extAt 0x30 0 32 off else 0)

/-- A packet of a message with its PSN (R312, R316, R319). -/
def TxMsg.packet (m : TxMsg) (c : Ctx) (psn : BitVec 32) (off : Nat) (flag : Bool) (payload : Bytes) (poison : Bool) : Packet :=
  { m.proto with ptype := if flag then 0x0B else m.ptype, inc := if c.kind = Kind.st then c.inc.toNat else m.proto.inc,
                 psn := psn, ext := TxMsg.extOf m off flag, payload := payload, poison := poison }

/-- Packets a context may have outstanding (R186; `7020:02` on a tree edge). -/
def State.window (s : State) (c : Ctx) : Nat := if c.kind = Kind.edge then s.openParam 0x702002 else min (c.cwnd / 256) 1024

/-- A message may send in this lifecycle state: in SHUTTER only durable work, responses and what the tree sends (R538,
R539). -/
def State.maySend (s : State) (m : TxMsg) : Bool :=
  match s.life with
  | .open_ => true
  | .shutter => m.reply || m.ptype == 6 || m.ptype == 7
  | _ => false

/-- The retransmission timeout of a context in units of the clock (R190): min(base × 2^n, max). -/
def State.rto (s : State) (retry : Nat) : Nat := nsUnits (min (s.param 0x502001 * 2 ^ retry) (s.param 0x502002))

/-- One packet is sent, the first that is ready within the window (R186); whether one was. -/
def State.pumpOne (s : State) (key : Nat) : Bool × State :=
  match Tab.look s.ctxs key with
  | none => (false, s)
  | some c =>
    if c.res != .resident || decide (s.window c ≤ (c.sndNxt - c.sndUna).toNat) && c.kind != Kind.group then (false, s) else
    match c.msgs.find? (fun m => s.maySend m && (m.ready).isSome) with
    | none => (false, s)
    | some m =>
      match m.plan, m.ready with
      | (off, len, flag) :: rest, some (data, poison) =>
        let psn := if c.kind = Kind.group then 0 else c.sndNxt
        let p := m.packet c psn off flag data poison
        let keep (g : Nat × Bytes × Bool) : Bool := decide (off + len < g.1 + g.2.1.length)
        let s := s.modMsg key m.id (fun m =>
          { m with plan := rest, got := if flag then m.got else m.got.filter keep,
                   unacked := if c.kind = Kind.group then m.unacked else m.unacked + 1, poisoned := m.poisoned || poison,
                   firstAt := if m.firstAt.isSome then m.firstAt else some s.ticks, final := some p })
        let s := if c.kind = Kind.group then s else s.modCtx key (fun c =>
          { c with sndNxt := c.sndNxt + 1, used := s.ticks,
                   sent := c.sent ++ [{ psn := psn, pkt := p, id := m.id, at_ := s.ticks, resent := false, sacked := false,
                                        backoff := none }] })
        let s := s.modCtx key (fun c => { c with timer := if c.timer.isSome then c.timer else some s.clock })
        (true, s.sendPacket p)
      | _, _ => (false, s)

/-- Packets are sent while the window and the payload allow; payload is read ahead of them. -/
def State.pump (s : State) (key : Nat) : Nat → State
  | 0 => s
  | n + 1 =>
    let s := match Tab.look s.ctxs key with
      | some c => c.msgs.foldl (fun (s : State) (m : TxMsg) => if m.todo.isEmpty then s else s.readMore key m.id (m.todo.length + 1)) s
      | none => s
    match s.pumpOne key with
    | (true, s) => State.pump s key n
    | (false, s) => s

/-- More packets than any window holds. -/
def pumpFuel : Nat := 1088

/-! ## Acknowledgement -/

/-- A packet of a message is acknowledged: the message counts its bytes; those of a FLAG are not counted (R212, R319), nor
are the operands of an ATOMIC_REQ, which are no bytes of the message. -/
def Ctx.account (c : Ctx) (p : SentPkt) : Ctx :=
  { c with msgs := c.msgs.map (fun m => if m.id = p.id then
      { m with unacked := m.unacked - 1, acked := m.acked + (if p.pkt.ptype = 0x0B ∨ p.pkt.ptype = 5 then 0 else p.pkt.payload.length) } else m) }

/-- A message of a queue pair that is CT has failed terminally: the queue pair goes to ERROR (R200). -/
def State.ctFails (s : State) (qpn status : Nat) : State :=
  match Tab.look s.qps qpn with
  | some q => if q.st then s else s.qpError qpn status
  | none => s

/-- A message none of whose packets is left unanswered (R212, R225, R241, R263, R597): it completes its entry, or waits for
its response, confirmation or clear-to-send. -/
def State.settleMsg (s : State) (key : Nat) (m : TxMsg) : State :=
  match m.owner with
  | none => s.dropMsg key m.id
  | some (q, idx) =>
    match m.fail with
    | some st => ((s.dropMsg key m.id).finishWqe q idx st m.acked 0 []).ctFails q st
    | none =>
      if m.poisoned then (s.dropMsg key m.id).finishWqe q idx Status.poisoned m.acked 0 []
      else if m.ptype = 6 ∨ m.ptype = 0x11 then
        if m.ackedAt.isSome then s else s.modMsg key m.id (fun m => { m with ackedAt := some s.clock })
      else if m.ptype = 4 ∨ m.ptype = 5 ∨ m.ptype = 7 ∨ m.ptype = 8 then s
      else (s.dropMsg key m.id).finishWqe q idx Status.ok m.len 0 []

/-- Every message of a context that has become quiet is settled. -/
def State.settleMsgs (s : State) (key : Nat) : State :=
  match Tab.look s.ctxs key with
  | none => s
  | some c => if c.kind = Kind.group then s else
    c.msgs.foldl (fun s m =>
      match s.msgOf key m.id with
      | some m => if m.quiet && m.firstAt.isSome then s.settleMsg key m else s
      | none => s) s

/-- A SACK record (R189). -/
structure Sack where
  cum : BitVec 32
  kind : Nat
  noCtx : Bool
  code : Nat
  ce : Nat
  ref : BitVec 32
  backoff : Nat
  inc : Nat
  map : BitVec 1024
  deriving DecidableEq, Repr

/-- The SACK record of a packet's payload (R189). -/
def sackOf (d : Bytes) : Sack :=
  let r := leNat d
  { cum := BitVec.ofNat 32 (bits r 0 0 32), kind := bits r 4 0 2, noCtx := bits r 4 2 1 == 1, code := bits r 4 8 8,
    ce := bits r 4 16 16, ref := BitVec.ofNat 32 (bits r 8 0 32), backoff := bits r 0x0C 0 16, inc := bits r 0x10 0 32,
    map := BitVec.ofNat 1024 (bits r 0x20 0 1023) }

/-- The payload of a SACK record (R189). -/
def Sack.image (a : Sack) : Bytes :=
  leBytes 160 (place 0 0 32 a.cum.toNat + place 4 0 2 a.kind + place 4 2 1 a.noCtx.toNat + place 4 8 8 a.code +
    place 4 16 16 a.ce + place 8 0 32 a.ref.toNat + place 0x0C 0 16 a.backoff + place 0x10 0 32 a.inc +
    place 0x20 0 1023 a.map.toNat)

/-- Reserved fields of a SACK record are zero (R189, R323). -/
def sackOk (d : Bytes) : Bool :=
  let r := leNat d
  bits r 4 3 5 == 0 && bits r 0x0C 16 16 == 0 && bits r 0x14 0 96 == 0 && bits r 0x9F 7 1 == 0 && decide (bits r 4 0 2 ≤ 2)

/-- The congestion window after a SACK record that retired `n` packets (R194, R195). Tree edges have a fixed window. -/
def State.congest (s : State) (c : Ctx) (a : Sack) (n : Nat) : Ctx :=
  if c.kind = Kind.edge then c
  else if 0 < a.ce ∨ (a.kind = 2 ∧ a.code = 2) then
    if c.cutAt = some s.ticks then c
    else { c with cwnd := max (s.param 0x503002 * 256) (c.cwnd - c.cwnd / 2 ^ s.param 0x503003), cutAt := some s.ticks }
  else { c with cwnd := min 262144 (c.cwnd + 65536 * n / max c.cwnd 1) }

/-- Packets below CUM_PSN are retired, and the retransmission timer starts anew (R189). -/
def State.retire (s : State) (c : Ctx) (cum : BitVec 32) : Ctx :=
  let d := (cum - c.sndUna).toNat
  if d = 0 then c else
  let gone (p : SentPkt) : Bool := decide ((p.psn - c.sndUna).toNat < d)
  let c' := (c.sent.filter (fun p => gone p && !p.sacked)).foldl Ctx.account c
  { c' with sent := c.sent.filter (fun p => !gone p), sndUna := cum, retry := 0,
            timer := if cum = c.sndNxt then none else some s.clock }

/-- Packets that the SACK map names are marked acknowledged (R189). -/
def Ctx.markSacked (c : Ctx) (a : Sack) : Ctx :=
  let named (p : SentPkt) : Bool :=
    let i := (p.psn - a.cum).toNat
    decide (1 ≤ i ∧ i ≤ 1023) && a.map.toNat.testBit (i - 1)
  let c' := (c.sent.filter (fun p => named p && !p.sacked)).foldl Ctx.account c
  { c' with sent := c.sent.map (fun p => if named p then { p with sacked := true } else p) }

/-- A packet held back by a refusal (R196). -/
def State.heldBack (s : State) (p : SentPkt) : Bool :=
  match p.backoff with
  | some t => decide (s.ticks < t)
  | none => false

/-- Packets are sent again with a new TIMESTAMP (R312, R318). -/
def State.resend (s : State) (key : Nat) (stall : Nat) (l : List SentPkt) : State :=
  l.foldl (fun s p => (s.sendPacket p.pkt).count Event.retransmit stall 1)
    (s.modCtx key (fun c => { c with sent := c.sent.map (fun p =>
      if l.any (fun x => x.psn == p.psn) then { p with at_ := s.ticks, backoff := none } else p) }))

/-- Packets in SACK holes are sent again, once each (R189). -/
def State.fillHoles (s : State) (key : Nat) : State :=
  match Tab.look s.ctxs key with
  | none => s
  | some c =>
    let top := c.sent.foldl (fun n p => if p.sacked then max n (p.psn - c.sndUna).toNat else n) 0
    let hole (p : SentPkt) : Bool :=
      !p.sacked && !p.resent && decide ((p.psn - c.sndUna).toNat < top) && decide (p.at_ + s.param 0x502005 ≤ s.ticks) &&
      !s.heldBack p
    let l := c.sent.filter hole
    (s.modCtx key (fun c => { c with sent := c.sent.map (fun p => if hole p then { p with resent := true } else p) })).resend
      key (Ctx.stall c key) l

/-- The message that a PSN names: of a packet not yet retired, or the last packet of a message that waits (R200). -/
def Ctx.msgAt (c : Ctx) (ref : BitVec 32) : Option TxMsg :=
  match c.sent.find? (fun p => p.psn == ref) with
  | some p => c.msgs.find? (fun m => m.id == p.id)
  | none => c.msgs.find? (fun m => match m.final with
      | some p => p.psn == ref
      | none => false)

/-! ## Incarnations, limits, peers -/

/-- A message of a context that a new incarnation completes (R198): begun and not wholly acknowledged, or durable and
awaiting its confirmation. -/
def Ctx.lostBy (c : Ctx) (m : TxMsg) : Bool := Ctx.begun c m && (!m.quiet || m.ptype == 6)

/-- The note that is kept of a TSEND whose clear-to-send did not come in time (R263): it answers a later one with a NAK. -/
def TxMsg.spent (m : TxMsg) : Bool := m.owner.isNone && !m.reply && m.firstAt.isNone && m.plan.isEmpty

/-- An ST send side starts a new incarnation (R192, R198, R203): messages begun complete with a status, PSNs and message
numbers restart at 0, messages not begun go out under the new incarnation. -/
def State.newIncarnation (s : State) (key status : Nat) : State :=
  match Tab.look s.ctxs key with
  | none => s
  | some c =>
    let (inc, s) := s.drawInc c.inc
    let lost := c.msgs.filter (Ctx.lostBy c)
    let kept := c.msgs.filter (fun m => !Ctx.lostBy c m && !TxMsg.spent m)
    let number (acc : BitVec 32 × List TxMsg) (m : TxMsg) : BitVec 32 × List TxMsg :=
      if m.reply || Ctx.begun c m then (acc.1, acc.2 ++ [m]) else (acc.1 + 1, acc.2 ++ [{ m with num := acc.1 }])
    let (next, msgs) := kept.foldl number (0, [])
    let s := s.modCtx key (fun c => { c with inc := inc, sndNxt := 0, sndUna := 0, retry := 0, timer := none, sent := [],
                                             nextNum := next, msgs := msgs })
    lost.foldl (fun s m =>
      match m.owner with
      | some (q, idx) => s.finishWqe q idx (if m.quiet then Status.peerGone else status) m.acked 0 []
      | none => s) s

/-- A context has reached its retry limit (R192): a CT queue pair goes to ERROR, an ST context starts a new incarnation. A
tree edge is dead, which its caller acts on (R304). -/
def State.failContext (s : State) (key status : Nat) : State :=
  match Tab.look s.ctxs key with
  | none => s
  | some c =>
    if c.kind = Kind.ct then s.qpError key status
    else if c.kind = Kind.st then s.newIncarnation key status
    else s

/-- The retry limit of a context (R191). -/
def State.retryLimit (s : State) (key : Nat) (c : Ctx) : Nat :=
  match Tab.look s.qps key with
  | some q => if c.kind = Kind.ct ∧ q.retryLimit ≠ 0 then q.retryLimit else s.param 0x502003
  | none => s.param 0x502003

/-- The entry that owns a message. -/
def State.ownerOf (s : State) (m : TxMsg) : Option (Nat × Qp × Wqe) :=
  match m.owner with
  | some (q, idx) =>
    match Tab.look s.qps q with
    | some x => match x.sq.ents.find? (fun w => w.idx == idx && w.stage == .started) with
      | some w => some (q, x, w)
      | none => none
    | none => none
  | none => none

/-- A durable message of a queue pair with UNLIMITED (R191). -/
def State.unlimited (s : State) (m : TxMsg) : Bool :=
  (m.ptype == 6 || m.ptype == 7) &&
  (match m.owner with
   | some (q, _) => match Tab.look s.qps q with
     | some q => q.unlimited
     | none => false
   | none => false)

/-- UNLIMITED applies to the oldest unacknowledged packet (R191). -/
def State.unlimitedApplies (s : State) (c : Ctx) : Bool :=
  match c.sent.find? (fun p => !p.sacked) with
  | some p => match c.msgs.find? (fun m => m.id == p.id) with
    | some m => s.unlimited m
    | none => false
  | none => false

/-! ## SACK records -/

/-- A NAK ends its message (R200, R241). A POISONED one sets the status with which the entry completes once every packet is
answered (R597). A response that is NAKed is dropped; a CT queue pair goes to ERROR. -/
def State.nakMsg (s : State) (key : Nat) (m : TxMsg) (code : Nat) : State :=
  if code = Status.poisoned ∧ m.owner.isSome = true then
    s.modMsg key m.id (fun m => { m with fail := if m.fail.isSome then m.fail else some Status.poisoned })
  else
    let s := s.endMsg key m code
    match Tab.look s.ctxs key with
    | some c => if c.kind = Kind.ct then s.ctFails key code else s
    | none => s

/-- A packet is refused (R196, R197). RESYNC is handled before the rest of the record. -/
def State.refused (s : State) (key : Nat) (ref : BitVec 32) (code backoff : Nat) : State :=
  match Tab.look s.ctxs key with
  | none => s
  | some c =>
    let s := if code = 1 ∨ code = 2 then s.modCtx key (fun c => { c with sent := c.sent.map (fun p =>
        if p.psn = ref ∧ p.sacked = false then { p with backoff := some (s.ticks + backoff) } else p) }) else s
    match c.msgAt ref with
    | none => s
    | some m =>
      if code = 3 then
        let s := s.endMsg key m Status.refusedClosing
        if c.kind = Kind.ct then s.ctFails key Status.refusedClosing else s
      else if code = 1 then
        let s := s.modMsg key m.id (fun m => { m with notReady := m.notReady + 1 })
        let limit := s.param 0x504001
        if limit ≠ 0 ∧ limit < m.notReady + 1 ∧ c.kind ≠ Kind.edge then s.failContext key Status.retryExceeded else s
      else s

/-- What a NAK or a refusal says of the packet it names (R196, R200). -/
def State.answered (s : State) (key : Nat) (a : Sack) : State :=
  match Tab.look s.ctxs key with
  | none => s
  | some c =>
    if a.kind = 1 then
      match c.msgAt a.ref with
      | some m => s.nakMsg key m a.code
      | none => s
    else if a.kind = 2 then s.refused key a.ref a.code a.backoff
    else s

/-- The record is of the context's current incarnation (R594): on an ST context its incarnation, on a tree edge the EPOCH. -/
def Ctx.current (c : Ctx) (a : Sack) : Bool :=
  if c.kind = Kind.st then a.inc == c.inc.toNat
  else if c.kind = Kind.edge then a.inc == c.inc.toNat
  else true

/-- A SACK record acts on the send side of a context (R189, R594). -/
def State.applySack (s : State) (key : Nat) (a : Sack) : State :=
  match Tab.look s.ctxs key with
  | none => s
  | some c =>
    if !Ctx.current c a then s
    else if a.kind = 2 ∧ a.code = 4 then
      if c.kind = Kind.st then (s.newIncarnation key Status.peerGone).pump key pumpFuel else s
    else if a.noCtx then
      let s := if a.kind = 2 ∧ a.code = 2 then s.modCtx key (fun c => s.congest c { a with ce := 0 } 0) else s
      ((s.answered key a).settleMsgs key).pump key pumpFuel
    else if (c.sndNxt - c.sndUna).toNat < (a.cum - c.sndUna).toNat then s
    else
      let n := (a.cum - c.sndUna).toNat
      let s := s.modCtx key (fun c => s.congest (Ctx.markSacked (s.retire c a.cum) a) a n)
      let s := (s.fillHoles key).answered key a
      (s.settleMsgs key).pump key pumpFuel

/-! ## Timers -/

/-- The retransmission timer of a context has expired: the first boundary at least rto after it was armed (R190). -/
def State.timerDue (s : State) (c : Ctx) : Bool :=
  match c.timer with
  | some t => decide (t + s.rto c.retry ≤ s.ticks * 4096)
  | none => false

/-- Every unacknowledged packet that the window admits and that no refusal holds back is sent again (R186, R189, R196). -/
def State.resendAll (s : State) (key : Nat) : State :=
  match Tab.look s.ctxs key with
  | none => s
  | some c =>
    s.resend key (Ctx.stall c key) (c.sent.filter (fun p =>
      !p.sacked && decide ((p.psn - c.sndUna).toNat < s.window c) && !s.heldBack p))

end Sys2Proof.Machine
end

