-- ==== Sys2Proof/Machine/Receive.lean ====
section
/-!
DEFINITION. The receive side of a context (R187 to R189, R199, R374 to R379): the receive window, SACK records sent, the
state of the target function, the meters, open messages and the writes of arriving payload.
-/
namespace Sys2Proof.Machine

/-! ## SACK records sent -/

/-- Refusal code NOT_READY (R196). -/
abbrev Refuse.notReady : Nat := 1
/-- Refusal code POLICED (R196). -/
abbrev Refuse.policed : Nat := 2
/-- Refusal code CLOSING (R196). -/
abbrev Refuse.closing : Nat := 3
/-- Refusal code RESYNC (R196). -/
abbrev Refuse.resync : Nat := 4

/-- BACKOFF_BELLS of a NOT_READY refusal (R196). -/
def State.backoffBells (s : State) : Nat := s.param 0x504002

/-- The SACK packet that answers a packet (R189, R312, R314): it goes back to the packet's source. -/
def State.sackPacket (s : State) (p : Packet) (a : Sack) : Packet :=
  let edge := p.tc == 2
  { Packet.blank with
    ptype := 0x30, tc := p.tc, mode := if edge then 2 else s.routeMode p.tc, destDev := p.srcDev, destFn := p.srcFn,
    srcDev := s.deviceId, srcFn := p.destFn,
    flow := if edge then p.flow else if p.st then 0 else p.qpn % 65536,
    qpn := if p.st || edge then 0 else p.inc % 2 ^ 24, st := p.st, ext := if edge then extAt 0x2C 0 16 p.flow else 0,
    payload := a.image }

/-- INCARNATION of a record that answers a packet (R189): of ST packets, and the EPOCH on a tree edge. -/
def sackInc (p : Packet) : Nat := if p.st || p.tc == 2 then p.inc else 0

/-- A record that answers a packet for which no receiving context was found (R311, R594). -/
def State.answerNoCtx (s : State) (p : Packet) (kind code backoff : Nat) : State :=
  let s := if kind = 2 then s.count Event.refusals code 1 else s
  s.sendPacket (s.sackPacket p { cum := p.psn, kind := kind, noCtx := true, code := code, ce := 0, ref := p.psn,
                                 backoff := backoff, inc := sackInc p, map := 0 })

/-- Bit *i* of the SACK map: PSN CUM_PSN + 1 + *i* is received (R189). -/
def Ctx.sackMap (c : Ctx) : BitVec 1024 :=
  BitVec.ofNat 1024 ((List.range 1023).foldl (fun n i =>
    if c.rcvMap.toNat.testBit ((c.rcvNxt.toNat + 1 + i) % 1024) then n + 2 ^ i else n) 0)

/-- A record that answers a packet of a context (R188, R189): an ACK reports the CE-marked packets since the last one. -/
def State.sendSack (s : State) (key : Nat) (p : Packet) (kind code backoff : Nat) : State :=
  match Tab.look s.ctxs key with
  | none => s
  | some c =>
    let s := if kind = 2 then s.count Event.refusals code 1 else s
    let a : Sack := { cum := c.rcvNxt, kind := kind, noCtx := false, code := code, ce := min c.ce 65535,
                      ref := if kind = 0 then 0 else p.psn, backoff := backoff, inc := sackInc p, map := Ctx.sackMap c }
    let s := if kind = 0 then s.modCtx key (fun c => { c with ce := 0, unackedRx := 0 }) else s
    s.sendPacket (s.sackPacket p a)

/-! ## The state of the target function -/

/-- A refused arrival wakes the host (R79): WAKE_N is driven low where `2050:02` admits the port, and a function in D3hot
with PME_En sets PME_Status and sends one PM_PME. -/
def State.wakeFor (s : State) (fn : Nat) : State :=
  let p := fnPort fn
  let s := if bitAt (s.param 0x205002) (portNum p) then
      { s with wakeN := false }.tunePort p (fun q => { q with wake := if q.wake.contains fn then q.wake else q.wake ++ [fn] })
    else s
  let f := s.fn fn
  if (s.port p).state != .reset && f.d3hot && f.pmeEn && !f.pmeStatus then
    (s.setFn fn (fun f => { f with pmeStatus := true })).emit (.pmPme fn)
  else s

/-- What the target function's state answers an arrival with (R44, R70, R73, R77, R375 step 1, R540): 0 admitted, 1 NAK
ENDPOINT_GONE, 2 refuse NOT_READY, 3 refuse CLOSING. `ongoing`: the packet belongs to a durable message that R540 admits. -/
def State.fnAnswer (s : State) (fn : Nat) (ongoing : Bool) : Nat :=
  let p := fnPort fn
  if s.life = .shut || (s.life = .shutter && !ongoing) then 3
  else if (s.port p).state != .up || !s.fnExists fn || (s.fn fn).flr then 1
  else if s.asleep fn then 2
  else if s.life = .open_ || s.life = .shutter then 0 else 3

/-! ## Meters -/

/-- The colours of R376. -/
inductive Colour where
  | green | yellow | red
  deriving DecidableEq, Repr

/-- Types that are policed (R374). -/
def policedType (t : Nat) : Bool := (1 ≤ t && t ≤ 6) || t == 0x0B || t == 0x10 || t == 0x11 || t == 0x13

/-- Refills that a bucket needs to reach a level (R378), at least 1 and at most 65,535. -/
def refillsToReach (level : Int) (done rate : Nat) (want : Int) : Nat :=
  let need := (want - level).toNat
  if rate = 0 then 65535 else
  let n0 := need * 4096 / (rate * 125000)
  let enough (n : Nat) : Bool := decide (need ≤ refillTotal (done + n) rate - refillTotal done rate)
  clampNat 1 65535 (((List.range 4).map (fun i => n0 - 1 + i)).find? enough |>.getD (n0 + 2))

/-- A meter with its parameters: base address of CIR, buckets C and P; the packet's charge and arrival colour (R376). The
colour, and the backoff when it is red. -/
def State.meter (s : State) (base cId pId charge : Nat) (arrival : Colour) : Colour × Nat × State :=
  let cir := s.param base
  let cbs := s.param (base + 1)
  let pir := max (s.param (base + 2)) cir
  let pbs := s.param (base + 3)
  let c := s.bucketLevel cId cbs
  let p := s.bucketLevel pId pbs
  let b : Int := (charge * 256 : Nat)
  if p < b then
    let done := match Tab.look s.buckets pId with
      | some k => k.refills
      | none => 0
    (.red, refillsToReach p done pir b, s)
  else
    let s := s.drawBucket pId pir pbs charge
    if arrival = .green ∧ b ≤ c then (.green, 0, s.drawBucket cId cir cbs charge) else (.yellow, 0, s)

/-- The function meter, then the port meter (R375, R377): the colour and the backoff of a red packet. -/
def State.police (s : State) (p : Packet) : Colour × Nat × State :=
  if !policedType p.ptype || 2 ≤ p.tc then (.green, 0, s) else
  let base := (0x9300 + p.destFn) * 256
  let (col, back, s) := if s.flag (base + 1) then
      s.meter (base + 2 + 4 * p.tc) (fnMeterBucket p.destFn p.tc 0) (fnMeterBucket p.destFn p.tc 1) (Packet.bytes p) .green
    else (.green, 0, s)
  if col = .red then (.red, back, s) else
  let n := portNum (fnPort p.destFn)
  let pbase := (0x9400 + n) * 256
  let mode := s.param (pbase + 1)
  if mode = 0 then (col, 0, s)
  else s.meter (pbase + 2 + 4 * p.tc) (portMeterBucket n p.tc 0) (portMeterBucket n p.tc 1) (Packet.bytes p)
    (if mode = 1 then .green else col)

/-! ## The receive window -/

/-- What the admission of a packet comes to: taken, taken and answered with a NAK, refused, waiting for a translation or
for earlier packets. -/
inductive Verdict where
  | ok
  | fail (status : Nat)
  | refuse (code backoff : Nat)
  | miss (id : Nat)
  | order
  deriving DecidableEq, Repr

/-- The receive window moves past the packets it holds (R189). -/
def Ctx.advance (c : Ctx) : Nat → Ctx
  | 0 => c
  | n + 1 =>
    let i := c.rcvNxt.toNat % 1024
    if c.rcvMap.toNat.testBit i then
      Ctx.advance { c with rcvMap := c.rcvMap &&& ~~~(BitVec.ofNat 1024 (2 ^ i)), rcvNxt := c.rcvNxt + 1 } n
    else c

/-- A packet's bit is set, and it is answered (R187 to R189): a NAK for a failure, an ACK when it was out of order or when
`5020:04` packets have come in order. -/
def State.markReceived (s : State) (key : Nat) (p : Packet) (code : Nat) : State :=
  match Tab.look s.ctxs key with
  | none => s
  | some c =>
    let late := p.psn != c.rcvNxt
    let s := s.modCtx key (fun c =>
      { c with rcvMap := c.rcvMap ||| BitVec.ofNat 1024 (2 ^ (p.psn.toNat % 1024)), ce := c.ce + p.ce.toNat, used := s.ticks,
               ackTo := some { p with payload := [] }, unackedRx := c.unackedRx + 1 })
    let s := if code = 0 then s else s.sendSack key p 1 code 0
    let s := s.modCtx key (fun c => c.advance 1024)
    let due := match Tab.look s.ctxs key with
      | some c => decide (s.param 0x502004 ≤ c.unackedRx)
      | none => false
    if late || due then s.sendSack key p 0 0 0 else s

/-- Units of a source that bid on either path. -/
def State.unitsOf (s : State) (src : Source) : Nat :=
  countP (fun u => u.src == src) s.pathA + countP (fun u => u.src == src) s.pathB

/-- A packet is received: at once when its source has no write to issue, otherwise when the last of them has been issued
(R187). -/
def State.land (s : State) (key : Nat) (p : Packet) (code : Nat) (wrote : Bool) : State :=
  let n := s.unitsOf (.stall key)
  if wrote && n != 0 then { s with landing := s.landing ++ [{ ctx := key, pkt := p, left := n, code := code }] }
  else s.markReceived key p code

/-- A packet is below the window, beyond it, or a duplicate inside it; or it may be admitted (R189). -/
inductive Place where
  | old | beyond | duplicate | fresh
  deriving DecidableEq, Repr

/-- Where a PSN lies in a receive window (R189). A packet whose writes are being issued counts as held. -/
def State.psnPlace (s : State) (key : Nat) (c : Ctx) (psn : BitVec 32) : Place :=
  let d := (psn - c.rcvNxt).toNat
  if 2 ^ 31 ≤ d then .old
  else if 1024 ≤ d then .beyond
  else if c.rcvMap.toNat.testBit (psn.toNat % 1024) || s.landing.any (fun l => l.ctx == key && l.pkt.psn == psn) then
    .duplicate
  else .fresh

/-! ## Open messages -/

/-- An open message that a packet starts (R210). -/
def newRx (p : Packet) (dest : Dest) (qpn : Nat) : RxMsg :=
  { num := Packet.msgNum p, ptype := if p.ptype = 0x0B then 3 else p.ptype, len := Packet.msgLen p, count := 0, written := 0,
    dest := dest, qpnSrc := qpn, begun := false, failed := none, poisoned := false, solicited := p.solicited, flag := none,
    last := none, flushing := false, flushed := false, keyFn := none, hdr := { p with payload := [] } }

/-- The open message of a number. -/
def Ctx.rxOf (c : Ctx) (num : BitVec 32) : Option RxMsg := c.rx.find? (fun m => m.num == num)

/-- The open message of a number, in a state. -/
def State.rxOf (s : State) (key : Nat) (num : BitVec 32) : Option RxMsg :=
  match Tab.look s.ctxs key with
  | some c => c.rxOf num
  | none => none

/-- An open message put in place of the one with its number, or added. -/
def State.putRx (s : State) (key : Nat) (m : RxMsg) : State :=
  s.modCtx key (fun c =>
    { c with rx := if c.rx.any (fun x => x.num == m.num) then c.rx.map (fun x => if x.num = m.num then m else x)
                   else c.rx ++ [m] })

/-- An open message is freed. -/
def State.dropRx (s : State) (key : Nat) (num : BitVec 32) : State :=
  s.modCtx key (fun c => { c with rx := c.rx.filter (fun m => m.num != num) })

/-- The header an answer to the whole message names: that of the packet with the greatest OFFSET. -/
def RxMsg.meet (m : RxMsg) (p : Packet) : RxMsg :=
  if Packet.offset m.hdr ≤ Packet.offset p then { m with hdr := { p with payload := [] } } else m

/-- A packet of an open message has passed: its bytes are counted (R210, R211). -/
def RxMsg.took (m : RxMsg) (p : Packet) (wrote : Nat) : RxMsg :=
  { m.meet p with begun := true, count := m.count + p.payload.length, written := m.written + wrote,
                  solicited := m.solicited || p.solicited, poisoned := m.poisoned || p.poison }

/-- A packet of an open message has failed: the failure is recorded, its bytes are counted and not written (R215). -/
def RxMsg.broke (m : RxMsg) (p : Packet) (status : Nat) : RxMsg :=
  { m.meet p with begun := true, count := m.count + p.payload.length,
                  failed := if m.failed.isSome then m.failed else some status }

/-- Every byte of the message has been counted (R210). -/
def RxMsg.whole (m : RxMsg) : Bool := m.begun && decide (m.len ≤ m.count)

/-! ## Writing payload -/

/-- Payload goes to bus spans as writes of the context's source, poisoned where the packet is (R65); with `2040:01` set a
poisoned packet's bytes are discarded. The bus address of the last range written is kept for the flush read (R61). -/
def State.writeSpans (s : State) (key fn cls stall : Nat) (va rkey : Nat) (poison : Bool) :
    List (Nat × Nat) → Bytes → State
  | [], _ => s
  | (a, n) :: t, d =>
    let s := if poison && s.param 0x204001 = 1 then s
      else s.hostWrite fn cls stall (.stall key) a (d.take n) poison (some (rkey, va, n))
    let s := s.modCtx key (fun c => { c with lastAddr := some (fn, a + n - 1) })
    State.writeSpans s key fn cls stall (va + n) rkey poison t (d.drop n)

/-- The last bus address of a list of spans. -/
def lastSpan (l : List (Nat × Nat)) : Option Nat :=
  match l.getLast? with
  | some (a, n) => if n = 0 then none else some (a + n - 1)
  | none => none

/-- A miss of an access by an arriving packet (R157, R158): the number of the miss that it waits for. -/
def State.missFor (s : State) (rkey page : Nat) (acc : Access) : Nat × State :=
  match s.keyRaw rkey with
  | none => (0, s)
  | some k =>
    let s := s.raiseMiss (keyIndex rkey) k page acc .bench
    match s.misses.find? (fun e => e.2.key == keyIndex rkey && e.2.page == page) with
    | some (id, _) => (id, s)
    | none => (0, s)

/-- Bytes of open durable messages whose confirmation or reply has not been sent (R537). -/
def State.durableTarget (s : State) : Nat :=
  s.ctxs.foldl (fun n e => e.2.rx.foldl (fun n m => if m.ptype = 6 ∧ m.failed = none then n + m.len else n) n) 0 +
  s.groupRx.foldl (fun n e => if e.2.ptype = 7 then n + e.2.payload.length else n) 0

end Sys2Proof.Machine
end

