-- ==== Sys2Proof/Machine/Collect.lean ====
section
/-!
DEFINITION. The Exchange (08_collectives.md): node records, installing and breaking nodes, contributions, the combination
of segments, the down phase, and the completion of members.
-/
namespace Sys2Proof.Machine

/-! ## The node record (R278) -/

/-- TREE_ID. -/
def Node.tree (r : Nat) : Nat := bits r 0 0 16
/-- EPOCH. -/
def Node.epoch (r : Nat) : Nat := bits r 0 16 16
/-- PARENT_DEVICE. -/
def Node.parent (r : Nat) : Nat := bits r 4 0 18
/-- ROOT. -/
def Node.root (r : Nat) : Bool := bits r 4 18 1 == 1
/-- CHILD_COUNT. -/
def Node.children (r : Nat) : Nat := bits r 8 0 6
/-- LOCAL_COUNT. -/
def Node.locals (r : Nat) : Nat := bits r 8 8 5
/-- START_OSN. -/
def Node.start (r : Nat) : BitVec 32 := BitVec.ofNat 32 (bits r 0x0C 0 32)
/-- FUNC of member *m*. -/
def Node.fn (r m : Nat) : Nat := bits r (0x020 + 16 * m) 0 8
/-- PD of member *m*. -/
def Node.pd (r m : Nat) : Nat := bits r (0x020 + 16 * m) 16 16
/-- RANK of member *m*. -/
def Node.rank (r m : Nat) : Nat := bits r (0x024 + 16 * m) 0 32
/-- EQ of member *m*. -/
def Node.eq (r m : Nat) : Nat := bits r (0x028 + 16 * m) 0 16
/-- CHILD *c*. -/
def Node.child (r c : Nat) : Nat := bits r (0x120 + 4 * c) 0 18

/-- The child devices in child-entry order. -/
def Node.childList (r : Nat) : List Nat := (List.range (Node.children r)).map (Node.child r)

/-- The devices at the other ends of a node's edges. -/
def Node.edges (r : Nat) : List Nat := (if Node.root r then [] else [Node.parent r]) ++ Node.childList r

/-- The bits of the record that its counts leave in use (R278, R279). -/
def Node.mask (r : Nat) : Nat :=
  let m (off lo w : Nat) : Nat := place off lo w (2 ^ w - 1)
  m 0 0 32 + m 4 0 19 + m 8 0 6 + m 8 8 5 + m 0x0C 0 32 +
  (List.range (Node.locals r)).foldl (fun n i =>
    n + m (0x020 + 16 * i) 0 8 + m (0x020 + 16 * i) 16 16 + m (0x024 + 16 * i) 0 32 + m (0x028 + 16 * i) 0 16) 0 +
  (List.range (Node.children r)).foldl (fun n i => n + m (0x120 + 4 * i) 0 18) 0

/-- No element of a list repeats. -/
def distinct : List Nat → Bool
  | [] => true
  | a :: l => !l.contains a && distinct l

/-- A node record is well formed on this device (R277, R279). -/
def State.nodeOk (s : State) (r : Nat) : Bool :=
  decide (Node.children r ≤ 48 ∧ Node.locals r ≤ 16 ∧ 1 ≤ Node.children r + Node.locals r) &&
  !(Node.root r && Node.parent r != 0) && distinct (Node.childList r) && !(Node.childList r).contains s.deviceId &&
  (Node.root r || !(Node.childList r).contains (Node.parent r)) &&
  distinct ((List.range (Node.locals r)).map (Node.fn r)) && Nat.land r (Node.mask r) == r

/-- Staging that a node reserves, in bytes (R290). -/
def stagingOf (r : Nat) : Nat := (Node.children r + Node.locals r + 1) * 4096

/-- Segments beyond segment 0 in progress in an operation (R290). -/
def CollOp.further (o : CollOp) : Nat := countP (fun e => e.1 != 0) o.segs

/-- Staging in use: the reservations, and as much again for each further segment in progress (R290). -/
def State.stagingUsed (s : State) : Nat :=
  s.trees.foldl (fun n e => n + stagingOf e.2.raw * (1 + e.2.ops.foldl (fun n o => n + CollOp.further o) 0)) 0

/-- Bytes of the Exchange region (R34, R35). -/
def State.stagingSize (s : State) : Nat := s.openParam 0x111001 * 2 ^ 30

/-- A tree changed. -/
def State.modTree (s : State) (tree : Nat) (f : Tree → Tree) : State := { s with trees := Tab.mod s.trees tree f }

/-- An operation of a tree. -/
def State.opOf (s : State) (tree : Nat) (osn : BitVec 32) : Option CollOp :=
  match Tab.look s.trees tree with
  | some t => t.ops.find? (fun o => o.osn == osn)
  | none => none

/-- An operation of a tree changed. -/
def State.modOp (s : State) (tree : Nat) (osn : BitVec 32) (f : CollOp → CollOp) : State :=
  s.modTree tree (fun t => { t with ops := t.ops.map (fun o => if o.osn = osn then f o else o) })

/-- A member of an operation. -/
def CollOp.member (o : CollOp) (slot : Nat) : Option Member := o.members.find? (fun m => m.slot == slot)

/-- A member of an operation changed. -/
def State.modMember (s : State) (tree : Nat) (osn : BitVec 32) (slot : Nat) (f : Member → Member) : State :=
  s.modOp tree osn (fun o => { o with members := o.members.map (fun m => if m.slot = slot then f m else m) })

/-! ## Descriptors and segments (R285, R290, R291, R316) -/

/-- Bytes 0x30 to 0x3B of a COLL_SEG but for SEGMENT, PHASE and flags: the descriptor of R291. -/
def descMask : Nat :=
  extAt 0x30 0 32 (2 ^ 32 - 1) + extAt 0x34 0 25 (2 ^ 25 - 1) + extAt 0x38 0 32 (2 ^ 32 - 1)

/-- COP of a descriptor. -/
def Desc.cop (d : Nat) : Nat := bits d (0x30 - 0x28) 0 8
/-- TYPE of a descriptor. -/
def Desc.type (d : Nat) : Nat := bits d (0x30 - 0x28) 8 4
/-- OP of a descriptor. -/
def Desc.op (d : Nat) : Nat := bits d (0x30 - 0x28) 12 4
/-- LS_LSB of a descriptor. -/
def Desc.lsb (d : Nat) : Int := toSigned 16 (bits d (0x30 - 0x28) 16 16)
/-- LEN of a descriptor. -/
def Desc.len (d : Nat) : Nat := bits d (0x34 - 0x28) 0 25
/-- ROOT_RANK of a descriptor. -/
def Desc.rootRank (d : Nat) : Nat := bits d (0x38 - 0x28) 0 32

/-- The descriptor of a member's entry (R291). -/
def descOf (r : Nat) : Nat :=
  extAt 0x30 0 8 (Ent.opcode r) + extAt 0x30 8 4 (Coll.type r) + extAt 0x30 12 4 (Coll.op r) +
  extAt 0x30 16 16 (Coll.lsb r) + extAt 0x34 0 25 (if Ent.opcode r = 0x20 ∨ Ent.opcode r = 0x24 then 0 else Ent.len r) +
  extAt 0x38 0 32 (Coll.rootRank r)

/-- Bytes of one element at the member: 8 for a vote. -/
def Desc.elem (d : Nat) : Nat := if Desc.cop d = 0x24 then 8 else elemBytes (Desc.type d)

/-- Elements of a whole operation. -/
def Desc.count (d : Nat) : Nat :=
  if Desc.cop d = 0x20 then 0 else if Desc.cop d = 0x24 then 1 else Desc.len d / Desc.elem d

/-- The operation is a Ledger Sum: its elements are converted and travel as accumulators (R290, R298). A BCAST of that TYPE
moves its bytes as they are. -/
def Desc.ledger (d : Nat) : Bool := Desc.type d == 7 && (Desc.cop d == 0x22 || Desc.cop d == 0x23)

/-- Elements of a full segment: 4,096 bytes of wire data; 128 Ledger Sum accumulators. -/
def Desc.perSeg (d : Nat) : Nat := if Desc.ledger d then 128 else 4096 / Desc.elem d

/-- Segments of an operation: one empty segment when it has no data. -/
def Desc.segs (d : Nat) : Nat := max 1 (ceilDiv (Desc.count d) (Desc.perSeg d))

/-- Elements of segment *n*. -/
def Desc.inSeg (d n : Nat) : Nat := min (Desc.perSeg d) (Desc.count d - n * Desc.perSeg d)

/-- Wire bytes of an element, going up or coming down (R290, R300, R317). -/
def Desc.wire (d : Nat) (down : Bool) : Nat := if Desc.ledger d && !down then 32 else Desc.elem d

/-- Elements from bytes. -/
def elemsOf (size : Nat) : Nat → Bytes → List Nat
  | 0, _ => []
  | n + 1, d => if d.isEmpty then [] else leNat (d.take size) :: elemsOf size n (d.drop size)

/-- Bytes of elements. -/
def elemsBytes (size : Nat) (l : List Nat) : Bytes := l.foldl (fun b v => b ++ leBytes size v) []

/-- A contribution without data. -/
def SegVal.none : SegVal := ⟨[], false, false, false⟩

/-- Two contributions combined (R292 to R299); one without data leaves the other as it is. -/
def combine (d : Nat) (a b : SegVal) : SegVal :=
  let elems :=
    if a.elems.isEmpty then b.elems
    else if b.elems.isEmpty then a.elems
    else if Desc.cop d = 0x24 then List.zipWith combineVote a.elems b.elems
    else List.zipWith (combineElem (Desc.type d) (Desc.op d)) a.elems b.elems
  ⟨elems, a.inexact || b.inexact, a.overflow || b.overflow, a.poison || b.poison⟩

/-- The root's result of a segment (R300, R301): Ledger Sum sums become binary64, and a segment that overflowed is all
NaN. -/
def rootResult (d : Nat) (v : SegVal) : SegVal :=
  if Desc.ledger d then
    let r := v.elems.map (fun a => ledgerOut a (Desc.lsb d))
    let tooBig := v.overflow || r.any Prod.snd
    { v with elems := if tooBig then v.elems.map (fun _ => 0x7FF8000000000000) else r.map Prod.fst, overflow := tooBig }
  else v

/-! ## Packets of a tree -/

/-- A packet of the Exchange to the device of an edge (R312, R316). -/
def State.treePacket (s : State) (t : Tree) (ptype dev ext : Nat) : Packet :=
  { Packet.blank with ptype := ptype, tc := 2, mode := 2, destDev := dev, srcDev := s.deviceId, flow := Node.tree t.raw,
                      inc := Node.epoch t.raw, ext := ext + extAt 0x2C 0 16 (Node.tree t.raw) }

/-- A segment is sent on an edge (R290, R316). -/
def State.sendSeg (s : State) (tree dev : Nat) (osn : BitVec 32) (d n : Nat) (down verdict : Bool) (v : SegVal) : State :=
  match Tab.look s.trees tree with
  | none => s
  | some t =>
    let ext := d + extAt 0x28 0 32 osn.toNat + extAt 0x2C 16 16 n + extAt 0x34 25 1 down.toNat + extAt 0x34 26 1 v.inexact.toNat +
      extAt 0x34 27 1 v.overflow.toNat + extAt 0x34 28 1 verdict.toNat
    let data := if verdict then [] else elemsBytes (Desc.wire d down) v.elems
    let key := edgeKey tree dev
    let m : TxMsg := { TxMsg.blank with
      ptype := 0x20, proto := s.treePacket t 0x20 dev ext, len := data.length, plan := [(0, data.length, false)],
      got := [(0, data, v.poison)] }
    (s.addMsg key m).pump key pumpFuel

/-! ## Breaking and installing -/

/-- An edge of a tree has gone silent for `7030:02` bells (R304). -/
def State.edgeSilent (s : State) (e : Edge) : Bool := decide (e.rx + s.param 0x703002 ≤ s.ticks)

/-- The contexts of a tree's edges are ended. -/
def State.dropEdges (s : State) (tree : Nat) : State :=
  { s with ctxs := s.ctxs.filter (fun e => !(e.2.kind == Kind.edge && e.1 / 2 ^ 18 == (2 ^ 40 + tree * 2 ^ 18) / 2 ^ 18)) }

/-- A node goes BROKEN (R283, R305): operations end PEER_GONE (without a completion in SHUTTER, R538), BREAK goes out on
every live edge, and each member's EQ gets a TREE_BROKEN event. -/
def State.breakTree (s : State) (tree : Nat) : State :=
  match Tab.look s.trees tree with
  | none => s
  | some t =>
    if t.broken then s else
    let s := s.modTree tree (fun t => { t with broken := true, ops := [] })
    let s := if s.life = .open_ then
        t.ops.foldl (fun s o => o.members.foldl (fun s m =>
          if m.finished then s else s.finishWqe m.qpn m.idx Status.peerGone m.written 0 [.exchange tree]) s) s
      else s
    let s := (Node.edges t.raw).foldl (fun s dev =>
      match Tab.look t.edges dev with
      | some e => if s.edgeSilent e then s else s.sendPacket (s.treePacket t 0x22 dev 0)
      | none => s) s
    let s := { s with ctxs := Tab.map s.ctxs (fun k c =>
      if c.kind = Kind.edge ∧ k / 2 ^ 18 = 2 ^ 22 + tree then { c with msgs := [], sent := [], timer := none, sndUna := c.sndNxt }
      else c) }
    (List.range (Node.locals t.raw)).foldl (fun s m =>
      if Node.eq t.raw m = 0xFFFF then s
      else s.postEvent (Node.fn t.raw m) (Node.eq t.raw m) 0x20 tree tree []) s

/-- A node is installed in place of any of the same tree ID (R280, R283): staging reserved, next OSN = START_OSN, a fresh
context for each edge. -/
def State.installTree (s : State) (r : Nat) (owner : Option Nat) : State :=
  let tree := Node.tree r
  let s := s.dropEdges tree
  let t : Tree := { raw := r, owner := owner, broken := false, next := List.replicate (Node.locals r) (Node.start r),
                    oldest := Node.start r, ops := [],
                    edges := (Node.edges r).foldl (fun e dev => Tab.put e dev ⟨s.ticks, s.ticks⟩) [] }
  let s := { s with trees := Tab.put s.trees tree t }
  (Node.edges r).foldl (fun s dev =>
    let key := edgeKey tree dev
    let c := s.freshCtx Kind.edge .A dev 2
    s.makeCtx key { c with inc := BitVec.ofNat 32 (Node.epoch r), rcvInc := BitVec.ofNat 32 (Node.epoch r), rcvFresh := false,
                           slot := false }) s

/-- A node is removed (R283): as entry to BROKEN, then its staging is released. -/
def State.removeTree (s : State) (tree : Nat) : State :=
  let s := (s.breakTree tree).dropEdges tree
  { s with trees := Tab.del s.trees tree }

/-! ## Completion of members -/

/-- A member receives result bytes (R284): every member, but for BARRIER none and for REDUCE only the one of ROOT_RANK. -/
def Member.receives (m : Member) (node : Nat) : Bool :=
  let op := Ent.opcode m.raw
  if op = 0x20 then false else if op = 0x22 then Node.rank node m.slot == Coll.rootRank m.raw else true

/-- A member contributes data (R284). -/
def Member.gives (m : Member) (node : Nat) : Bool :=
  let op := Ent.opcode m.raw
  if op = 0x20 then false else if op = 0x21 then Node.rank node m.slot == Coll.rootRank m.raw else true

/-- The status of a member's completion (R303): the first that applies. -/
def Member.status (m : Member) (verdict : Bool) : Nat :=
  match m.fail with
  | some st => st
  | none =>
    if verdict then Status.malformed else if m.overflow then Status.overflow else if m.inexact then Status.inexact
    else Status.ok

/-- A member's entry completes (R303), after its result writes (R59). -/
def State.finishMember (s : State) (tree : Nat) (osn : BitVec 32) (m : Member) (verdict : Bool) : State :=
  (s.modMember tree osn m.slot (fun m => { m with finished := true })).finishWqe m.qpn m.idx (m.status verdict) m.written
    (m.inexact.toNat + 2 * m.overflow.toNat) [.exchange tree]

/-- Operations that are finished at the front of a node's window leave it (R289). -/
def Tree.slide (t : Tree) : Nat → Tree
  | 0 => t
  | n + 1 =>
    match t.ops.find? (fun o => o.osn == t.oldest) with
    | some o =>
      if o.finished then Tree.slide { t with oldest := t.oldest + 1, ops := t.ops.filter (fun x => x.osn != o.osn) } n else t
    | none => t

/-- An operation is finished at this node: every segment has come down, and every local member has completed. -/
def State.closeOp (s : State) (tree : Nat) (osn : BitVec 32) : State :=
  match Tab.look s.trees tree with
  | none => s
  | some t =>
    match t.ops.find? (fun o => o.osn == osn) with
    | none => s
    | some o =>
      let down := o.verdict || decide (Desc.segs o.desc ≤ o.downSegs.length)
      if down && o.members.length == Node.locals t.raw && o.members.all (fun m => m.finished) then
        (s.modOp tree osn (fun o => { o with finished := true, segs := [], early := [] })).modTree tree (fun t => t.slide 5)
      else s

/-- Result pieces of a member are written in order (R139, R291); a miss waits. A member with nothing left to come
completes. -/
def State.flushMember (s : State) (tree : Nat) (osn : BitVec 32) (slot : Nat) : Nat → State
  | 0 => s
  | n + 1 =>
    match s.opOf tree osn with
    | none => s
    | some o =>
      match o.member slot with
      | none => s
      | some m =>
        if m.finished then s else
        match m.out with
        | [] =>
          if o.verdict || decide (Desc.segs o.desc ≤ m.segsDone) then (s.finishMember tree osn m o.verdict).closeOp tree osn else s
        | (off, data, poison) :: rest =>
          match Tab.look s.qps m.qpn with
          | none => s
          | some q =>
            if m.fail.isSome && m.fail != some Status.poisoned then
              State.flushMember (s.modMember tree osn slot (fun m => { m with out := rest, segsDone := m.segsDone + 1 })) tree osn
                slot n
            else
              let va := Coll.resAddr m.raw + off
              let key := Coll.resKey m.raw
              let st := s.localCheck q.pd q.fn key va data.length true
              if st ≠ Status.ok then
                State.flushMember (s.modMember tree osn slot (fun m => { m with fail := some st })) tree osn slot n
              else
                match (if data.isEmpty then (.ok [], s) else s.reachKey key va data.length .write false) with
                | (.ok spans, s) =>
                  let step (acc : State × Bytes × Nat) (sp : Nat × Nat) : State × Bytes × Nat :=
                    (if poison && acc.1.param 0x204001 = 1 then acc.1
                     else acc.1.hostWrite q.fn 3 0 (.exchange tree) sp.1 (acc.2.1.take sp.2) poison (some (key, acc.2.2, sp.2)),
                     acc.2.1.drop sp.2, acc.2.2 + sp.2)
                  let s := (spans.foldl step (s, data, va)).1
                  State.flushMember (s.modMember tree osn slot (fun m =>
                    { m with out := rest, segsDone := m.segsDone + 1, written := m.written + data.length })) tree osn slot n
                | (.miss page, s) =>
                  match s.keyRaw key with
                  | some k => s.raiseMiss (keyIndex key) k page .write (.coll tree osn slot)
                  | none => s
                | (r, s) =>
                  State.flushMember (s.modMember tree osn slot (fun m => { m with fail := some r.localStatus })) tree osn slot n

/-! ## The down phase -/

/-- A segment's result is handed to the local members (R291, R303). -/
def State.deliverSeg (s : State) (tree : Nat) (osn : BitVec 32) (n : Nat) (v : SegVal) : State :=
  match Tab.look s.trees tree, s.opOf tree osn with
  | some t, some o =>
    let d := o.desc
    let data := elemsBytes (Desc.elem d) v.elems
    o.members.foldl (fun s m =>
      let bytes := if m.receives t.raw && !o.verdict then data else []
      let s := s.modMember tree osn m.slot (fun m =>
        { m with out := m.out ++ [(n * Desc.perSeg d * Desc.elem d, bytes, v.poison)], inexact := m.inexact || v.inexact,
                 overflow := m.overflow || v.overflow,
                 fail := if v.poison && m.fail.isNone then some Status.poisoned else m.fail })
      s.flushMember tree osn m.slot (2 * m.out.length + 4)) s
  | _, _ => s

/-- A segment passes down through this node: to every child and to the local members, which take nothing before segment 0
(R291, R292). Its staging is free again. -/
def State.passDown (s : State) (tree : Nat) (osn : BitVec 32) (n : Nat) (v : SegVal) (verdict : Bool) : State :=
  match Tab.look s.trees tree, s.opOf tree osn with
  | some t, some o =>
    if o.downSegs.contains n || o.verdict then s else
    let s := (Node.childList t.raw).foldl (fun s dev => s.sendSeg tree dev osn o.desc n true verdict v) s
    let s := s.modOp tree osn (fun o =>
      { o with downSegs := o.downSegs ++ [n], segs := Tab.del o.segs n, verdict := o.verdict || verdict,
               early := Tab.put o.early n v })
    let s :=
      if n = 0 ∨ o.downSegs.contains 0 = true then
        match s.opOf tree osn with
        | some o' =>
          let s := s.modOp tree osn (fun o => { o with early := [] })
          o'.early.foldl (fun s e => s.deliverSeg tree osn e.1 e.2) s
        | none => s
      else s
    s.closeOp tree osn
  | _, _ => s

/-! ## The up phase -/

/-- An operation of an OSN at a node, made by its first contribution (R289, R291). A later contribution with another
descriptor is a mismatch. -/
def State.needOp (s : State) (tree : Nat) (osn : BitVec 32) (d : Nat) : State :=
  match s.opOf tree osn with
  | some o => if o.desc = d then s else s.modOp tree osn (fun o => { o with mismatch := true })
  | none =>
    s.modTree tree (fun t => { t with ops := t.ops ++ [{
      osn := osn, desc := d, mismatch := false, verdict := false, pipe := s.param 0x702001, members := [], segs := [],
      downSegs := [], early := [], finished := false }] })

/-- Staging for a segment: segment 0 has its reservation; a further one claims, within `7020:01` and the region (R290). -/
def State.claimSeg (s : State) (tree : Nat) (osn : BitVec 32) (n : Nat) : Option State :=
  match Tab.look s.trees tree, s.opOf tree osn with
  | some t, some o =>
    if Tab.has o.segs n then some s
    else if n = 0 ∨ (CollOp.further o < o.pipe ∧ s.stagingUsed + stagingOf t.raw ≤ s.stagingSize) then
      some (s.modOp tree osn (fun o => { o with segs := Tab.put o.segs n ⟨[], [], false⟩ }))
    else none
  | _, _ => none

/-- A segment whose contributions are all there is combined in slot order, then child order, and goes to the parent, or at
the root down (R292). -/
def State.tryCombine (s : State) (tree : Nat) (osn : BitVec 32) (n : Nat) : State :=
  match Tab.look s.trees tree, s.opOf tree osn with
  | some t, some o =>
    match Tab.look o.segs n with
    | none => s
    | some g =>
      let locals_ := (List.range (Node.locals t.raw)).map (Tab.look g.loc)
      let kids := (Node.childList t.raw).map (Tab.look g.child)
      if g.sent || (locals_ ++ kids).any (fun x => x.isNone) then s else
      let vals := (locals_ ++ kids).filterMap id
      let v := if o.mismatch then SegVal.none else
        match vals with
        | [] => SegVal.none
        | a :: l => l.foldl (combine o.desc) a
      let s := (s.modOp tree osn (fun o => { o with segs := Tab.mod o.segs n (fun g => { g with sent := true }) })).count
        Event.combined anyUnit 1
      if Node.root t.raw then s.passDown tree osn n (rootResult o.desc v) o.mismatch
      else s.sendSeg tree (Node.parent t.raw) osn o.desc n false o.mismatch v
  | _, _ => s

/-- The contribution of a member to a segment, from its input bytes (R284, R294, R298). -/
def Member.value (m : Member) (node d n : Nat) (data : Bytes) (poison : Bool) : SegVal :=
  if !m.gives node then SegVal.none
  else if Desc.cop d = 0x24 then ⟨[voteWord (Coll.vote m.raw)], false, false, poison⟩
  else
    let e := elemsOf (Desc.elem d) (Desc.inSeg d n) data
    if Desc.ledger d then
      let r := e.map (fun x => ledgerIn x (Desc.lsb d))
      ⟨r.map (fun x => x.1), r.any (fun x => x.2.1), r.any (fun x => x.2.2), poison⟩
    else ⟨e, false, false, poison⟩

/-- Input bytes of a segment. -/
def Desc.inputOf (d n : Nat) : Nat × Nat := (n * Desc.perSeg d * Desc.elem d, Desc.inSeg d n * Desc.elem d)

/-- A member has input bytes to read. -/
def Member.reads (m : Member) (node d : Nat) : Bool := m.gives node && Desc.cop d != 0x24 && Desc.cop d != 0x20

/-- A member gives its contribution to a segment. -/
def State.contribute (s : State) (tree : Nat) (osn : BitVec 32) (n slot : Nat) (v : SegVal) : State :=
  (s.modOp tree osn (fun o => { o with segs := Tab.mod o.segs n (fun g => { g with loc := Tab.put g.loc slot v }) })).tryCombine
    tree osn n

/-- Pieces of a member's input are read in order (R139, R365); a miss waits; a failure makes the rest of its contributions
poisoned and its completion that failure (notes/assumptions/11.md). -/
def State.readMember (s : State) (tree : Nat) (osn : BitVec 32) (slot : Nat) : Nat → State
  | 0 => s
  | k + 1 =>
    match s.opOf tree osn with
    | none => s
    | some o =>
      match o.member slot with
      | none => s
      | some m =>
        match m.todo, Tab.look s.qps m.qpn with
        | (off, len) :: rest, some q =>
          let va := Ent.laddr m.raw + off
          let key := Ent.lkey m.raw
          let fail (s : State) (st : Nat) : State :=
            s.modMember tree osn slot (fun m =>
              { m with fail := if m.fail.isSome then m.fail else some st, todo := rest,
                       got := m.got ++ [(off, List.replicate len 0, true)] })
          let st := if m.fail.isSome then Status.aborted else s.localCheck q.pd q.fn key va len false
          if st ≠ Status.ok then State.readMember (fail s st) tree osn slot k
          else
            match s.reachKey key va len .read false with
            | (.ok spans, s) =>
              let step (acc : State × Nat) (sp : Nat × Nat) : State × Nat :=
                (acc.1.hostRead q.fn 3 0 (.exchange tree) sp.1 sp.2 (.coll tree osn slot acc.2) (some (key, Ent.laddr m.raw + acc.2, sp.2)),
                 acc.2 + sp.2)
              let s := (spans.foldl step (s, off)).1
              State.readMember (s.modMember tree osn slot (fun m => { m with todo := rest })) tree osn slot k
            | (.miss page, s) =>
              match s.keyRaw key with
              | some kk => s.raiseMiss (keyIndex key) kk page .read (.coll tree osn slot)
              | none => s
            | (r, s) => State.readMember (fail s r.localStatus) tree osn slot k
        | _, _ => s

/-- Contributions whose input has been read are given (R292). -/
def State.giveReady (s : State) (tree : Nat) (osn : BitVec 32) (slot : Nat) : State :=
  match Tab.look s.trees tree, s.opOf tree osn with
  | some t, some o =>
    match o.member slot with
    | none => s
    | some m =>
      o.segs.foldl (fun s e =>
        if Tab.has e.2.loc slot || decide (m.next ≤ e.1) then s else
        let (off, len) := Desc.inputOf o.desc e.1
        match gatherBytes m.got (m.got.length + 1) off len with
        | some (d, p) =>
          let s := s.modMember tree osn slot (fun m =>
            { m with got := m.got.filter (fun g => !decide (off ≤ g.1 ∧ g.1 + g.2.1.length ≤ off + len)) })
          s.contribute tree osn e.1 slot (m.value t.raw o.desc e.1 d p)
        | none => s) s
  | _, _ => s

/-- A member takes up its next segments while staging lets it (R290): those without input are given at once, the others
are read. -/
def State.nextSegs (s : State) (tree : Nat) (osn : BitVec 32) (slot : Nat) : Nat → State
  | 0 => s
  | k + 1 =>
    match Tab.look s.trees tree, s.opOf tree osn with
    | some t, some o =>
      match o.member slot with
      | none => s
      | some m =>
        if Desc.segs o.desc ≤ m.next ∨ o.verdict = true then s else
        match s.claimSeg tree osn m.next with
        | none => s
        | some s =>
          let n := m.next
          let s := s.modMember tree osn slot (fun m => { m with next := n + 1 })
          if m.reads t.raw o.desc && decide (0 < (Desc.inputOf o.desc n).2) then
            let s := s.modMember tree osn slot (fun m => { m with todo := m.todo ++ [Desc.inputOf o.desc n] })
            State.nextSegs ((s.readMember tree osn slot (m.todo.length + 2)).giveReady tree osn slot) tree osn slot k
          else State.nextSegs (s.contribute tree osn n slot (m.value t.raw o.desc n [] false)) tree osn slot k
    | _, _ => s

/-- Every operation of a tree goes on as staging has become free. -/
def State.advanceTree (s : State) (tree : Nat) : State :=
  match Tab.look s.trees tree with
  | none => s
  | some t => t.ops.foldl (fun s o => o.members.foldl (fun s m => s.nextSegs tree o.osn m.slot (o.pipe + 2)) s) s

/-- A member's part in an operation before anything has been read or come back. -/
def newMember (slot qpn : Nat) (idx : BitVec 16) (raw : Nat) : Member :=
  { slot := slot, qpn := qpn, idx := idx, raw := raw, next := 0, todo := [], got := [], out := [], written := 0,
    segsDone := 0, inexact := false, overflow := false, fail := none, finished := false }

/-- An entry of a local member joins its operation (R288, R289). -/
def State.joinOp (s : State) (tree qpn : Nat) (idx : BitVec 16) (raw : Nat) : State :=
  let osn := BitVec.ofNat 32 (Coll.osn raw)
  let slot := Coll.member raw
  let s := s.needOp tree osn (descOf raw)
  let s := s.modOp tree osn (fun o => { o with members := o.members ++ [newMember slot qpn idx raw] })
  let s := s.modTree tree (fun t => { t with next := modNth t.next slot (fun n => n + 1) })
  s.nextSegs tree osn slot 80

/-! ## Arrivals -/

/-- The device of an edge of a node has been heard (R304). -/
def State.hearEdge (s : State) (tree dev : Nat) : State :=
  s.modTree tree (fun t => { t with edges := Tab.mod t.edges dev (fun e => { e with rx := s.ticks }) })

/-- Distance of an EPOCH ahead of a node's, modulo 2^16. -/
def epochAhead (p : Packet) (t : Tree) : Nat := (BitVec.ofNat 16 p.inc - BitVec.ofNat 16 (Node.epoch t.raw)).toNat

/-- A packet is of a newer EPOCH than the node (R306). -/
def newerEpoch (p : Packet) (t : Tree) : Bool := let a := epochAhead p t; a != 0 && decide (a < 2 ^ 15)

/-- A packet is of an older EPOCH than the node (R306). -/
def olderEpoch (p : Packet) (t : Tree) : Bool := decide (2 ^ 15 ≤ epochAhead p t)

/-- The value that a COLL_SEG carries (R316, R317). -/
def segValOf (p : Packet) (down : Bool) : SegVal :=
  let d := Nat.land p.ext descMask
  ⟨elemsOf (Desc.wire d down) 4096 p.payload, Packet.ext p 0x34 26 1 == 1, Packet.ext p 0x34 27 1 == 1, p.poison⟩

/-- A segment is admitted at a READY node of its EPOCH (R289 to R292): one too far ahead, or without staging, is refused
NOT_READY; one of an operation that is complete is taken and has no effect. -/
def State.admitSeg (s : State) (tree : Nat) (t : Tree) (p : Packet) : Verdict × State :=
  let osn := BitVec.ofNat 32 (Packet.ext p 0x28 0 32)
  let n := Packet.ext p 0x2C 16 16
  let d := Nat.land p.ext descMask
  let down := Packet.ext p 0x34 25 1 == 1
  let verdict := Packet.ext p 0x34 28 1 == 1
  let ahead := (osn - t.oldest).toNat
  if 2 ^ 31 ≤ ahead then (.ok, s)
  else if 4 ≤ ahead then (.refuse Refuse.notReady s.backoffBells, s)
  else if down then (.ok, (s.passDown tree osn n (segValOf p true) verdict).advanceTree tree)
  else
    let s' := s.needOp tree osn d
    match s'.claimSeg tree osn n with
    | none => (.refuse Refuse.notReady s.backoffBells, s)
    | some s =>
      let s := if verdict then s.modOp tree osn (fun o => { o with mismatch := true }) else s
      let s := s.modOp tree osn (fun o => { o with segs := Tab.mod o.segs n (fun g =>
        { g with child := Tab.put g.child p.srcDev (segValOf p false) }) })
      (.ok, (s.tryCombine tree osn n).advanceTree tree)

end Sys2Proof.Machine
end

