-- ==== Sys2Proof/Machine/Group.lean ====
section
/-!
DEFINITION. Group operations (R231 to R236, R351): what a member does with a group packet, and what its replies do at the
source.
-/
namespace Sys2Proof.Machine

/-! ## The Multicast Table -/

/-- MEMBER_COUNT, VALID, MEMBER, LANDING_KEY, LANDING_FUNC and PORT_MASK of a Multicast Table entry (R351). -/
def Mcast.count (e : Nat) : Nat := bits e 0x0C 8 4
/-- VALID (R351). -/
def Mcast.valid (e : Nat) : Bool := bits e 0x0C 13 1 == 1
/-- MEMBER (R351). -/
def Mcast.member (e : Nat) : Bool := bits e 0x0C 12 1 == 1
/-- LANDING_KEY (R351). -/
def Mcast.key (e : Nat) : Nat := bits e 0x08 0 32
/-- LANDING_FUNC (R351). -/
def Mcast.fn (e : Nat) : Nat := bits e 0x0C 0 8
/-- PORT_MASK (R351). -/
def Mcast.ports (e : Nat) : Nat := bits e 0x00 0 64

/-! ## At a member -/

/-- Group types (R314). -/
def groupType (t : Nat) : Bool := t == 7 || t == 8

/-- SRC_QPN of a group packet (R316). -/
def groupQpn (p : Packet) : Nat := Packet.ext p 0x30 0 24

/-- The Stall at which a group packet lands (R232): of its source device. -/
def groupStall (p : Packet) : Nat := p.srcDev % 16

/-- A remembered identity is that of a packet (R232, R311). -/
def groupIs (p : Packet) (e : Nat × Nat × Nat × Nat × Nat) : Bool :=
  e.1 == groupStall p && e.2.1 == p.srcDev && e.2.2.1 == groupQpn p && e.2.2.2.1 == (Packet.msgNum p).toNat

/-- The reply that a member gave to a message it still holds (R232). -/
def State.groupMemory (s : State) (p : Packet) : Option Nat := (s.groupSeen.find? (groupIs p)).map (fun e => e.2.2.2.2)

/-- A member reply to the source, on TC1 (R231, R316). `p` names the landing function in DEST_FUNC. -/
def State.memberReply (s : State) (p : Packet) (status : Nat) : State :=
  s.sendPacket { Packet.blank with
    ptype := 0x0D, tc := 1, mode := s.routeMode 1, destDev := p.srcDev, destFn := p.srcFn, srcDev := s.deviceId,
    srcFn := p.destFn, qpn := groupQpn p, destQueue := p.destQueue,
    ext := extAt 0x28 0 32 (Packet.msgNum p).toNat + extAt 0x2C 0 8 status }

/-- A group message is answered, and its identity kept (R231, R232). -/
def State.groupDone (s : State) (p : Packet) (status : Nat) : State :=
  let st := groupStall p
  let mine := s.groupSeen.filter (fun e => e.1 == st && !groupIs p e)
  let rest := s.groupSeen.filter (fun e => e.1 != st)
  { s with groupSeen := (st, p.srcDev, groupQpn p, (Packet.msgNum p).toNat, status) :: mine.take 1023 ++ rest }.memberReply p
    status

/-- A group message that this member has taken and not answered yet. -/
def State.groupOpen (s : State) (p : Packet) : Bool :=
  let same (x : Packet) : Bool :=
    groupType x.ptype && x.srcDev == p.srcDev && groupQpn x == groupQpn p && Packet.msgNum x == Packet.msgNum p
  s.groupRx.any (fun e => same e.2) || s.landing.any (fun l => same l.pkt)

/-- A group packet that waited fails (R158), unless a copy of it has been answered. -/
def State.groupFails (s : State) (p : Packet) (status : Nat) : State :=
  if (s.groupMemory p).isSome || s.groupOpen p then s
  else s.groupDone { p with destFn := Mcast.fn (Tab.num s.mcast p.destQueue) } status

/-- The payload of a group packet that has passed every check is written (R231); REPL_DURABLE_PUT goes on with the flush read of
R225, MCAST_PUT is answered once its writes have been issued. -/
def State.groupWrite (s : State) (p : Packet) (fn rkey va : Nat) (spans : List (Nat × Nat)) : State :=
  let src := landingKey p.srcDev
  let before := s.unitsOf (.stall src)
  let s := s.writeSpans src fn (stallClass p.tc) (groupStall p) va rkey p.poison spans p.payload
  let status := if p.poison then Status.poisoned else Status.ok
  match lastSpan spans with
  | some a =>
    if p.ptype = 7 && !p.poison then
      let id := s.tags
      { s with tags := s.tags + 1, groupRx := Tab.put s.groupRx id p }.hostFlush fn (stallClass p.tc) (groupStall p) (.stall src) []
        a (.groupFlush id)
    else if before < s.unitsOf (.stall src) then
      { s with landing := s.landing ++ [{ ctx := src, pkt := p, left := s.unitsOf (.stall src), code := status }] }
    else s.groupDone p status
  | none => s.groupDone p status

/-- A group packet at a member (R231, R232, R311, R537, R540): a repeat gets its earlier reply. One that the target may not take
yet (R77, R537) is dropped, and the source sends it again. -/
def State.groupArrive (s : State) (p : Packet) : State :=
  let e := Tab.num s.mcast p.destQueue
  let p := { p with destFn := Mcast.fn e }
  match s.groupMemory p with
  | some st => s.memberReply p st
  | none =>
    if s.groupOpen p then s
    else if !(Mcast.valid e && Mcast.member e) then s.groupDone p Status.endpointGone
    else
      match s.fnAnswer p.destFn false with
      | 1 => (if (s.port (fnPort p.destFn)).state = .reset then s.wakeFor p.destFn else s).groupDone p Status.endpointGone
      | 2 => s.wakeFor p.destFn
      | 3 => s.groupDone p Status.refusedClosing
      | _ =>
        if p.ptype = 7 ∧ s.openParam 0xE02002 < s.durableTarget + p.payload.length then s else
        let key := Mcast.key e
        match s.keyOf key with
        | none => s.groupDone p Status.remoteKey
        | some k =>
          let va := k.va + Packet.raddr p
          let durable := p.ptype == 7
          let st := s.remoteCheck key p.tenant va p.payload.length (if durable then .durable else .write)
          if st ≠ Status.ok then s.groupDone p st else
          match s.reachKey key va p.payload.length .write durable with
          | (.ok spans, s) => s.groupWrite p k.fn key va spans
          | (.miss page, s) => let (id, s) := s.missFor key page .write; s.toBench (groupStall p) p (.miss id)
          | (r, s) => s.groupDone p r.remoteStatus

/-- The flush read of a group message has been answered (R229, R231). -/
def State.groupFlushBack (s : State) (id : Nat) (a : Answer) : State :=
  match Tab.look s.groupRx id with
  | none => s
  | some p =>
    { s with groupRx := Tab.del s.groupRx id }.groupDone p (match a with
      | .data _ => Status.ok
      | .poisoned _ => Status.poisoned
      | _ => Status.timeout)

/-! ## At the source -/

/-- The entry of a group message completes (R234, R235); poisoned payload makes it POISONED (R64). -/
def State.finishGroup (s : State) (qpn : Nat) (m : TxMsg) (status : Nat) : State :=
  let status := if m.poisoned then Status.poisoned else status
  let s := s.dropMsg (groupKey qpn) m.id
  let s := s.modCtx (groupKey qpn) (fun c => { c with retry := 0, timer := if c.msgs.isEmpty then none else some s.clock })
  match m.owner with
  | some (q, idx) => s.finishWqe q idx status (if status = Status.ok then m.len else 0)
      (m.repOk + m.repFail * 256 + m.count * 65536) []
  | none => s

/-- What the replies to a group message decide (R234, points 1 and 2). -/
def State.groupStatus (s : State) (m : TxMsg) : Option Nat :=
  match s.ownerOf m with
  | none => none
  | some (_, _, w) =>
    let k := if m.ptype = 7 then Ent.k w.raw else m.count
    if k ≤ m.repOk then some Status.ok else if m.count - m.repFail < k then some m.lastFail else none

/-- Group messages of a queue pair that their replies have decided complete. -/
def State.decideGroup (s : State) (qpn : Nat) : State :=
  match Tab.look s.ctxs (groupKey qpn) with
  | none => s
  | some c => c.msgs.foldl (fun s m =>
      if m.firstAt.isNone then s else
      match s.groupStatus m with
      | some st => s.finishGroup qpn m st
      | none => s) s

/-- A member's reply is counted, once for each member (R234). -/
def TxMsg.replied (m : TxMsg) (dev status : Nat) : TxMsg :=
  if m.members.contains dev then m
  else if status = Status.ok then { m with members := m.members ++ [dev], repOk := m.repOk + 1 }
  else { m with members := m.members ++ [dev], repFail := m.repFail + 1, lastFail := status }

/-- A member reply arrives at its queue pair (R235, R311): one for no live message is counted. -/
def State.groupReply (s : State) (p : Packet) : State :=
  let key := groupKey p.qpn
  if !Tab.has s.qps p.qpn then s.count Event.noContext (p.qpn % 16) 1 else
  let hit := match Tab.look s.ctxs key with
    | some c => c.msgs.find? (fun (m : TxMsg) => m.num == Packet.msgNum p && m.owner.isSome)
    | none => none
  match hit with
  | none => s.count Event.lateReply (p.qpn % 16) 1
  | some m => (s.modMsg key m.id (fun m => m.replied p.srcDev (Packet.ext p 0x2C 0 8))).decideGroup p.qpn

/-- Group messages whose DEADLINE_BELLS have passed since their first transmission complete TIMEOUT (R234, point 3). -/
def State.groupDeadline (s : State) (qpn : Nat) : State :=
  match Tab.look s.ctxs (groupKey qpn) with
  | none => s
  | some c => c.msgs.foldl (fun s m =>
      match m.firstAt, s.ownerOf m with
      | some t, some (_, _, w) =>
        if Ent.deadline w.raw != 0 && decide (t + Ent.deadline w.raw ≤ s.ticks) then s.finishGroup qpn m Status.timeout else s
      | _, _ => s) s

/-- The timer of a queue pair's group messages has expired (R233, R234 point 4): each is sent again to the whole group, or its
retry limit is reached. -/
def State.groupTimer (s : State) (qpn : Nat) : State :=
  let key := groupKey qpn
  match Tab.look s.ctxs key with
  | none => s
  | some c =>
    let s := s.modCtx key (fun c => { c with retry := c.retry + 1, timer := some s.clock })
    c.msgs.foldl (fun s m =>
      match m.final with
      | none => s
      | some p =>
        if s.param 0x502003 ≤ m.resends && !s.unlimited m then s.finishGroup qpn m Status.retryExceeded
        else ((s.modMsg key m.id (fun m => { m with resends := m.resends + 1 })).sendPacket p).count Event.retransmit
          (Ctx.stall c key) 1) s

end Sys2Proof.Machine
end

