-- ==== Sys2Proof/Machine/Initiator.lean ====
section
/-!
DEFINITION. The start of a work entry (06_operations.md, 07_matching.md, 08_collectives.md): when an entry may start, what it
checks, the message it hands to its context, send-at-time, and the entries of each opcode.
-/
namespace Sys2Proof.Machine

/-! ## When an entry may start -/

/-- The entry of a send queue that is next to start (R98, R99): the queue pair is READY, the part OPEN, the port UP and the
function awake, its completion reserved, and with FENCE every earlier entry of the queue completed (R89). -/
def State.ripe (s : State) (qpn : Nat) (stage : Stage) : Option (Qp × Wqe) :=
  match Tab.look s.qps qpn with
  | none => none
  | some q =>
    match q.sq.firstWaiting with
    | none => none
    | some w =>
      let earlier := q.sq.ents.takeWhile (fun x => x.idx != w.idx)
      if q.state == .ready && s.life == .open_ && s.awake q.fn && w.reserved && w.stage == stage && !isPad w.raw &&
          (Ent.fence w.raw == 0 || earlier.all (fun x => x.stage == .done)) then some (q, w)
      else none

/-- The local buffer of an entry that R139 checks: key, address, length, and whether the part writes it. -/
def localOf (r : Nat) : Nat × Nat × Nat × Bool :=
  let op := Ent.opcode r
  if Ent.inline r = 1 then (0, 0, 0, false)
  else if op = 5 then (Ent.lkey r, Ent.laddr r, (if Ent.atomicOp r = 0 ∨ Ent.atomicOp r = 2 then 4
    else if Ent.atomicOp r = 5 then 16 else 8), true)
  else (Ent.lkey r, Ent.laddr r, Ent.len r, op == 4)

/-- The check of an entry's local buffer (R139). -/
def State.localOk (s : State) (q : Qp) (w : Wqe) : Nat :=
  let (k, a, n, wr) := localOf w.raw
  s.localCheck q.pd q.fn k a n wr

/-- An entry that is not carried out completes with a status (R123, R139, R237). -/
def State.declineWqe (s : State) (qpn : Nat) (w : Wqe) (status : Nat) : State := s.finishWqe qpn w.idx status 0 0 []

/-- An entry is started (R98). -/
def State.startWqe (s : State) (qpn : Nat) (q : Qp) (w : Wqe) : State :=
  (s.modSq qpn (fun x => Sq.modEnt x w.idx (fun w => { w with stage := .started }))).count Event.started q.fn 1

/-- Initiator bytes (R537): summed LEN of started durable entries that have not completed. -/
def State.durableInit (s : State) : Nat :=
  s.qps.foldl (fun n e => e.2.sq.ents.foldl (fun n w =>
    if w.stage = .started ∧ (Ent.opcode w.raw = 6 ∨ Ent.opcode w.raw = 7) then n + Ent.len w.raw else n) n) 0

/-! ## Messages of an entry -/

/-- Destination of a message: of the queue pair on CT, of the entry on ST (R173, R201, R206). -/
def Qp.dest (q : Qp) (r : Nat) : Nat × Nat := if q.st then (Ent.destDev r, Ent.destFn r) else (q.peerDev, q.peerFn)

/-- Context of an entry's message (R172, R173). -/
def Qp.ctxKey (q : Qp) (qpn r : Nat) : Nat := if q.st then stKey (fnPort q.fn) (Ent.destDev r) q.tc else ctKey qpn

/-- The header of an entry's packets (R312, R314, R316). `ext` holds the fields of 0x28 to 0x3F other than MSG_NUM and
OFFSET. -/
def State.entryProto (s : State) (qpn : Nat) (q : Qp) (r ptype ext : Nat) : Packet :=
  let (dev, fn) := Qp.dest q r
  { Packet.blank with
    ptype := ptype, tc := q.tc, mode := s.routeMode q.tc, tenant := s.tenantOf q.fn, destDev := dev, destFn := fn,
    srcDev := s.deviceId, srcFn := q.fn, solicited := Ent.solicited r == 1, flow := qpn % 65536,
    qpn := if q.st then 0 else q.peerQpn, st := q.st, inc := if q.st then 0 else qpn,
    destQueue := if q.st && (ptype == 1 || ptype == 0x10 || ptype == 0x11) then Ent.destQueue r else 0, ext := ext }

/-- Inline payload of an entry (R208). -/
def inlineBytes (r : Nat) : Bytes := leBytes (Ent.len r) (r / 2 ^ (512 * baseSlots (Ent.opcode r)))

/-- A message whose payload is the entry's buffer, or stands inline in it (R206, R208, R318). -/
def State.payloadMsg (s : State) (qpn : Nat) (q : Qp) (w : Wqe) (ptype ext raddr : Nat) : TxMsg :=
  let r := w.raw
  let cut := cutMessage ptype raddr (Ent.len r)
  let inl := Ent.inline r = 1
  { TxMsg.blank with
    ptype := ptype, owner := some (qpn, w.idx), proto := s.entryProto qpn q r ptype ext, fn := q.fn, pd := some q.pd,
    len := Ent.len r, plan := cut.map (fun x => (x.1, x.2, false)),
    src := if inl then none else some (Ent.lkey r, Ent.laddr r), todo := if inl then [] else cut.filter (fun x => x.2 != 0),
    got := if inl then [(0, inlineBytes r, false)] else [] }

/-- MSG_LEN, RKEY and RADDR of a put or a request (R316). -/
def remoteExt (r : Nat) : Nat := extAt 0x2C 0 32 (Ent.len r) + extAt 0x34 0 32 (Ent.rkey r) + extAt 0x38 0 64 (Ent.raddr r)

/-- The envelope of a TSEND (R246, R316). -/
def envelopeExt (r : Nat) : Nat :=
  extAt 0x2C 0 32 (Ent.len r) + extAt 0x34 0 32 (Tag.rank r) + extAt 0x38 0 32 (Tag.tag r) + extAt 0x3C 0 16 (Tag.context r) +
  extAt 0x3C 16 16 (Tag.msn r)

/-- OPERAND, OPERAND_HI, COMPARE and COMPARE_HI as the payload of an ATOMIC_REQ (R317). -/
def atomicPayload (r : Nat) : Bytes :=
  let k := Ent.atomicOp r
  if k ≤ 3 then leBytes 8 (if k = 0 ∨ k = 2 then Ent.operand r % 2 ^ 32 else Ent.operand r)
  else if k = 4 then leBytes 8 (Ent.operand r) ++ leBytes 8 (Ent.compare r)
  else leBytes 8 (Ent.operand r) ++ leBytes 8 (Ent.operandHi r) ++ leBytes 8 (Ent.compare r) ++ leBytes 8 (Ent.compareHi r)

/-- TSEND is eager (R260). -/
def State.eager (s : State) (r : Nat) : Bool :=
  Tag.protocol r == 1 || (Tag.protocol r == 0 && decide (Ent.len r ≤ s.param 0x602001))

/-- The message of an entry of opcode 0x01 to 0x06 or 0x10 (R205, R217, R220, R222, R225, R261, R262). -/
def State.entryMsg (s : State) (qpn : Nat) (q : Qp) (w : Wqe) : TxMsg :=
  let r := w.raw
  match Ent.opcode r with
  | 0x01 => s.payloadMsg qpn q w 1 (extAt 0x2C 0 32 (Ent.len r)) 0
  | 0x02 => s.payloadMsg qpn q w 2 (remoteExt r) (Ent.raddr r)
  | 0x03 =>
    let m := s.payloadMsg qpn q w 3 (remoteExt r) (Ent.raddr r)
    { m with flag := some (Ent.flagKey r, Ent.flagAddr r, Ent.flagValue r), plan := m.plan ++ [(Ent.len r, 8, true)] }
  | 0x04 =>
    { TxMsg.blank with ptype := 4, owner := some (qpn, w.idx), proto := s.entryProto qpn q r 4 (remoteExt r), fn := q.fn,
                       pd := some q.pd, plan := [(0, 0, false)] }
  | 0x05 =>
    let d := atomicPayload r
    { TxMsg.blank with ptype := 5, owner := some (qpn, w.idx), fn := q.fn, pd := some q.pd,
                       proto := s.entryProto qpn q r 5 (extAt 0x2C 0 4 (Ent.atomicOp r) + extAt 0x34 0 32 (Ent.rkey r) +
                         extAt 0x38 0 64 (Ent.raddr r)),
                       plan := [(0, d.length, false)], got := [(0, d, false)] }
  | 0x06 => s.payloadMsg qpn q w 6 (remoteExt r) (Ent.raddr r)
  | _ =>
    if s.eager r then s.payloadMsg qpn q w 0x10 (envelopeExt r) 0
    else { TxMsg.blank with ptype := 0x11, owner := some (qpn, w.idx), fn := q.fn, pd := some q.pd,
                            proto := s.entryProto qpn q r 0x11 (envelopeExt r), plan := [(0, 0, false)] }

/-- An entry is handed to its context (R173, R177, R179, R180): it starts when the context is resident; otherwise it waits in
the queue engine. A new ST context for which the Shelf has no room completes it ABORTED (R177). -/
def State.launch (s : State) (qpn : Nat) (q : Qp) (w : Wqe) : State :=
  if s.localOk q w ≠ Status.ok then s.declineWqe qpn w (s.localOk q w) else
  let key := Qp.ctxKey q qpn w.raw
  match (if q.st then s.needSt (fnPort q.fn) (Ent.destDev w.raw) q.tc else some s) with
  | none => s.declineWqe qpn w Status.aborted
  | some s =>
    if s.resident key then ((s.startWqe qpn q w).addMsg key (s.entryMsg qpn q w)).pump key pumpFuel
    else s.park key qpn

/-! ## Durable limits and group messages -/

/-- A durable entry under the limit `E020:01` (R537): one too long for it completes ABORTED, one that would take the sum above
it waits. -/
def State.underLimit (s : State) (qpn : Nat) (w : Wqe) (go : State → State) : State :=
  let limit := s.openParam 0xE02001
  if limit < Ent.len w.raw then s.declineWqe qpn w Status.aborted
  else if limit < s.durableInit + Ent.len w.raw then s
  else go s

/-- A group entry (R231 to R236): a group without an entry here, or K above *n*, completes ABORTED; otherwise one packet goes to
the group under the next number of the queue pair's counter. -/
def State.launchGroup (s : State) (qpn : Nat) (q : Qp) (w : Wqe) (ptype : Nat) : State :=
  let r := w.raw
  let e := Tab.num s.mcast (Ent.destQueue r)
  if !Mcast.valid e || (ptype == 7 && decide (Mcast.count e < Ent.k r)) then s.declineWqe qpn w Status.aborted
  else if s.localOk q w ≠ Status.ok then s.declineWqe qpn w (s.localOk q w)
  else
    let key := groupKey qpn
    let s := if Tab.has s.ctxs key then s
      else s.makeCtx key { s.freshCtx Kind.group (fnPort q.fn) 0 q.tc with nextNum := q.groupNum }
    let ext := extAt 0x2C 0 32 (Ent.len r) + extAt 0x30 0 24 qpn + extAt 0x38 0 64 (Ent.raddr r)
    let m := s.payloadMsg qpn q w ptype ext 0
    let m := { m with count := Mcast.count e,
                      proto := { m.proto with tc := 2, mode := 2, destDev := 0, destFn := 0, qpn := 0, st := false, inc := 0,
                                              destQueue := Ent.destQueue r } }
    let s := (s.startWqe qpn q w).modQp qpn (fun q => { q with groupNum := q.groupNum + 1 })
    ((s.addMsg key m).pump key pumpFuel).decideGroup qpn

/-! ## Collectives -/

/-- A collective entry (R287 to R289, R305): what it is refused for, or its part in the operation. -/
def State.launchColl (s : State) (qpn : Nat) (q : Qp) (w : Wqe) : State :=
  let r := w.raw
  let tree := Coll.tree r
  let slot := Coll.member r
  match Tab.look s.trees tree with
  | none => s.declineWqe qpn w Status.aborted
  | some t =>
    if decide (Node.locals t.raw ≤ slot) || Node.fn t.raw slot != q.fn || Node.pd t.raw slot != q.pd then
      s.declineWqe qpn w Status.protFault
    else if t.broken then s.declineWqe qpn w Status.peerGone
    else if BitVec.ofNat 32 (Coll.osn r) ≠ nth t.next slot then s.declineWqe qpn w Status.malformed
    else if 4 ≤ (BitVec.ofNat 32 (Coll.osn r) - t.oldest).toNat then s
    else
      let m := newMember slot qpn w.idx r
      let inLen := if m.gives t.raw && Ent.opcode r != 0x24 then Ent.len r else 0
      let outLen := if m.receives t.raw then (if Ent.opcode r = 0x24 then 8 else Ent.len r) else 0
      let a := s.localCheck q.pd q.fn (Ent.lkey r) (Ent.laddr r) inLen false
      let b := s.localCheck q.pd q.fn (Coll.resKey r) (Coll.resAddr r) outLen true
      if a ≠ Status.ok then s.declineWqe qpn w a
      else if b ≠ Status.ok then s.declineWqe qpn w b
      else (s.startWqe qpn q w).joinOp tree qpn w.idx r

/-! ## Start by opcode, and send-at-time -/

/-- An entry of any opcode of a send queue starts (R205, R245, R284). -/
def State.startOp (s : State) (qpn : Nat) (q : Qp) (w : Wqe) : State :=
  match Ent.opcode w.raw with
  | 0x06 => s.underLimit qpn w (fun s => s.launch qpn q w)
  | 0x07 => s.underLimit qpn w (fun s => s.launchGroup qpn q w 7)
  | 0x08 => s.launchGroup qpn q w 8
  | 0x20 => s.launchColl qpn q w
  | 0x21 => s.launchColl qpn q w
  | 0x22 => s.launchColl qpn q w
  | 0x23 => s.launchColl qpn q w
  | 0x24 => s.launchColl qpn q w
  | _ => s.launch qpn q w

/-- How far AT_TIME_VALUE lies ahead of a short ftime, modulo 2^64 (R238). -/
def atAhead (r now : Nat) : Int := toSigned 64 ((Ent.atValue r + 2 ^ 64 - now % 2 ^ 64) % 2 ^ 64)

/-- An entry is started, or waits for its time (R237, R238): a time in the past, or more than 2^32 - 1 units ahead, releases it
at once, and the latter is counted. A fault found while it waits completes it at once. -/
def State.startAt (s : State) (qpn : Nat) (q : Qp) (w : Wqe) : State :=
  if Ent.atTime w.raw = 0 then s.startOp qpn q w else
  let s := s.later
  let d := atAhead w.raw s.shortTime
  if d ≤ 0 then s.startOp qpn q w
  else if 2 ^ 32 - 1 < d then (s.count Event.earlyRelease (Ctx.stall (s.freshCtx (if q.st then Kind.st else Kind.ct)
    (fnPort q.fn) (Ent.destDev w.raw) q.tc) qpn) 1).startOp qpn q w
  else if s.localOk q w ≠ Status.ok ∧ Ent.opcode w.raw < 0x20 then s.declineWqe qpn w (s.localOk q w)
  else s.modSq qpn (fun x => Sq.modEnt x w.idx (fun w => { w with stage := .waitTime }))

/-- The row of an opcode acts on the entry that is next to start, where it has that opcode. -/
def State.startRow (s : State) (qpn op : Nat) : State :=
  match s.ripe qpn .fetched with
  | some (q, w) => if Ent.opcode w.raw = op then s.startAt qpn q w else s
  | none => s

/-- The next outcome of a command. -/
abbrev ok (s : State) : Host.Outcome State Fault Refusal := .next s

/-! ## The commands -/

/-- SEND (R213). -/
def execSend (qpn : Nat) (s : State) : Host.Outcome State Fault Refusal := ok (s.startRow qpn 0x01)

/-- PUT (R216). -/
def execPut (qpn : Nat) (s : State) : Host.Outcome State Fault Refusal := ok (s.startRow qpn 0x02)

/-- PUT_FLAG (R217). -/
def execPutFlag (qpn : Nat) (s : State) : Host.Outcome State Fault Refusal := ok (s.startRow qpn 0x03)

/-- GET (R220). -/
def execGet (qpn : Nat) (s : State) : Host.Outcome State Fault Refusal := ok (s.startRow qpn 0x04)

/-- ATOMIC (R222). -/
def execAtomic (qpn : Nat) (s : State) : Host.Outcome State Fault Refusal := ok (s.startRow qpn 0x05)

/-- DURABLE_PUT (R225). -/
def execDurablePut (qpn : Nat) (s : State) : Host.Outcome State Fault Refusal := ok (s.startRow qpn 0x06)

/-- REPL_DURABLE_PUT (R231). -/
def execReplDurablePut (qpn : Nat) (s : State) : Host.Outcome State Fault Refusal := ok (s.startRow qpn 0x07)

/-- MCAST_PUT (R231). -/
def execMcastPut (qpn : Nat) (s : State) : Host.Outcome State Fault Refusal := ok (s.startRow qpn 0x08)

/-- SEND_AT_TIME_RELEASE (R237): fabric time reaches the value of the entry that waits; where it lies ahead inside this bell,
time goes on to it. -/
def execSendAtTimeRelease (qpn : Nat) (s : State) : Host.Outcome State Fault Refusal :=
  match s.ripe qpn .waitTime with
  | some (q, w) =>
    let d := atAhead w.raw s.shortTime
    if d ≤ 0 then ok (s.startOp qpn q w)
    else if d < 4096 - s.sub then ok ({ s with sub := s.sub + d.toNat }.startOp qpn q w)
    else ok s
  | none => ok s

/-- TSEND (R260 to R262). -/
def execTsend (qpn : Nat) (s : State) : Host.Outcome State Fault Refusal := ok (s.startRow qpn 0x10)

/-- BARRIER (R293). -/
def execBarrier (qpn : Nat) (s : State) : Host.Outcome State Fault Refusal := ok (s.startRow qpn 0x20)

/-- BCAST (R293). -/
def execBcast (qpn : Nat) (s : State) : Host.Outcome State Fault Refusal := ok (s.startRow qpn 0x21)

/-- REDUCE (R292). -/
def execReduce (qpn : Nat) (s : State) : Host.Outcome State Fault Refusal := ok (s.startRow qpn 0x22)

/-- ALLREDUCE (R292). -/
def execAllreduce (qpn : Nat) (s : State) : Host.Outcome State Fault Refusal := ok (s.startRow qpn 0x23)

/-- VOTE (R294). -/
def execVote (qpn : Nat) (s : State) : Host.Outcome State Fault Refusal := ok (s.startRow qpn 0x24)

end Sys2Proof.Machine
end

