-- ==== Sys2Proof/Machine/AdminOps.lean ====
section
/-!
DEFINITION. Administrative commands (R117, R118, R124, R590): judging one that has been read, the halt, the row that acts on
it, and the objects of a function.
-/
namespace Sys2Proof.Machine

/-- The administrative path halts (R124): a function event goes out on vector 0. -/
def State.admHalt (s : State) (fn : Nat) : State :=
  (s.setFn fn (fun f => { f with halted := true })).msix fn 0 [.cq (admCqKey fn)]

/-- The command in progress is malformed (R124): it completes MALFORMED, and the path halts. -/
def State.admMalformed (s : State) (fn : Nat) : State :=
  ((s.setFn fn (fun f => { f with halted := true })).admDone fn Status.malformed 0 0 []).admHalt fn

/-- Slots of an administrative opcode; none for an undefined one (R118, R170, R201, R280, R472, R503). -/
def admSlots (op : Nat) : Option Nat :=
  match op with
  | 0x01 => some 2 | 0x02 => some 1 | 0x03 => some 2 | 0x04 => some 1 | 0x05 => some 1 | 0x06 => some 3 | 0x07 => some 2
  | 0x08 => some 1 | 0x09 => some 2 | 0x0A => some 1 | 0x0B => some 1 | 0x0C => some 1 | 0x0D => some 2
  | 0x10 => some 1 | 0x11 => some 1 | 0x12 => some 2 | 0x13 => some 2 | 0x14 => some 1 | 0x15 => some 2 | 0x16 => some 2
  | 0x17 => some 1
  | 0x20 => some 9 | 0x21 => some 1 | 0x22 => some 9
  | 0x28 => some 2 | 0x29 => some 1 | 0x2A => some 1 | 0x2B => some 1 | 0x2C => some 1 | 0x2D => some 1
  | 0x30 => some 2 | 0x31 => some 2 | 0x32 => some 2
  | _ => none

/-- The header of a command is well formed (R89, R117): a defined opcode with its LENGTH, the flags zero. -/
def admHeaderOk (r : Nat) : Bool :=
  admSlots (Ent.opcode r) == some (Ent.length r) && Ent.lenRsv r == 0 && Ent.flagsRsv r == 0 && Ent.signal r == 0 &&
  Ent.fence r == 0 && Ent.inline r == 0 && Ent.solicited r == 0

/-- A command that has been read is taken up (R117): a PAD is skipped; one that reaches beyond the announced PI waits for a
doorbell (R94); a malformed one halts the path (R124). -/
def State.takeAdmin (s : State) (fn : Nat) (data : Bytes) : State :=
  let f := s.fn fn
  let raw := leNat data
  let left := 2 ^ f.admSqLog2 - f.admCi.toNat % 2 ^ f.admSqLog2
  let (slots, short) := parseEntry raw (data.length / 64) left
  let s := s.setFn fn (fun f => { f with admFetching := false })
  if short then s.unreserve fn 1
  else if isPad raw && !lengthBad raw left then
    ((s.unreserve fn 1).setFn fn (fun f => { f with admCi := f.admCi + BitVec.ofNat 16 slots })).fetchAdmin fn
  else
    let c : AdminCmd :=
      { idx := f.admCi, slots := slots, raw := raw % 2 ^ (512 * slots), waiting := false, aux := 0, mark := 0 }
    let s := s.setFn fn (fun f => { f with admCur := some c })
    if lengthBad raw left || !admHeaderOk raw then s.admMalformed fn else s

/-- A command whose fetch failed (R67, R124, R589): its content is not known; it completes with the status, and the path
halts. WR_ID and OPCODE are free values. -/
def State.failAdminFetch (s : State) (fn status : Nat) : State :=
  let (wr, s) := s.draw (2 ^ 64)
  let (opc, s) := s.draw 256
  let c : AdminCmd :=
    { idx := (s.fn fn).admCi, slots := 1, raw := 1 + place 0 8 8 opc + place 8 0 64 wr, waiting := false, aux := 0, mark := 0 }
  let s := s.setFn fn (fun f => { f with admFetching := false, admCur := some c, halted := true })
  (s.admDone fn status 0 0 []).admHalt fn

/-- The row of an administrative opcode acts on the command in progress of a function, where it has that opcode and has not
been taken up yet. -/
def State.admRow (s : State) (fn op : Nat) (go : AdminCmd → State) : State :=
  match (s.fn fn).admCur with
  | some c => if Ent.opcode c.raw = op ∧ c.waiting = false ∧ s.portUp (fnPort fn) = true then go c else s
  | none => s

/-! ## Objects of a function -/

/-- Slots of a function in use: handles of CQs, EQs, SRQs, miss queues and administrative queues, doorbell slots of queue
pairs and of Porter channels (R107, R108). -/
def State.slotInUse (s : State) (fn n : Nat) : Bool :=
  n ≤ 1 || Tab.has s.cqs (qkey fn n) || Tab.has s.eqs (qkey fn n) || Tab.has s.srqs (qkey fn n) ||
  (match (s.fn fn).missq with
   | some q => q.handle == n || q.handle + 1 == n
   | none => false) ||
  s.qps.any (fun e => e.2.fn == fn && (e.2.sq.slot == n || (match e.2.rq with | some r => r.slot == n | none => false))) ||
  s.porter.any (fun e => e.2.state != .unbound && e.2.fn == fn && e.2.slot == n)

/-- The first number of a range of `n` from `lo` that is not used, searched from a place and around. -/
def pickFree (used : Nat → Bool) (lo n : Nat) : Nat → Nat → Option Nat
  | 0, _ => none
  | m + 1, k => if used (lo + k % n) then pickFree used lo n m (k + 1) else some (lo + k % n)

/-- A number of a range that is not used: the part's choice, a free value (notes/assumptions/3.md). -/
def State.choose (s : State) (used : Nat → Bool) (lo n : Nat) : Option Nat × State :=
  let (k, s) := s.draw n
  (pickFree used lo n n k, s)

/-- A handle for a new object: a number of the function that is not in use as a slot (R108). `n` handles in a row are wanted. -/
def State.freshHandle (s : State) (fn n : Nat) : Option Nat × State :=
  s.choose (fun k => decide (fnSlots fn < k + n ∨ 0xFFFF < k + n) || (List.range n).any (fun i => s.slotInUse fn (k + i))) 2
    (fnSlots fn - 2)

end Sys2Proof.Machine
end

