-- ==== Sys2Proof/Machine/Porter.lean ====
section
/-!
DEFINITION. The Porter (15_porter_dma.md): channels, descriptors, pieces, write-back, pause and stop.
-/
namespace Sys2Proof.Machine

/-! ## Descriptor fields (R475) -/

/-- OWN. -/
def Desc64.own (d : Nat) : Bool := bits d 0 0 1 == 1
/-- EVENT. -/
def Desc64.event (d : Nat) : Bool := bits d 0 1 1 == 1
/-- SRC_KIND. -/
def Desc64.srcKind (d : Nat) : Nat := bits d 0 2 2
/-- DST_KIND. -/
def Desc64.dstKind (d : Nat) : Nat := bits d 0 4 2
/-- SRC_KEY. -/
def Desc64.srcKey (d : Nat) : Nat := bits d 0x10 0 32
/-- DST_KEY. -/
def Desc64.dstKey (d : Nat) : Nat := bits d 0x14 0 32
/-- SRC_ADDR. -/
def Desc64.srcAddr (d : Nat) : Nat := bits d 0x18 0 64
/-- DST_ADDR. -/
def Desc64.dstAddr (d : Nat) : Nat := bits d 0x20 0 64
/-- SRC_LINE. -/
def Desc64.srcLine (d : Nat) : Nat := bits d 0x28 0 32
/-- DST_LINE. -/
def Desc64.dstLine (d : Nat) : Nat := bits d 0x2C 0 32
/-- SRC_STRIDE. -/
def Desc64.srcStride (d : Nat) : Nat := bits d 0x30 0 32
/-- DST_STRIDE. -/
def Desc64.dstStride (d : Nat) : Nat := bits d 0x34 0 32
/-- Source lines. -/
def Desc64.srcLines (d : Nat) : Nat := bits d 0x38 0 16 + 1
/-- Destination lines. -/
def Desc64.dstLines (d : Nat) : Nat := bits d 0x38 16 16 + 1
/-- Bytes that the descriptor moves: its destination's. -/
def Desc64.total (d : Nat) : Nat := Desc64.dstLine d * Desc64.dstLines d

/-- A line length is in its range (R475). -/
def lineOk (n : Nat) : Bool := decide (1 ≤ n ∧ n ≤ 16777216)

/-- A descriptor is well formed (R475, R476). A pattern has no source line, stride or count. -/
def Desc64.ok (d : Nat) : Bool :=
  let sk := Desc64.srcKind d
  let dk := Desc64.dstKind d
  let pattern := sk == 2
  sk != 3 && dk ≤ 1 && bits d 0 6 10 == 0 && bits d 0 24 8 == 0 && bits d 0x3C 0 32 == 0 && lineOk (Desc64.dstLine d) &&
  decide (Desc64.total d ≤ 1073741824) &&
  (if pattern then Desc64.srcLine d == 0 && Desc64.srcStride d == 0 && Desc64.srcLines d == 1
   else lineOk (Desc64.srcLine d) && Desc64.srcLine d * Desc64.srcLines d == Desc64.total d) &&
  (Desc64.srcStride d == 0 || decide (Desc64.srcLine d ≤ Desc64.srcStride d)) &&
  (Desc64.dstStride d == 0 || decide (Desc64.dstLine d ≤ Desc64.dstStride d)) &&
  (Desc64.dstStride d != 0 || Desc64.dstLines d == 1) && (sk == 0 || Desc64.srcKey d == 0) && (dk == 0 || Desc64.dstKey d == 0)

/-- Address of a stream offset on a side: its line and place in the line. -/
def sideAddr (base line stride off : Nat) : Nat := base + off / line * stride + off % line

/-- Bytes left in the line at a stream offset. -/
def lineLeft (line off : Nat) : Nat := line - off % line

/-- The piece at a stream offset (R481): at most one source line, one destination line and one 4 KiB page of either. -/
def Desc64.piece (d off : Nat) : Nat :=
  let dst := sideAddr (Desc64.dstAddr d) (Desc64.dstLine d) (Desc64.dstStride d) off
  let n := min (lineLeft (Desc64.dstLine d) off) (if Desc64.dstKind d = 0 then 4096 - dst % 4096 else 4096)
  if Desc64.srcKind d = 2 then n else
  let src := sideAddr (Desc64.srcAddr d) (Desc64.srcLine d) (Desc64.srcStride d) off
  min n (min (lineLeft (Desc64.srcLine d) off) (if Desc64.srcKind d = 0 then 4096 - src % 4096 else 4096))

/-- The highest offset a side of lines reaches, plus one. -/
def sideEnd (addr line lines stride : Nat) : Nat := addr + (lines - 1) * stride + line

/-! ## The Device Store -/

/-- Bytes of the Device Store (R36): `1110:02` GiB. -/
def State.storeSize (s : State) : Nat := s.openParam 0x111002 * 2 ^ 30

/-- A host port is admitted to the Device Store (R36, `1110:03`: 0 both, 1 Host Port A only, 2 Host Port B only). -/
def State.storeAdmits (s : State) (p : HPort) : Bool :=
  s.openParam 0x111003 == 0 || s.openParam 0x111003 == portNum p + 1

/-- A 64-byte line of a range carries poison (R67). -/
def State.linePoison (s : State) (off len : Nat) : Bool :=
  len != 0 && s.storePoison.any (fun l => decide (off / 64 ≤ l ∧ l ≤ (off + len - 1) / 64))

/-- Bytes are stored in the Device Store (R67): a poisoned write marks its lines; a full line written clean clears its mark. -/
def State.storeWrite (s : State) (off : Nat) (d : Bytes) (poisoned : Bool) : State :=
  if d.isEmpty then s else
  let first := off / 64
  let last := (off + d.length - 1) / 64
  let lines := (List.range (last + 1 - first)).map (fun i => first + i)
  let mark := if poisoned then s.storePoison ++ lines.filter (fun l => !s.storePoison.contains l)
    else s.storePoison.filter (fun l => !(decide (off ≤ l * 64 ∧ l * 64 + 64 ≤ off + d.length)))
  { s with store := Cells.writeBytes s.store off d, storePoison := mark }

/-! ## Channels -/

/-- A channel. -/
def State.chan (s : State) (ch : Nat) : Channel := Tab.getD s.porter ch Channel.fresh

/-- A channel changed. -/
def State.modChan (s : State) (ch : Nat) (f : Channel → Channel) : State := { s with porter := Tab.put s.porter ch (f (s.chan ch)) }

/-- SHARE of a channel (R484, `D100`). -/
def State.chanShare (s : State) (ch : Nat) : Nat := s.param (0xD10001 + ch)

/-- Usable bytes per bell of a host port at its width and rate (R485): 115,395 at x16 and 64 GT/s, in proportion otherwise. -/
def HostPort.perBell (h : HostPort) : Nat :=
  let rate := match h.link.rate with
    | 1 => 25 | 2 => 50 | 3 => 80 | 4 => 160 | 5 => 320 | 6 => 640 | _ => 0
  115395 * h.link.width * rate / (16 * 640)

/-- The allowance of a channel per bell (R484). -/
def State.allowance (s : State) (ch : Nat) : Nat := s.chanShare ch * (s.port (fnPort (s.chan ch).fn)).perBell / 256

/-- The channel may start and issue. -/
def Channel.runs (c : Channel) : Bool := c.state == .active || c.state == .draining

/-- Index of the next descriptor to read. -/
def Channel.nextRead (c : Channel) : BitVec 16 :=
  c.ci + (if c.cur.isSome then 1 else 0) + BitVec.ofNat 16 c.ahead.length

/-- The part reads the next announced descriptor (R477, R479). -/
def State.fetchDesc (s : State) (ch : Nat) : State :=
  let c := s.chan ch
  let i := c.nextRead
  if c.runs && !c.fetching && !c.ownZero && decide (i ≠ c.pi) && !(c.state == .draining && i == c.drainAt) &&
      decide (c.ahead.length ≤ s.param 0xD01001 - (if c.cur.isSome then 1 else 0)) && s.awake c.fn && s.life == .open_ then
    (s.modChan ch (fun c => { c with fetching := true })).hostRead c.fn 5 0 (.porter ch)
      (c.base + i.toNat % 2 ^ c.log2 * 64) 64 (.descriptor ch) none
  else s

/-- A PORTER event (R478): AUX holds the channel, the reason and the ring index. -/
def State.porterEvent (s : State) (ch : Nat) (c : Channel) (reason : Nat) (idx : BitVec 16) : State :=
  match c.eq with
  | some e => s.postEvent c.fn e 0x28 ((ch * 4 + reason) * 65536 + idx.toNat) (ch + reason * 16 + idx.toNat * 256) [.porter ch]
  | none => s

/-- The 8 bytes of a write-back (R478): OWN = 0, STATUS and BYTES_DONE; the fields that are software's stay. -/
def writeBackImage (d status done : Nat) : Bytes :=
  leBytes 8 (place 0 1 5 (bits d 0 1 5) + place 0 16 8 status + place 4 0 32 done)

/-- The unit of a write-back. -/
def State.writeBackUnit (s : State) (ch : Nat) (idx : BitVec 16) (d status done : Nat) : HostUnit :=
  let c := s.chan ch
  { fn := c.fn, cls := 5, req := requester 5 0, src := .porter ch, after := [],
    op := .write (c.base + idx.toNat % 2 ^ c.log2 * 64) (writeBackImage d status done) false, acc := none, losses := 0, since := 0 }

/-- A write-back is issued, with the PORTER event that the descriptor asks for (R478). On a FROZEN port it is held (R486). -/
def State.writeBack (s : State) (ch : Nat) (idx : BitVec 16) (d status done : Nat) : State :=
  let c := s.chan ch
  let u := s.writeBackUnit ch idx d status done
  let p := fnPort c.fn
  let s := if (s.port p).state = .frozen then s.tunePort p (fun q => { q with held := q.held ++ [u] }) else s.request u
  if Desc64.event d then s.porterEvent ch c 0 idx else s

/-- The command of a function that waits on a channel completes (R486). -/
def State.chanDone (s : State) (ch : Nat) : State :=
  match (s.chan ch).waiter with
  | some (fn, _) => (s.modChan ch (fun c => { c with waiter := none })).admOk fn 0
  | none => s

/-- The content of an announced descriptor that the part has not read is not known to it: its software fields are a free value
(R486). -/
def State.unreadDesc (s : State) : Nat × State :=
  let (v, s) := s.draw 32
  (1 + v * 2, s)

/-- Every announced descriptor from an index on is written back ABORTED in ring order (R486). -/
def State.abortDescs (s : State) (ch : Nat) : Nat → BitVec 16 → State
  | 0, _ => s
  | n + 1, i =>
    let c := s.chan ch
    if i = c.pi then s else
    match c.ahead.find? (fun x => x.1 == i) with
    | some (_, d) => State.abortDescs (s.writeBack ch i (d % 2 ^ 512) Status.aborted 0) ch n (i + 1)
    | none =>
      let (d, s) := s.unreadDesc
      State.abortDescs (s.writeBack ch i d Status.aborted 0) ch n (i + 1)

/-- PORTER_ABORT on a channel that is paused (R486): the descriptor in progress completes CANCELLED, the others ABORTED, and CI
becomes PI. -/
def State.abortChan (s : State) (ch : Nat) : State :=
  let c := s.chan ch
  let (s, i) := match c.cur with
    | some d => (s.writeBack ch c.ci d Status.cancelled c.done, c.ci + 1)
    | none => (s, c.ci)
  let s := s.abortDescs ch (ringUsed c.pi i) i
  (s.modChan ch (fun c => { c with state := .paused, ci := c.pi, cur := none, off := 0, done := 0, ahead := [], ownZero := false,
                                   arrived := [], inflight := [], fail := none, missed := false })).chanDone ch

/-- A channel that pauses has no piece left in progress (R486): it is PAUSED, and the command that waits completes. -/
def State.settlePause (s : State) (ch : Nat) : State :=
  let c := s.chan ch
  if c.state = .pausing ∧ c.inflight = [] then
    match c.waiter with
    | some (_, true) => s.abortChan ch
    | _ =>
      ((s.modChan ch (fun c => { c with state := .paused, ahead := [], missed := false })).porterEvent ch c 1 c.ci).chanDone ch
  else s

/-- A channel whose drain point is reached is PAUSED (R486). -/
def State.settleDrain (s : State) (ch : Nat) : State :=
  let c := s.chan ch
  if c.state = .draining ∧ c.ci = c.drainAt ∧ c.cur = none then
    ((s.modChan ch (fun c => { c with state := .paused, ahead := [] })).porterEvent ch c 1 c.ci).chanDone ch
  else s

/-- The descriptor in progress ends: write-back, CI moves on; an execution failure with ON_ERROR = 0 stops the channel
(R478, R483). -/
def State.endDesc (s : State) (ch status : Nat) : State :=
  let c := s.chan ch
  match c.cur with
  | none => s
  | some d =>
    let stop := c.onError == false && status != Status.ok && status != Status.malformed
    let s := s.writeBack ch c.ci d status c.done
    let s := s.modChan ch (fun c => { c with ci := c.ci + 1, cur := none, off := 0, done := 0, inflight := [], arrived := [],
                                             fail := none, missed := false })
    if stop then
      let s := (s.modChan ch (fun c => { c with state := .stopped, ahead := [] })).porterEvent ch c 2 c.ci
      if c.state = .pausing ∨ c.state = .draining then
        match c.waiter with
        | some (_, true) => s.abortChan ch
        | _ => s.chanDone ch
      else s
    else ((s.settleDrain ch).settlePause ch).fetchDesc ch

/-- The descriptor in progress fails (R483): no further piece is issued. -/
def State.chanFails (s : State) (ch status : Nat) : State :=
  s.modChan ch (fun c => { c with fail := if c.fail.isSome then c.fail else some status, arrived := [],
                                  inflight := c.inflight.filter (fun x => !c.arrived.any (fun a => a.1 == x.1)), missed := false })

/-- Bytes at the destination: written to the host under R139, or stored in the Device Store. None while a translation is
waited for. -/
def State.porterPut (s : State) (ch d off : Nat) (data : Bytes) (poison : Bool) : Option Nat × State :=
  let c := s.chan ch
  let addr := sideAddr (Desc64.dstAddr d) (Desc64.dstLine d) (Desc64.dstStride d) off
  if Desc64.dstKind d = 1 then (some Status.ok, s.storeWrite addr data poison) else
  let st := s.localCheck c.pd c.fn (Desc64.dstKey d) addr data.length true
  if st ≠ Status.ok then (some st, s) else
  match s.reachKey (Desc64.dstKey d) addr data.length .write false with
  | (.ok ((a, n) :: _), s) =>
    (some Status.ok, s.hostWrite c.fn 5 0 (.porter ch) a data poison (some (Desc64.dstKey d, addr, n)))
  | (.ok [], s) => (some Status.ok, s)
  | (.miss page, s) =>
    match s.keyRaw (Desc64.dstKey d) with
    | some k => (none, (s.raiseMiss (keyIndex (Desc64.dstKey d)) k page .write (.porter ch)).modChan ch (fun c => { c with missed := true }))
    | none => (some Status.translationFault, s)
  | (r, s) => (some r.localStatus, s)

/-- Pieces that have arrived are written in stream order (R481). A poisoned piece is written poisoned and fails the descriptor
(R483). -/
def State.flushChan (s : State) (ch : Nat) : Nat → State
  | 0 => s
  | n + 1 =>
    let c := s.chan ch
    match c.cur, c.inflight with
    | some d, (off, len) :: rest =>
      if c.fail.isSome then s else
      match c.arrived.find? (fun a => a.1 == off) with
      | none => s
      | some (_, data, poison) =>
        match s.porterPut ch d off data poison with
        | (none, s) => s
        | (some st, s) =>
          if st ≠ Status.ok then s.chanFails ch st
          else
            let s := (s.modChan ch (fun c => { c with inflight := rest, arrived := c.arrived.filter (fun a => a.1 != off),
                                                      done := c.done + len })).count Event.porterBytes ch len
            if poison then s.chanFails ch Status.poisoned else State.flushChan s ch n
    | _, _ => s

/-- The bytes of a piece have come (or not: a status). -/
def State.pieceBack (s : State) (ch off : Nat) (got : Option (Bytes × Bool)) : State :=
  let c := s.chan ch
  if !c.inflight.any (fun x => x.1 == off) then s else
  match got with
  | some (data, poison) =>
    if c.fail.isSome then (s.modChan ch (fun c => { c with inflight := c.inflight.filter (fun x => x.1 != off) })).settlePause ch
    else ((s.modChan ch (fun c => { c with arrived := c.arrived ++ [(off, data, poison)] })).flushChan ch
      (c.inflight.length + 1)).settlePause ch
  | none =>
    ((s.chanFails ch Status.timeout).modChan ch (fun c => { c with inflight := c.inflight.filter (fun x => x.1 != off) })
      ).settlePause ch

/-- A Device Store side of a descriptor lies within the window, and the port is admitted (R480). -/
def State.storeSideOk (s : State) (c : Channel) (addr line lines stride : Nat) : Bool :=
  s.storeAdmits (fnPort c.fn) && decide (sideEnd addr line lines stride ≤ s.storeSize)

/-- The status with which a descriptor fails before it moves anything (R476, R480). -/
def State.descFault (s : State) (c : Channel) (d : Nat) : Option Nat :=
  if !Desc64.ok d then some Status.malformed
  else if (Desc64.srcKind d == 1 &&
        !s.storeSideOk c (Desc64.srcAddr d) (Desc64.srcLine d) (Desc64.srcLines d) (Desc64.srcStride d)) ||
      (Desc64.dstKind d == 1 &&
        !s.storeSideOk c (Desc64.dstAddr d) (Desc64.dstLine d) (Desc64.dstLines d) (Desc64.dstStride d)) then
    some Status.protFault
  else none

/-- A descriptor that has been read is kept for its start (R477); one with OWN = 0 stops the channel there. -/
def State.takeDesc (s : State) (ch : Nat) (data : Bytes) : State :=
  let c := s.chan ch
  let d := leNat data
  if !c.fetching then s
  else if Desc64.own d then
    (s.modChan ch (fun c => { c with fetching := false, ahead := c.ahead ++ [(c.nextRead, d)] })).fetchDesc ch
  else s.modChan ch (fun c => { c with fetching := false, ownZero := true })

/-- A descriptor whose fetch failed (R67, R589): its content is a free value, and it ends with the status when its turn
comes. The status stands above bit 512 of its image. -/
def State.failDesc (s : State) (ch status : Nat) : State :=
  if !(s.chan ch).fetching then s else
  let (d, s) := s.unreadDesc
  s.modChan ch (fun c => { c with fetching := false, ahead := c.ahead ++ [(c.nextRead, d + status * 2 ^ 512)] })

/-- A descriptor starts (R477, R479): what it fails on before it moves anything is found at once. -/
def State.startDesc (s : State) (ch : Nat) : State :=
  let c := s.chan ch
  match c.cur, c.ahead with
  | none, (i, d) :: rest =>
    if c.runs && i == c.ci && !(c.state == .draining && c.ci == c.drainAt) && s.life == .open_ then
      let bad := if 2 ^ 512 ≤ d then some (d / 2 ^ 512) else s.descFault c d
      (s.modChan ch (fun c => { c with ahead := rest, cur := some (d % 2 ^ 512), off := 0, done := 0, fail := bad })).fetchDesc ch
    else s
  | _, _ => s

/-- Host-port bytes that a piece is charged (R484): its read bytes and its write bytes on the host. -/
def Desc64.charge (d n : Nat) : Nat := (if Desc64.srcKind d = 0 then n else 0) + (if Desc64.dstKind d = 0 then n else 0)

/-- The next piece is issued (R480, R481, R484): within the read window and the share; a host source is checked and translated,
and may wait on a miss. -/
def State.issuePiece (s : State) (ch : Nat) : State :=
  let c := s.chan ch
  match c.cur with
  | none => s
  | some d =>
    let n := Desc64.piece d c.off
    let busy := c.inflight.foldl (fun a x => a + x.2) 0
    let host := Desc64.srcKind d == 0
    if !c.runs || c.fail.isSome || c.missed || decide (Desc64.total d ≤ c.off) ||
        (host && decide (s.openParam 0xD01002 < busy + n)) || (s.chanShare ch != 256 && decide (c.bucket < 0)) ||
        !s.awake c.fn || s.life != .open_ then s
    else
      let issued (s : State) : State := s.modChan ch (fun c =>
        { c with off := c.off + n, inflight := c.inflight ++ [(c.off, n)],
                 bucket := if s.chanShare ch = 256 then c.bucket else c.bucket - Desc64.charge d n })
      let src := sideAddr (Desc64.srcAddr d) (Desc64.srcLine d) (Desc64.srcStride d) c.off
      match Desc64.srcKind d with
      | 0 =>
        let st := s.localCheck c.pd c.fn (Desc64.srcKey d) src n false
        if st ≠ Status.ok then s.chanFails ch st else
        match s.reachKey (Desc64.srcKey d) src n .read false with
        | (.ok ((a, k) :: _), s) =>
          (issued s).hostRead c.fn 5 0 (.porter ch) a k (.piece ch c.off) (some (Desc64.srcKey d, src, k))
        | (.ok [], s) => s
        | (.miss page, s) =>
          match s.keyRaw (Desc64.srcKey d) with
          | some k => (s.raiseMiss (keyIndex (Desc64.srcKey d)) k page .read (.porter ch)).modChan ch (fun c => { c with missed := true })
          | none => s.chanFails ch Status.translationFault
        | (r, s) => s.chanFails ch r.localStatus
      | 1 => (issued s).pieceBack ch c.off (some (Cells.readBytes s.store src n, s.linePoison src n))
      | _ =>
        let byte (i : Nat) : Byte := BitVec.ofNat 8 (Desc64.srcAddr d / 2 ^ (8 * ((c.off + i) % 8)))
        (issued s).pieceBack ch c.off (some ((List.range n).map byte, false))

/-- The descriptor in progress has moved everything, or has failed and its reads are back (R478, R483). -/
def Channel.finished (c : Channel) : Option Nat :=
  match c.cur with
  | none => none
  | some d =>
    if c.inflight = [] then
      match c.fail with
      | some st => some st
      | none => if Desc64.total d ≤ c.off then some Status.ok else none
    else none

/-- A port enters FROZEN (R486): the channel stops, and the descriptor in progress ends ENDPOINT_GONE with its write-back
held. -/
def State.freezeChan (s : State) (ch : Nat) : State :=
  let c := s.chan ch
  if c.state = .active ∨ c.state = .pausing ∨ c.state = .draining then
    let s := match c.cur with
      | some d => s.writeBack ch c.ci d Status.endpointGone c.done
      | none => s
    let s := s.modChan ch (fun c =>
      { c with state := .stopped, ci := if c.cur.isSome then c.ci + 1 else c.ci, cur := none, off := 0, done := 0, inflight := [],
               arrived := [], fail := none, missed := false, ahead := [], fetching := false })
    let s := s.porterEvent ch c 2 c.ci
    match c.waiter with
    | some (_, true) => s.abortChan ch
    | some _ => s.chanDone ch
    | none => s
  else s.modChan ch (fun c => { c with fetching := false, ahead := [] })

/-- A wait of a channel on a translation has ended: its arrived pieces are written, and it may issue again. -/
def State.wakeChan (s : State) (ch : Nat) : State :=
  (s.modChan ch (fun c => { c with missed := false })).flushChan ch ((s.chan ch).inflight.length + 1) |>.settlePause ch

/-- DESCRIPTOR_START (R479). -/
def execDescriptorStart (ch : Nat) (s : State) : Host.Outcome State Fault Refusal := .next (s.startDesc ch)

/-- PIECE_ISSUE (R481). -/
def execPieceIssue (ch : Nat) (s : State) : Host.Outcome State Fault Refusal := .next (s.issuePiece ch)

/-- DESCRIPTOR_WRITE_BACK (R478): in SHUTTER nothing is written back (R538). -/
def execDescriptorWriteBack (ch : Nat) (s : State) : Host.Outcome State Fault Refusal :=
  let c := s.chan ch
  match c.finished with
  | some st =>
    if (c.runs || c.state == .pausing) && s.life == .open_ && s.portUp (fnPort c.fn) then .next (s.endDesc ch st) else .next s
  | none => .next s

/-- PORTER_PAUSED (R486): every piece issued has finished. -/
def execPorterPaused (ch : Nat) (s : State) : Host.Outcome State Fault Refusal := .next (s.settlePause ch)

end Sys2Proof.Machine
end

