-- ==== Sys2Proof/Machine/Match.lean ====
section
/-!
DEFINITION. The Sorting Table (07_matching.md): envelopes, streams, the match, overflow buffers, posts, cancels, the copy
of stored messages, and the completions of tagged entries.
-/
namespace Sys2Proof.Machine

/-! ## Completions owed -/

/-- The completion of a TRECV, TBUF or TCANCEL (R250): QPN and AUX zero. -/
def taggedCompletion (idx : BitVec 16) (raw status bytes ts : Nat) (solicited : Bool) : Nat :=
  entryImage (Ent.wrId raw) ts bytes 0 status idx.toNat (Ent.opcode raw) (1 + 2 * solicited.toNat) 0

/-- Completions owed by a function are written, in order, as their CQs have room (R71, R271). -/
def State.payOwed (s : State) (fn : Nat) : Nat → State
  | 0 => s
  | n + 1 =>
    match (s.fn fn).owed with
    | [] => s
    | (cq, img) :: rest =>
      match s.reserve fn cq with
      | some s => State.payOwed ((s.setFn fn (fun f => { f with owed := rest })).writeCompletion fn cq img false []) fn n
      | none => if Tab.has s.cqs (qkey fn cq) then s else State.payOwed (s.setFn fn (fun f => { f with owed := rest })) fn n

/-- A completion without a reservation: it is written when its CQ has room (R71, R271). -/
def State.owe (s : State) (fn cq img : Nat) : State :=
  let s := s.setFn fn (fun f => { f with owed := f.owed ++ [(cq, img)] })
  s.payOwed fn (s.fn fn).owed.length

/-! ## The Match Store -/

/-- Entries of the Match Store (`6000:01`). -/
def matchEntries : Nat := 4194304

/-- Bucket of an entry (R253). -/
def bucketOf (fn handle context rank tag : Nat) : Nat :=
  crc32c (leBytes 16 (handle % 2 ^ 16 + fn % 2 ^ 8 * 2 ^ 16 + context % 2 ^ 16 * 2 ^ 32 + rank % 2 ^ 32 * 2 ^ 64 +
    tag % 2 ^ 32 * 2 ^ 96)) % 2 ^ 18

/-- A TRECV that its bucket finds (R252): no wildcard. -/
def Posted.exact (p : Posted) : Bool := Tag.anySource p.raw == 0 && Tag.ignore p.raw == 0

/-- The buckets that the entries of an SRQ stand in, one for each reference (R252). -/
def Srq.buckets (q : Srq) (key : Nat) : List Nat :=
  let fn := key / 65536
  let h := key % 65536
  (q.posted.filter Posted.exact).map (fun p => bucketOf fn h (Tag.context p.raw) (Tag.rank p.raw) (Tag.tag p.raw)) ++
  (q.stored.filter (fun m => m.elig.isSome)).map (fun m => bucketOf fn h m.context m.rank m.tag) ++
  List.map (fun e => bucketOf fn h e.2.context e.2.rank 0) q.streams

/-- Every reference of every SRQ, by bucket. -/
def State.references (s : State) : Tab Nat :=
  s.srqs.foldl (fun t e => (Srq.buckets e.2 e.1).foldl (fun t b => Tab.addNum t b 1) t) []

/-- CHAIN entries of a bucket with `n` references (R254). -/
def chainsOf (n : Nat) : Nat := if n ≤ 4 then 0 else ceilDiv (n - 4) 7

/-- Match Store entries in use (R252, R254). -/
def State.matchUsed (s : State) : Nat :=
  s.srqs.foldl (fun n e => n + e.2.posted.length + e.2.stored.length + e.2.streams.length) 0 +
  s.references.foldl (fun n e => n + chainsOf e.2) 0

/-- The Match Store has a free entry (R254). -/
def State.matchRoom (s : State) : Bool := decide (s.matchUsed < matchEntries)

/-- Stored messages of the device and of a function (R268). -/
def State.unexpectedUsed (s : State) (fn : Option Nat) : Nat :=
  s.srqs.foldl (fun n e => if fn.isNone || fn == some (e.1 / 65536) then n + e.2.stored.length else n) 0

/-- Another message may be stored under both limits (R268). -/
def State.unexpectedRoom (s : State) (fn : Nat) : Bool :=
  decide (s.unexpectedUsed none < s.param 0x601001 ∧ s.unexpectedUsed (some fn) < s.param 0x601002) && s.matchRoom

/-! ## The match -/

/-- A message and a TRECV match (R251). -/
def matches_ (rank context tag raw : Nat) : Bool :=
  Tag.context raw == context && (Tag.anySource raw == 1 || Tag.rank raw == rank) &&
  Nat.land (Nat.xor tag (Tag.tag raw)) (2 ^ 32 - 1 - Tag.ignore raw) == 0

/-- The posted receive that an eligible message takes: the lowest post number that matches (R256). -/
def Srq.candidate (q : Srq) (rank context tag : Nat) : Option Posted :=
  q.posted.foldl (fun best p =>
    if matches_ rank context tag p.raw then
      match best with
      | some b => if p.post < b.post then some p else best
      | none => some p
    else best) none

/-- The stored message that a post takes: the lowest eligibility number that matches (R256). -/
def Srq.waitingFor (q : Srq) (raw : Nat) : Option Stored :=
  q.stored.foldl (fun best m =>
    match m.elig with
    | none => best
    | some e =>
      if matches_ m.rank m.context m.tag raw then
        match best with
        | some b => if e < b.elig.getD 0 then some m else best
        | none => some m
      else best) none

/-- The stream record of a message (R243). -/
def Srq.stream (q : Srq) (dev fn rank context : Nat) : Option (Nat × Stream) :=
  q.streams.find? (fun e => e.2.srcDev == dev && e.2.srcFn == fn && e.2.rank == rank && e.2.context == context)

/-- The expected MSN of a stream (R243): 0 where there is no record. -/
def Srq.expected (q : Srq) (dev fn rank context : Nat) : BitVec 16 :=
  match q.stream dev fn rank context with
  | some (_, t) => t.expected
  | none => 0

/-- The expected MSN of a stream is set; the record is made where there is none (R243). -/
def Srq.setExpected (q : Srq) (dev fn rank context : Nat) (v : BitVec 16) : Srq :=
  match q.stream dev fn rank context with
  | some (k, t) => { q with streams := Tab.put q.streams k { t with expected := v } }
  | none =>
    let k := Tab.firstFree q.streams q.streams.length 0
    { q with streams := Tab.put q.streams k ⟨dev, fn, rank, context, v⟩ }

/-! ## Overflow buffers -/

/-- A place in the overflow buffers for a message, oldest open buffer first (R266): buffers that it closes, the buffer that
takes it, the offset. -/
def placeIn (len : Nat) : List Tbuf → List Nat → Option (List Nat × Nat × Nat)
  | [], _ => none
  | b :: bs, closed =>
    if b.closed then placeIn len bs closed
    else
      let off := (b.used + 63) / 64 * 64
      if off + len ≤ Ent.len b.raw then some (closed, b.id, off) else placeIn len bs (closed ++ [b.id])

/-- A message is stored in the overflow buffers of an SRQ; a message that no buffer has room for changes nothing (R266,
R268). -/
def Srq.allot (q : Srq) (len : Nat) : Option (Nat × Nat × Srq) :=
  match placeIn len q.tbufs [] with
  | none => none
  | some (closed, id, off) =>
    some (id, off, { q with tbufs := q.tbufs.map (fun b =>
      if closed.contains b.id then { b with closed := true }
      else if b.id = id then { b with used := off + len, live := b.live + 1 } else b) })

/-- A TBUF completes OK once it is closed and drained (R266). Its CQ entry was reserved when it was posted (R250). -/
def State.settleTbufs (s : State) (key : Nat) : State :=
  match Tab.look s.srqs key with
  | none => s
  | some q =>
    let done := q.tbufs.filter (fun b => b.closed && b.live == 0)
    done.foldl (fun s b =>
      let s := s.later
      (s.modSrq key (fun q => { q with tbufs := q.tbufs.filter (fun x => x.id != b.id) })).writeCompletion (key / 65536)
        (Tag.cq b.raw) (taggedCompletion b.idx b.raw Status.ok b.used s.shortTime false) false []) s

/-- A stored message leaves its overflow buffer (R266). -/
def State.freeBuf (s : State) (key : Nat) (buf : Option (Nat × Nat)) : State :=
  match buf with
  | none => s
  | some (id, _) =>
    (s.modSrq key (fun q => { q with tbufs := q.tbufs.map (fun b => if b.id = id then { b with live := b.live - 1 } else b) })
      ).settleTbufs key

/-! ## Matched receives -/

/-- A matched receive changed. -/
def State.modMatched (s : State) (key handle : Nat) (f : Matched → Matched) : State :=
  s.modSrq key (fun q => { q with matched := q.matched.map (fun m => if m.handle = handle then f m else m) })

/-- A matched receive. -/
def State.matchedOf (s : State) (key handle : Nat) : Option Matched :=
  match Tab.look s.srqs key with
  | some q => q.matched.find? (fun m => m.handle == handle)
  | none => none

/-- A matched TRECV completes with a status (R250, R264), after the writes it reports (R59). -/
def State.finishMatched (s : State) (key : Nat) (m : Matched) (status : Nat) : State :=
  let s := s.later
  let s := s.modSrq key (fun q => { q with matched := q.matched.filter (fun x => x.handle != m.handle) })
  let s := s.writeCompletion (key / 65536) (Tag.cq m.raw)
    (taggedCompletion m.idx m.raw status m.written s.shortTime m.solicited) m.solicited [.stall m.ctx]
  s.freeBuf key m.copy

/-- The envelope record of a matched message (R249). -/
def Matched.envelope (m : Matched) : Bytes :=
  leBytes 16 (place 0 0 32 m.envRank + place 4 0 32 m.envTag + place 8 0 32 m.msgLen + place 0x0C 0 18 m.envDev +
    place 0x0C 18 8 m.envFn)

/-- The status of a TRECV that has all its bytes (R65, R264). -/
def Matched.status (m : Matched) : Nat :=
  if m.poisoned then Status.poisoned else if Ent.len m.raw < m.msgLen then Status.truncated else Status.ok

/-- The bytes that a copy moves (R214, R267). -/
def Matched.copyLen (m : Matched) : Nat := min m.msgLen (Ent.len m.raw)

/-- The protection domain of an SRQ. -/
def State.srqPd (s : State) (key : Nat) : Nat :=
  match Tab.look s.srqs key with
  | some q => q.pd
  | none => 65536

/-- A local write of at most 4,096 bytes for a matched receive, from a source (R139): done, or waiting on a miss, or failed
with a status. -/
def State.writeLocal (s : State) (fn pd cls stall : Nat) (src : Source) (lkey va : Nat) (data : Bytes) (poison : Bool)
    (waiter : MissWaiter) : Option Nat × State :=
  let st := s.localCheck pd fn lkey va data.length true
  if st ≠ Status.ok then (some st, s) else
  if data.isEmpty then (some Status.ok, s) else
  match s.reachKey lkey va data.length .write false with
  | (.ok spans, s) =>
    let step (acc : State × Bytes × Nat) (sp : Nat × Nat) : State × Bytes × Nat :=
      (acc.1.hostWrite fn cls stall src sp.1 (acc.2.1.take sp.2) poison (some (lkey, acc.2.2, sp.2)), acc.2.1.drop sp.2,
        acc.2.2 + sp.2)
    (some Status.ok, (spans.foldl step (s, data, va)).1)
  | (.miss page, s) =>
    match s.keyRaw lkey with
    | some k => (none, s.raiseMiss (keyIndex lkey) k page .write waiter)
    | none => (some Status.translationFault, s)
  | (r, s) => (some r.localStatus, s)

/-- The copy of a stored message goes on: the next piece is read from the overflow buffer (R267). -/
def State.copyPiece (s : State) (key : Nat) (m : Matched) (buf off : Nat) : State :=
  match Tab.look s.srqs key with
  | none => s
  | some q =>
    match q.tbufs.find? (fun b => b.id == buf) with
    | none => s.finishMatched key m Status.timeout
    | some b =>
      let fn := key / 65536
      let lk := Ent.lkey b.raw
      let va := Ent.laddr b.raw + off + m.copyNext
      let len := min (m.copyLen - m.copyNext) (4096 - va % 4096)
      let st := s.localCheck q.pd fn lk va len false
      if st ≠ Status.ok then s.finishMatched key m st else
      match s.reachKey lk va len .read false with
      | (.ok ((a, n) :: _), s) =>
        (s.modMatched key m.handle (fun m => { m with copyNext := m.copyNext + n })).hostRead fn
          (stallClass (m.ctx % 2)) (m.ctx / 2 % 16) (.stall m.ctx) a n (.copy key m.handle m.copyNext) (some (lk, va, n))
      | (.ok [], s) => s
      | (.miss page, s) =>
        match s.keyRaw lk with
        | some k => s.raiseMiss (keyIndex lk) k page .read (.copy key m.handle)
        | none => s.finishMatched key m Status.translationFault
      | (r, s) => s.finishMatched key m r.localStatus

/-- The envelope record of a receive that has its bytes is written from the source of the completion, then the completion
(R249). -/
def State.finishEnv (s : State) (key : Nat) (m : Matched) : State :=
  let fn := key / 65536
  if Tag.envAddr m.raw = 0 then s.finishMatched key m m.status else
  match s.writeLocal fn (s.srqPd key) 1 0 (.cq (qkey fn (Tag.cq m.raw))) (Ent.lkey m.raw) (Tag.envAddr m.raw) m.envelope false
      (.copy key m.handle) with
  | (some st, s) => s.finishMatched key m (if st = Status.ok then m.status else st)
  | (none, s) => s

/-- A piece of a copy that has been read is written to the receive's buffer (R139, R267): done, or waiting on a miss, or the
receive has ended. -/
def State.copyWrite (s : State) (key : Nat) (m : Matched) (data : Bytes) (poison : Bool) : Bool × State :=
  let fn := key / 65536
  match s.writeLocal fn (s.srqPd key) (stallClass (m.ctx % 2)) (m.ctx / 2 % 16) (.stall m.ctx) (Ent.lkey m.raw)
      (Ent.laddr m.raw + m.written) data poison (.copy key m.handle) with
  | (some st, s) =>
    if st = Status.ok then
      (true, s.modMatched key m.handle (fun m =>
        { m with written := m.written + data.length, poisoned := m.poisoned || poison, copyData := none }))
    else (false, s.finishMatched key m st)
  | (none, s) => (false, s.modMatched key m.handle (fun m => { m with copyData := some (data, poison) }))

/-- A matched receive is taken as far as it goes (R249, R264, R267): the copy of a stored message that is complete, then
the envelope record, then the completion. One piece of a copy is read at a time. -/
def State.advanceMatched (s : State) (key handle : Nat) : State :=
  match s.matchedOf key handle with
  | none => s
  | some m =>
    if m.seen < m.need then s else
    match m.copy with
    | some (buf, off) =>
      if m.copyNext < m.copyLen then
        if m.copyNext = m.written then s.copyPiece key m buf off else s
      else if m.written < m.copyLen then s
      else s.finishEnv key m
    | none => s.finishEnv key m

/-- A piece of the copy of a matched receive has been read (R267), or could not be (R589). -/
def State.copyBack (s : State) (key handle : Nat) (got : Option (Bytes × Bool)) : State :=
  match s.matchedOf key handle, got with
  | some m, some (data, poison) =>
    match s.copyWrite key m data poison with
    | (true, s) => s.advanceMatched key handle
    | (false, s) => s
  | some m, none => s.finishMatched key m Status.timeout
  | none, _ => s

/-- A matched receive that waited for a translation goes on (R157). -/
def State.wakeMatched (s : State) (key handle : Nat) : State :=
  match s.matchedOf key handle with
  | some m =>
    match m.copyData with
    | some (d, p) => s.copyBack key handle (some (d, p))
    | none => s.advanceMatched key handle
  | none => s

/-- A fresh landing handle (R262): numbers go up, 24 bits (notes/assumptions/10.md). -/
def State.landingHandle (s : State) : Nat × State := (s.tags % 2 ^ 24, { s with tags := s.tags + 1 })

/-- A clear-to-send goes back on the send side of the context of the request (R262, R599). -/
def State.sendCts (s : State) (ctx fn dev srcFn : Nat) (num : BitVec 32) (grant handle : Nat) : State :=
  match Tab.look s.ctxs ctx with
  | none => s
  | some c =>
    let proto : Packet := { Packet.blank with
      tc := c.tc, mode := s.routeMode c.tc, tenant := s.tenantOf fn, destDev := dev, destFn := srcFn, srcDev := s.deviceId,
      srcFn := fn, st := true, ext := extAt 0x2C 0 32 grant + extAt 0x30 0 24 handle }
    ((s.addMsg ctx { TxMsg.blank with reply := true, num := num, ptype := 0x12, proto := proto, fn := fn, plan := [(0, 0, false)] }
      ).wakeCtx ctx).pump ctx pumpFuel

/-- A posted receive takes a message (R256): its CQ entry has been reserved. A request-to-send is answered; a stored eager
message is copied once it is complete. -/
def State.take (s : State) (key : Nat) (p : Posted) (m : Stored) : Nat × State :=
  let (handle, s) := s.landingHandle
  let need := if m.rts then min m.len (Ent.len p.raw) else m.len
  let r : Matched := { handle := handle, idx := p.idx, raw := p.raw, ctx := m.ctx, num := m.num, envDev := m.srcDev,
                       envFn := m.srcFn, envRank := m.rank, envTag := m.tag, msgLen := m.len, need := need,
                       seen := if m.complete && !m.rts then need else 0, written := 0,
                       copy := m.buf, copyNext := 0, copyData := none, poisoned := m.poisoned, solicited := m.solicited }
  let s := (s.modSrq key (fun q => { q with posted := q.posted.filter (fun x => x.post != p.post), matched := q.matched ++ [r] })
    ).count Event.matches anyUnit 1
  (handle, if m.rts then s.sendCts m.ctx (key / 65536) m.srcDev m.srcFn m.num need handle else s)

/-- HELD messages of a stream whose MSN is now expected become eligible in turn (R257). One whose receive has no room in
its CQ waits, and the stream with it (R101, notes/assumptions/10.md). -/
def State.release (s : State) (key dev fn rank context : Nat) : Nat → State
  | 0 => s
  | n + 1 =>
    match Tab.look s.srqs key with
    | none => s
    | some q =>
      let e := q.expected dev fn rank context
      let held (m : Stored) : Bool :=
        m.elig.isNone && m.srcDev == dev && m.srcFn == fn && m.rank == rank && m.context == context && m.msn == e
      match q.stored.find? held with
      | none => s
      | some m =>
        match q.candidate m.rank m.context m.tag with
        | none =>
          State.release (s.modSrq key (fun q => { (Srq.setExpected q dev fn rank context (e + 1)) with
            eligNum := q.eligNum + 1,
            stored := q.stored.map (fun x => if x = m then { x with elig := some q.eligNum } else x) }))
            key dev fn rank context n
        | some p =>
          match s.reserve (key / 65536) (Tag.cq p.raw) with
          | none => s
          | some s =>
            let s := s.modSrq key (fun q => { (Srq.setExpected q dev fn rank context (e + 1)) with
              eligNum := q.eligNum + 1, stored := q.stored.filter (fun x => x != m) })
            let (h, s) := s.take key p m
            State.release (s.advanceMatched key h) key dev fn rank context n

/-- Streams of an SRQ whose held messages wait for CQ room try again. -/
def State.retryStreams (s : State) (key : Nat) : State :=
  match Tab.look s.srqs key with
  | none => s
  | some q => q.streams.foldl (fun s e =>
      s.release key e.2.srcDev e.2.srcFn e.2.rank e.2.context (q.stored.length + 1)) s

/-! ## Arrivals -/

/-- What the first packet of a tagged message says (R252). -/
def storedOf (ctx : Nat) (p : Packet) (elig : Option Nat) (at_ : Nat) (buf : Option (Nat × Nat)) : Stored :=
  { ctx := ctx, num := Packet.msgNum p, srcDev := p.srcDev, srcFn := p.srcFn, rank := Packet.key p,
    context := Packet.ext p 0x3C 0 16, tag := Packet.ext p 0x38 0 32, msn := BitVec.ofNat 16 (Packet.ext p 0x3C 16 16),
    len := Packet.msgLen p, rts := p.ptype == 0x11, elig := elig, at_ := at_, buf := buf, complete := p.ptype == 0x11,
    poisoned := false, solicited := p.solicited }

/-- The place of a message in its stream (R257): the distance from the expected MSN. -/
def Srq.ahead (q : Srq) (p : Packet) : Nat :=
  (BitVec.ofNat 16 (Packet.ext p 0x3C 16 16) - q.expected p.srcDev p.srcFn (Packet.key p) (Packet.ext p 0x3C 0 16)).toNat

/-- A message whose first packet has come is stored: with its payload space when it is eager (R266, R268). -/
def State.keepTagged (s : State) (key ctx : Nat) (p : Packet) (eligible : Bool) : Option (Dest × State) :=
  match Tab.look s.srqs key with
  | none => none
  | some q =>
    if !s.unexpectedRoom (key / 65536) then none else
    let elig := if eligible then some q.eligNum else none
    let put (q : Srq) (buf : Option (Nat × Nat)) : Srq :=
      { q with stored := q.stored ++ [storedOf ctx p elig s.ticks buf], eligNum := if eligible then q.eligNum + 1 else q.eligNum }
    if p.ptype = 0x11 ∨ Packet.msgLen p = 0 then
      some (if p.ptype = 0x11 then .none else .store key 0 0, (s.modSrq key (fun q => put q none)).count Event.unexpected anyUnit 1)
    else
      match q.allot (Packet.msgLen p) with
      | none => none
      | some (id, off, q) =>
        some (.store key id off, ({ s with srqs := Tab.put s.srqs key (put q (some (id, off))) }).count Event.unexpected anyUnit 1)

/-- The stream moves on past an eligible message in its turn, and releases what it held (R257). -/
def State.nextInStream (s : State) (key : Nat) (p : Packet) (d : Nat) : State :=
  if d = 0 then
    let rank := Packet.key p
    let context := Packet.ext p 0x3C 0 16
    let s := s.modSrq key (fun q =>
      q.setExpected p.srcDev p.srcFn rank context (q.expected p.srcDev p.srcFn rank context + 1))
    let n := match Tab.look s.srqs key with
      | some q => q.stored.length + 1
      | none => 0
    s.release key p.srcDev p.srcFn rank context n
  else s.count Event.staleMsn anyUnit 1

/-- The first packet of a tagged message (R252, R256, R257): matched, stored, held, or refused NOT_READY (R101, R268). -/
def State.firstTagged (s : State) (key ctx : Nat) (p : Packet) : Option (Dest × State) :=
  match Tab.look s.srqs key with
  | none => none
  | some q =>
    let d := q.ahead p
    if 1 ≤ d ∧ d ≤ 32767 then
      match s.keepTagged key ctx p false with
      | none => none
      | some (dest, s) =>
        some (dest, s.modSrq key (fun q =>
          q.setExpected p.srcDev p.srcFn (Packet.key p) (Packet.ext p 0x3C 0 16)
            (q.expected p.srcDev p.srcFn (Packet.key p) (Packet.ext p 0x3C 0 16))))
    else
      match q.candidate (Packet.key p) (Packet.ext p 0x3C 0 16) (Packet.ext p 0x38 0 32) with
      | some r =>
        match s.reserve (key / 65536) (Tag.cq r.raw) with
        | none => none
        | some s =>
          let s := s.modSrq key (fun q => { q with eligNum := q.eligNum + 1 })
          let (h, s) := s.take key r (storedOf ctx p none s.ticks none)
          some (.trecv key h, s.nextInStream key p d)
      | none =>
        match s.keepTagged key ctx p true with
        | none => none
        | some (dest, s) => some (dest, s.nextInStream key p d)

/-- A stored or copied message has all its bytes (R210, R267). -/
def State.storedWhole (s : State) (key ctx : Nat) (num : BitVec 32) (poisoned : Bool) : State :=
  let s := s.modSrq key (fun q => { q with
    stored := q.stored.map (fun m => if m.ctx = ctx ∧ m.num = num ∧ m.rts = false then
      { m with complete := true, poisoned := m.poisoned || poisoned } else m),
    matched := q.matched.map (fun m => if m.ctx = ctx ∧ m.num = num ∧ m.copy.isSome = true then
      { m with seen := m.need, poisoned := m.poisoned || poisoned } else m) })
  match Tab.look s.srqs key with
  | some q =>
    match q.matched.find? (fun m => m.ctx == ctx && m.num == num && m.copy.isSome) with
    | some m => s.advanceMatched key m.handle
    | none => s
  | none => s

/-- A message that fails, or whose sender's incarnation ends, before it is whole (R199, R265): its receive completes with
the status; a stored message is discarded. -/
def State.dropTagged (s : State) (m : RxMsg) (ctx status : Nat) : State :=
  match m.dest with
  | .trecv key h =>
    match s.matchedOf key h with
    | some r => s.finishMatched key r status
    | none => s
  | .store key _ _ =>
    match Tab.look s.srqs key with
    | none => s
    | some q =>
      match q.matched.find? (fun r => r.ctx == ctx && r.num == m.num && r.copy.isSome) with
      | some r => s.finishMatched key r status
      | none =>
        match q.stored.find? (fun x => x.ctx == ctx && x.num == m.num && !x.rts) with
        | some x => (s.modSrq key (fun q => { q with stored := q.stored.filter (fun y => y != x) })).freeBuf key x.buf
        | none => s
  | _ => s

/-! ## Posts -/

/-- The completion of a tagged or malformed SRQ entry that needs a reservation (R99, R248, R250): none while its CQ has no
room. -/
def State.srqEntryDone (s : State) (key cq : Nat) (idx : BitVec 16) (raw status : Nat) : Option State :=
  match s.reserve (key / 65536) cq with
  | none => none
  | some s =>
    let s := s.later
    some (s.writeCompletion (key / 65536) cq (taggedCompletion idx raw status 0 s.shortTime false) false [])

/-- A TRECV is posted (R255, R256): it takes the oldest eligible message that it matches, or is stored. None while it must
hold for its CQ or for a Match Store entry (R269). -/
def State.postRecv (s : State) (key : Nat) (idx : BitVec 16) (raw : Nat) : Option State :=
  match Tab.look s.srqs key with
  | none => some s
  | some q =>
    let p : Posted := { post := q.postNum, idx := idx, raw := raw }
    match q.waitingFor raw with
    | some m =>
      match s.reserve (key / 65536) (Tag.cq raw) with
      | none => none
      | some s =>
        let s := s.modSrq key (fun q => { q with postNum := (q.postNum + 1) % 2 ^ 32, stored := q.stored.filter (fun x => x != m) })
        let (h, s) := s.take key p m
        some (s.advanceMatched key h)
    | none =>
      if s.matchRoom then
        some (s.modSrq key (fun q => { q with postNum := (q.postNum + 1) % 2 ^ 32, posted := q.posted ++ [p] }))
      else none

/-- A TCANCEL (R270): the posted TRECV of lowest post number with the WR_ID completes CANCELLED, then the TCANCEL OK; with
none, the TCANCEL completes ABORTED. None while a CQ has no room. -/
def State.postCancel (s : State) (key : Nat) (idx : BitVec 16) (raw : Nat) : Option State :=
  match Tab.look s.srqs key with
  | none => some s
  | some q =>
    let hit := q.posted.foldl (fun best p =>
      if Ent.wrId p.raw = Tag.cancelId raw then
        match best with
        | some b => if p.post < b.post then some p else best
        | none => some p
      else best) (none : Option Posted)
    match hit with
    | none => s.srqEntryDone key (Tag.cq raw) idx raw Status.aborted
    | some p =>
      match s.srqEntryDone key (Tag.cq p.raw) p.idx p.raw Status.cancelled with
      | none => none
      | some s =>
        match s.srqEntryDone key (Tag.cq raw) idx raw Status.ok with
        | none => none
        | some s => some (s.modSrq key (fun q => { q with posted := q.posted.filter (fun x => x.post != p.post) }))

/-- A TBUF is posted (R266): its CQ entry is reserved, and it is the newest open buffer. -/
def State.postBuf (s : State) (key : Nat) (idx : BitVec 16) (raw : Nat) : Option State :=
  match s.reserve (key / 65536) (Tag.cq raw) with
  | none => none
  | some s => some (s.modSrq key (fun q =>
      { q with tbufs := q.tbufs ++ [{ id := q.tbufNum, idx := idx, raw := raw, used := 0, closed := false, live := 0 }],
               tbufNum := q.tbufNum + 1 }))

/-- A tagged entry names a CQ of its function (R248). -/
def State.taggedCq (s : State) (key raw : Nat) : Bool := Tab.has s.cqs (qkey (key / 65536) (Tag.cq raw))

/-- A TRECV or TBUF passes R139 at posting; the status where it does not. -/
def State.taggedLocal (s : State) (key raw : Nat) : Nat :=
  s.localCheck (s.srqPd key) (key / 65536) (Ent.lkey raw) (Ent.laddr raw) (Ent.len raw) true

/-- An entry read from an SRQ is judged and performed (R245 to R248, R255, R591); none while it must hold. `perform` is what
a well-formed TRECV, TBUF or TCANCEL does. -/
def State.postEntry (s : State) (key : Nat) (idx : BitVec 16) (raw : Nat) : Option State :=
  if isPad raw then some s
  else if isTagged raw then
    if !s.taggedCq key raw then some (s.count Event.srqDiscard anyUnit 1)
    else if !taggedOk raw then s.srqEntryDone key (Tag.cq raw) idx raw Status.malformed
    else if Ent.opcode raw = 0x13 then s.postCancel key idx raw
    else if s.taggedLocal key raw ≠ Status.ok then s.srqEntryDone key (Tag.cq raw) idx raw (s.taggedLocal key raw)
    else if Ent.opcode raw = 0x11 then s.postRecv key idx raw
    else s.postBuf key idx raw
  else if recvOk raw then some (s.modSrq key (fun q => { q with pool := q.pool ++ [(idx, raw)] }))
  else
    match Tab.look s.srqs key with
    | some q => s.srqEntryDone key q.cq idx raw Status.malformed
    | none => some s

/-- The CI shadow of an SRQ is written (R88), after the read. -/
def State.shadowWrite (s : State) (key : Nat) : State :=
  match Tab.look s.srqs key with
  | none => s
  | some q =>
    s.hostWrite (key / 65536) 1 0 (fetchSource (key / 65536)) q.shadow (leBytes 2 q.ci.toNat) false none

/-- An entry holds for room in its CQ or in the Match Store (R100, R269). -/
def State.holdPost (s : State) (key : Nat) (idx : BitVec 16) (raw : Nat) : State :=
  match Tab.look s.srqs key with
  | none => s
  | some q =>
    let s := s.modSrq key (fun q => { q with postHeld := some (idx, raw), postNew := false })
    let cq := if isTagged raw then Tag.cq raw else q.cq
    { s with cqs := Tab.mod s.cqs (qkey (key / 65536) cq) (fun c =>
        { c with waiters := if c.waiters.contains (.srq key) || (c.room && c.waiters.isEmpty) then c.waiters
                            else c.waiters ++ [.srq key] }) }

/-- An entry read from an SRQ frees its slot (R88, R93, R248). A well-formed TRECV, TBUF or TCANCEL then waits to be carried out; any
other entry is taken at once, or holds (R269). -/
def State.takeSrqEntry (s : State) (key : Nat) (data : Bytes) : State :=
  match Tab.look s.srqs key with
  | none => s
  | some q =>
    let raw := leNat data
    let (slots, short) := parseEntry raw (data.length / 64) (2 ^ q.log2 - q.ci.toNat % 2 ^ q.log2)
    if short then s.modSrq key (fun q => { q with fetching := false, short := true }) else
    let idx := q.ci
    let s := (s.modSrq key (fun q => { q with fetching := false, ci := q.ci + BitVec.ofNat 16 slots })).shadowWrite key
    let s := s.srqLow key
    let raw := raw % 2 ^ (512 * slots)
    if isTagged raw && s.taggedCq key raw && taggedOk raw then
      s.modSrq key (fun q => { q with postHeld := some (idx, raw), postNew := true })
    else
      match s.postEntry key idx raw with
      | some s => s.fetchSrq key
      | none => s.holdPost key idx raw

/-- The entry that an SRQ has read is carried out where it has an opcode (R255): done, or it holds (R269). -/
def State.postRow (s : State) (fn h op : Nat) : State :=
  match Tab.look s.srqs (qkey fn h) with
  | none => s
  | some q =>
    match q.postHeld with
    | none => s
    | some (idx, raw) =>
      if !q.postNew || Ent.opcode raw != op then s
      else
        match s.postEntry (qkey fn h) idx raw with
        | some s => (s.modSrq (qkey fn h) (fun q => { q with postHeld := none, postNew := false })).fetchSrq (qkey fn h)
        | none => s.holdPost (qkey fn h) idx raw

/-- TRECV (R250, R255, R256): a receive is posted, and takes the message that it matches. -/
def execTrecv (fn srq : Nat) (s : State) : Host.Outcome State Fault Refusal := .next (s.postRow fn srq 0x11)

/-- TBUF (R266): an overflow buffer is posted. -/
def execTbuf (fn srq : Nat) (s : State) : Host.Outcome State Fault Refusal := .next (s.postRow fn srq 0x12)

/-- TCANCEL (R270): a posted receive is cancelled. -/
def execTcancel (fn srq : Nat) (s : State) : Host.Outcome State Fault Refusal := .next (s.postRow fn srq 0x13)

/-- A held entry is tried again (R269). -/
def State.retryPost (s : State) (key : Nat) : State :=
  match Tab.look s.srqs key with
  | none => s
  | some q =>
    match q.postHeld, q.postNew with
    | none, _ => s
    | some _, true => s
    | some (idx, raw), false =>
      match s.postEntry key idx raw with
      | some s => (s.modSrq key (fun q => { q with postHeld := none })).fetchSrq key
      | none => s

/-- A clean-up of an SRQ's matching state (R271, R272): messages and streams are discarded, TRECV and TBUF entries complete
FLUSHED; those that hold a reservation give it back first, and every completion is written as its CQ has room. -/
def State.clearMatching (s : State) (key : Nat) : State :=
  match Tab.look s.srqs key with
  | none => s
  | some q =>
    let fn := key / 65536
    let s := s.later
    let ts := s.shortTime
    let s := s.modSrq key (fun q => { q with posted := [], matched := [], stored := [], streams := [], tbufs := [] })
    let s := q.matched.foldl (fun s m => (s.unreserve fn (Tag.cq m.raw)).owe fn (Tag.cq m.raw)
      (taggedCompletion m.idx m.raw Status.flushed m.written ts m.solicited)) s
    let s := q.posted.foldl (fun s p => s.owe fn (Tag.cq p.raw) (taggedCompletion p.idx p.raw Status.flushed 0 ts false)) s
    q.tbufs.foldl (fun s b => (s.unreserve fn (Tag.cq b.raw)).owe fn (Tag.cq b.raw)
      (taggedCompletion b.idx b.raw Status.flushed 0 ts false)) s

/-- The CHAIN check of the Matching domain at a bell (R276, `6010:03`): more buckets are chained than the percentage. -/
def State.chainCheck (s : State) : State :=
  let chained := countP (fun e => decide (4 < e.2)) s.references
  if s.param 0x601003 * 262144 < chained * 100 then s.count Event.chainWarn anyUnit 1 else s

end Sys2Proof.Machine
end

