-- ==== Sys2Proof/Machine/Target.lean ====
section
/-!
DEFINITION. What an arriving packet of a transport context does (R187 to R189, R199, R210 to R230, R261 to R265, R375):
its place in the receive window, the admission checks, its delivery by type, its acknowledgement, and what a resolved or
failed wait on the bench does.
-/
namespace Sys2Proof.Machine

/-! ## Finding the place of a packet -/

/-- Key of the receiving context of a unicast packet (R311). -/
def rxKey (p : Packet) : Nat := if p.st then stKey (fnPort p.destFn) p.srcDev p.tc else ctKey p.qpn

/-- The CT queue pair that a packet names takes it (R311): it is CT, READY and of DEST_FUNC. -/
def State.ctServes (s : State) (p : Packet) : Bool :=
  match Tab.look s.qps p.qpn with
  | some q => !q.st && q.state == .ready && q.fn == p.destFn
  | none => false

/-- A packet that SHUTTER still takes: one of a durable message that has begun or is confirmed (R540), and a confirmation,
since a started durable entry runs to its end (R539). -/
def State.ongoing (s : State) (key : Nat) (p : Packet) : Bool :=
  p.ptype == 0x0C || p.ptype == 6 &&
  (match Tab.look s.ctxs key with
   | some c => (c.rxOf (Packet.msgNum p)).isSome ||
       (match c.confirmed with
        | some n => decide ((n - Packet.msgNum p).toNat < 2 ^ 31)
        | none => false)
   | none => false)

/-- Every packet before a PSN has arrived (R213): it is received, or its writes are being issued. -/
def State.allBefore (s : State) (key : Nat) (c : Ctx) (psn : BitVec 32) : Bool :=
  (List.range (psn - c.rcvNxt).toNat).all (fun i =>
    c.rcvMap.toNat.testBit ((c.rcvNxt.toNat + i) % 1024) ||
    s.landing.any (fun l => l.ctx == key && l.pkt.psn == c.rcvNxt + BitVec.ofNat 32 i))

/-- A message on the send side that a response answers: by PTYPE and MSG_NUM (R599). -/
def Ctx.asked (c : Ctx) (t : Nat) (num : BitVec 32) : Option TxMsg :=
  c.msgs.find? (fun m => !m.reply && m.ptype == t && m.num == num)

/-- Writes and AtomicOps of a context that bid on either path. -/
def State.writesOf (s : State) (key : Nat) : Nat :=
  let w (u : HostUnit) : Bool := u.src == .stall key && (match u.op with
    | .write _ _ _ => true
    | .atomic _ _ _ _ => true
    | _ => false)
  countP w s.pathA + countP w s.pathB

/-! ## Responses that the target sends -/

/-- A response on the target's own send side of a context (R220, R225, R262, R599): it carries the number of the message it
answers. `ext` holds the fields of bytes 0x28 to 0x3F other than MSG_NUM and OFFSET. -/
def State.replyProto (s : State) (p : Packet) (ext : Nat) : Packet :=
  { Packet.blank with
    tc := p.tc, mode := s.routeMode p.tc, tenant := s.tenantOf p.destFn, destDev := p.srcDev, destFn := p.srcFn,
    srcDev := s.deviceId, srcFn := p.destFn, flow := if p.st then 0 else p.qpn % 65536,
    qpn := if p.st then 0 else p.inc % 2 ^ 24, st := p.st, inc := if p.st then 0 else p.qpn, ext := ext }

/-- A response is handed to a context and sent. -/
def State.sendReply (s : State) (key : Nat) (m : TxMsg) : State := (s.addMsg key { m with reply := true }).pump key pumpFuel

/-- A durable confirmation (R225). -/
def State.confirm (s : State) (key : Nat) (p : Packet) (num : BitVec 32) : State :=
  s.sendReply key { TxMsg.blank with num := num, ptype := 0x0C, proto := s.replyProto p 0, fn := p.destFn,
                                     plan := [(0, 0, false)] }

/-! ## Receive entries -/

/-- A message into an RQ takes the next receive entry that passes R139 (R213, R598); none when none is available or the CQ
has no room (R101). -/
def State.takeRecv (s : State) (qpn : Nat) : Nat → Option (BitVec 16 × Nat) × State
  | 0 => (none, s)
  | n + 1 =>
    match Tab.look s.qps qpn with
    | none => (none, s)
    | some q =>
      match q.rq with
      | none => (none, s)
      | some r =>
        match r.pool with
        | [] => (none, s)
        | (idx, raw) :: rest =>
          if isPad raw || !recvOk raw then (none, s) else
          match s.reserve q.fn q.rqCq with
          | none => (none, s)
          | some s =>
            let st := s.localCheck q.pd q.fn (Ent.lkey raw) (Ent.laddr raw) (Ent.len raw) true
            let s := s.later
            let b : Bound := { idx := idx, raw := raw, slots := 1, after := [],
                               done := if st = Status.ok then none else some (st, 0, s.shortTime, false) }
            let s := (s.modRq qpn (fun x => { x with pool := rest, bound := x.bound ++ [b] })).advanceQp qpn
            if st = Status.ok then (some (idx, raw), s) else State.takeRecv s qpn n

/-- A message into an SRQ takes the next receive entry that passes R139 (R213, R591, R598). -/
def State.takeShared (s : State) (key qpn : Nat) : Nat → Option (BitVec 16 × Nat) × State
  | 0 => (none, s)
  | n + 1 =>
    match Tab.look s.srqs key with
    | none => (none, s)
    | some q =>
      match q.pool with
      | [] => (none, s)
      | (idx, raw) :: rest =>
        match s.reserve (key / 65536) q.cq with
        | none => (none, s)
        | some s =>
          let st := s.localCheck q.pd (key / 65536) (Ent.lkey raw) (Ent.laddr raw) (Ent.len raw) true
          let s := (s.modSrq key (fun x => { x with pool := rest, inUse := x.inUse + 1 })).fetchSrq key
          if st = Status.ok then (some (idx, raw), s)
          else State.takeShared (s.finishSrq key qpn idx raw st 0 false []) key qpn n

/-- The first packet of a SEND finds where its message goes (R213): an open message, a refusal, a NAK, or a wait for earlier
packets. -/
def State.openSend (s : State) (key : Nat) (c : Ctx) (p : Packet) : (Verdict × State) ⊕ (RxMsg × State) :=
  match c.rxOf (Packet.msgNum p) with
  | some m => .inr (m, s)
  | none =>
    let shared (srq qpn : Nat) : (Verdict × State) ⊕ (RxMsg × State) :=
      let n := match Tab.look s.srqs srq with
        | some q => q.pool.length
        | none => 0
      match s.takeShared srq qpn n with
      | (some (idx, raw), s) => let m := newRx p (.srq srq idx raw) qpn; .inr (m, s.putRx key m)
      | (none, s) => .inl (.refuse Refuse.notReady s.backoffBells, s)
    if p.st then
      if Tab.has s.srqs (qkey p.destFn p.destQueue) then shared (qkey p.destFn p.destQueue) 0
      else .inl (.fail Status.endpointGone, s)
    else
      match Tab.look s.qps p.qpn with
      | none => .inl (.fail Status.endpointGone, s)
      | some q =>
        match q.srq with
        | some h => shared (qkey q.fn h) p.qpn
        | none =>
          if !s.allBefore key c p.psn then .inl (.order, s) else
          let n := match q.rq with
            | some r => r.pool.length
            | none => 0
          match s.takeRecv p.qpn n with
          | (some (idx, raw), s) => let m := newRx p (.rq p.qpn idx raw) p.qpn; .inr (m, s.putRx key m)
          | (none, s) => .inl (.refuse Refuse.notReady s.backoffBells, s)

/-! ## Failure and completion of a message at the target -/

/-- What holds a message's bytes at the target completes with a status (R199, R215, R264, R265). -/
def State.rxStops (s : State) (key : Nat) (m : RxMsg) (status : Nat) : State :=
  match m.dest with
  | .rq qpn idx _ => s.finishRecv qpn idx status m.written m.solicited [.stall key]
  | .srq srq idx raw => s.finishSrq srq m.qpnSrc idx raw status m.written m.solicited [.stall key]
  | .trecv _ _ => s.dropTagged m key status
  | .store _ _ _ => s.dropTagged m key status
  | _ => s

/-- A PUT_FLAG's flag has come (written with its data, or failed). -/
def RxMsg.flagSeen (m : RxMsg) : Bool := m.flag.isSome

/-- An open message has nothing more to come: every byte counted; a PUT_FLAG has its flag too, a durable message stays until
it is confirmed unless it has failed (R215, R219, R227). -/
def RxMsg.over (m : RxMsg) : Bool :=
  m.whole && (m.ptype != 3 || m.flagSeen) && (m.ptype != 6 || m.failed.isSome)

/-- An open message is put back, or freed when it is over. -/
def State.keepRx (s : State) (key : Nat) (m : RxMsg) : State := if m.over then s.dropRx key m.num else s.putRx key m

/-- A packet fails at the target (R141, R200, R215): what its message holds completes with the local status, and the packet
is answered with the remote one. A response that fails at the initiator ends its entry, and is acknowledged (R221). -/
def State.packetFails (s : State) (key : Nat) (p : Packet) (loc rem : Nat) : Verdict × State :=
  let num := Packet.msgNum p
  match Tab.look s.ctxs key with
  | none => (.fail rem, s)
  | some c =>
    if p.ptype = 9 ∨ p.ptype = 0x0A then
      match c.asked (if p.ptype = 9 then 4 else 5) num with
      | some m =>
        let s := s.endMsg key m loc
        (.ok, match m.owner with
          | some (q, _) => s.ctFails q loc
          | none => s)
      | none => (.ok, s)
    else if p.ptype = 4 ∨ p.ptype = 5 ∨ p.ptype = 2 ∨ p.ptype = 0x11 then (.fail rem, s)
    else
      let m := (c.rxOf num).getD (newRx p .none 0)
      if p.ptype = 0x0B then (.fail rem, s.keepRx key { m with flag := some (0, 0, 2 ^ 65) })
      else if m.failed.isSome then (.fail rem, s.keepRx key (m.broke p loc))
      else (.fail rem, (s.rxStops key m loc).keepRx key (m.broke p loc))

/-- Every byte of a message has been counted: its receive entry completes (R210, R214, R215). -/
def State.recvWhole (s : State) (key : Nat) (m : RxMsg) (room : Nat) : State :=
  let status := if m.poisoned then Status.poisoned else if room < m.len then Status.truncated else Status.ok
  (s.rxStops key m status).dropRx key m.num

/-- The verdict of a packet that was delivered: a poisoned one is answered with a NAK that carries POISONED (R65, R200). -/
def delivered (p : Packet) : Verdict := if p.poison then .fail Status.poisoned else .ok

/-! ## Delivery by type -/

/-- Payload for a local buffer (R139, R214, R264): the bytes that fit go to the buffer's spans. `strict` makes every write
pass R139 with a status of its own (R262). Answers the bytes written, or a verdict. -/
def State.landLocal (s : State) (key : Nat) (p : Packet) (fn pd lkey laddr room : Nat) (strict : Bool) :
    (Verdict × State) ⊕ (Nat × State) :=
  let off := Packet.offset p
  let n := min p.payload.length (room - off)
  if n = 0 then .inr (0, s) else
  let st := s.localCheck pd fn lkey (laddr + off) n true
  if st ≠ Status.ok then .inl (s.packetFails key p st (if strict then st else Status.translationFault)) else
  match s.reachKey lkey (laddr + off) n .write false with
  | (.ok spans, s) =>
    let c := (Tab.look s.ctxs key).getD (s.freshCtx 0 .A 0 0)
    .inr (n, s.writeSpans key fn (stallClass c.tc) (Ctx.stall c key) (laddr + off) lkey p.poison spans p.payload)
  | (.miss page, s) => let (id, s) := s.missFor lkey page .write; .inl (.miss id, s)
  | (r, s) => .inl (s.packetFails key p r.localStatus (if strict then r.localStatus else r.remoteStatus))

/-- A SEND packet (R213 to R215, R598). -/
def State.deliverSend (s : State) (key : Nat) (c : Ctx) (p : Packet) : Verdict × State :=
  match s.openSend key c p with
  | .inl r => r
  | .inr (m, s) =>
    let into (fn pd raw : Nat) : Verdict × State :=
      if m.failed.isSome then (.ok, s.keepRx key (m.broke p 0)) else
      match s.landLocal key p fn pd (Ent.lkey raw) (Ent.laddr raw) (Ent.len raw) false with
      | .inl r => r
      | .inr (n, s) =>
        let m := m.took p n
        (delivered p, if m.whole then s.recvWhole key m (Ent.len raw) else s.putRx key m)
    match m.dest with
    | .rq qpn _ raw => match Tab.look s.qps qpn with
      | some q => into q.fn q.pd raw
      | none => (.ok, s.keepRx key (m.broke p 0))
    | .srq srq _ raw => into (srq / 65536) (s.srqPd srq) raw
    | _ => (.ok, s.keepRx key (m.broke p 0))

/-- Payload for a remote range (R140): the check, then the writes. Answers the function written to and the bus address of
the last byte, or a verdict. -/
def State.landRemote (s : State) (key : Nat) (p : Packet) (rkey va : Nat) (op : RemoteOp) (only : Option Nat) :
    (Verdict × State) ⊕ (Nat × Option Nat × State) :=
  let st := s.remoteCheck rkey p.tenant va p.payload.length op
  if st ≠ Status.ok then .inl (s.packetFails key p st st) else
  match s.keyRaw rkey with
  | none => .inl (s.packetFails key p Status.remoteKey Status.remoteKey)
  | some k =>
    if (match only with | some f => f != k.fn | none => false) then
      .inl (s.packetFails key p Status.remoteBounds Status.remoteBounds)
    else
      match s.reachKey rkey va p.payload.length .write (op == .durable) with
      | (.ok spans, s) =>
        let c := (Tab.look s.ctxs key).getD (s.freshCtx 0 .A 0 0)
        .inr (k.fn, lastSpan spans,
          s.writeSpans key k.fn (stallClass c.tc) (Ctx.stall c key) va rkey p.poison spans p.payload)
      | (.miss page, s) => let (id, s) := s.missFor rkey page .write; .inl (.miss id, s)
      | (r, s) => .inl (s.packetFails key p r.remoteStatus r.remoteStatus)

/-- A PUT packet (R216): each packet stands by itself (R141). -/
def State.deliverPut (s : State) (key : Nat) (p : Packet) : Verdict × State :=
  match s.landRemote key p (Packet.key p) (Packet.raddr p + Packet.offset p) .write none with
  | .inl r => r
  | .inr (_, _, s) => (delivered p, s)

/-- The recorded flag of a message that is whole is written from the source of its data (R218), unless its data failed or
was poisoned (R219). The state, or a verdict: a translation that has gone is waited for. -/
def State.writeFlag (s : State) (key : Nat) (p : Packet) (m : RxMsg) : (Verdict × State) ⊕ State :=
  match m.flag with
  | none => .inr s
  | some (k, addr, v) =>
    if m.failed.isSome || m.poisoned || decide (2 ^ 65 ≤ v) then .inr s else
    match s.reachKey k addr 8 .write false with
    | (.ok spans, s) =>
      let c := (Tab.look s.ctxs key).getD (s.freshCtx 0 .A 0 0)
      let fn := (s.keyRaw k).elim 0 (fun k => k.fn)
      .inr (s.writeSpans key fn (stallClass c.tc) (Ctx.stall c key) addr k (bitAt v 64) spans (leBytes 8 v))
    | (.miss page, s) => let (id, s) := s.missFor k page .write; .inl (.miss id, s)
    | (r, s) => .inl (s.packetFails key { p with ptype := 0x0B } r.remoteStatus r.remoteStatus)

/-- A data packet of a PUT_FLAG (R217 to R219). -/
def State.deliverFlagged (s : State) (key : Nat) (c : Ctx) (p : Packet) : Verdict × State :=
  let m := (c.rxOf (Packet.msgNum p)).getD (newRx p .remote 0)
  let m' := m.took p p.payload.length
  let go (s : State) : Verdict × State :=
    match s.landRemote key p (Packet.key p) (Packet.raddr p + Packet.offset p) .write m.keyFn with
    | .inl r => r
    | .inr (fn, _, s) =>
      let m' := { m' with keyFn := some fn }
      if m'.whole then
        match s.writeFlag key p m' with
        | .inl r => r
        | .inr s => (delivered p, s.keepRx key m')
      else (delivered p, s.keepRx key m')
  match m.flag with
  | some (k, addr, v) =>
    if !m'.whole || m.failed.isSome || m'.poisoned || decide (2 ^ 65 ≤ v) then go s else
    match s.reachKey k addr 8 .write false with
    | (.miss page, s) => let (id, s) := s.missFor k page .write; (.miss id, s)
    | (_, s) => go s
  | none => go s

/-- The FLAG packet of a PUT_FLAG (R217 to R219): checked as a write of 8 bytes under a key of RKEY's function, recorded
until the data is complete. -/
def State.deliverFlag (s : State) (key : Nat) (c : Ctx) (p : Packet) : Verdict × State :=
  let m := (c.rxOf (Packet.msgNum p)).getD (newRx p .remote 0)
  let k := Packet.key p
  let st := s.remoteCheck k p.tenant (Packet.raddr p) 8 .write
  if st ≠ Status.ok then s.packetFails key p st st else
  let fn := (s.keyRaw k).elim 0 (fun k => k.fn)
  if (match m.keyFn with | some f => f != fn | none => false) then s.packetFails key p Status.remoteBounds Status.remoteBounds
  else
    match s.reachKey k (Packet.raddr p) 8 .write false with
    | (.ok _, s) =>
      let m := { m with keyFn := some fn,
                        flag := some (k, Packet.raddr p, leNat p.payload % 2 ^ 64 + (if p.poison then 2 ^ 64 else 0)) }
      if m.whole then
        match s.writeFlag key p m with
        | .inl r => r
        | .inr s => (delivered p, s.keepRx key m)
      else (delivered p, s.putRx key m)
    | (.miss page, s) => let (id, s) := s.missFor k page .write; (.miss id, s)
    | (r, s) => s.packetFails key p r.remoteStatus r.remoteStatus

/-- A GET_REQ (R220): the whole range is checked and translated, then read and returned in response packets. -/
def State.deliverGet (s : State) (key : Nat) (p : Packet) : Verdict × State :=
  let len := Packet.msgLen p
  let st := s.remoteCheck (Packet.key p) p.tenant (Packet.raddr p) len .read
  if st ≠ Status.ok then (.fail st, s) else
  match s.reachKey (Packet.key p) (Packet.raddr p) len .read false with
  | (.ok _, s) =>
    let cut := cutMessage 9 (Packet.raddr p) len
    let fn := (s.keyRaw (Packet.key p)).elim p.destFn (fun k => k.fn)
    (.ok, s.sendReply key
      { TxMsg.blank with num := Packet.msgNum p, ptype := 9, fn := fn, len := len,
                         proto := s.replyProto p (extAt 0x2C 0 32 len + extAt 0x38 0 64 (Packet.raddr p)),
                         plan := cut.map (fun x => (x.1, x.2, false)), src := some (Packet.key p, Packet.raddr p),
                         todo := cut.filter (fun x => x.2 != 0) })
  | (.miss page, s) => let (id, s) := s.missFor (Packet.key p) page .read; (.miss id, s)
  | (r, s) => (.fail r.remoteStatus, s)

/-- Operand bytes of an ATOMIC_OP (R206, R222). -/
def atomicSize (k : Nat) : Nat := if k = 0 ∨ k = 2 then 4 else if k = 5 then 16 else 8

/-- An ATOMIC_REQ (R222, R317): one AtomicOp on the host port. A poisoned one is not performed: its operands are not known. -/
def State.deliverAtomic (s : State) (key : Nat) (c : Ctx) (p : Packet) : Verdict × State :=
  let k := Packet.ext p 0x2C 0 4
  let size := atomicSize k
  let st := s.remoteCheck (Packet.key p) p.tenant (Packet.raddr p) size .atomic
  if st ≠ Status.ok then (.fail st, s) else
  match s.reachKey (Packet.key p) (Packet.raddr p) size .atomic false with
  | (.ok spans, s) =>
    if p.poison then (.fail Status.poisoned, s) else
    let fn := (s.keyRaw (Packet.key p)).elim p.destFn (fun k => k.fn)
    let addr := match spans with
      | (a, _) :: _ => a
      | [] => 0
    let operands := if k = 0 ∨ k = 2 then p.payload.take 4 else p.payload
    let m := { newRx p .none 0 with begun := true }
    (.ok, (s.putRx key m).hostAtomic fn (stallClass c.tc) (Ctx.stall c key) (.stall key) addr k operands
      (.atomic key (Packet.msgNum p) size) (some (Packet.key p, Packet.raddr p, size)))
  | (.miss page, s) => let (id, s) := s.missFor (Packet.key p) page .atomic; (.miss id, s)
  | (r, s) => (.fail r.remoteStatus, s)

/-- A durable message that is whole at the target is flushed (R225): the flush read goes to the last range it wrote, or, when
it wrote none, to the last range its source wrote; with none either it counts as flushed. -/
def State.flushRx (s : State) (key : Nat) (c : Ctx) (m : RxMsg) (fn : Nat) : State :=
  let goal := match m.last with
    | some a => some (fn, a)
    | none => c.lastAddr
  match goal with
  | some (fn, a) =>
    (s.putRx key { m with flushing := true }).hostFlush fn (stallClass c.tc) (Ctx.stall c key) (.stall key) [] a (.flush key m.num)
  | none => s.putRx key { m with flushed := true }

/-- A DURABLE_PUT packet (R225, R537): a first packet that would take the target bytes above `E020:02` is refused. -/
def State.deliverDurable (s : State) (key : Nat) (c : Ctx) (p : Packet) : Verdict × State :=
  match c.rxOf (Packet.msgNum p) with
  | none =>
    if s.openParam 0xE02002 < s.durableTarget + Packet.msgLen p then (.refuse Refuse.notReady s.backoffBells, s)
    else go (newRx p .remote 0)
  | some m => go m
where
  go (m : RxMsg) : Verdict × State :=
    match s.landRemote key p (Packet.key p) (Packet.raddr p + Packet.offset p) .durable none with
    | .inl (.miss id, s) => (.miss id, if m.begun then s else s.putRx key m)
    | .inl r => r
    | .inr (fn, last, s) =>
      let m := m.took p p.payload.length
      let m := { m with last := if last.isSome then last else m.last, keyFn := some fn,
                        failed := if p.poison && m.failed.isNone then some Status.poisoned else m.failed }
      if m.whole && m.failed.isNone then (delivered p, s.flushRx key c m fn) else (delivered p, s.keepRx key m)

/-- A packet of a GET_RESP at the initiator (R220, R221): its bytes go to LADDR + OFFSET; data for no live entry is
dropped. A poisoned one makes the entry complete POISONED with the bytes before it (R65, R241). -/
def State.deliverGetResp (s : State) (key : Nat) (c : Ctx) (p : Packet) : Verdict × State :=
  match c.asked 4 (Packet.msgNum p) with
  | none => (.ok, s)
  | some m =>
    match s.ownerOf m with
    | none => (.ok, s)
    | some (q, x, w) =>
      match s.landLocal key p x.fn x.pd (Ent.lkey w.raw) (Ent.laddr w.raw) (Ent.len w.raw) false with
      | .inl r => r
      | .inr (_, s) =>
        let bad := p.poison && m.repFail == 0
        let m := { m with repOk := if bad then m.respCount else m.repOk, repFail := if bad then 1 else m.repFail,
                          respCount := m.respCount + p.payload.length }
        if Ent.len w.raw ≤ m.respCount then
          let s := s.dropMsg key m.id
          (.ok, if m.repFail = 0 then s.finishWqe q w.idx Status.ok (Ent.len w.raw) 0 [.stall key]
            else s.finishWqe q w.idx Status.poisoned m.repOk 0 [.stall key])
        else (.ok, s.modMsg key m.id (fun _ => m))

/-- An ATOMIC_RESP at the initiator (R222): the returned value goes to LADDR. -/
def State.deliverAtomicResp (s : State) (key : Nat) (c : Ctx) (p : Packet) : Verdict × State :=
  match c.asked 5 (Packet.msgNum p) with
  | none => (.ok, s)
  | some m =>
    match s.ownerOf m with
    | none => (.ok, s)
    | some (q, x, w) =>
      let size := atomicSize (Ent.atomicOp w.raw)
      match s.landLocal key { p with payload := p.payload.take size } x.fn x.pd (Ent.lkey w.raw) (Ent.laddr w.raw) size false with
      | .inl r => r
      | .inr (_, s) =>
        (.ok, (s.dropMsg key m.id).finishWqe q w.idx (if p.poison then Status.poisoned else Status.ok)
          (if p.poison then 0 else size) 0 [.stall key])

/-- A DURABLE_CONF at the initiator (R226). -/
def State.deliverConf (s : State) (key : Nat) (c : Ctx) (p : Packet) : Verdict × State :=
  match c.asked 6 (Packet.msgNum p) with
  | none => (.ok, s)
  | some m =>
    match m.owner, m.fail with
    | some (q, idx), none => (.ok, (s.dropMsg key m.id).finishWqe q idx Status.ok m.len 0 [])
    | _, _ => (.ok, s)

/-- A CTS at the initiator (R262, R263): the grant is sent in data packets that carry the landing handle; a grant of 0
completes the TSEND. One that names no live TSEND is answered with a NAK (R221). -/
def State.deliverCts (s : State) (key : Nat) (c : Ctx) (p : Packet) : Verdict × State :=
  match c.asked 0x11 (Packet.msgNum p) with
  | none => (.fail Status.endpointGone, s)
  | some m =>
    match s.ownerOf m with
    | none => (.fail (if m.fail = some Status.timeout then Status.timeout else Status.endpointGone), s.dropMsg key m.id)
    | some (q, x, w) =>
      let grant := Packet.ext p 0x2C 0 32
      let s := s.dropMsg key m.id
      if grant = 0 then (.ok, s.finishWqe q w.idx Status.ok 0 0 []) else
      let inl := Ent.inline w.raw = 1
      let body := leBytes (Ent.len w.raw) (w.raw / 2 ^ 512)
      let cut := cutMessage 0x13 0 grant
      let d : TxMsg :=
        { TxMsg.blank with
          ptype := 0x13, owner := m.owner, fn := x.fn, pd := some x.pd, len := grant,
          proto := { m.proto with destQueue := 0, ext := extAt 0x2C 0 32 grant + extAt 0x34 0 24 (Packet.ext p 0x30 0 24) },
          plan := cut.map (fun x => (x.1, x.2, false)),
          src := if inl then none else some (Ent.lkey w.raw, Ent.laddr w.raw), todo := if inl then [] else cut,
          got := if inl then [(0, body, false)] else [] }
      (.ok, (s.addMsg key d).pump key pumpFuel)

/-- Bytes of a message go to a matched receive (R261, R262, R264). -/
def State.intoMatched (s : State) (key : Nat) (p : Packet) (m : RxMsg) (srq handle : Nat) (strict : Bool) : Verdict × State :=
  match s.matchedOf srq handle with
  | none => (.ok, s.keepRx key (m.broke p 0))
  | some r =>
    match s.landLocal key p (srq / 65536) (s.srqPd srq) (Ent.lkey r.raw) (Ent.laddr r.raw) (Ent.len r.raw) strict with
    | .inl v => v
    | .inr (n, s) =>
      let m := m.took p n
      let s := s.modMatched srq handle (fun r =>
        { r with seen := r.seen + p.payload.length, written := r.written + n, poisoned := r.poisoned || p.poison,
                 solicited := r.solicited || p.solicited })
      let s := s.keepRx key m
      (delivered p, if m.whole then s.advanceMatched srq handle else s)

/-- Bytes of a message go to its place in an overflow buffer (R266). -/
def State.intoStore (s : State) (key : Nat) (p : Packet) (m : RxMsg) (srq buf off : Nat) : Verdict × State :=
  let land := match Tab.look s.srqs srq with
    | some q => match q.tbufs.find? (fun (b : Tbuf) => b.id == buf) with
      | some b => some (s.landLocal key p (srq / 65536) q.pd (Ent.lkey b.raw) (Ent.laddr b.raw + off) m.len false)
      | none => none
    | none => none
  let done (s : State) (n : Nat) : Verdict × State :=
    let m := m.took p n
    let s := s.keepRx key m
    (delivered p, if m.whole then s.storedWhole srq key m.num m.poisoned else s)
  match land with
  | some (.inl v) => v
  | some (.inr (n, s)) => done s n
  | none => if m.len = 0 then done s 0 else (.ok, s.keepRx key (m.broke p 0))

/-- A TSEND_EAGER packet (R252, R261, R266, R273). -/
def State.deliverEager (s : State) (key : Nat) (c : Ctx) (p : Packet) : Verdict × State :=
  let srq := qkey p.destFn p.destQueue
  let opened : Option (RxMsg × State) :=
    match c.rxOf (Packet.msgNum p) with
    | some m => some (m, s)
    | none => match s.firstTagged srq key p with
      | some (d, s) => let m := newRx p d 0; some (m, s.putRx key m)
      | none => none
  if (c.rxOf (Packet.msgNum p)).isNone && !Tab.has s.srqs srq then (.fail Status.endpointGone, s) else
  match opened with
  | none => (.refuse Refuse.notReady s.backoffBells, s)
  | some (m, s) =>
    if m.failed.isSome then (.ok, s.keepRx key (m.broke p 0)) else
    match m.dest with
    | .trecv q h => s.intoMatched key p m q h false
    | .store q b o => s.intoStore key p m q b o
    | _ => (.ok, s.keepRx key (m.broke p 0))

/-- A TSEND_RTS (R252, R262, R273): matched, which sends the clear-to-send, or stored. -/
def State.deliverRts (s : State) (key : Nat) (p : Packet) : Verdict × State :=
  let srq := qkey p.destFn p.destQueue
  if !Tab.has s.srqs srq then (.fail Status.endpointGone, s) else
  match s.firstTagged srq key p with
  | none => (.refuse Refuse.notReady s.backoffBells, s)
  | some (.trecv q h, s) =>
    match s.matchedOf q h with
    | some r => (.ok, if r.need = 0 then s.advanceMatched q h else s)
    | none => (.ok, s)
  | some (_, s) => (.ok, s)

/-- The SRQ of a function in which a landing handle lives (R262). -/
def State.landingOf (s : State) (fn handle : Nat) : Option Nat :=
  (s.srqs.find? (fun e => e.1 / 65536 == fn && e.2.matched.any (fun m => m.handle == handle))).map Prod.fst

/-- A RNDV_DATA packet (R262, R264). One whose TRECV has ended is answered ENDPOINT_GONE. -/
def State.deliverRndv (s : State) (key : Nat) (c : Ctx) (p : Packet) : Verdict × State :=
  let handle := Packet.ext p 0x34 0 24
  match c.rxOf (Packet.msgNum p) with
  | some m =>
    if m.failed.isSome then (.ok, s.keepRx key (m.broke p 0)) else
    match m.dest with
    | .trecv q h => s.intoMatched key p m q h true
    | _ => (.ok, s.keepRx key (m.broke p 0))
  | none =>
    match s.landingOf p.destFn handle with
    | some q => let m := newRx p (.trecv q handle) 0; (s.putRx key m).intoMatched key p m q handle true
    | none => (.fail Status.endpointGone, s)

/-- A packet that has been admitted is delivered by its type (R213 to R226, R261 to R265). -/
def State.deliver (s : State) (key : Nat) (p : Packet) : Verdict × State :=
  match Tab.look s.ctxs key with
  | none => (.fail Status.endpointGone, s)
  | some c =>
    match p.ptype with
    | 0x01 => s.deliverSend key c p
    | 0x02 => s.deliverPut key p
    | 0x03 => s.deliverFlagged key c p
    | 0x04 => s.deliverGet key p
    | 0x05 => s.deliverAtomic key c p
    | 0x06 => s.deliverDurable key c p
    | 0x09 => s.deliverGetResp key c p
    | 0x0A => s.deliverAtomicResp key c p
    | 0x0B => s.deliverFlag key c p
    | 0x0C => s.deliverConf key c p
    | 0x10 => s.deliverEager key c p
    | 0x11 => s.deliverRts key p
    | 0x12 => s.deliverCts key c p
    | _ => s.deliverRndv key c p

/-! ## Admission -/

/-- The admission step of R375: the state of the target function, the meters, then the delivery. `again`: the packet comes
from the bench and has been metered (R379). -/
def State.admission (s : State) (key : Nat) (p : Packet) (again : Bool) : Verdict × Packet × State :=
  match s.fnAnswer p.destFn (s.ongoing key p) with
  | 1 => (.fail Status.endpointGone, p, s)
  | 2 => (.refuse Refuse.notReady s.backoffBells, p, s.wakeFor p.destFn)
  | 3 => (.refuse Refuse.closing 0, p, s)
  | _ =>
    let (col, back, s) := if again then (Colour.green, 0, s) else s.police p
    match col with
    | .red => (.refuse Refuse.policed back, p, s.count Event.policed p.destFn 1)
    | .yellow =>
      let p := { p with ce := true }
      let (v, s) := s.deliver key p
      (v, p, s)
    | .green =>
      let (v, s) := s.deliver key p
      (v, p, s)

/-- What a verdict does with a packet (R157, R183, R187, R196). -/
def State.settleVerdict (s : State) (key : Nat) (p : Packet) (before : Nat) (v : Verdict) : State :=
  let stall := match Tab.look s.ctxs key with
    | some c => Ctx.stall c key
    | none => 0
  let wrote := decide (before < s.writesOf key)
  match v with
  | .ok => s.land key p 0 wrote
  | .fail st => s.land key p st wrote
  | .refuse code back => s.sendSack key p 2 code back
  | .miss id => s.toBench stall p (.miss id)
  | .order => s.toBench stall p (.order key)

/-- Rendezvous receives whose data has not all come from a context complete with a status (R199, R263). -/
def State.endLandings (s : State) (ctx status : Nat) : State :=
  s.srqs.foldl (fun s e => e.2.matched.foldl (fun s m =>
    if m.ctx = ctx ∧ m.copy = none ∧ m.seen < m.need then s.finishMatched e.1 m status else s) s) s

/-- An ST receive side adopts a new incarnation (R199): partly received messages of the old one complete PEER_GONE. -/
def State.adopt (s : State) (key : Nat) (c : Ctx) (inc : Nat) : State :=
  let s := s.failSrqRecvs c.rx 0 Status.peerGone
  let s := (c.rx.foldl (fun s m => s.dropTagged m key Status.peerGone) s).endLandings key Status.peerGone
  { s with landing := s.landing.filter (fun l => l.ctx != key) }.modCtx key (fun c =>
    { c with rx := [], rcvOld := if c.rcvFresh then c.rcvOld else c.rcvOld ++ [c.rcvInc], rcvInc := BitVec.ofNat 32 inc,
             rcvFresh := false, rcvNxt := 0, rcvMap := 0, unackedRx := 0, ce := 0, confirmed := none })

/-- The confirmation of a durable message is sent again when one of its packets comes again (R227). -/
def State.reconfirm (s : State) (key : Nat) (c : Ctx) (p : Packet) : State :=
  match c.confirmed with
  | some n =>
    if p.ptype = 6 ∧ (n - Packet.msgNum p).toNat < 2 ^ 31 then s.confirm key p (Packet.msgNum p) else s
  | none => s

/-- A packet at a resident context (the receiver of R189), of the current incarnation. -/
def State.receiveIn (s : State) (key : Nat) (p : Packet) (again : Bool) : State :=
  match Tab.look s.ctxs key with
  | none => s
  | some c =>
    match s.psnPlace key c p.psn with
    | .old => (s.sendSack key p 0 0 0).reconfirm key c p
    | .duplicate => (s.sendSack key p 0 0 0).reconfirm key c p
    | .beyond => s.count Event.outOfWindow (Ctx.stall c key) 1
    | .fresh =>
      let before := s.writesOf key
      let (v, p, s) := s.admission key p again
      s.settleVerdict key p before v

/-- A packet at a resident context: an ST packet of another incarnation is adopted at PSN 0, otherwise refused RESYNC
(R196, R199). -/
def State.receiveAt (s : State) (key : Nat) (p : Packet) (again : Bool) : State :=
  match Tab.look s.ctxs key with
  | none => s
  | some c =>
    if !p.st || (!c.rcvFresh && c.rcvInc == BitVec.ofNat 32 p.inc) then s.receiveIn key p again
    else if c.rcvOld.contains (BitVec.ofNat 32 p.inc) || p.psn != 0 then s.sendSack key p 2 Refuse.resync 0
    else (s.adopt key c p.inc).receiveIn key p again

/-- A packet that has passed R323 (R311, R180, R375). Where no context stands resident, the state of the function is
answered without one. A packet of a group lands without a context. -/
def State.receive (s : State) (p : Packet) (again : Bool) : State :=
  let key := rxKey p
  if groupType p.ptype then s.groupArrive p
  else if !p.st && !s.ctServes p && s.fnAnswer p.destFn false != 3 then s.answerNoCtx p 1 Status.endpointGone 0
  else if s.resident key && s.portUp (fnPort p.destFn) then s.receiveAt key p again
  else
    match s.fnAnswer p.destFn (s.ongoing key p) with
    | 1 => (if (s.port (fnPort p.destFn)).state = .reset then s.wakeFor p.destFn else s).answerNoCtx p 1 Status.endpointGone 0
    | 2 => (s.wakeFor p.destFn).answerNoCtx p 2 Refuse.notReady s.backoffBells
    | 3 => s.answerNoCtx p 2 Refuse.closing 0
    | _ =>
      match (if p.st then s.needSt (fnPort p.destFn) p.srcDev p.tc else some s) with
      | none => s.answerNoCtx p 2 Refuse.notReady s.backoffBells
      | some s =>
        if s.resident key then s.receiveAt key p again
        else
          let stall := if p.st then p.srcDev % 16 else p.qpn % 16
          (s.toBench stall p (.context key)).wakeCtx key

/-! ## After a packet is received -/

/-- Durable messages of a context that are flushed are confirmed in message order, once every packet before them has come
(R227). One that has failed is passed over. -/
def State.confirmDurable (s : State) (key : Nat) : Nat → State
  | 0 => s
  | n + 1 =>
    match Tab.look s.ctxs key with
    | none => s
    | some c =>
      let later (a b : RxMsg) : Bool := decide (0 < (a.num - b.num).toNat ∧ (a.num - b.num).toNat < 2 ^ 31)
      let first (m : RxMsg) : Bool := !c.rx.any (fun x => x.ptype == 6 && x.failed.isNone && later m x)
      let passed (m : RxMsg) : Bool := let d := (c.rcvNxt - m.hdr.psn).toNat; decide (0 < d ∧ d < 2 ^ 31)
      match c.rx.find? (fun m => m.ptype == 6 && m.flushed && m.failed.isNone && first m && passed m) with
      | none => s
      | some m =>
        let s := (s.dropRx key m.num).modCtx key (fun c => { c with confirmed := some m.num })
        State.confirmDurable (s.confirm key m.hdr m.num) key n

/-- SEND packets of a context that waited for earlier packets are taken up in PSN order (R213). -/
def State.retryOrder (s : State) (key : Nat) : Nat → State
  | 0 => s
  | n + 1 =>
    match Tab.look s.ctxs key with
    | none => s
    | some c =>
      match s.bench.find? (fun b => b.2.2 == .order key && s.allBefore key c b.2.1.psn) with
      | none => s
      | some b => State.retryOrder ({ s with bench := s.bench.erase b }.receive b.2.1 true) key n

/-- What follows once packets of a context have been received. -/
def State.afterReceived (s : State) (key : Nat) : State :=
  let n := match Tab.look s.ctxs key with
    | some c => c.rx.length
    | none => 0
  (s.confirmDurable key n).retryOrder key (s.bench.length + 1)

/-- Benched packets that a wait has ended for are processed in order of arrival (R185). -/
def State.unbench (s : State) (why : BenchWait) (again : Bool) : State :=
  let l := s.bench.filter (fun b => b.2.2 == why)
  l.foldl (fun s b => (s.receive b.2.1 again).afterReceived (rxKey b.2.1))
    { s with bench := s.bench.filter (fun b => b.2.2 != why) }

/-- A benched packet whose miss has failed: the access fails with TRANSLATION_FAULT (R158). Its duplicates and packets of a
context that has gone are dropped. -/
def State.benchFails (s : State) (p : Packet) : State :=
  let key := rxKey p
  if groupType p.ptype then s.groupFails p Status.translationFault else
  match Tab.look s.ctxs key with
  | none => s
  | some c =>
    if c.res != .resident || (p.st && (c.rcvFresh || c.rcvInc != BitVec.ofNat 32 p.inc)) || s.psnPlace key c p.psn != .fresh then s
    else
      let (v, s) := s.packetFails key p Status.translationFault Status.translationFault
      s.settleVerdict key p (s.writesOf key) v

/-- An arrival of a transport type (R311): received, and what follows from it done. -/
def State.arrive (s : State) (p : Packet) : State := (s.receive p false).afterReceived (rxKey p)

end Sys2Proof.Machine
end

