-- ==== Sys2Proof/Machine/Walk.lean ====
section
/-!
DEFINITION. Page-table walks, the end of misses, and the fill ring (R147 to R165).
-/
namespace Sys2Proof.Machine

/-! ## Reads that are abandoned -/

/-- The tag of the read, flush read or AtomicOp that a unit asks for. -/
def HostOp.tag : HostOp → Option Nat
  | .read t _ _ => some t
  | .flush t _ => some t
  | .atomic t _ _ _ => some t
  | _ => none

/-- A unit asks for a read that is no longer recorded. -/
def State.orphan (s : State) (u : HostUnit) : Bool :=
  match u.op.tag with
  | some t => !Tab.has s.reads t
  | none => false

/-- Reads that pass a test are abandoned: an answer to them is dropped, and one that still bids is withdrawn (R62, R69). -/
def State.dropReads (s : State) (p : HostRead → Bool) : State :=
  let s := { s with reads := s.reads.filter (fun r => !p r.2) }
  { s with pathA := s.pathA.filter (fun u => !s.orphan u), pathB := s.pathB.filter (fun u => !s.orphan u) }

/-! ## The end of a miss -/

/-- A member's input piece that waits on a page could not be reached: its contribution is poisoned (notes/assumptions/11.md). -/
def State.memberInputFails (s : State) (tree : Nat) (osn : BitVec 32) (slot st : Nat) : State :=
  s.modMember tree osn slot (fun m =>
    match m.todo with
    | (off, len) :: rest => { m with fail := if m.fail.isSome then m.fail else some st, todo := rest,
                                     got := m.got ++ [(off, List.replicate len 0, true)] }
    | [] => m)

/-- A member of an operation goes on after a wait: input read, contributions given, results written. -/
def State.wakeMember (s : State) (tree : Nat) (osn : BitVec 32) (slot : Nat) : State :=
  match s.opOf tree osn with
  | none => s
  | some o =>
    match o.member slot with
    | none => s
    | some m =>
      (((s.readMember tree osn slot (m.todo.length + 1)).giveReady tree osn slot).flushMember tree osn slot
        (2 * m.out.length + 4)).advanceTree tree

/-- A page lies in a range. -/
def pageIn (page va len : Nat) : Bool := decide (va / 4096 ≤ page ∧ page * 4096 < va + len)

/-- A member's access to a page fails (R139, R303): the input piece, the result piece, or both, that lie on it. -/
def State.memberFails (s : State) (tree : Nat) (osn : BitVec 32) (slot : Nat) (miss : Miss) : State :=
  match s.opOf tree osn with
  | none => s
  | some o =>
    match o.member slot with
    | none => s
    | some m =>
      let input := match m.todo with
        | (off, len) :: _ => keyIndex (Ent.lkey m.raw) == miss.key && pageIn miss.page (Ent.laddr m.raw + off) len
        | [] => false
      let output := match m.out with
        | (off, d, _) :: _ => keyIndex (Coll.resKey m.raw) == miss.key && pageIn miss.page (Coll.resAddr m.raw + off) d.length
        | [] => false
      let s := if input then s.memberInputFails tree osn slot Status.translationFault else s
      let s := if output then s.modMember tree osn slot (fun m => { m with fail := some Status.translationFault }) else s
      s.wakeMember tree osn slot

/-- A local access that waited on a miss starts again with a new lookup (R157). -/
def State.resume (s : State) : MissWaiter → State
  | .payload ctx _ => s.pump ctx pumpFuel
  | .porter ch => s.wakeChan ch
  | .bench => s
  | .coll tree osn slot => s.wakeMember tree osn slot
  | .copy srq h => s.wakeMatched srq h

/-- A local access that waited on a miss fails with TRANSLATION_FAULT (R139, R147, R158). -/
def State.waitFails (s : State) (miss : Miss) : MissWaiter → State
  | .payload ctx id =>
    match s.msgOf ctx id with
    | some m => ((s.localFail ctx m Status.translationFault).settleMsgs ctx).pump ctx pumpFuel
    | none => s
  | .porter ch => (s.chanFails ch Status.translationFault).settlePause ch
  | .bench => s
  | .coll tree osn slot => s.memberFails tree osn slot miss
  | .copy srq h =>
    match s.matchedOf srq h with
    | some m => s.finishMatched srq m Status.translationFault
    | none => s

/-- The benched packets of a miss fail with TRANSLATION_FAULT (R158). -/
def State.benchAllFail (s : State) (id : Nat) : State :=
  let l := s.bench.filter (fun b => b.2.2 == .miss id)
  l.foldl (fun s b => (s.benchFails b.2.1).afterReceived (rxKey b.2.1))
    { s with bench := s.bench.filter (fun b => b.2.2 != .miss id) }

/-- A miss leaves the table; the read or CAS of its walk is abandoned. -/
def State.dropMiss (s : State) (id : Nat) : State :=
  ({ s with misses := Tab.del s.misses id }).dropReads (fun r => decide (r.for_ = ReadFor.walk id ∨ r.for_ = ReadFor.cas id))

/-- The benched packets of a miss start again with a new lookup (R157, R185). They are past step 1 of R140, so a DESTROY_KEY
accepted since lets them go on (R143). -/
def State.unbenchMiss (s : State) (id key : Nat) : State :=
  let hold := s.dying
  { ({ s with dying := hold.filter (fun d => keyIndex d.2 != key) } : State).unbench (.miss id) true with dying := hold }

/-- A miss is answered: every access that waits on it starts again (R157, R185), or fails (R147, R158, R164). -/
def State.endMiss (s : State) (id : Nat) (good : Bool) : State :=
  match Tab.look s.misses id with
  | none => s
  | some m =>
    let s := s.dropMiss id
    if good then (m.waiters.foldl State.resume s).unbenchMiss id m.key
    else (m.waiters.foldl (fun s w => s.waitFails m w) s).benchAllFail id

/-! ## The Clerk's walk -/

/-- The translation of a walked leaf is loaded (R145, R150, R152), and the accesses that wait go on. -/
def State.walkDone (s : State) (id : Nat) (m : Miss) (leaf : Nat) : State :=
  (s.loadTlb (s.leafEntry m.key m.page leaf (m.access != 0 && Pte.d leaf) false)).endMiss id true

/-- A leaf that the walk has read (R147, R150): A is set, and D for a write to a writable page, by one CAS on the leaf as
read. -/
def State.walkLeaf (s : State) (id : Nat) (m : Miss) (fn leaf : Nat) : State :=
  if !Pte.leafOk leaf || !s.leafClear leaf m.page then s.endMiss id false else
  let want := Nat.lor leaf (4 + (if m.access != 0 && Pte.w leaf then 8 else 0))
  if want = leaf then s.walkDone id m leaf
  else
    let m := { m with level := 1, leaf := leaf }
    ({ s with misses := Tab.put s.misses id m } : State).hostAtomic fn 0 0 .clerk m.leafAddr 4 (leBytes 8 want ++ leBytes 8 leaf) (.cas id) none

/-- An entry that the walk has read (R147, R148): a table pointer that passes its tests is followed. -/
def State.walkEntry (s : State) (id e : Nat) : State :=
  match Tab.look s.misses id with
  | none => s
  | some m =>
    match Tab.look s.keys m.key with
    | none => s.endMiss id false
    | some k =>
      if m.level ≤ 1 then s.walkLeaf id m k.fn e
      else if Pte.tableOk e && s.tableClear k (Pte.addr e) then s.walkRead id m k.fn (Pte.addr e) (m.level - 1)
      else s.endMiss id false

/-- The read of a walk has been answered (R147): poisoned, in error or late, the walk is abandoned. -/
def State.walkBack (s : State) (id : Nat) (a : Answer) : State :=
  match a with
  | .data d => s.walkEntry id (leNat d % 2 ^ 64)
  | _ => s.endMiss id false

/-- The CAS on a leaf has been answered (R150, R151): where the compare failed the leaf is read again, at most `4030:03`
times. -/
def State.casBack (s : State) (id : Nat) (a : Answer) : State :=
  match Tab.look s.misses id, a with
  | some m, .data d =>
    if leNat d % 2 ^ 64 = m.leaf then
      s.walkDone id m (Nat.lor m.leaf (4 + (if m.access != 0 && Pte.w m.leaf then 8 else 0)))
    else if m.casTries < m.casLimit then
      match Tab.look s.keys m.key with
      | some k => s.walkRead id { m with casTries := m.casTries + 1 } k.fn (m.leafAddr - tableIndex m.page 1 * 8) 1
      | none => s.endMiss id false
    else s.endMiss id false
  | some _, _ => s.endMiss id false
  | none, _ => s

/-- A miss has stood unanswered for its limit at a bell boundary (R158). -/
def State.missDue (s : State) (m : Miss) : Bool := decide (m.raised + m.limit * 4096 ≤ s.ticks * 4096)

/-- MISS_TIMEOUT (R158). -/
def execMissTimeout (miss : Nat) (s : State) : Host.Outcome State Fault Refusal :=
  match Tab.look s.misses miss with
  | some m => if s.missDue m then ok (s.endMiss miss false) else ok s
  | none => ok s

/-! ## The fill ring -/

/-- OPCODE of a fill entry (R163). -/
def Fill.opcode (r : Nat) : Nat := bits r 0 8 8
/-- KEY (R163). -/
def Fill.key (r : Nat) : Nat := bits r 4 0 32
/-- VA (R163). -/
def Fill.va (r : Nat) : Nat := bits r 8 0 64
/-- LEAF (R163). -/
def Fill.leaf (r : Nat) : Nat := bits r 0x10 0 64
/-- MISS_ID (R163). -/
def Fill.miss (r : Nat) : Nat := bits r 0x18 0 16

/-- A fill entry is well formed (R92, R163): one slot, a defined opcode, a page address, reserved fields zero. -/
def fillOk (r : Nat) : Bool :=
  bits r 0 0 5 == 1 && (Fill.opcode r == 1 || Fill.opcode r == 2) &&
  onlyBits r (fieldMask 0 0 5 + fieldMask 0 8 8 + fieldMask 4 0 32 + fieldMask 8 0 128 + fieldMask 0x18 0 16) &&
  Fill.va r % 4096 == 0

/-- The part reads the next announced fill entry (R159, R163). -/
def State.fetchFill (s : State) (fn : Nat) : State :=
  match (s.fn fn).missq with
  | none => s
  | some q =>
    if q.fillFetching || decide (q.fillCi = q.fillPi) || !s.awake fn then s
    else
      (s.setFn fn (fun f => { f with missq := some { q with fillFetching := true } })).hostRead fn 1 0 (fetchSource fn)
        (q.fillBase + q.fillCi.toNat % 2 ^ q.fillLog2 * 64) 64 (.fill fn) none

/-- A fill entry that has been read frees its slot (R165); a malformed one is discarded and counted. -/
def State.takeFill (s : State) (fn : Nat) (data : Bytes) : State :=
  match (s.fn fn).missq with
  | none => s
  | some q =>
    let raw := leNat data % 2 ^ 512
    let good := fillOk raw
    let q := { q with fillFetching := false, fillCi := q.fillCi + 1, fills := if good then q.fills ++ [raw] else q.fills }
    let s := s.setFn fn (fun f => { f with missq := some q })
    (if good then s else s.count Event.fillDiscard anyUnit 1).fetchFill fn

/-- A fill entry whose read failed (R67, R165): its content is not known, and it is discarded and counted. -/
def State.failFill (s : State) (fn : Nat) : State :=
  match (s.fn fn).missq with
  | none => s
  | some q =>
    ((s.setFn fn (fun f => { f with missq := some { q with fillFetching := false, fillCi := q.fillCi + 1 } })).count
      Event.fillDiscard anyUnit 1).fetchFill fn

/-- The key that a fill names is an ASK of the function with HANDLER = 1 (R165). -/
def State.fillKey (s : State) (fn r : Nat) : Option Key :=
  match s.keyOf (Fill.key r) with
  | some k => if k.ask && k.handler && k.fn == fn then some k else none
  | none => none

/-- The outstanding miss that a fill answers: of its key, by MISS_ID (R163). -/
def State.fillMiss (s : State) (r : Nat) : Option Miss :=
  match Tab.look s.misses (Fill.miss r) with
  | some m => if m.key = keyIndex (Fill.key r) then some m else none
  | none => none

/-- The accesses that wait on the miss a fill names go on or fail (R164). -/
def State.answerMiss (s : State) (r : Nat) (good : Bool) : State :=
  if (s.fillMiss r).isSome then s.endMiss (Fill.miss r) good else s

/-- A FILL (R164): the leaf is loaded as given; without V, outside its format, or inside a BAR it loads nothing. -/
def State.fillLeaf (s : State) (r : Nat) : State :=
  let leaf := Fill.leaf r
  let page := Fill.va r / 4096
  if !Pte.leafOk leaf || !s.leafClear leaf page || decide (2 ^ 36 ≤ page) then s.answerMiss r false
  else
    let write := match s.fillMiss r with
      | some m => m.access != 0
      | none => false
    (s.loadTlb (s.leafEntry (keyIndex (Fill.key r)) page leaf (Pte.d leaf) false)).answerMiss r
      (!write || (Pte.w leaf && Pte.d leaf))

/-- The fill entry at the head of those read is taken where it has an opcode (R164, R165). -/
def State.fillRow (s : State) (fn op : Nat) (go : Nat → State → State) : State :=
  match (s.fn fn).missq with
  | none => s
  | some q =>
    match q.fills with
    | [] => s
    | r :: rest =>
      if Fill.opcode r ≠ op then s else
      let s := s.setFn fn (fun f => { f with missq := some { q with fills := rest } })
      if (s.fillKey fn r).isSome then go r s else s.count Event.fillDiscard anyUnit 1

/-- FILL (R164). -/
def execFill (fn : Nat) (s : State) : Host.Outcome State Fault Refusal := ok (s.fillRow fn 1 (fun r s => s.fillLeaf r))

/-- FAULT (R164). -/
def execFault (fn : Nat) (s : State) : Host.Outcome State Fault Refusal :=
  ok (s.fillRow fn 2 (fun r s => s.answerMiss r false))

end Sys2Proof.Machine
end

