-- ==== Sys2Proof/Machine/Freeze.lean ====
section
/-!
DEFINITION. Host ports and functions (02_host_interface.md): freeze and release, port reset, function-level reset, power
states, MSI-X unmasking and wake.
-/
namespace Sys2Proof.Machine

/-! ## Packets whose writes end early -/

/-- A packet all of whose writes have been issued is received (R187); a group packet is answered (R231). -/
def State.landed (s : State) (l : Landing) : State :=
  if groupType l.pkt.ptype then s.groupDone l.pkt l.code else (s.markReceived l.ctx l.pkt l.code).afterReceived l.ctx

/-- After units have left a path other than by issue: packets that no longer wait for any are received. -/
def State.reland (s : State) : State :=
  let upd := s.landing.map (fun l => { l with left := min l.left (s.unitsOf (.stall l.ctx)) })
  (upd.filter (fun l => l.left == 0)).foldl State.landed { s with landing := upd.filter (fun l => l.left != 0) }

/-! ## Functions that resume -/

/-- Queue pairs of a function. -/
def State.qpsOf (s : State) (fn : Nat) : List Nat := Tab.keys (s.qps.filter (fun e => e.2.fn == fn))

/-- Shared receive queues of a function. -/
def State.srqsOf (s : State) (fn : Nat) : List Nat := Tab.keys (s.srqs.filter (fun e => e.1 / 65536 == fn))

/-- Porter channels bound to a function. -/
def State.chansOf (s : State) (fn : Nat) : List Nat :=
  Tab.keys (s.porter.filter (fun e => e.2.state != .unbound && e.2.fn == fn))

/-- The functions that exist on a port (R42). -/
def State.fnsOn (s : State) (p : HPort) : List Nat :=
  (List.range ((s.port p).numVfs + 1)).map (fun n => portPf p + n)

/-- What waited for a function to be able to issue requests goes on: its queues, its administrative path, its fill ring and
its channels read their next entries. -/
def State.resumeFn (s : State) (fn : Nat) : State :=
  let s := (s.qpsOf fn).foldl State.advanceQp s
  let s := (s.srqsOf fn).foldl State.fetchSrq s
  let s := (s.chansOf fn).foldl State.fetchDesc s
  (s.fetchAdmin fn).fetchFill fn

/-! ## MSI-X (R57) -/

/-- The pending bit of a vector becomes a message once the vector is unmasked, MSI-X enabled and the function awake (R57,
R77). -/
def State.sendPending (s : State) (fn v : Nat) : State :=
  let f := s.fn fn
  if f.pba.contains v && f.msixOn && !f.masked v && !s.asleep fn && (s.port (fnPort fn)).state != .reset then
    (s.setFn fn (fun f => { f with pba := f.pba.filter (fun x => x != v) })).request (queueUnit fn (.msix fn) [] (.msix fn v))
  else s

/-- Every pending vector of a function is sent once, where it may be. -/
def State.sendAllPending (s : State) (fn : Nat) : State := (s.fn fn).pba.foldl (fun s v => s.sendPending fn v) s

/-- MSIX_UNMASK (R57): the mask bit of a vector is cleared, or MSI-X is enabled. -/
def execMsixUnmask (fn : Nat) (vector : Option Nat) (s : State) : Host.Outcome State Fault Refusal :=
  if !s.fnExists fn then ok s else
  match vector with
  | some v =>
    if fnVectors fn ≤ v then ok s else
    let s := s.setFn fn (fun f =>
      let e := Tab.getD f.vectors v (2 ^ 96)
      { f with vectors := Tab.put f.vectors v (e - place 12 0 1 (bits e 12 0 1)) })
    ok (s.sendPending fn v)
  | none => ok ((s.setFn fn (fun f => { f with msixOn := true })).sendAllPending fn)

/-! ## Wake (R79) -/

/-- WAKE_N is released once no port has a refusal that holds it low. -/
def State.settleWake (s : State) : State := { s with wakeN := s.hostA.wake.isEmpty && s.hostB.wake.isEmpty }

/-- The refusals of a port hold WAKE_N no longer. -/
def State.endWake (s : State) (p : HPort) : State := (s.tunePort p (fun q => { q with wake := [] })).settleWake

/-- POWER_STATE_WRITE (R76, R77, R79). -/
def execPowerStateWrite (fn : Nat) (d3hot pmeEn : Bool) (s : State) : Host.Outcome State Fault Refusal :=
  let p := fnPort fn
  if !s.fnExists fn || (s.port p).state == .reset then ok s else
  let s := s.setFn fn (fun f => { f with d3hot := d3hot, pmeEn := pmeEn })
  if d3hot then ok s else
  let s := if (s.port p).wake.any (fun f => s.asleep f) then s else s.endWake p
  let l := if fnIsPf fn then s.fnsOn p else [fn]
  ok (l.foldl (fun s f => if s.asleep f then s else (s.sendAllPending f).resumeFn f) s)

/-- PM_PME_REPEAT (R79). -/
def execPmPmeRepeat (fn : Nat) (s : State) : Host.Outcome State Fault Refusal :=
  let f := s.fn fn
  if f.pmeStatus && f.d3hot && (s.port (fnPort fn)).state != .reset then ok (s.emit (.pmPme fn)) else ok s

/-- PME_STATUS_CLEAR (R79). -/
def execPmeStatusClear (fn : Nat) (s : State) : Host.Outcome State Fault Refusal :=
  if s.fnExists fn then ok (s.setFn fn (fun f => { f with pmeStatus := false })) else ok s

/-- L1_IDLE (R80): no request waits or is outstanding on the port. -/
def execL1Idle (p : HPort) (s : State) : Host.Outcome State Fault Refusal :=
  let h := s.port p
  if s.param 0x205001 != 0 && h.state == .up && !h.l1 && (s.path p).isEmpty && !s.reads.any (fun r => r.2.port == p) then
    ok ((s.tunePort p (fun q => { q with l1 := true })).emit (.l1 p))
  else ok s

/-! ## Ending a function (R44, R73) -/

/-- Messages of a shared context that read or serve a function that ends (R44): what is not begun is not sent, the rest goes
out poisoned and empty. -/
def endReplies (gone : Nat → Bool) (c : Ctx) : Ctx :=
  let mine (m : TxMsg) : Bool := m.reply && gone m.fn && m.src.isSome
  { c with msgs := (c.msgs.filter (fun m => !mine m || Ctx.begun c m)).map (fun m =>
      if mine m then { m with poisonRest := true, src := none, todo := [] } else m) }

/-- A unit serves a function that ends; a context's spill and fetch go on, which serve the port. -/
def unitEnds (gone : Nat → Bool) (u : HostUnit) : Bool :=
  gone u.fn && (match u.src, u.op with
    | .stall _, .write _ _ _ => u.acc.isSome
    | .stall _, .read _ _ _ => u.acc.isSome
    | _, _ => true)

/-- The units of a function that ends leave the paths. -/
def State.dropUnits (s : State) (gone : Nat → Bool) : State :=
  let keep (u : HostUnit) : Bool := !unitEnds gone u
  { s with pathA := s.pathA.filter keep, pathB := s.pathB.filter keep,
           hostA := { s.hostA with held := s.hostA.held.filter keep },
           hostB := { s.hostB with held := s.hostB.held.filter keep } }

/-- Benched packets that pass a test leave the bench and are received anew. -/
def State.rebench (s : State) (p : Nat × Packet × BenchWait → Bool) : State :=
  (s.bench.filter p).foldl (fun s b => (s.receive b.2.1 true).afterReceived (rxKey b.2.1))
    { s with bench := s.bench.filter (fun b => !p b) }

/-- Trees that lose a member function break, and nodes that it installed are removed (R283). -/
def State.endTrees (s : State) (gone : Nat → Bool) : State :=
  s.trees.foldl (fun s e =>
    if (match e.2.owner with | some f => gone f | none => false) then s.removeTree e.1
    else if (List.range (Node.locals e.2.raw)).any (fun m => gone (Node.fn e.2.raw m)) then s.breakTree e.1
    else s) s

/-- Misses of keys that pass a test are discarded; the packets that waited on them are received anew. -/
def State.endMisses (s : State) (p : Key → Bool) : State :=
  (Tab.keys s.misses).foldl (fun s id =>
    match Tab.look s.misses id with
    | some m =>
      if (match Tab.look s.keys m.key with | some k => p k | none => true) then (s.dropMiss id).unbench (.miss id) true else s
    | none => s) s

/-- The queue pairs of functions that end are gone, with their contexts; messages handed to shared contexts are not withdrawn
(R44). -/
def State.endQps (s : State) (gone : Nat → Bool) : State :=
  let l := s.qps.filter (fun e => gone e.2.fn)
  let s := l.foldl (fun s e =>
    if e.2.st then
      { s with ctxs := Tab.map (Tab.del s.ctxs (groupKey e.1)) (fun _ c => { c with msgs := disown e.1 c.msgs (Ctx.begun c) }) }
    else { s with ctxs := Tab.del s.ctxs (ctKey e.1) }) s
  { s with qps := s.qps.filter (fun e => !gone e.2.fn), parked := s.parked.filter (fun x => !l.any (fun e => e.1 == x.2)) }

/-- Every object of the functions that pass a test ends (R44, R73): queues, keys, domains, channels, messages in progress. The
functions must refuse arrivals already. -/
def State.endFns (s : State) (gone : Nat → Bool) : State :=
  let s := s.endTrees gone
  let s := s.endQps gone
  let s := { s with ctxs := Tab.map s.ctxs (fun _ c =>
    if c.kind = Kind.st then endReplies gone { c with rx := c.rx.filter (fun m => !gone m.hdr.destFn) } else c) }
  let s := s.dropReads (fun r => gone r.fn && (match r.for_ with | .context _ => false | _ => true))
  let s := s.dropUnits gone
  let mine (k : Nat) : Bool := gone (k / 65536)
  let s := { s with cqs := s.cqs.filter (fun e => !mine e.1), eqs := s.eqs.filter (fun e => !mine e.1),
                    srqs := s.srqs.filter (fun e => !mine e.1), porter := s.porter.filter (fun e => !gone e.2.fn),
                    dying := s.dying.filter (fun d => !gone d.1) }
  let s := { s with landing := s.landing.filter (fun l => !(groupType l.pkt.ptype && gone l.pkt.destFn)) }
  let groups := s.groupRx.filter (fun e => gone e.2.destFn)
  let s := groups.foldl (fun s e => s.groupDone e.2 Status.endpointGone)
    { s with groupRx := s.groupRx.filter (fun e => !gone e.2.destFn) }
  let dead := Tab.keys (s.keys.filter (fun e => gone e.2.fn))
  let s := s.endMisses (fun k => gone k.fn)
  let s := { s with keys := s.keys.filter (fun e => !gone e.2.fn), tlb := s.tlb.filter (fun e => !dead.contains e.index) }
  let s := if gone (s.param 0xF01004) then s.setParam 0xF01006 0 else s
  (s.reland).rebench (fun b => gone b.2.1.destFn)

/-- FLR (R44). -/
def execFlr (fn : Nat) (s : State) : Host.Outcome State Fault Refusal :=
  if !s.fnExists fn || (s.port (fnPort fn)).state == .reset then ok s else
  let s := s.setFn fn (fun _ => { Fn.fresh with flr := true })
  ok ((s.endFns (fun f => f == fn)).setFn fn (fun _ => { Fn.fresh with flr := true }))

/-- FLR_COMPLETE (R44, R56). -/
def execFlrComplete (fn : Nat) (s : State) : Host.Outcome State Fault Refusal :=
  if (s.fn fn).flr then ok ((s.setFn fn (fun f => { f with flr := false })).msix fn 0 []) else ok s

/-- NUMVFS_WRITE (R42): functions beyond the new count end. -/
def execNumvfsWrite (p : HPort) (n : Nat) (s : State) : Host.Outcome State Fault Refusal :=
  if 127 < n || (s.port p).state == .reset then ok s else
  let gone (f : Nat) : Bool := fnPort f == p && decide (n < f % 128)
  let s := s.setPort p (fun q => { q with numVfs := n })
  let s := s.endFns gone
  ok { s with fns := s.fns.filter (fun e => !gone e.1) }

/-! ## Contexts of a port that stops -/

/-- An ST context is retired (R596): its next packets go out under a new incarnation, and its receive side is cleared. -/
def Ctx.retired (c : Ctx) (inc : BitVec 32) : Ctx :=
  { c with inc := inc, sndNxt := 0, sndUna := 0, retry := 0, timer := none, sent := [], msgs := [], rx := [], nextNum := 0,
           rcvOld := if c.rcvFresh then c.rcvOld else c.rcvOld ++ [c.rcvInc], rcvFresh := true, rcvNxt := 0, rcvMap := 0,
           unackedRx := 0, ce := 0, confirmed := none, ackTo := none, lastAddr := none, noPath := none,
           res := if c.slot then .resident else .stored }

/-- Every ST context of a port is retired (R596, R180); one that had no place yet is forgotten, and receive entries of shared
receive queues that its messages held complete ENDPOINT_GONE (R595). -/
def State.retirePort (s : State) (p : HPort) : State :=
  let keys := Tab.keys (s.ctxs.filter (fun e => e.2.kind == Kind.st && e.2.port == p))
  keys.foldl (fun s key =>
    match Tab.look s.ctxs key with
    | none => s
    | some c =>
      if c.res = .waiting then { s with ctxs := Tab.del s.ctxs key }
      else
        let s := s.failSrqRecvs c.rx 0 Status.endpointGone
        let (inc, s) := s.drawInc c.inc
        s.modCtx key (fun c => c.retired inc)) s

/-- A unit that FROZEN holds (R71, R486): an entry, a message, a descriptor write-back, the result write of a command. -/
def HostUnit.kept (u : HostUnit) : Bool :=
  u.op.held || (match u.src, u.op with
    | .porter _, .write _ _ _ => u.acc.isNone
    | .cq _, .write _ _ _ => u.acc.isNone
    | _, _ => false)

/-- A completion whose data was not all written when the port froze (R69, R187, R271, R595): its message was not complete, so it
carries ENDPOINT_GONE, a TRECV's FLUSHED, and no bytes. A failure that it carries already stays. -/
def lateImage (img : Nat) : Nat :=
  if bits img 0x14 24 8 ≠ 0 then img else
  img - place 0x10 0 32 (bits img 0x10 0 32) - place 0x1C 0 24 (bits img 0x1C 0 24) +
    place 0x14 24 8 (if bits img 0x1A 0 8 = 0x11 then Status.flushed else Status.endpointGone)

/-- What is kept of a path whose port freezes, in order: `gone` holds the sources of writes that have been withdrawn. -/
def keepHeld : List HostUnit → List Source → List HostUnit
  | [], _ => []
  | u :: l, gone =>
    if u.kept then
      (match u.op with
       | .entry a img => if gone.contains u.src || u.after.any gone.contains then { u with op := .entry a (lateImage img) } else u
       | _ => u) :: keepHeld l gone
    else keepHeld l (match u.op with | .write _ _ _ => u.src :: gone | _ => gone)

/-- What bids on the path of a port that enters FROZEN is held or withdrawn, and its reads are abandoned (R68, R69, R71). -/
def State.clearPath (s : State) (p : HPort) : State :=
  let keep := keepHeld (s.path p) []
  let s := (s.setPath p []).tunePort p (fun q => { q with held := q.held ++ keep })
  s.dropReads (fun r => r.port == p)

/-- A queue pair with no fetch outstanding. -/
def Qp.unfetch (q : Qp) : Qp :=
  { q with sq := { q.sq with fetching := false }, rq := q.rq.map (fun r => { r with fetching := false }) }

/-- A function with no fetch outstanding; the completion reserved for a command being read is given back. -/
def State.unfetchFn (s : State) (fn : Nat) : State :=
  let s := if (s.fn fn).admFetching then s.unreserve fn 1 else s
  s.setFn fn (fun f => { f with admFetching := false, missq := f.missq.map (fun q => { q with fillFetching := false }) })

/-- Fetches of the port's queues are outstanding no longer. -/
def State.clearFetches (s : State) (p : HPort) : State :=
  let mine (f : Nat) : Bool := fnPort f == p
  let qps := Tab.map s.qps (fun _ q => if mine q.fn then q.unfetch else q)
  let srqs := Tab.map s.srqs (fun k q => if mine (k / 65536) then { q with fetching := false } else q)
  let s := { s with qps := qps, srqs := srqs }
  ((Tab.keys s.fns).filter mine).foldl State.unfetchFn s

/-! ## Freeze -/

/-- Freeze causes: the bits of HIF_FREEZE_CAUSE (R52). -/
abbrev Cause.poisonRun : Nat := 0
/-- FATAL_ERROR (R52). -/
abbrev Cause.fatal : Nat := 1
/-- CPL_TIMEOUT (R52). -/
abbrev Cause.cplTimeout : Nat := 2
/-- SURPRISE_DOWN (R52). -/
abbrev Cause.surprise : Nat := 3
/-- SOFTWARE (R52). -/
abbrev Cause.software : Nat := 4
/-- MANAGEMENT (R52). -/
abbrev Cause.management : Nat := 5

/-- The first bell boundary at or after now, as a bell count. -/
def State.nextBell (s : State) : Nat := if s.sub = 0 then s.ticks else s.ticks + 1

/-- A cause is noted, and the hold runs anew (R52, R73, R75). -/
def State.noteCause (s : State) (p : HPort) (bit : Nat) : State :=
  s.setPort p (fun q => { q with cause := q.cause ||| BitVec.ofNat 6 (2 ^ bit), frozenAt := s.nextBell, timeouts := 0, poisons := 0 })

/-- The port enters FROZEN (R68 to R73): its hold is the parameter as it stands now. -/
def State.enterFrozen (s : State) (p : HPort) (bit : Nat) : State :=
  let hold := s.param 0x203003
  ((s.noteCause p bit).setPort p (fun q => { q with state := .frozen, hold := hold })).clearPath p |>.clearFetches p

/-- A page list that was being read is lost: REGISTER_REGION fails (R593). -/
def State.loseLists (s : State) (lost : List Nat) : State := lost.foldl (fun s fn => s.admAbort fn Res.badState) s

/-- What the functions of a port had in progress ends when the port enters FROZEN (R69, R149, R180, R271, R283, R486, R596). -/
def State.containPort (s : State) (p : HPort) : State :=
  let mine (f : Nat) : Bool := fnPort f == p
  let s := { s with landing := s.landing.filter (fun l => match Tab.look s.ctxs l.ctx with
      | some c => c.kind == Kind.edge || c.port != p
      | none => !mine l.pkt.destFn) }
  let s := (Tab.keys (s.qps.filter (fun e => mine e.2.fn))).foldl (fun s q => s.qpError q Status.endpointGone) s
  let s := (Tab.keys (s.srqs.filter (fun e => mine (e.1 / 65536)))).foldl State.clearMatching s
  let s := s.retirePort p
  let settle (c : Ctx) : Ctx :=
    if c.kind == Kind.ct && c.port == p && (c.res == .spilling || c.res == .fetching) && c.slot then { c with res := .resident }
    else c
  let s := { s with ctxs := Tab.map (Tab.sub s.ctxs (fun _ c => !(c.kind == Kind.group && c.port == p))) (fun _ c => settle c) }
  let s := { s with parked := s.parked.filter (fun x => match Tab.look s.qps x.2 with
      | some q => !mine q.fn
      | none => false) }
  let s := s.trees.foldl (fun s e =>
    if (List.range (Node.locals e.2.raw)).any (fun m => mine (Node.fn e.2.raw m)) then s.breakTree e.1 else s) s
  let s := (Tab.keys (s.porter.filter (fun e => e.2.state != .unbound && mine e.2.fn))).foldl State.freezeChan s
  let groups := s.groupRx.filter (fun e => mine e.2.destFn)
  let s := groups.foldl (fun s e => s.groupDone e.2 Status.endpointGone)
    { s with groupRx := s.groupRx.filter (fun e => !mine e.2.destFn) }
  (s.endMisses (fun k => mine k.fn)).rebench (fun b =>
    if groupType b.2.1.ptype then mine (Mcast.fn (Tab.num s.mcast b.2.1.destQueue)) else mine b.2.1.destFn)

/-- A freeze cause meets a port (R73): from UP the port is contained; from THAWING what is not written stays held; in FROZEN the
cause is added and the hold restarts. DETAIL of the fault record is a free value. -/
def State.freezePort (s : State) (p : HPort) (bit : Nat) : State :=
  match (s.port p).state with
  | .reset => s
  | .frozen => s.noteCause p bit
  | .thawing => s.enterFrozen p bit
  | .up =>
    let (d, s) := s.draw (2 ^ 32)
    let lost := (s.reads.filterMap (fun r => match r.2.for_ with
      | .pageList fn => if r.2.port = p then some fn else none
      | _ => none))
    ((s.occur FaultCode.hostFreeze (portNum p) d).enterFrozen p bit).containPort p |>.loseLists lost

/-- The hold of a FROZEN port has passed (R72). -/
def HostPort.holdOver (h : HostPort) (ticks : Nat) : Bool := decide (h.frozenAt + h.hold ≤ ticks)

/-- A FROZEN port begins to thaw (R71, R73): the held units go out in the order in which they were generated, then every entry of
its queue pairs that was announced completes FLUSHED. -/
def State.thawPort (s : State) (p : HPort) : State :=
  let held := (s.port p).held
  let s := (s.setPort p (fun q => { q with state := .thawing, held := [] })).setPath p (s.path p ++ held)
  (Tab.keys (s.qps.filter (fun e => fnPort e.2.fn == p && e.2.state == .error))).foldl State.advanceQp s

/-- Everything a release writes has been issued (R73): no entry, message or write-back bids, no queue pair of the port is in
ERROR, no completion is owed. -/
def State.thawed (s : State) (p : HPort) : Bool :=
  !(s.path p).any HostUnit.kept && !s.qps.any (fun e => fnPort e.2.fn == p && e.2.state == .error) &&
  !s.fns.any (fun e => fnPort e.1 == p && !e.2.owed.isEmpty)

/-- FREEZE (R53). -/
def execFreeze (p : HPort) (s : State) : Host.Outcome State Fault Refusal := ok (s.freezePort p Cause.software)

/-- FATAL_ERROR (R73). -/
def execFatalError (p : HPort) (s : State) : Host.Outcome State Fault Refusal := ok (s.freezePort p Cause.fatal)

/-- SURPRISE_DOWN (R73). -/
def execSurpriseDown (p : HPort) (s : State) : Host.Outcome State Fault Refusal :=
  if (s.port p).linkUp && (s.port p).state != .reset then
    ok ((s.tunePort p (fun q => { q with linkUp := false })).freezePort p Cause.surprise)
  else ok s

/-- A THAW is asked for (R72): ignored before the cause register reads zero, the link is up and the hold has passed. -/
def State.askThaw (s : State) (p : HPort) : State :=
  let h := s.port p
  if h.state == .frozen && h.linkUp && h.cause == 0 && h.holdOver s.ticks then s.thawPort p else s

/-- THAW (R72). -/
def execThaw (p : HPort) (s : State) : Host.Outcome State Fault Refusal := ok (s.askThaw p)

/-- AUTO_THAW (R72). -/
def execAutoThaw (p : HPort) (s : State) : Host.Outcome State Fault Refusal :=
  let h := s.port p
  if s.flag 0x203004 && h.state == .frozen && h.linkUp && h.holdOver s.ticks && s.onTime 3 then ok (s.thawPort p) else ok s

/-- The cause bits of a mask are cleared (R52). -/
def State.clearCause (s : State) (p : HPort) (mask : BitVec 32) : State :=
  s.setPort p (fun q => { q with cause := q.cause &&& ~~~(mask.setWidth 6) })

/-- FREEZE_CAUSE_CLEAR (R52). -/
def execFreezeCauseClear (p : HPort) (mask : BitVec 32) (s : State) : Host.Outcome State Fault Refusal :=
  ok (s.clearCause p mask)

/-- THAW_COMPLETE (R73): the port is UP, each of its functions gets a function event, and what waited goes on. -/
def execThawComplete (p : HPort) (s : State) : Host.Outcome State Fault Refusal :=
  if (s.port p).state == .thawing && s.thawed p then
    let s := s.setPort p (fun q => { q with state := .up })
    ok ((s.fnsOn p).foldl (fun s f => (s.msix f 0 []).resumeFn f) s)
  else ok s

/-! ## Reset of a port -/

/-- A host port as it enters RESET (R52, R73): its link is down, its freeze causes and its counts are cleared, and nothing is held. -/
def HostPort.down (perst : Bool) (q : HostPort) : HostPort :=
  { q with state := .reset, perst := perst, linkUp := false, link := ⟨0, 0, false, []⟩, cause := 0, timeouts := 0, poisons := 0,
           l1 := false, held := [], dirty := none }

/-- A host port goes to RESET (R73, R78): its functions end, and nothing of theirs is written any more. -/
def State.resetPort (s : State) (p : HPort) (perst : Bool) : State :=
  let mine (f : Nat) : Bool := fnPort f == p
  let s := s.setPort p (HostPort.down perst)
  let s := (s.setPath p []).dropReads (fun r => r.port == p)
  let s := s.retirePort p
  let s := { s with landing := s.landing.filter (fun l => match Tab.look s.ctxs l.ctx with
      | some c => c.kind == Kind.edge || c.port != p
      | none => true) }
  let s := s.endFns mine
  let s := ({ s with fns := s.fns.filter (fun e => !mine e.1) } : State).setBoot p (fun _ => Boot.fresh)
  s.setPort p (fun q => { HostPort.down perst q with numVfs := 0 })

/-- PORT_RESET (R73, R78). -/
def execPortReset (p : HPort) (why : ResetWhy) (s : State) : Host.Outcome State Fault Refusal :=
  let perst := why == .perst || why == .d3cold || (s.port p).perst
  ok (s.resetPort p perst)

/-- A port whose PERST is released and whose data link is up leaves RESET (R73). -/
def State.bringUp (s : State) (p : HPort) (link : HostLink) : State :=
  let s := s.tunePort p (fun q => { q with linkUp := true, link := link })
  if (s.port p).state == .reset && !(s.port p).perst then s.setPort p (fun q => { q with state := .up }) else s

/-- PERST_DEASSERT (R73, R79). -/
def execPerstDeassert (p : HPort) (link : Option HostLink) (s : State) : Host.Outcome State Fault Refusal :=
  let s := (s.tunePort p (fun q => { q with perst := false })).endWake p
  match link with
  | some l => ok (s.bringUp p l)
  | none => ok s

/-- DATA_LINK_UP (R39, R73): on a FROZEN port only the link comes back. -/
def execDataLinkUp (p : HPort) (link : HostLink) (s : State) : Host.Outcome State Fault Refusal :=
  if (s.port p).perst then ok s else ok (s.bringUp p link)

end Sys2Proof.Machine
end

