-- ==== Sys2Proof/Machine/AdminQueues.lean ====
section
/-!
DEFINITION. The administrative commands of queues and queue pairs (03_queues.md, 05_transport.md): CREATE_CQ to QUERY_QUEUE.
-/
namespace Sys2Proof.Machine

/-! ## What a command names (R118, R590) -/

/-- The kinds of object that a handle or QPN names. -/
inductive Obj where
  | admSq
  | admCq
  | cq
  | eq
  | srq
  | miss
  | qp (qpn : Nat)
  deriving DecidableEq, Repr

/-- The live object of a function under a handle (R590). -/
def State.objAt (s : State) (fn h : Nat) : Option Obj :=
  if h = 0 then some .admSq
  else if h = 1 then some .admCq
  else if Tab.has s.cqs (qkey fn h) then some .cq
  else if Tab.has s.eqs (qkey fn h) then some .eq
  else if Tab.has s.srqs (qkey fn h) then some .srq
  else match (s.fn fn).missq with
    | some q => if q.handle = h ∨ q.handle + 1 = h then some .miss else none
    | none => none

/-- The live queue pair of a function under a QPN (R590). -/
def State.fnQp (s : State) (fn qpn : Nat) : Option Qp :=
  match Tab.look s.qps qpn with
  | some q => if q.fn = fn then some q else none
  | none => none

/-- The live object that OPCODE_ARG names: a QPN with bit 31 set, a handle without (R118). -/
def State.objNamed (s : State) (fn r : Nat) : Option Obj :=
  match Cmd.qpn r with
  | some qpn => (s.fnQp fn qpn).map (fun _ => Obj.qp qpn)
  | none => s.objAt fn (bits r 4 0 16)

/-- OPCODE_ARG of a command that names an object holds nothing else (R118); bit 30 selects the RQ of a queue pair where the
command has that choice. -/
def Cmd.argOk (r : Nat) (rq : Bool) : Bool :=
  match Cmd.qpn r with
  | some _ => bits r 4 24 6 == 0 && (rq || bits r 4 30 1 == 0)
  | none => bits r 4 16 15 == 0

/-- The result of looking up an object of a kind under a handle (R590): DONE, NOT_OWNED or BAD_STATE. -/
def State.lookup (s : State) (fn h : Nat) (k : Obj) : Nat :=
  match s.objAt fn h with
  | none => Res.notOwned
  | some o => if o = k then Res.done else Res.badState

/-- The same for a handle that may be 0xFFFF, none. -/
def State.lookupOpt (s : State) (fn h : Nat) (k : Obj) : Nat := if h = 0xFFFF then Res.done else s.lookup fn h k

/-- A handle field as an option. -/
def handleOpt (h : Nat) : Option Nat := if h = 0xFFFF then none else some h

/-- The row of an opcode runs a command (R117, R118, R124): a malformed one halts the path; the first result other than DONE
ends it ABORTED with nothing changed; otherwise it is carried out. -/
def State.admRun (s : State) (fn op : Nat) (wellFormed : Nat → Bool) (results : Nat → List Nat) (go : AdminCmd → State) : State :=
  s.admRow fn op (fun c =>
    if !wellFormed c.raw then s.admMalformed fn
    else match (results c.raw).find? (fun r => r != Res.done) with
      | some r => s.admAbort fn r
      | none => go c)

/-! ## Slot 1 of the create commands (R118) -/

/-- A ring base and size (R84, R118). -/
def ringOk (base log2 : Nat) : Bool := base % 4096 == 0 && decide (4 ≤ log2)

/-- The ring fields of slot 1 that a command does not use are zero: vector, moderation, doorbell slots and the second size are
those of other commands. -/
def Cmd.ringOnly (r : Nat) : Bool :=
  ringOk (Cmd.ringBase r) (Cmd.log2 r) && Cmd.log2b r == 0 && Cmd.sqSlot r == 0 && Cmd.rqSlot r == 0 &&
  Cmd.indexed r == 0 && Cmd.ringRsv r == 0 && Cmd.tail r == 0

/-! ## Completion and event queues -/

/-- CQs bound to an EQ of a function (R103). -/
def State.boundCqs (s : State) (fn eq : Nat) : Nat := countP (fun e => e.1 / 65536 == fn && e.2.eq == some eq) s.cqs

/-- An EQ takes no further CQ (R103). -/
def State.eqFull (s : State) (fn eq : Nat) : Nat :=
  match Tab.look s.eqs (qkey fn eq) with
  | some e => if 2 ^ e.log2 ≤ s.boundCqs fn eq then Res.noResource else Res.done
  | none => Res.done

/-- A new object under a fresh handle, which the completion returns (R108, R118); NO_RESOURCE when none is left. -/
def State.admCreate (s : State) (fn : Nat) (put : State → Nat → State) : State :=
  match s.freshHandle fn 1 with
  | (some h, s) => (put s h).admOk fn h
  | (none, s) => s.admAbort fn Res.noResource

/-- A completion queue at its creation (R86, R99, R102). -/
def Cq.fresh (base log2 : Nat) (eq : Option Nat) : Cq :=
  { base := base, log2 := log2, pi := 0, ci := 0, armed := false, armedSol := false, eq := eq, reserved := 0, waiters := [],
    solicited := [] }

/-- CREATE_CQ (R103, R118). -/
def execCreateCq (fn : Nat) (s : State) : Host.Outcome State Fault Refusal :=
  ok (s.admRun fn 0x01
    (fun r => Ent.arg r == 0 && Cmd.ringOnly r && Cmd.ring2Base r == 0 && Cmd.vector r == 0 && Cmd.mod r == 0 &&
      Cmd.bind2 r == 0 && Cmd.eventEq r == 0)
    (fun r => [s.lookupOpt fn (Cmd.bind r) .eq, s.eqFull fn (Cmd.bind r)])
    (fun c => s.admCreate fn (fun s h =>
      { s with cqs := Tab.put s.cqs (qkey fn h) (Cq.fresh (Cmd.ringBase c.raw) (Cmd.log2 c.raw) (handleOpt (Cmd.bind c.raw))) })))

/-- A queue is bound to a CQ (R119). -/
def State.cqBound (s : State) (fn h : Nat) : Bool :=
  s.qps.any (fun e => e.2.fn == fn && (e.2.cq == h || (e.2.rq.isSome && e.2.rqCq == h))) ||
  s.srqs.any (fun e => e.1 / 65536 == fn && e.2.cq == h)

/-- The destruction of an object under a handle (R119, R590). -/
def State.admDestroy (s : State) (fn op : Nat) (k : Obj) (bound : State → Nat → Bool) (del : State → Nat → State) : State :=
  s.admRun fn op (fun r => Cmd.argOk r false)
    (fun r => match s.objNamed fn r with
      | none => [Res.notOwned]
      | some o => [if o = k then Res.done else Res.badState, if bound s (bits r 4 0 16) then Res.badState else Res.done])
    (fun c => (del s (bits c.raw 4 0 16)).admOk fn 0)

/-- DESTROY_CQ (R119). -/
def execDestroyCq (fn : Nat) (s : State) : Host.Outcome State Fault Refusal :=
  ok (s.admDestroy fn 0x02 .cq (fun s h => s.cqBound fn h) (fun s h => { s with cqs := Tab.del s.cqs (qkey fn h) }))

/-- CREATE_EQ (R104, R105, R118): a moderation count below `3030:01` is not permitted. -/
def execCreateEq (fn : Nat) (s : State) : Host.Outcome State Fault Refusal :=
  ok (s.admRun fn 0x03
    (fun r => Ent.arg r == 0 && Cmd.ringOnly r && Cmd.ring2Base r == 0 && decide (1 ≤ Cmd.vector r ∧ Cmd.vector r < fnVectors fn) &&
      Cmd.bind r == 0 && Cmd.bind2 r == 0 && Cmd.eventEq r == 0)
    (fun r => [if Cmd.mod r < s.param 0x303001 then Res.notPermitted else Res.done])
    (fun c => s.admCreate fn (fun s h =>
      let q : EventQ := { base := Cmd.ringBase c.raw, log2 := Cmd.log2 c.raw, pi := 0, ci := 0, vector := Cmd.vector c.raw,
                          mod := Cmd.mod c.raw, lastMsg := none, owed := false, marks := [] }
      { s with eqs := Tab.put s.eqs (qkey fn h) q })))

/-- A CQ, queue pair, SRQ or miss queue names an EQ (R119). -/
def State.eqBound (s : State) (fn h : Nat) : Bool :=
  s.cqs.any (fun e => e.1 / 65536 == fn && e.2.eq == some h) || s.qps.any (fun e => e.2.fn == fn && e.2.eventEq == some h) ||
  s.srqs.any (fun e => e.1 / 65536 == fn && e.2.eventEq == some h) ||
  (match (s.fn fn).missq with | some q => q.eq == h | none => false)

/-- DESTROY_EQ (R119). -/
def execDestroyEq (fn : Nat) (s : State) : Host.Outcome State Fault Refusal :=
  ok (s.admDestroy fn 0x04 .eq (fun s h => s.eqBound fn h) (fun s h => { s with eqs := Tab.del s.eqs (qkey fn h) }))

/-- BIND_ADMIN_CQ (R103, R116, R590): OPCODE_ARG[15:0] names the EQ, 0xFFFF none. -/
def execBindAdminCq (fn : Nat) (s : State) : Host.Outcome State Fault Refusal :=
  ok (s.admRun fn 0x05 (fun r => bits r 4 16 16 == 0)
    (fun r =>
      let same := (match Tab.look s.cqs (admCqKey fn) with | some q => q.eq == some (bits r 4 0 16) | none => false)
      [s.lookupOpt fn (bits r 4 0 16) .eq, if same then Res.done else s.eqFull fn (bits r 4 0 16)])
    (fun c => ({ s with cqs := Tab.mod s.cqs (admCqKey fn) (fun q => { q with eq := handleOpt (bits c.raw 4 0 16) }) }
      : State).admOk fn 0))

/-! ## Shared receive queues -/

/-- CREATE_SRQ (R88, R118, R120, R132, R591): OPCODE_ARG[15:0] names its protection domain. -/
def execCreateSrq (fn : Nat) (s : State) : Host.Outcome State Fault Refusal :=
  ok (s.admRun fn 0x09
    (fun r => bits r 4 16 16 == 0 && Cmd.ringOnly r && Cmd.ring2Base r % 8 == 0 && Cmd.vector r == 0 && Cmd.mod r == 0)
    (fun r => [s.lookup fn (Cmd.bind2 r) .cq, s.lookupOpt fn (Cmd.eventEq r) .eq,
      if (s.fn fn).pds.contains (bits r 4 0 16) then Res.done else Res.notOwned])
    (fun c => s.admCreate fn (fun s h =>
      let q : Srq := { base := Cmd.ringBase c.raw, log2 := Cmd.log2 c.raw, pi := 0, ci := 0, fetching := false, short := false,
                       shadow := Cmd.ring2Base c.raw, cq := Cmd.bind2 c.raw, pd := bits c.raw 4 0 16,
                       lowLimit := Cmd.bind c.raw, eventEq := handleOpt (Cmd.eventEq c.raw), lowArmed := false, pool := [],
                       inUse := 0, postHeld := none, postNew := false, posted := [], matched := [], stored := [], streams := [], tbufs := [],
                       postNum := 0, eligNum := 0, tbufNum := 0 }
      { s with srqs := Tab.put s.srqs (qkey fn h) q })))

/-- A queue pair receives from an SRQ (R119). -/
def State.srqBound (s : State) (fn h : Nat) : Bool := s.qps.any (fun e => e.2.fn == fn && e.2.srq == some h)

/-- DESTROY_SRQ (R119, R271): its matching state is cleared first. -/
def execDestroySrq (fn : Nat) (s : State) : Host.Outcome State Fault Refusal :=
  ok (s.admDestroy fn 0x0A .srq (fun s h => s.srqBound fn h) (fun s h =>
    let key := qkey fn h
    let s := (s.clearMatching key).dropReads (fun r => match r.for_ with
      | .srq k => k == key
      | .copy k _ _ => k == key
      | _ => false)
    { s with srqs := Tab.del s.srqs key }))

/-! ## Queue pairs -/

/-- CREATE_QP without an RQ of its own (R118). -/
def Cmd.usesSrq (r : Nat) : Bool := Cmd.ring2Base r == 0

/-- Doorbell slots that a CREATE_QP names (R107). -/
def Cmd.slots (r : Nat) : List Nat :=
  if Cmd.usesSrq r ∨ Cmd.indexed r = 1 then [Cmd.sqSlot r] else [Cmd.sqSlot r, Cmd.rqSlot r]

/-- The transport block in the slot at byte `b` is well formed (R201). -/
def Tb.ok (r b : Nat) (st : Bool) : Bool :=
  decide (Tb.tc r b ≤ 1) && Tb.rsv0 r b == 0 && Tb.rsv4 r b == 0 && Tb.rsv8 r b == 0 && Tb.rsv14 r b == 0 && Tb.rsv18 r b == 0 &&
  (!st || (Tb.peerDev r b == 0 && Tb.peerFn r b == 0 && Tb.peerQpn r b == 0))

/-- CREATE_QP is well formed (R47, R84, R107, R118, R201). -/
def Cmd.createQpOk (fn r : Nat) : Bool :=
  Ent.arg r == 0 && ringOk (Cmd.ringBase r) (Cmd.log2 r) && Cmd.vector r == 0 && Cmd.mod r == 0 && Cmd.ringRsv r == 0 &&
  Cmd.tail r == 0 && decide (Tb.transport r 0x80 ≤ 1) && Tb.target r 0x80 == 0 && Tb.ok r 0x80 (Tb.transport r 0x80 == 1) &&
  (if Cmd.usesSrq r then Cmd.log2b r == 0 && Cmd.rqSlot r == (if Cmd.indexed r = 1 then Cmd.sqSlot r else 0)
   else ringOk (Cmd.ring2Base r) (Cmd.log2b r) && (Cmd.indexed r == 1) == (Cmd.rqSlot r == Cmd.sqSlot r)) &&
  (Cmd.slots r).all (fun n => decide (n < fnSlots fn))

/-- An indexed slot of a function: only queue pairs that name it as an indexed slot use it (R107). -/
def State.indexedSlot (s : State) (fn n : Nat) : Bool :=
  s.qps.any (fun e => e.2.fn == fn && e.2.indexed && e.2.sq.slot == n)

/-- The doorbell slots of a CREATE_QP are free, or its indexed slot is in use as one (R107, R108). -/
def State.slotsFree (s : State) (fn r : Nat) : Nat :=
  if (Cmd.slots r).all (fun n => !s.slotInUse fn n || (Cmd.indexed r == 1 && s.indexedSlot fn n)) then Res.done else Res.badState

/-- A context of a queue pair may be allocated (R177); an ST queue pair needs none of its own. -/
def State.qpRoom (s : State) (fn qpn : Nat) (st : Bool) : Bool := st || s.roomFor Kind.ct (qpn % 16) (fnPort fn)

/-- A QPN of a function's port that is free and for which a context may be allocated (R172, R177): the part's choice, a free
value (notes/assumptions/3.md). -/
def State.freshQpn (s : State) (fn : Nat) (st : Bool) : Option Nat × State :=
  s.choose (fun q => Tab.has s.qps q || !s.qpRoom fn q st) (portNum (fnPort fn) * 2 ^ 23) (s.ctSlots (fnPort fn))

/-- A ring of a queue pair at its creation (R86). -/
def Sq.fresh (base log2 slot : Nat) : Sq :=
  { base := base, log2 := log2, slot := slot, pi := 0, ci := 0, next := 0, fetching := false, short := false, ents := [],
    recalled := false, waiting := false, bells := [] }

/-- A receive ring of a queue pair at its creation (R86). -/
def Rq.fresh (base log2 slot : Nat) : Rq :=
  { base := base, log2 := log2, slot := slot, pi := 0, ci := 0, next := 0, fetching := false, short := false, pool := [],
    bound := [], recalled := false, bells := [] }

/-- The queue pair that a CREATE_QP makes (R83, R118, R201, R202). -/
def Qp.fresh (fn r : Nat) : Qp :=
  { fn := fn, st := Tb.transport r 0x80 == 1, tc := Tb.tc r 0x80, state := .idle, pd := Tb.pd r 0x80,
    peerDev := Tb.peerDev r 0x80, peerFn := Tb.peerFn r 0x80, peerQpn := Tb.peerQpn r 0x80,
    retryLimit := Tb.retryLimit r 0x80, unlimited := Tb.unlimited r 0x80 == 1, cq := Cmd.bind r,
    rqCq := if Cmd.usesSrq r then 0 else Cmd.bind2 r, srq := if Cmd.usesSrq r then some (Cmd.bind2 r) else none,
    eventEq := handleOpt (Cmd.eventEq r), indexed := Cmd.indexed r == 1,
    sq := Sq.fresh (Cmd.ringBase r) (Cmd.log2 r) (Cmd.sqSlot r),
    rq := if Cmd.usesSrq r then none else some (Rq.fresh (Cmd.ring2Base r) (Cmd.log2b r) (Cmd.rqSlot r)),
    cause := 0, groupNum := 0 }

/-- CREATE_QP (R83, R107, R108, R118, R120, R172, R177, R201, R202). -/
def execCreateQp (fn : Nat) (s : State) : Host.Outcome State Fault Refusal :=
  ok (s.admRun fn 0x06 (Cmd.createQpOk fn)
    (fun r => [s.lookup fn (Cmd.bind r) .cq, s.lookup fn (Cmd.bind2 r) (if Cmd.usesSrq r then .srq else .cq),
      s.lookupOpt fn (Cmd.eventEq r) .eq, if (s.fn fn).pds.contains (Tb.pd r 0x80) then Res.done else Res.notOwned,
      s.slotsFree fn r])
    (fun c =>
      let q := Qp.fresh fn c.raw
      match s.freshQpn fn q.st with
      | (none, s) => s.admAbort fn Res.noResource
      | (some qpn, s) =>
        let s := { s with qps := Tab.put s.qps qpn q }
        let s := if q.st then s else s.makeCtx (ctKey qpn) (s.freshCtx Kind.ct (fnPort fn) q.peerDev q.tc)
        s.admDone fn Status.ok 0 qpn []))

/-- A CT context as MODIFY_QP loads it (R193, R202). -/
def Ctx.loaded (c : Ctx) (fresh : Ctx) (snd rcv : BitVec 32) : Ctx :=
  { fresh with res := c.res, slot := c.slot, sndNxt := snd, sndUna := snd, rcvNxt := rcv }

/-- The context of a queue pair that is CT is loaded anew, where it is; one that is stored is fetched (R180). -/
def State.loadCt (s : State) (qpn : Nat) (q : Qp) (snd rcv : BitVec 32) : State :=
  if q.st then s else
  let fresh := s.freshCtx Kind.ct (fnPort q.fn) q.peerDev q.tc
  (s.modCtx (ctKey qpn) (fun c => c.loaded fresh snd rcv)).wakeCtx (ctKey qpn)

/-- MODIFY_QP with TARGET 0 names the current values (R202). -/
def Qp.sameAs (q : Qp) (r : Nat) : Bool :=
  q.pd == Tb.pd r 0x40 && q.tc == Tb.tc r 0x40 && q.peerDev == Tb.peerDev r 0x40 && q.peerFn == Tb.peerFn r 0x40 &&
  q.peerQpn == Tb.peerQpn r 0x40

/-- The limits of a MODIFY_QP (R191, R202). -/
def Qp.limits (q : Qp) (r : Nat) : Qp := { q with unlimited := Tb.unlimited r 0x40 == 1, retryLimit := Tb.retryLimit r 0x40 }

/-- MODIFY_QP (R201, R202, R595). -/
def execModifyQp (fn : Nat) (s : State) : Host.Outcome State Fault Refusal :=
  ok (s.admRun fn 0x07
    (fun r => bits r 4 24 8 == 0 && Tb.ok r 0x40 (match s.fnQp fn (bits r 4 0 24) with | some q => q.st | none => false))
    (fun r => match s.fnQp fn (bits r 4 0 24) with
      | none => [Res.notOwned]
      | some q => [match Tb.target r 0x40, q.state with
        | 0, .ready => if q.sameAs r then Res.done else Res.badState
        | 1, .idle => Res.done
        | 2, .ready => Res.done
        | 3, .flushed => Res.done
        | _, _ => Res.badState])
    (fun c =>
      let r := c.raw
      let qpn := bits r 4 0 24
      let s := match Tb.target r 0x40 with
        | 0 => s.modQp qpn (fun q => q.limits r)
        | 1 =>
          let s := s.modQp qpn (fun q => { q.limits r with state := .ready, tc := Tb.tc r 0x40, peerDev := Tb.peerDev r 0x40,
                                                           peerFn := Tb.peerFn r 0x40, peerQpn := Tb.peerQpn r 0x40 })
          match Tab.look s.qps qpn with
          | some q => s.loadCt qpn q (BitVec.ofNat 32 (Tb.sendPsn r 0x40)) (BitVec.ofNat 32 (Tb.recvPsn r 0x40))
          | none => s
        | 2 => s.qpError qpn Status.cancelled
        | _ =>
          let s := s.modQp qpn (fun q => { q with state := .idle, cause := 0 })
          match Tab.look s.qps qpn with
          | some q => s.loadCt qpn q 0 0
          | none => s
      (s.admOk fn 0).advanceQp qpn))

/-- The result of naming a queue pair in OPCODE_ARG (R590). -/
def State.namedQp (s : State) (fn r : Nat) : Nat :=
  match s.objNamed fn r with
  | none => Res.notOwned
  | some (.qp _) => Res.done
  | some _ => Res.badState

/-- DESTROY_QP (R119, R180): a queue pair in READY goes to ERROR first; it is destroyed once its entries have completed. -/
def execDestroyQp (fn : Nat) (s : State) : Host.Outcome State Fault Refusal :=
  ok (s.admRun fn 0x08 (fun r => Cmd.argOk r false) (fun r => [s.namedQp fn r]) (fun c =>
    let qpn := bits c.raw 4 0 24
    let s := s.admWait fn 0
    match Tab.look s.qps qpn with
    | some q => if q.state = .ready then s.qpError qpn Status.flushed else s.advanceQp qpn
    | none => s))

/-! ## RECALL and QUEUE_ABORT -/

/-- Index of the first entry of a send queue that is not started (R113). -/
def Sq.recallIndex (q : Sq) : BitVec 16 :=
  match q.firstWaiting with
  | some w => w.idx
  | none => q.next

/-- A send queue from which every entry not started has been discarded (R113). -/
def Sq.recall (q : Sq) : Sq :=
  { q with ents := q.ents.takeWhile (fun w => !(w.stage == .fetched || w.stage == .waitTime)), next := q.recallIndex,
           pi := q.recallIndex, fetching := false, short := false, recalled := true, waiting := false }

/-- RECALL of the SQ of a queue pair in READY or IDLE (R113): the reservation of an entry not started is given back, and the
queue waits for none. -/
def State.recallSq (s : State) (qpn : Nat) (q : Qp) : State :=
  let held := q.sq.ents.any (fun w => (w.stage == .fetched || w.stage == .waitTime) && w.reserved)
  let s := s.modSq qpn Sq.recall
  let s := s.dropReads (fun r => r.for_ == .sq qpn)
  let s := { s with cqs := Tab.mod s.cqs (qkey q.fn q.cq) (fun c => { c with waiters := c.waiters.filter (fun w => w != Waiter.sq qpn) }),
                    parked := s.parked.filter (fun x => x.2 != qpn) }
  let s := if held then s.unreserve q.fn q.cq else s
  s.admDone q.fn Status.ok q.sq.recallIndex.toNat 0 []

/-- Index of the first receive entry that no message has taken (R113). -/
def Rq.recallIndex (r : Rq) : BitVec 16 :=
  match r.pool with
  | (idx, _) :: _ => idx
  | [] => r.next

/-- A receive queue from which every entry not taken has been discarded (R113). -/
def Rq.recall (r : Rq) : Rq :=
  { r with pool := [], next := r.recallIndex, pi := r.recallIndex, fetching := false, short := false, recalled := true }

/-- RECALL of the RQ of a queue pair in READY or IDLE (R113). -/
def State.recallRq (s : State) (qpn : Nat) (q : Qp) (r : Rq) : State :=
  ((s.modRq qpn Rq.recall).dropReads (fun x => x.for_ == .rq qpn)).admDone q.fn Status.ok r.recallIndex.toNat 0 []

/-- RECALL (R113, R590). -/
def execRecall (fn : Nat) (s : State) : Host.Outcome State Fault Refusal :=
  ok (s.admRun fn 0x0B (fun r => Cmd.argOk r true)
    (fun r => [s.namedQp fn r, match s.fnQp fn (bits r 4 0 24) with
      | some q => if bits r 4 30 1 = 1 ∧ q.rq = none then Res.badState else Res.done
      | none => Res.done])
    (fun c =>
      let qpn := bits c.raw 4 0 24
      match Tab.look s.qps qpn with
      | none => s
      | some q =>
        if q.state = .error ∨ q.state = .flushed then (s.admWait fn 0).queueCommand qpn
        else if bits c.raw 4 30 1 = 0 then s.recallSq qpn q
        else match q.rq with
          | some r => s.recallRq qpn q r
          | none => s))

/-- QUEUE_ABORT (R122, R239): every announced entry that is not started completes ABORTED. -/
def execQueueAbort (fn : Nat) (s : State) : Host.Outcome State Fault Refusal :=
  ok (s.admRun fn 0x0C (fun r => Cmd.argOk r false) (fun r => [s.namedQp fn r]) (fun c =>
    let qpn := bits c.raw 4 0 24
    match Tab.look s.qps qpn with
    | some q => (s.admWait fn q.sq.pi).advanceQp qpn
    | none => s))

/-! ## QUERY_QUEUE (R121) -/

/-- The fields of a record that every queue has. -/
def stateRecord (kind log2 pi ci out : Nat) : Nat :=
  place 0x00 0 4 kind + place 0x00 4 4 log2 + place 0x04 0 16 pi + place 0x04 16 16 ci + place 0x14 0 32 out

/-- The fields of a record that the queues of a queue pair share. -/
def State.qpRecord (s : State) (qpn : Nat) (q : Qp) (recalled : Bool) (cq : Nat) : Nat :=
  place 0x00 8 2 q.state.code + place 0x00 12 1 recalled.toNat + place 0x08 0 24 qpn + place 0x0C 0 16 cq +
  place 0x0C 16 16 (q.eventEq.getD 0xFFFF) + place 0x10 0 16 q.pd + place 0x10 16 2 q.st.toNat + place 0x10 18 1 q.tc +
  (if q.st then 0 else
    place 0x24 0 18 q.peerDev + place 0x24 18 8 q.peerFn + place 0x28 0 24 q.peerQpn +
    (match Tab.look s.ctxs (ctKey qpn) with
     | some c => place 0x20 0 32 c.rcvNxt.toNat
     | none => 0))

/-- The record of an SQ. -/
def State.sqRecord (s : State) (qpn : Nat) (q : Qp) : Nat :=
  stateRecord 1 q.sq.log2 q.sq.pi.toNat q.sq.ci.toNat
    (countP (fun w => w.stage == .started || (w.stage == .done && w.reserved)) q.sq.ents) +
  s.qpRecord qpn q q.sq.recalled q.cq +
  (if q.st then 0 else match Tab.look s.ctxs (ctKey qpn) with
    | some c => place 0x18 0 32 c.sndNxt.toNat + place 0x1C 0 32 c.sndUna.toNat
    | none => 0)

/-- The record of an RQ. -/
def State.rqRecord (s : State) (qpn : Nat) (q : Qp) (r : Rq) : Nat :=
  stateRecord 2 r.log2 r.pi.toNat r.ci.toNat r.bound.length + s.qpRecord qpn q r.recalled q.rqCq

/-- The record of an SRQ. -/
def Srq.queryRecord (q : Srq) : Nat :=
  stateRecord 3 q.log2 q.pi.toNat q.ci.toNat (q.pool.length + q.inUse) + place 0x0C 0 16 q.lowLimit +
  place 0x0C 16 16 (q.eventEq.getD 0xFFFF) + place 0x10 0 16 q.pd + place 0x2C 0 16 q.cq

/-- The record of a CQ; KIND 7 is the administrative one. -/
def Cq.queryRecord (q : Cq) (kind : Nat) : Nat :=
  stateRecord kind q.log2 q.pi.toNat q.ci.toNat q.reserved + place 0x00 10 1 q.armed.toNat + place 0x00 11 1 q.armedSol.toNat +
  place 0x0C 0 16 (q.eq.getD 0xFFFF)

/-- The record of the object that a QUERY_QUEUE names; none where it names none (NOT_OWNED), or the result that refuses it. -/
def State.queueRecord (s : State) (fn r : Nat) : Nat ⊕ Nat :=
  let h := bits r 4 0 16
  match s.objNamed fn r with
  | none => .inl Res.notOwned
  | some (.qp qpn) =>
    match Tab.look s.qps qpn with
    | none => .inl Res.notOwned
    | some q =>
      if bits r 4 30 1 = 0 then .inr (s.sqRecord qpn q)
      else match q.rq with
        | some rq => .inr (s.rqRecord qpn q rq)
        | none => .inl Res.badState
  | some .admSq =>
    let f := s.fn fn
    .inr (stateRecord 6 f.admSqLog2 f.admPi.toNat f.admCi.toNat 0 + place 0x00 13 1 f.halted.toNat)
  | some .admCq => .inr (Cq.queryRecord (Tab.getD s.cqs (admCqKey fn) (Cq.fresh 0 0 none)) 7)
  | some .cq => .inr (Cq.queryRecord (Tab.getD s.cqs (qkey fn h) (Cq.fresh 0 0 none)) 4)
  | some .eq =>
    match Tab.look s.eqs (qkey fn h) with
    | some e => .inr (stateRecord 5 e.log2 e.pi.toNat e.ci.toNat e.marks.length)
    | none => .inl Res.notOwned
  | some .srq =>
    match Tab.look s.srqs (qkey fn h) with
    | some q => .inr q.queryRecord
    | none => .inl Res.notOwned
  | some .miss => .inl Res.badState

/-- A result write of a command, in the order of the administrative CQ (R121, R170, R503). -/
def State.admWrite (s : State) (fn addr : Nat) (data : Bytes) : State :=
  s.hostWrite fn 1 0 (.cq (admCqKey fn)) addr data false none

/-- QUERY_QUEUE (R121). -/
def execQueryQueue (fn : Nat) (s : State) : Host.Outcome State Fault Refusal :=
  ok (s.admRun fn 0x0D (fun r => Cmd.argOk r true && bits r 0x40 0 6 == 0 && bits r 0x48 0 448 == 0) (fun _ => []) (fun c =>
    match s.queueRecord fn c.raw with
    | .inl res => s.admAbort fn res
    | .inr img => (s.admWrite fn (bits c.raw 0x40 0 64) (leBytes 64 img)).admOk fn 0))

end Sys2Proof.Machine
end

