-- ==== Sys2Proof/Machine/Region.lean ====
section
/-!
DEFINITION. The administrative commands of protection and translation (04_protection_translation.md): CREATE_PD to
DESTROY_MISS_QUEUE.
-/
namespace Sys2Proof.Machine

/-! ## Protection domains -/

/-- Domains that the part holds (R131, `4000:02`). -/
def pdTotal : Nat := 65536

/-- Domains in use across the device (R131). -/
def State.pdCount (s : State) : Nat := s.fns.foldl (fun n e => n + e.2.pds.length) 0

/-- CREATE_PD (R131): the handle is the part's choice, a free value (notes/assumptions/3.md). -/
def execCreatePd (fn : Nat) (s : State) : Host.Outcome State Fault Refusal :=
  ok (s.admRun fn 0x10 (fun r => Ent.arg r == 0) (fun _ => [if s.pdCount < pdTotal then Res.done else Res.noResource])
    (fun _ => match s.choose (fun k => (s.fn fn).pds.contains k) 0 pdTotal with
      | (some k, s) => (s.setFn fn (fun f => { f with pds := f.pds ++ [k] })).admOk fn k
      | (none, s) => s.admAbort fn Res.noResource))

/-- A domain of a function exists (R590). -/
def State.lookupPd (s : State) (fn pd : Nat) : Nat := if (s.fn fn).pds.contains pd then Res.done else Res.notOwned

/-- A queue pair, SRQ or key belongs to a domain (R133). -/
def State.pdInUse (s : State) (fn pd : Nat) : Bool :=
  s.qps.any (fun e => e.2.fn == fn && e.2.pd == pd) || s.srqs.any (fun e => e.1 / 65536 == fn && e.2.pd == pd) ||
  s.keys.any (fun e => e.2.fn == fn && e.2.pd == pd)

/-- DESTROY_PD (R133). -/
def execDestroyPd (fn : Nat) (s : State) : Host.Outcome State Fault Refusal :=
  ok (s.admRun fn 0x11 (fun r => bits r 4 16 16 == 0)
    (fun r => [s.lookupPd fn (bits r 4 0 16), if s.pdInUse fn (bits r 4 0 16) then Res.badState else Res.done])
    (fun c => (s.setFn fn (fun f => { f with pds := f.pds.filter (fun k => k != bits c.raw 4 0 16) })).admOk fn 0))

/-! ## Keys -/

/-- Entries of the key table (R134, `4000:01`). -/
def keyTotal : Nat := 1048576

/-- The key table has a free entry. -/
def State.keyRoom (s : State) : Nat := if s.keys.length < keyTotal then Res.done else Res.noResource

/-- Slot 1 of a command that creates a key is well formed (R137, R170). -/
def Prot.keyOk (r : Nat) : Bool :=
  Ent.arg r == 0 && Prot.rsv r == 0 && Prot.tail r == 0 && Prot.log2 r == 0 && Prot.log2b r == 0 && Prot.eq r == 0 &&
  Prot.result r % 4 == 0 && (!bitAt (Prot.rights r) 4 || (bitAt (Prot.rights r) 2 && bitAt (Prot.rights r) 5))

/-- Variants issued for an INDEX, as they stand before the next one: none once all 256 have been used (R135). -/
def State.usedVariants (s : State) (idx : Nat) : List Nat :=
  let l := Tab.getD s.variants idx []
  if 256 ≤ l.length then [] else l

/-- A key is made (R135, R136): INDEX and VARIANT are the part's choice, free values (notes/assumptions/3.md). -/
def State.newKey (s : State) (k : Key) : Option (Nat × State) :=
  match s.choose (fun i => Tab.has s.keys i) 0 keyTotal with
  | (none, _) => none
  | (some idx, s) =>
    match s.choose (fun v => (s.usedVariants idx).contains v) 0 256 with
    | (none, _) => none
    | (some v, s) =>
      some (idx, { s with keys := Tab.put s.keys idx { k with variant := v },
                          variants := Tab.put s.variants idx (s.usedVariants idx ++ [v]) })

/-- The attributes of the key that a command creates (R136, R170). -/
def State.keyFrom (s : State) (fn r : Nat) (ask : Bool) : Key :=
  { variant := 0, ask := ask, fn := fn, pd := Prot.pd r, va := Prot.va r, len := Prot.len r, tenant := s.tenantOf fn,
    rights := Prot.rights r, handler := ask && Prot.handler r == 1, table := if ask then Prot.table r else 0,
    winLo := if ask then Prot.auxBase r else 0, winHi := if ask then Prot.limit r else 0 }

/-- A key is made and written to RESULT before the completion (R170). `load` pins what the key has. -/
def State.admKey (s : State) (fn r : Nat) (ask : Bool) (load : State → Nat → State) : State :=
  match s.newKey (s.keyFrom fn r ask) with
  | none => s.admAbort fn Res.noResource
  | some (idx, s) =>
    let v := match Tab.look s.keys idx with
      | some k => k.value idx
      | none => 0
    ((load s idx).admWrite fn (Prot.result r) (leBytes 4 v)).admOk fn 0

/-- Pages of a region (R155). -/
def regionPages (va len : Nat) : Nat := if len = 0 then 0 else (va + len - 1) / 4096 - va / 4096 + 1

/-- REGISTER_REGION (R154, R155, R593): the page list is read first; a region of no bytes has none. -/
def execRegisterRegion (fn : Nat) (s : State) : Host.Outcome State Fault Refusal :=
  ok (s.admRun fn 0x12
    (fun r => Prot.keyOk r && Prot.auxBase r == 0 && Prot.limit r == 0 && Prot.handler r == 0 &&
      (Prot.len r == 0 || Prot.table r % 8 == 0))
    (fun r => [s.lookupPd fn (Prot.pd r), s.keyRoom])
    (fun c =>
      if Prot.len c.raw = 0 then s.admKey fn c.raw false (fun s _ => s)
      else (s.admWait fn 0).hostRead fn 0 0 .clerk (Prot.table c.raw) (regionPages (Prot.va c.raw) (Prot.len c.raw) * 8)
        (.pageList fn) none))

/-- The entries of a page list (R155). -/
def listEntries (d : Bytes) : Nat → List Nat
  | 0 => []
  | n + 1 => leNat (d.take 8) % 2 ^ 64 :: listEntries (d.drop 8) n

/-- The entries of a list with their pages. -/
def pagesOf (first : Nat) : List Nat → List (Nat × Nat)
  | [] => []
  | e :: l => (first, e) :: pagesOf (first + 1) l

/-- The groups that a page list pins, one translation each (R145, R154). -/
def pinnedGroups : List (Nat × Nat) → List (Nat × Nat × Nat) → List (Nat × Nat × Nat)
  | [], l => l
  | (p, e) :: t, l => let g := Pte.group e p; pinnedGroups t (if l.contains g then l else l ++ [g])

/-- Translations pinned (R154). -/
def State.pinned (s : State) : Nat := countP (fun e => e.pinned) s.tlb

/-- The page list of a REGISTER_REGION has been read (R154, R155, R593): every entry must pass, and the pinned translations fit
`4020:03`. -/
def State.takePageList (s : State) (fn : Nat) (data : Bytes) : State :=
  match (s.fn fn).admCur with
  | none => s
  | some c =>
    if !(c.waiting && Ent.opcode c.raw == 0x12) then s else
    let r := c.raw
    let l := pagesOf (Prot.va r / 4096) (listEntries data (regionPages (Prot.va r) (Prot.len r)))
    if l.any (fun x => !Pte.leafOk x.2 || !s.leafClear x.2 x.1) then s.admAbort fn Res.badState
    else if s.keyRoom ≠ Res.done ∨ s.openParam 0x402003 < s.pinned + (pinnedGroups l []).length then
      s.admAbort fn Res.noResource
    else s.admKey fn r false (fun s idx => l.foldl (fun s x => s.loadTlb (s.leafEntry idx x.1 x.2 true true)) s)

/-- The read of a page list failed (R593). -/
def State.failPageList (s : State) (fn : Nat) : State :=
  match (s.fn fn).admCur with
  | some c => if c.waiting && Ent.opcode c.raw == 0x12 then s.admAbort fn Res.badState else s
  | none => s

/-- CREATE_ASK (R136, R159, R170). -/
def execCreateAsk (fn : Nat) (s : State) : Host.Outcome State Fault Refusal :=
  ok (s.admRun fn 0x13 (fun r => Prot.keyOk r && Prot.table r % 4096 == 0)
    (fun r => [s.lookupPd fn (Prot.pd r), if Prot.handler r = 1 ∧ (s.fn fn).missq = none then Res.badState else Res.done,
      s.keyRoom])
    (fun c => s.admKey fn c.raw true (fun s _ => s)))

/-- A live key of the function (R590). -/
def State.lookupKey (s : State) (fn v : Nat) : Nat :=
  match s.keyOf v with
  | some k => if k.fn = fn then Res.done else Res.notOwned
  | none => Res.notOwned

/-- An access that passed step 1 of R140 under a key has not finished (R143): a unit or a read, an unanswered miss, a response
that reads the region, a flag that waits for its data. -/
def State.keyBusy (s : State) (v : Nat) : Bool :=
  s.accessing (fun a => a.1 == v) || s.misses.any (fun e => e.2.key == keyIndex v) ||
  s.ctxs.any (fun e =>
    e.2.msgs.any (fun m => m.reply && !m.todo.isEmpty && !m.poisonRest && (match m.src with | some (k, _) => k == v | none => false)) ||
    e.2.rx.any (fun m => match m.flag with | some (k, _, _) => k == v && m.failed.isNone | none => false))

/-- A destroyed key leaves the table, with its translations (R143, R154). -/
def State.removeKey (s : State) (fn v : Nat) : State :=
  { s with keys := Tab.del s.keys (keyIndex v), tlb := s.tlb.filter (fun e => e.index != keyIndex v),
           dying := s.dying.filter (fun d => !(d.1 == fn && d.2 == v)) }

/-- A DESTROY_KEY that waits completes once every access under the key has finished (R143). -/
def State.settleKey (s : State) (fn : Nat) : State :=
  match (s.fn fn).admCur with
  | none => s
  | some c =>
    if c.waiting && Ent.opcode c.raw == 0x14 && !s.keyBusy (Ent.arg c.raw) then (s.removeKey fn (Ent.arg c.raw)).admOk fn 0
    else s

/-- DESTROY_KEY (R143): from now on the key fails step 1. -/
def execDestroyKey (fn : Nat) (s : State) : Host.Outcome State Fault Refusal :=
  ok (s.admRun fn 0x14 (fun _ => true) (fun r => [s.lookupKey fn (Ent.arg r)])
    (fun c => ({ s with dying := s.dying ++ [(fn, Ent.arg c.raw)] } : State).admWait fn 0))

/-- DESTROY_KEY_COMPLETE (R143). -/
def execDestroyKeyComplete (fn : Nat) (s : State) : Host.Outcome State Fault Refusal := ok (s.settleKey fn)

/-! ## INVALIDATE -/

/-- Pages `first` to `first + n - 1` overlap the range of an INVALIDATE; length 0 is the whole space (R166). -/
def invalidates (r first n : Nat) : Bool :=
  Prot.len r == 0 || decide (first * 4096 < Prot.va r + Prot.len r ∧ Prot.va r < (first + n) * 4096)

/-- Translations and misses of a range are discarded; the accesses that waited restart with a new lookup (R166). -/
def State.invalidateRange (s : State) (v r : Nat) : State :=
  let s := { s with tlb := s.tlb.filter (fun e => !(e.index == keyIndex v && invalidates r e.page e.pages)) }
  let ids := Tab.keys (s.misses.filter (fun e => e.2.key == keyIndex v && invalidates r e.2.page 1))
  let gone := ids.filterMap (fun id => (Tab.look s.misses id).map (fun m => (id, m)))
  let s := ids.foldl State.dropMiss s
  gone.foldl (fun s e => (e.2.waiters.foldl State.resume s).unbenchMiss e.1 e.2.key) s

/-- INVALIDATE (R166, R167). -/
def execInvalidate (fn : Nat) (s : State) : Host.Outcome State Fault Refusal :=
  ok (s.admRun fn 0x15
    (fun r => Prot.table r == 0 && Prot.auxBase r == 0 && Prot.limit r == 0 && Prot.result r == 0 && bits r 0x70 0 128 == 0)
    (fun r => [s.lookupKey fn (Ent.arg r), match s.keyOf (Ent.arg r) with
      | some k => if k.ask then Res.done else Res.badState
      | none => Res.done])
    (fun c => (s.admWait fn 0).invalidateRange (Ent.arg c.raw) c.raw))

/-- INVALIDATE_COMPLETE (R166): no access of the range waits on a host path or is outstanding. Accesses made since count too
(notes/assumptions/12.md). -/
def execInvalidateComplete (fn : Nat) (s : State) : Host.Outcome State Fault Refusal :=
  ok (match (s.fn fn).admCur with
  | none => s
  | some c =>
    let r := c.raw
    if c.waiting && Ent.opcode r == 0x15 && !s.accessing (fun a => a.1 == Ent.arg r &&
        (Prot.len r == 0 || decide (a.2.1 < Prot.va r + Prot.len r ∧ Prot.va r < a.2.1 + a.2.2))) then s.admOk fn 0
    else s)

/-! ## The miss queue -/

/-- CREATE_MISS_QUEUE (R159, R169, R170). -/
def execCreateMissQueue (fn : Nat) (s : State) : Host.Outcome State Fault Refusal :=
  ok (s.admRun fn 0x16
    (fun r => Ent.arg r == 0 && Prot.va r == 0 && Prot.len r == 0 && Prot.limit r == 0 && Prot.result r == 0 &&
      bits r 0x70 0 24 == 0 && Prot.tail r == 0 && ringOk (Prot.table r) (Prot.log2 r) && ringOk (Prot.auxBase r) (Prot.log2b r))
    (fun r => [s.lookup fn (Prot.eq r) .eq, if (s.fn fn).missq = none then Res.done else Res.badState])
    (fun c => match s.freshHandle fn 2 with
      | (none, s) => s.admAbort fn Res.noResource
      | (some h, s) =>
        let q : MissQueue := { handle := h, missBase := Prot.table c.raw, missLog2 := Prot.log2 c.raw, missPi := 0, missCi := 0,
                               fillBase := Prot.auxBase c.raw, fillLog2 := Prot.log2b c.raw, fillPi := 0, fillCi := 0,
                               fillFetching := false, fills := [], eq := Prot.eq c.raw, eventOut := false }
        (s.setFn fn (fun f => { f with missq := some q })).admOk fn h))

/-- The miss ring that a DESTROY_MISS_QUEUE names (R590). -/
def State.lookupMiss (s : State) (fn h : Nat) : Nat :=
  match s.objAt fn h with
  | none => Res.notOwned
  | some .miss => match (s.fn fn).missq with
    | some q => if q.handle = h then Res.done else Res.badState
    | none => Res.notOwned
  | some _ => Res.badState

/-- DESTROY_MISS_QUEUE (R159). -/
def execDestroyMissQueue (fn : Nat) (s : State) : Host.Outcome State Fault Refusal :=
  ok (s.admRun fn 0x17 (fun r => bits r 4 16 16 == 0)
    (fun r => [s.lookupMiss fn (bits r 4 0 16),
      if s.keys.any (fun e => e.2.fn == fn && e.2.handler) then Res.badState else Res.done])
    (fun _ => ((s.setFn fn (fun f => { f with missq := none })).dropReads (fun r => r.for_ == .fill fn)).admOk fn 0))

end Sys2Proof.Machine
end

