-- ==== Sys2Proof/Machine/AdminUnits.lean ====
section
/-!
DEFINITION. The administrative commands of the Exchange (R280 to R283) and of the Porter (R472, R473, R486).
-/
namespace Sys2Proof.Machine

/-! ## Tree nodes -/

/-- The node record of a CREATE_TREE or REPLACE_TREE (R280). -/
def Cmd.node (r : Nat) : Nat := bits r 0x40 0 4096

/-- Tree nodes that a device holds (R277, `7000`). -/
def treeTotal : Nat := 4096

/-- Staging for a node can be reserved, beside that of every other tree (R280, R290). -/
def State.stagingFits (s : State) (r : Nat) : Nat :=
  let others : State := { s with trees := Tab.del s.trees (Node.tree r) }
  if others.stagingUsed + stagingOf r ≤ s.stagingSize then Res.done else Res.noResource

/-- The members of a node are functions that the installing function may name (R281). -/
def State.membersOk (s : State) (fn r : Nat) : Nat :=
  if (List.range (Node.locals r)).all (fun m =>
      let f := Node.fn r m
      if fnIsPf fn then fnPort f == fnPort fn && s.fnExists f else f == fn) then Res.done else Res.notOwned

/-- A node may be made: none of its tree ID exists, and the table and the staging have room (R277, R280). -/
def State.mayCreate (s : State) (r : Nat) : List Nat :=
  [if Tab.has s.trees (Node.tree r) then Res.badState else Res.done,
   if s.trees.length < treeTotal then Res.done else Res.noResource, s.stagingFits r]

/-- A node may be replaced (R280): it exists, is BROKEN, and the EPOCH changes. -/
def State.mayReplace (s : State) (r : Nat) : List Nat :=
  [match Tab.look s.trees (Node.tree r) with
   | some t => if t.broken && Node.epoch t.raw != Node.epoch r then Res.done else Res.badState
   | none => Res.badState, s.stagingFits r]

/-- The node of a tree ID was installed by this owner (R281). -/
def State.ownsTree (s : State) (tree : Nat) (owner : Option Nat) : Nat :=
  match Tab.look s.trees tree with
  | some t => if t.owner = owner then Res.done else Res.notOwned
  | none => Res.badState

/-- CREATE_TREE (R280, R281, R283). -/
def execCreateTree (fn : Nat) (s : State) : Host.Outcome State Fault Refusal :=
  ok (s.admRun fn 0x20 (fun r => Ent.arg r == 0 && s.nodeOk (Cmd.node r))
    (fun r => s.membersOk fn (Cmd.node r) :: s.mayCreate (Cmd.node r))
    (fun c => (s.installTree (Cmd.node c.raw) (some fn)).admOk fn 0))

/-- DESTROY_TREE (R280, R283). -/
def execDestroyTree (fn : Nat) (s : State) : Host.Outcome State Fault Refusal :=
  ok (s.admRun fn 0x21 (fun r => bits r 4 16 16 == 0) (fun r => [s.ownsTree (bits r 4 0 16) (some fn)])
    (fun c => (s.removeTree (bits c.raw 4 0 16)).admOk fn 0))

/-- REPLACE_TREE (R280, R281, R283). -/
def execReplaceTree (fn : Nat) (s : State) : Host.Outcome State Fault Refusal :=
  ok (s.admRun fn 0x22 (fun r => Ent.arg r == 0 && s.nodeOk (Cmd.node r))
    (fun r => [s.ownsTree (Node.tree (Cmd.node r)) (some fn), s.membersOk fn (Cmd.node r)] ++ s.mayReplace (Cmd.node r))
    (fun c => (s.installTree (Cmd.node c.raw) (some fn)).admOk fn 0))

/-! ## Porter channels -/

/-- RING_BASE (R473). -/
def Bind.base (r : Nat) : Nat := bits r 0x40 0 64
/-- LOG2 (R473). -/
def Bind.log2 (r : Nat) : Nat := bits r 0x48 0 4
/-- ON_ERROR (R473). -/
def Bind.onError (r : Nat) : Bool := bits r 0x48 4 1 == 1
/-- SHARE (R473). -/
def Bind.share (r : Nat) : Nat := bits r 0x48 8 9
/-- PD (R473). -/
def Bind.pd (r : Nat) : Nat := bits r 0x4C 0 16
/-- EQ (R473). -/
def Bind.eq (r : Nat) : Nat := bits r 0x4C 16 16
/-- DB_SLOT (R473). -/
def Bind.slot (r : Nat) : Nat := bits r 0x50 0 16

/-- A PORTER_BIND is well formed (R47, R84, R473). -/
def Bind.ok (fn r : Nat) : Bool :=
  Ent.arg r == 0 && ringOk (Bind.base r) (Bind.log2 r) && decide (1 ≤ Bind.share r ∧ Bind.share r ≤ 256) &&
  bits r 0x48 5 3 == 0 && bits r 0x48 17 15 == 0 && bits r 0x50 16 16 == 0 && bits r 0x54 0 352 == 0 &&
  decide (Bind.slot r < fnSlots fn)

/-- Channels of the Porter (`D000:01`). -/
def channelTotal : Nat := 16

/-- PORTER_BIND (R472, R473, R485, R486): the channel is the part's choice, a free value (notes/assumptions/3.md). -/
def execPorterBind (fn : Nat) (s : State) : Host.Outcome State Fault Refusal :=
  ok (s.admRun fn 0x28 (Bind.ok fn)
    (fun r => [s.lookupPd fn (Bind.pd r), s.lookupOpt fn (Bind.eq r) .eq,
      if s.slotInUse fn (Bind.slot r) then Res.badState else Res.done])
    (fun c => match s.choose (fun ch => (s.chan ch).state != .unbound) 0 channelTotal with
      | (none, s) => s.admAbort fn Res.noResource
      | (some ch, s) =>
        let r := c.raw
        let s := s.setParam (0xD10001 + ch) (Bind.share r)
        let s := s.modChan ch (fun _ =>
          { Channel.fresh with state := .active, fn := fn, base := Bind.base r, log2 := Bind.log2 r, onError := Bind.onError r,
                               pd := Bind.pd r, eq := handleOpt (Bind.eq r), slot := Bind.slot r })
        (s.modChan ch (fun x => { x with bucket := (s.allowance ch : Int) })).admOk fn ch))

/-- The channel that a command names (R472). -/
def Cmd.chan (r : Nat) : Nat := bits r 4 0 4

/-- A channel command of a function (R472): a channel bound to another function is NOT_OWNED, an unbound one BAD_STATE. -/
def State.chanRun (s : State) (fn op : Nat) (may : Channel → Bool) (go : Nat → Channel → State) : State :=
  s.admRun fn op (fun r => bits r 4 4 28 == 0)
    (fun r =>
      let c := s.chan (Cmd.chan r)
      [if c.state = .unbound then Res.badState else if c.fn = fn then Res.done else Res.notOwned,
       if may c then Res.done else Res.badState])
    (fun a => go (Cmd.chan a.raw) (s.chan (Cmd.chan a.raw)))

/-- Reads of a channel that are outstanding. -/
def readsChan (ch : Nat) (r : HostRead) : Bool :=
  match r.for_ with
  | .descriptor c => c == ch
  | .piece c _ => c == ch
  | _ => false

/-- A channel may be unbound (R472): PAUSED, STOPPED, or idle with CI = PI. -/
def Channel.idle (c : Channel) : Bool :=
  c.state == .paused || c.state == .stopped || (c.state == .active && c.cur.isNone && decide (c.ci = c.pi))

/-- PORTER_UNBIND (R472, R486). -/
def execPorterUnbind (fn : Nat) (s : State) : Host.Outcome State Fault Refusal :=
  ok (s.chanRun fn 0x29 Channel.idle (fun ch _ =>
    (({ s with porter := Tab.del s.porter ch } : State).dropReads (readsChan ch)).admOk fn 0))

/-- A channel stops issuing pieces, and a descriptor that is being read ahead is given up (R486); the command waits on it. -/
def State.pauseChan (s : State) (ch fn : Nat) (abort : Bool) : State :=
  let s := (s.admWait fn 0).modChan ch (fun c =>
    { c with state := .pausing, waiter := some (fn, abort), fetching := false, missed := false })
  (s.dropReads (fun r => r.for_ == .descriptor ch)).settlePause ch

/-- A channel is PAUSED or STOPPED. -/
def Channel.halted (c : Channel) : Bool := c.state == .paused || c.state == .stopped

/-- PORTER_PAUSE (R472, R486). -/
def execPorterPause (fn : Nat) (s : State) : Host.Outcome State Fault Refusal :=
  ok (s.chanRun fn 0x2A (fun _ => true) (fun ch c => if c.halted then s.admOk fn 0 else s.pauseChan ch fn false))

/-- PORTER_DRAIN (R472, R486): the drain point is the PI of the last doorbell. -/
def execPorterDrain (fn : Nat) (s : State) : Host.Outcome State Fault Refusal :=
  ok (s.chanRun fn 0x2B (fun _ => true) (fun ch c =>
    if c.halted then s.admOk fn 0
    else
      let s := (s.admWait fn 0).modChan ch (fun c => { c with state := .draining, drainAt := c.pi, waiter := some (fn, false) })
      s.settleDrain ch))

/-- PORTER_RESUME (R472, R486). -/
def execPorterResume (fn : Nat) (s : State) : Host.Outcome State Fault Refusal :=
  ok (s.chanRun fn 0x2C Channel.halted (fun ch _ =>
    ((s.modChan ch (fun c => { c with state := .active, ahead := [], ownZero := false })).fetchDesc ch).admOk fn 0))

/-- PORTER_ABORT (R472, R486). -/
def execPorterAbort (fn : Nat) (s : State) : Host.Outcome State Fault Refusal :=
  ok (s.chanRun fn 0x2D (fun _ => true) (fun ch c =>
    if c.halted then ((s.admWait fn 0).modChan ch (fun c => { c with waiter := some (fn, true) })).abortChan ch
    else s.pauseChan ch fn true))

end Sys2Proof.Machine
end

