-- ==== Sys2Proof/Machine/Reads.lean ====
section
/-!
DEFINITION. Answers to the reads, flush reads and AtomicOps that the part issued (R62, R67, R74, R75, R589), and the residency
of contexts (R180 to R182).
-/
namespace Sys2Proof.Machine

/-! ## What an answer says -/

/-- The status that a failed answer gives what the read served (R64, R67, R74, R589). -/
def answerStatus : Answer → Nat
  | .data _ => Status.ok
  | .poisoned _ => Status.poisoned
  | .error => Status.timeout
  | .timeout => Status.timeout

/-- The bytes of an answer, and whether they are poisoned; none when there are none. -/
def answerBytes : Answer → Option (Bytes × Bool)
  | .data d => some (d, false)
  | .poisoned d => some (d, true)
  | _ => none

/-- The two counts of a port after an answer (R75, R589). -/
def HostPort.counted (h : HostPort) : Answer → HostPort
  | .data _ => { h with timeouts := 0, poisons := 0 }
  | .poisoned _ => { h with timeouts := 0, poisons := h.poisons + 1 }
  | .error => h
  | .timeout => { h with timeouts := h.timeouts + 1 }

/-- A read has had no completion for its limit at a bell boundary (R74). -/
def State.readLate (s : State) (r : HostRead) : Bool :=
  match r.at_ with
  | some t => decide (t + nsUnits (r.limitUs * 1000) ≤ s.ticks * 4096)
  | none => false

/-- An answer fits a read: the read has been issued, a time-out is due, and a memory read gives the bytes asked for. -/
def State.answers (s : State) (r : HostRead) (a : Answer) : Bool :=
  r.at_.isSome && (match a with
    | .timeout => s.readLate r
    | .error => true
    | .data d => d.length == r.len || (match r.for_ with | .atomic _ _ _ => true | .cas _ => true | _ => r.len == 0)
    | .poisoned _ => true)

/-! ## Transport -/

/-- A piece of payload has been read, or could not be (R64, R597). -/
def State.payloadBack (s : State) (key id off : Nat) (r : HostRead) (a : Answer) : State :=
  match s.msgOf key id with
  | none => s
  | some m =>
    match (answerBytes a) with
    | some (d, p) =>
      let d := (d ++ List.replicate r.len 0).take r.len
      (s.modMsg key id (fun m => { m with got := m.got ++ [(off, d, p)] })).pump key pumpFuel
    | none => ((s.localFail key m Status.timeout).settleMsgs key).pump key pumpFuel

/-- The flush read of a durable message has been answered (R225, R227, R229). -/
def State.flushBack (s : State) (key : Nat) (num : BitVec 32) (a : Answer) : State :=
  match s.rxOf key num with
  | none => s
  | some m =>
    if !m.flushing then s
    else match a with
      | .data _ => (s.putRx key { m with flushing := false, flushed := true }).afterReceived key
      | a => ((s.dropRx key num).sendSack key m.hdr 1 (answerStatus a) 0).afterReceived key

/-- The AtomicOp of an ATOMIC_REQ has been answered (R222, R224, R229): its value goes back in a response. -/
def State.atomicBack (s : State) (key : Nat) (num : BitVec 32) (size : Nat) (a : Answer) : State :=
  match s.rxOf key num with
  | none => s
  | some m =>
    let s := s.dropRx key num
    match a with
    | .data d =>
      s.sendReply key { TxMsg.blank with num := num, ptype := 0x0A, proto := s.replyProto m.hdr 0, fn := m.hdr.destFn, len := size,
                                         plan := [(0, size, false)], got := [(0, leBytes size (leNat d), false)] }
    | .error => s.sendSack key m.hdr 1 Status.remoteBounds 0
    | a => s.sendSack key m.hdr 1 (answerStatus a) 0

/-! ## Contexts -/

/-- A held request goes on: the entry that waited for the context starts (R180). -/
def State.restart (s : State) (key qpn : Nat) : State :=
  match s.ripe qpn .fetched, s.ripe qpn .waitTime with
  | some (q, w), _ => if Qp.ctxKey q qpn w.raw = key then s.startOp qpn q w else s
  | none, some (q, w) => if Qp.ctxKey q qpn w.raw = key ∧ atAhead w.raw s.shortTime ≤ 0 then s.startOp qpn q w else s
  | none, none => s

/-- A context is resident: benched packets are processed in arrival order, then held requests (R180). -/
def State.serveContext (s : State) (key : Nat) : State :=
  let s := s.unbench (.context key) false
  let l := s.parked.filter (fun x => x.1 == key)
  l.foldl (fun s x => s.restart key x.2) { s with parked := s.parked.filter (fun x => x.1 != key) }

/-- A context is lost (R182): a CT queue pair goes to ERROR; an ST context is replaced by a fresh one with a new incarnation, and
what it had received of messages not complete ends PEER_GONE, as under R199. -/
def State.loseContext (s : State) (key : Nat) (c : Ctx) (status : Nat) : State :=
  let fresh := { s.freshCtx c.kind c.port c.peer c.tc with slot := c.slot }
  if c.kind = Kind.ct then
    (s.qpError key status).modCtx key (fun _ => fresh)
  else
    let s := s.failSrqRecvs c.rx 0 Status.peerGone
    let s := c.rx.foldl (fun s m => s.dropTagged m key Status.peerGone) s
    let (inc, s) := s.drawInc c.inc
    s.modCtx key (fun c => { c.retired inc with res := .resident, cwnd := fresh.cwnd })

/-- The fetch read of a context has been answered (R180 to R182). The record that the part wrote is the context as the state
keeps it (notes/assumptions/13.md). -/
def State.contextBack (s : State) (key : Nat) (a : Answer) : State :=
  match Tab.look s.ctxs key with
  | none => s.unbench (.context key) false
  | some c =>
    if c.res != .fetching then s
    else
      let s := match a with
        | .data _ => s.modCtx key (fun c => { c with res := .resident, used := s.ticks })
        | a => s.loseContext key c (answerStatus a)
      s.serveContext key

/-- Slots of both kinds of every Stall are handed out, and what waits on a context that is resident, or has gone, goes on. -/
def State.sweepContexts (s : State) : State :=
  let s := (List.range 16).foldl (fun s i => (s.grantSlots Kind.ct i).grantSlots Kind.st i) s
  let keys := (s.bench.filterMap (fun b => match b.2.2 with
      | .context k => some k
      | _ => none)) ++ s.parked.map Prod.fst
  keys.foldl (fun s k => if s.resident k || !Tab.has s.ctxs k then s.serveContext k else s) s

/-- SPILL_WRITES_ISSUED (R180): every write of the record has been issued. -/
def execSpillWritesIssued (ctx : Nat) (s : State) : Host.Outcome State Fault Refusal :=
  match Tab.look s.ctxs ctx with
  | none => ok s
  | some c =>
    if c.res != .spilling || s.unitsOf (.stall ctx) != 0 then ok s
    else
      let want := s.bench.any (fun b => b.2.2 == .context ctx) || s.parked.any (fun x => x.1 == ctx)
      let s := s.modCtx ctx (fun c => { c with slot := false, res := if want then .fetching else .stored })
      ok ((s.grantSlots c.kind (Ctx.stall c ctx)).sweepContexts)

/-! ## Queues, collectives -/

/-- An entry of an SRQ whose fetch failed (R67, R589): it completes with the status in the SRQ's CQ, and the next one is read. Its
content is not known: WR_ID and OPCODE are free values. -/
def State.failSrqFetch (s : State) (key status : Nat) : State :=
  match Tab.look s.srqs key with
  | none => s
  | some q =>
    let (wr, s) := s.draw (2 ^ 64)
    let (opc, s) := s.draw 256
    let s := s.later
    let raw := 1 + place 0 8 8 opc + place 8 0 64 wr
    let s := (s.modSrq key (fun q => { q with fetching := false, ci := q.ci + 1 })).shadowWrite key
    ((s.srqLow key).owe (key / 65536) q.cq (recvCompletion 0 q.ci raw status 0 s.shortTime true false)).fetchSrq key

/-- A piece of a member's input has been read, or could not be (R64, R303, R589). -/
def State.collBack (s : State) (tree : Nat) (osn : BitVec 32) (slot off : Nat) (r : HostRead) (a : Answer) : State :=
  let (d, p) := match (answerBytes a) with
    | some (d, p) => ((d ++ List.replicate r.len 0).take r.len, p)
    | none => (List.replicate r.len 0, true)
  let st := if (answerStatus a) = Status.ok then none else some (answerStatus a)
  (s.modMember tree osn slot (fun m => { m with got := m.got ++ [(off, d, p)],
                                                fail := if m.fail.isSome then m.fail else st })).wakeMember tree osn slot

/-! ## Every answer -/

/-- What an answer does for what the read served. -/
def State.serve (s : State) (r : HostRead) (a : Answer) : State :=
  match r.for_, a with
  | .sq q, .data d => s.takeSqEntry q d
  | .sq q, a => s.failSqFetch q (answerStatus a)
  | .rq q, .data d => s.takeRqEntry q d
  | .rq q, a => s.failRqFetch q (answerStatus a)
  | .srq k, .data d => s.takeSrqEntry k d
  | .srq k, a => s.failSrqFetch k (answerStatus a)
  | .admin fn, .data d => s.takeAdmin fn d
  | .admin fn, a => s.failAdminFetch fn (if (answerStatus a) = Status.poisoned then Status.malformed else (answerStatus a))
  | .fill fn, .data d => s.takeFill fn d
  | .fill fn, _ => s.failFill fn
  | .payload key id off, a => s.payloadBack key id off r a
  | .walk m, a => s.walkBack m a
  | .cas m, a => s.casBack m a
  | .context key, a => s.contextBack key a
  | .pageList fn, .data d => s.takePageList fn d
  | .pageList fn, _ => s.failPageList fn
  | .flush key num, a => s.flushBack key num a
  | .groupFlush id, a => s.groupFlushBack id a
  | .atomic key num size, a => s.atomicBack key num size a
  | .copy srq h _, a => s.copyBack srq h (answerBytes a)
  | .coll tree osn slot off, a => s.collBack tree osn slot off r a
  | .descriptor ch, .data d => s.takeDesc ch d
  | .descriptor ch, a => s.failDesc ch (answerStatus a)
  | .piece ch off, a => s.pieceBack ch off (answerBytes a)
  | .drain _, _ => s

/-- The port freezes once a count has reached its limit (R75). -/
def State.freezeRun (s : State) (p : HPort) (a : Answer) : State :=
  let h := s.port p
  match a with
  | .timeout => if s.param 0x203002 ≤ h.timeouts then s.freezePort p Cause.cplTimeout else s
  | .poisoned _ => if s.param 0x203005 ≤ h.poisons then s.freezePort p Cause.poisonRun else s
  | _ => s

/-- An answer is noted (R62, R74, R75): the read is outstanding no longer, and the port counts the answer. -/
def State.noteAnswer (s : State) (tag : Nat) (r : HostRead) (a : Answer) : State :=
  let s := ({ s with reads := Tab.del s.reads tag } : State).tunePort r.port (fun h => h.counted a)
  match a with
  | .timeout => s.count Event.cplTimeouts (portNum r.port) 1
  | _ => s

/-- A read is answered: the answer is noted, and what the read served goes on. -/
def State.answerRead (s : State) (tag : Nat) (r : HostRead) (a : Answer) : State :=
  ((s.noteAnswer tag r a).serve r a).freezeRun r.port a

/-- The row of an answer acts on the read of a tag, where the read is of its kind and the answer fits it. -/
def State.readRow (s : State) (tag : Nat) (kind : ReadFor → Bool) (a : Answer) : State :=
  match Tab.look s.reads tag with
  | some r => if kind r.for_ && s.answers r a then s.answerRead tag r a else s
  | none => s

/-- HOST_READ_COMPLETE (R62, R64). -/
def execHostReadComplete (tag : Nat) (data : Bytes) (poisoned : Bool) (s : State) : Host.Outcome State Fault Refusal :=
  ok (s.readRow tag (fun _ => true) (if poisoned then .poisoned data else .data data))

/-- HOST_READ_ERROR (R589). -/
def execHostReadError (tag : Nat) (s : State) : Host.Outcome State Fault Refusal := ok (s.readRow tag (fun _ => true) .error)

/-- COMPLETION_TIMEOUT (R74, R75). -/
def execCompletionTimeout (tag : Nat) (s : State) : Host.Outcome State Fault Refusal :=
  if s.onTime 3 then ok (s.readRow tag (fun _ => true) .timeout) else ok s

/-- PAGE_LIST_READ_COMPLETE (R154, R155, R593). -/
def execPageListReadComplete (tag : Nat) (answer : Answer) (s : State) : Host.Outcome State Fault Refusal :=
  ok (s.readRow tag (fun f => match f with | .pageList _ => true | _ => false) answer)

/-- WALK_READ_COMPLETE (R147). -/
def execWalkReadComplete (tag : Nat) (answer : Answer) (s : State) : Host.Outcome State Fault Refusal :=
  ok (s.readRow tag (fun f => match f with | .walk _ => true | _ => false) answer)

/-- WALK_CAS_COMPLETE (R150, R151). -/
def execWalkCasComplete (tag : Nat) (answer : Answer) (s : State) : Host.Outcome State Fault Refusal :=
  ok (s.readRow tag (fun f => match f with | .cas _ => true | _ => false) answer)

/-- CONTEXT_FETCH_COMPLETE (R180 to R182). -/
def execContextFetchComplete (tag : Nat) (answer : Answer) (s : State) : Host.Outcome State Fault Refusal :=
  ok (s.readRow tag (fun f => match f with | .context _ => true | _ => false) answer)

/-- FLUSH_READ_COMPLETE (R225, R229, R231). -/
def execFlushReadComplete (tag : Nat) (answer : Answer) (s : State) : Host.Outcome State Fault Refusal :=
  ok (s.readRow tag (fun f => match f with | .flush _ _ => true | .groupFlush _ => true | .drain _ => true | _ => false) answer)

/-- TARGET_ATOMIC_COMPLETE (R222 to R224, R229). -/
def execTargetAtomicComplete (tag : Nat) (answer : Answer) (s : State) : Host.Outcome State Fault Refusal :=
  ok (s.readRow tag (fun f => match f with | .atomic _ _ _ => true | _ => false) answer)

end Sys2Proof.Machine
end

