-- ==== Sys2Proof/Machine/Arrivals.lean ====
section
/-!
DEFINITION. Packets that arrive for this device (R311, R323, R530): what each packet type does.
-/
namespace Sys2Proof.Machine

/-- The Stall at which a packet arrives (R172, R232): of its peer device on Shared Transport, in a group and on a tree edge, of
its queue pair otherwise. -/
def arrivalStall (p : Packet) : Nat := if p.st || groupType p.ptype || p.tc == 2 then p.srcDev % 16 else p.qpn % 16

/-- A packet that has come for this device is taken (R323, R530): a device that has not been OPEN takes none; one that fails a
check is discarded and counted, and a failure of the first check is an end-to-end integrity fault. -/
def State.checked (s : State) (p : Packet) (go : State → State) : State :=
  let s := { s with arrived := s.arrived.erase p }
  if !s.life.opened then s
  else
    match Packet.arrivalCheck p with
    | 0 => go s
    | n =>
      let s := s.count Event.arrivalDiscard (arrivalStall p) 1
      if n = 1 then s.occur FaultCode.e2eIntegrity 0 0 else s

/-- The row of a packet type acts on a packet of that type. -/
def State.packetRow (s : State) (p : Packet) (t : Nat) (go : State → State) : Host.Outcome State Fault Refusal :=
  ok (if p.ptype = t then s.checked p go else s)

/-- The row of a unicast or group type (R311). -/
def State.arrivalRow (s : State) (p : Packet) (t : Nat) : Host.Outcome State Fault Refusal :=
  s.packetRow p t (fun s => s.arrive p)

/-- SEND packet (R213). -/
def execSendPacket (p : Packet) (s : State) : Host.Outcome State Fault Refusal := s.arrivalRow p 0x01
/-- PUT packet (R216). -/
def execPutPacket (p : Packet) (s : State) : Host.Outcome State Fault Refusal := s.arrivalRow p 0x02
/-- PUT_FLAG data packet (R217). -/
def execPutFlagData (p : Packet) (s : State) : Host.Outcome State Fault Refusal := s.arrivalRow p 0x03
/-- GET_REQ (R220). -/
def execGetReq (p : Packet) (s : State) : Host.Outcome State Fault Refusal := s.arrivalRow p 0x04
/-- ATOMIC_REQ (R222). -/
def execAtomicReq (p : Packet) (s : State) : Host.Outcome State Fault Refusal := s.arrivalRow p 0x05
/-- DURABLE_PUT packet (R225). -/
def execDurablePutPacket (p : Packet) (s : State) : Host.Outcome State Fault Refusal := s.arrivalRow p 0x06
/-- REPL_DURABLE_PUT packet (R231). -/
def execReplDurablePutPacket (p : Packet) (s : State) : Host.Outcome State Fault Refusal := s.arrivalRow p 0x07
/-- MCAST_PUT packet (R231). -/
def execMcastPutPacket (p : Packet) (s : State) : Host.Outcome State Fault Refusal := s.arrivalRow p 0x08
/-- GET_RESP (R220). -/
def execGetResp (p : Packet) (s : State) : Host.Outcome State Fault Refusal := s.arrivalRow p 0x09
/-- ATOMIC_RESP (R222). -/
def execAtomicResp (p : Packet) (s : State) : Host.Outcome State Fault Refusal := s.arrivalRow p 0x0A
/-- FLAG (R218). -/
def execFlag (p : Packet) (s : State) : Host.Outcome State Fault Refusal := s.arrivalRow p 0x0B
/-- DURABLE_CONF (R226). -/
def execDurableConf (p : Packet) (s : State) : Host.Outcome State Fault Refusal := s.arrivalRow p 0x0C
/-- MEMBER_REPLY (R234). -/
def execMemberReply (p : Packet) (s : State) : Host.Outcome State Fault Refusal :=
  s.packetRow p 0x0D (fun s => s.groupReply p)
/-- TSEND_EAGER packet (R261). -/
def execTsendEager (p : Packet) (s : State) : Host.Outcome State Fault Refusal := s.arrivalRow p 0x10
/-- TSEND_RTS (R262). -/
def execTsendRts (p : Packet) (s : State) : Host.Outcome State Fault Refusal := s.arrivalRow p 0x11
/-- CTS (R262). -/
def execCts (p : Packet) (s : State) : Host.Outcome State Fault Refusal := s.arrivalRow p 0x12
/-- RNDV_DATA (R262). -/
def execRndvData (p : Packet) (s : State) : Host.Outcome State Fault Refusal := s.arrivalRow p 0x13

/-! ## Collective packets -/

/-- TREE_ID of a collective packet or of a tree edge's SACK (R316). -/
def packetTree (p : Packet) : Nat := Packet.ext p 0x2C 0 16

/-- A packet of a tree edge at this device (R283, R304, R306, R311): with no node of the tree here nothing leads it on, since it
is addressed to this device, and it is discarded as unroutable; one of an older EPOCH is discarded; one of a newer EPOCH
breaks the node; one from a device that is no edge of the node has no context and is discarded. `newer` says what a packet
of a newer EPOCH does besides, `go` what one of the node's EPOCH does. -/
def State.edgeArrives (s : State) (p : Packet) (newer : State → State) (go : Tree → State → State) : State :=
  let tree := packetTree p
  match Tab.look s.trees tree with
  | none => s.count Event.unroutable anyUnit 1
  | some t =>
    if !(Node.edges t.raw).contains p.srcDev then s else
    let s := s.hearEdge tree p.srcDev
    if olderEpoch p t then s.count Event.oldEpoch anyUnit 1
    else if newerEpoch p t then newer (s.breakTree tree)
    else go t s

/-- A segment at the context of its edge (R189, R289 to R292). -/
def State.segArrives (s : State) (p : Packet) (t : Tree) : State :=
  let tree := packetTree p
  let key := edgeKey tree p.srcDev
  match Tab.look s.ctxs key with
  | none => s
  | some c =>
    match s.psnPlace key c p.psn with
    | .old => s.sendSack key p 0 0 0
    | .duplicate => s.sendSack key p 0 0 0
    | .beyond => s.count Event.outOfWindow (Ctx.stall c key) 1
    | .fresh =>
      let (v, s) := s.admitSeg tree t p
      s.settleVerdict key p (s.writesOf key) v

/-- COLL_SEG (R289 to R292): refused CLOSING once the device has left OPEN (R530, R540), refused NOT_READY by a BROKEN node
whose EPOCH is older (R306). A BROKEN node of its EPOCH has no operation that it could take part in, and does not answer. -/
def execCollSeg (p : Packet) (s : State) : Host.Outcome State Fault Refusal :=
  s.packetRow p 0x20 (fun s =>
    if s.life ≠ .open_ then s.answerNoCtx p 2 Refuse.closing 0
    else s.edgeArrives p (fun s => s.answerNoCtx p 2 Refuse.notReady s.backoffBells)
      (fun t s => if t.broken then s else s.segArrives p t))

/-- COLL_HEARTBEAT (R304): it keeps its edge alive. -/
def execCollHeartbeat (p : Packet) (s : State) : Host.Outcome State Fault Refusal :=
  s.packetRow p 0x21 (fun s => s.edgeArrives p (fun s => s) (fun _ s => s))

/-- COLL_BREAK (R283): the node goes BROKEN. -/
def execCollBreak (p : Packet) (s : State) : Host.Outcome State Fault Refusal :=
  s.packetRow p 0x22 (fun s => s.edgeArrives p (fun s => s) (fun _ s => s.breakTree (packetTree p)))

/-! ## SACK records -/

/-- The context that a SACK answers a packet of (R311): found as for that packet. -/
def sackKey (p : Packet) : Nat := if p.tc == 2 then edgeKey (packetTree p) p.srcDev else rxKey p

/-- A receive whose clear-to-send was answered with a NAK completes with its status (R263). -/
def State.ctsNaked (s : State) (a : Sack) (m : TxMsg) : State :=
  let handle := bits m.proto.ext (0x30 - 0x28) 0 24
  if m.ptype = 0x12 ∧ a.kind = 1 then
    match s.landingOf m.fn handle with
    | some srq => match s.matchedOf srq handle with
      | some x => s.finishMatched srq x a.code
      | none => s
    | none => s
  else s

/-- The context of a SACK is one that this end still holds: a CT queue pair's own function, or the incarnation of the record. -/
def State.sackFits (s : State) (p : Packet) : Bool :=
  match Tab.look s.ctxs (sackKey p) with
  | some c => p.st || p.tc == 2 || (c.kind == Kind.ct && (match Tab.look s.qps p.qpn with
      | some q => q.fn == p.destFn && !q.st
      | none => false))
  | none => false

/-- A SACK acts on the send side of its context, and what the context held back goes on (R179, R189). -/
def State.sackArrives (s : State) (p : Packet) : State :=
  let key := sackKey p
  let a := sackOf p.payload
  match Tab.look s.ctxs key with
  | none => s.count Event.noContext (arrivalStall p) 1
  | some c =>
    if !s.sackFits p then s.count Event.noContext (arrivalStall p) 1 else
    let cts := if Ctx.current c a then c.msgAt a.ref else none
    let s := s.applySack key a
    let s := match cts with
      | some m => s.ctsNaked a m
      | none => s
    s.sweepContexts

/-- A SACK record of a kind (R189): a tree edge's is a packet of the record's EPOCH, which keeps the edge alive (R304, R306). -/
def State.sackRow (s : State) (p : Packet) (kind : Nat) : Host.Outcome State Fault Refusal :=
  if (sackOf p.payload).kind ≠ kind then ok s
  else s.packetRow p 0x30 (fun s =>
    if !sackOk p.payload then s.count Event.arrivalDiscard (arrivalStall p) 1
    else if p.tc = 2 then
      s.edgeArrives { p with inc := (sackOf p.payload).inc } (fun s => s) (fun t s => if t.broken then s else s.sackArrives p)
    else s.sackArrives p)

/-- ACK (R189). -/
def execAck (p : Packet) (s : State) : Host.Outcome State Fault Refusal := s.sackRow p 0
/-- NAK (R200). -/
def execNak (p : Packet) (s : State) : Host.Outcome State Fault Refusal := s.sackRow p 1
/-- REFUSE (R196). -/
def execRefuse (p : Packet) (s : State) : Host.Outcome State Fault Refusal := s.sackRow p 2

end Sys2Proof.Machine
end

