-- ==== Sys2Proof/Machine/Timers.lean ====
section
/-!
DEFINITION. Timers that the part checks at bell boundaries (R190, R196, R203, R228, R234, R258, R263, R304). Each row acts when
its time has come and changes nothing otherwise.
-/
namespace Sys2Proof.Machine

/-- The retransmission timer of a context fires (R190 to R192): the count goes up; past its limit the context fails, unless
UNLIMITED applies; otherwise the window is halved, what is not acknowledged is sent again and the timer starts anew. -/
def State.retransmit (s : State) (key : Nat) (c : Ctx) : State :=
  let retry := min (c.retry + 1) 255
  let s := s.modCtx key (fun c => { c with retry := retry })
  if s.retryLimit key c < retry ∧ s.unlimitedApplies c = false then
    if c.kind = Kind.edge then s.breakTree (key / 2 ^ 18 - 2 ^ 22) else s.failContext key Status.retryExceeded
  else
    (s.modCtx key (fun c => { c with cwnd := max (s.param 0x503002 * 256) (c.cwnd / 2), timer := some s.clock })).resendAll key

/-- RETRANSMIT_TIMER_EXPIRY (R190). The group messages of a queue pair have a timer of their own (R233). -/
def execRetransmitTimerExpiry (ctx : Nat) (s : State) : Host.Outcome State Fault Refusal :=
  match Tab.look s.ctxs ctx with
  | none => ok s
  | some c =>
    if !s.onTime 6 || !s.timerDue c || (c.sent.isEmpty && c.kind != Kind.group) then ok s
    else if c.kind = Kind.group then ok (s.groupTimer (ctx - 2 ^ 26))
    else ok (s.retransmit ctx c).sweepContexts

/-- REFUSAL_BACKOFF_EXPIRY (R196): the refused packet is sent again. -/
def execRefusalBackoffExpiry (ctx : Nat) (psn : BitVec 32) (s : State) : Host.Outcome State Fault Refusal :=
  match Tab.look s.ctxs ctx with
  | none => ok s
  | some c =>
    let due (p : SentPkt) : Bool := p.psn == psn && !p.sacked && p.backoff.isSome && !s.heldBack p
    ok (s.resend ctx (Ctx.stall c ctx) (c.sent.filter (fun p => due p && decide ((p.psn - c.sndUna).toNat < s.window c))))

/-- The confirmation of a durable message has not come within rto of its last packet's acknowledgement or resend (R228): that
packet is sent again, which counts toward the retry limit unless UNLIMITED applies. -/
def State.resendFinal (s : State) (key : Nat) (c : Ctx) (m : TxMsg) : State :=
  let free := s.unlimited m
  let retry := if free then c.retry else min (c.retry + 1) 255
  if !free && decide (s.retryLimit key c < retry) then
    match m.owner with
    | some (q, idx) => (s.finishWqe q idx Status.retryExceeded m.acked 0 []).failContext key Status.retryExceeded
    | none => s
  else
    let s := (s.modCtx key (fun c => { c with retry := retry })).modMsg key m.id (fun m => { m with ackedAt := some s.clock })
    match m.final with
    | some p => (s.sendPacket p).count Event.retransmit (Ctx.stall c key) 1
    | none => s

/-- DURABLE_CONF_TIMEOUT (R228). -/
def execDurableConfTimeout (ctx : Nat) (num : BitVec 32) (s : State) : Host.Outcome State Fault Refusal :=
  match Tab.look s.ctxs ctx with
  | none => ok s
  | some c =>
    match c.msgs.find? (fun m => m.ptype == 6 && !m.reply && m.num == num && m.quiet && m.owner.isSome && m.fail.isNone) with
    | none => ok s
    | some m =>
      match m.ackedAt with
      | some t => ok (if t + s.rto c.retry ≤ s.ticks * 4096 ∧ s.onTime 6 = true then s.resendFinal ctx c m else s)
      | none => ok s

/-- PEER_GONE_EXPIRY (R203): the peer has had no valid path for `5050:01` bells in a row. -/
def execPeerGoneExpiry (ctx : Nat) (s : State) : Host.Outcome State Fault Refusal :=
  match Tab.look s.ctxs ctx with
  | none => ok s
  | some c =>
    match c.noPath with
    | some t =>
      if t + s.param 0x505001 ≤ s.ticks ∧ c.sent ≠ [] then ok (s.failContext ctx Status.peerGone).sweepContexts else ok s
    | none => ok s

/-- GROUP_DEADLINE_EXPIRY (R234, point 3). -/
def execGroupDeadlineExpiry (qpn : Nat) (s : State) : Host.Outcome State Fault Refusal := ok (s.groupDeadline qpn)

/-- The oldest HELD message of a stream (R258). -/
def Srq.oldestHeld (q : Srq) (x : Stream) : Option Stored :=
  (q.stored.filter (fun m => m.elig.isNone && m.srcDev == x.srcDev && m.srcFn == x.srcFn && m.rank == x.rank &&
    m.context == x.context)).foldl (fun a m => match a with
      | none => some m
      | some b => if m.at_ < b.at_ then some m else some b) none

/-- MSN_HOLD_EXPIRY (R258): the stream skips to the MSN of its oldest HELD message once that has waited `6030:01` bells. -/
def execMsnHoldExpiry (fn srq stream : Nat) (s : State) : Host.Outcome State Fault Refusal :=
  let key := qkey fn srq
  match Tab.look s.srqs key with
  | none => ok s
  | some q =>
    match Tab.look q.streams stream with
    | none => ok s
    | some x =>
      match q.oldestHeld x with
      | none => ok s
      | some m =>
        if m.at_ + s.param 0x603001 ≤ s.ticks ∧ m.msn ≠ x.expected then
          let s := (s.modSrq key (fun q => Srq.setExpected q x.srcDev x.srcFn x.rank x.context m.msn)).count Event.skips anyUnit 1
          ok (s.release key x.srcDev x.srcFn x.rank x.context (q.stored.length + 1))
        else ok s

/-- A rendezvous TSEND has waited for its clear-to-send for `6020:02` bells (R263): it completes TIMEOUT, and a note of it is kept
for a clear-to-send that comes later. -/
def State.ctsLate (s : State) (key : Nat) (m : TxMsg) : State :=
  match m.owner, m.ackedAt with
  | some (q, idx), some t =>
    if m.ptype = 0x11 ∧ m.quiet = true ∧ s.param 0x602002 ≠ 0 ∧ t + s.param 0x602002 * 4096 ≤ s.ticks * 4096 then
      (s.modMsg key m.id (fun m => { m with owner := none, fail := some Status.timeout, firstAt := none, final := none,
                                            ackedAt := none })).finishWqe q idx Status.timeout 0 0 []
    else s
  | _, _ => s

/-- CTS_WAIT_EXPIRY (R263). -/
def execCtsWaitExpiry (qpn : Nat) (s : State) : Host.Outcome State Fault Refusal :=
  ok (s.ctxs.foldl (fun s e => e.2.msgs.foldl (fun s m =>
    match m.owner with
    | some (q, _) => if q = qpn then s.ctsLate e.1 m else s
    | none => s) s) s)

/-- HEARTBEAT_DUE (R304): an edge that has carried nothing for `7030:01` bells carries a heartbeat. -/
def execHeartbeatDue (tree dev : Nat) (s : State) : Host.Outcome State Fault Refusal :=
  match Tab.look s.trees tree with
  | none => ok s
  | some t =>
    match Tab.look t.edges dev with
    | some e => ok (if e.tx + s.param 0x703001 ≤ s.ticks ∧ s.onTime 8 = true then s.sendPacket (s.treePacket t 0x21 dev 0) else s)
    | none => ok s

/-- EDGE_DEAD (R304): nothing has arrived on an edge for `7030:02` bells, and the node goes BROKEN (R283). -/
def execEdgeDead (tree dev : Nat) (s : State) : Host.Outcome State Fault Refusal :=
  match Tab.look s.trees tree with
  | none => ok s
  | some t =>
    match Tab.look t.edges dev with
    | some e => ok (if s.edgeSilent e && s.onTime 8 then s.breakTree tree else s)
    | none => ok s

end Sys2Proof.Machine
end

