-- ==== Sys2Proof/Machine/Doorbells.lean ====
section
/-!
DEFINITION. Doorbells (R106 to R110), reservations and event moderation (R100, R105), and the enabling of the administrative
path (R114 to R116).
-/
namespace Sys2Proof.Machine

/-- The ring that a doorbell slot serves (R107). -/
inductive Ring where
  | adminSq
  | cq (handle : Nat)
  | eq (handle : Nat)
  | srq (handle : Nat)
  | missRing
  | fillRing
  | sq (qpn : Nat)
  | rq (qpn : Nat)
  | porter (ch : Nat)
  deriving DecidableEq, Repr

/-- A direct slot of a queue pair of a function. -/
def State.directRing (s : State) (fn slot : Nat) : Option Ring :=
  match s.qps.find? (fun e => e.2.fn == fn && !e.2.indexed && e.2.sq.slot == slot) with
  | some e => some (.sq e.1)
  | none =>
    match s.qps.find? (fun e => e.2.fn == fn && !e.2.indexed && (match e.2.rq with
        | some r => r.slot == slot
        | none => false)) with
    | some e => some (.rq e.1)
    | none => none

/-- The ring that a doorbell on an indexed slot names with QPN and SEL (R107). -/
def State.indexedRing (s : State) (fn slot value : Nat) : Option Ring :=
  let qpn := bits value 4 0 24
  match Tab.look s.qps qpn with
  | none => none
  | some q =>
    if q.fn ≠ fn ∨ q.indexed = false ∨ q.sq.slot ≠ slot then none
    else if bits value 2 0 1 = 0 then some (.sq qpn)
    else if q.rq.isSome then some (.rq qpn) else none

/-- The slot is an indexed slot of the function. -/
def State.isIndexed (s : State) (fn slot : Nat) : Bool := s.qps.any (fun e => e.2.fn == fn && e.2.indexed && e.2.sq.slot == slot)

/-- The ring that a doorbell reaches (R82, R107, R474): none where the function owns none there. -/
def State.ringOf (s : State) (d : Doorbell) : Option Ring :=
  let f := s.fn d.fn
  let key := qkey d.fn d.slot
  if d.slot = 0 then (if f.admOn then some .adminSq else none)
  else if Tab.has s.cqs key then some (.cq d.slot)
  else if Tab.has s.eqs key then some (.eq d.slot)
  else if Tab.has s.srqs key then some (.srq d.slot)
  else if s.isIndexed d.fn d.slot then s.indexedRing d.fn d.slot d.value
  else
    match f.missq, s.porter.find? (fun e => e.2.state != .unbound && e.2.fn == d.fn && e.2.slot == d.slot) with
    | some q, none => if d.slot = q.handle then some .missRing else if d.slot = q.handle + 1 then some .fillRing
                      else s.directRing d.fn d.slot
    | _, some e => some (.porter e.1)
    | none, none => s.directRing d.fn d.slot

/-- The write has the form of a doorbell (R106): 4 or 8 bytes from byte 0 of a slot; on an indexed slot 8 bytes (R107). -/
def State.doorbellForm (s : State) (d : Doorbell) : Bool :=
  d.byteAt == 0 && (d.size == 8 || (d.size == 4 && !s.isIndexed d.fn d.slot))

/-- The fields that a ring's doorbell does not use are zero (R106, R107, R109). -/
def doorbellRsv (indexed : Bool) (r : Ring) (v : Nat) : Bool :=
  bits v 2 2 14 == 0 && bits v 7 0 8 == 0 && decide (v < 2 ^ 64) && (indexed || bits v 4 0 24 == 0) &&
  (match r with
   | .cq _ => true
   | _ => bits v 2 1 1 == 0 && (indexed || bits v 2 0 1 == 0))

/-- The indices of a ring as a doorbell would leave them fit the ring (R85, R109): PI, CI and log2 of its size. -/
def State.indexFits (s : State) (fn : Nat) (r : Ring) (i : BitVec 16) : Bool :=
  let fits (pi ci : BitVec 16) (log2 : Nat) : Bool := decide ((pi - ci).toNat ≤ 2 ^ log2)
  let f := s.fn fn
  match r with
  | .adminSq => fits i f.admCi f.admSqLog2
  | .cq h => match Tab.look s.cqs (qkey fn h) with
    | some q => fits q.pi i q.log2
    | none => false
  | .eq h => match Tab.look s.eqs (qkey fn h) with
    | some q => fits q.pi i q.log2
    | none => false
  | .srq h => match Tab.look s.srqs (qkey fn h) with
    | some q => fits i q.ci q.log2
    | none => false
  | .missRing => match f.missq with
    | some q => fits q.missPi i q.missLog2
    | none => false
  | .fillRing => match f.missq with
    | some q => fits i q.fillCi q.fillLog2
    | none => false
  | .sq n => match Tab.look s.qps n with
    | some q => fits i q.sq.ci q.sq.log2
    | none => false
  | .rq n => match Tab.look s.qps n with
    | some q => match q.rq with
      | some r => fits i r.ci r.log2
      | none => false
    | none => false
  | .porter ch => fits i (s.chan ch).ci (s.chan ch).log2

/-- The queue takes doorbells in its state (R109, R110): a queue pair in READY or ERROR. -/
def State.ringTakes (s : State) (r : Ring) : Bool :=
  match r with
  | .sq n => match Tab.look s.qps n with
    | some q => q.state == .ready || q.state == .error
    | none => false
  | .rq n => match Tab.look s.qps n with
    | some q => q.state == .ready || q.state == .error
    | none => false
  | _ => true

/-- A RECALL of the ring is in progress (the table after R113). -/
def State.recalling (s : State) (fn : Nat) (r : Ring) : Bool :=
  match (s.fn fn).admCur with
  | none => false
  | some c =>
    c.waiting && Ent.opcode c.raw == 0x0B &&
    (match r with
     | .sq n => Cmd.qpn c.raw == some n && bits c.raw 4 30 1 == 0
     | .rq n => Cmd.qpn c.raw == some n && bits c.raw 4 30 1 == 1
     | _ => false)

/-- Queues of a function that wait for room in a CQ go on, but for those in its waiting list (R98, R100, R269, R271). -/
def State.cqRoom (s : State) (fn cq : Nat) : State :=
  let s := s.payOwed fn (s.fn fn).owed.length
  let s := s.qps.foldl (fun s e => if e.2.fn = fn ∧ (e.2.cq = cq ∨ e.2.rqCq = cq) then s.advanceQp e.1 else s) s
  let s := s.srqs.foldl (fun s e => if e.1 / 65536 = fn then (s.retryPost e.1).retryStreams e.1 else s) s
  if cq = 1 then s.fetchAdmin fn else s

/-- The CI doorbell of a completion queue (R102): with ARM or ARM_SOLICITED it arms the queue, unless a completion that
qualifies lies beyond CI already, which gives the event at once. -/
def State.ringCq (s : State) (fn h v : Nat) : State :=
  match Tab.look s.cqs (qkey fn h) with
  | none => s
  | some q =>
    let ci := BitVec.ofNat 16 v
    let beyond (i : BitVec 16) : Bool := decide ((i - ci).toNat < (q.pi - ci).toNat)
    let sol := q.solicited.filter beyond
    let arm := bits v 2 0 1 == 1
    let armSol := bits v 2 1 1 == 1
    let now := (arm && q.pi != ci) || (armSol && !sol.isEmpty)
    let q' := { q with ci := ci, solicited := sol, armed := q.armed || arm, armedSol := q.armedSol || armSol }
    let s := { s with cqs := Tab.put s.cqs (qkey fn h) q' }
    let s := if now then s.cqNotify fn h else s
    s.cqRoom fn h

/-- The CI doorbell of an event queue (R104): held events are written as entries become free. -/
def State.ringEq (s : State) (fn h v : Nat) : State :=
  match Tab.look s.eqs (qkey fn h) with
  | none => s
  | some q =>
    let s := { s with eqs := Tab.put s.eqs (qkey fn h) { q with ci := BitVec.ofNat 16 v } }
    s.drainMarks fn h q.marks.length

/-- A doorbell is noted behind those that announced entries still not started (R380). -/
def noteBell (l : List (BitVec 16 × Nat)) (first pi i : BitVec 16) (now : Nat) : List (BitVec 16 × Nat) :=
  l.filter (fun b => decide (0 < (b.1 - first).toNat ∧ (b.1 - first).toNat ≤ (pi - first).toNat)) ++ [(i, now)]

/-- A new PI of a send queue (R86, R94, R111, R113). -/
def State.ringSq (s : State) (qpn : Nat) (i : BitVec 16) : State :=
  let now := s.clock
  (s.modSq qpn (fun q =>
    if q.pi = i then q
    else { q with pi := i, short := false, recalled := false,
                  bells := noteBell q.bells q.unstarted q.pi i now })).advanceQp qpn

/-- A new PI of a receive queue (R86, R592). -/
def State.ringRq (s : State) (qpn : Nat) (i : BitVec 16) : State :=
  let now := s.clock
  (s.modRq qpn (fun q =>
    if q.pi = i then q
    else { q with pi := i, short := false, recalled := false,
                  bells := noteBell q.bells q.unstarted q.pi i now })).advanceQp qpn

/-- An accepted doorbell does what its ring gives it (R86, R102, R104, R120, R161, R162, R477). -/
def State.ring (s : State) (fn v : Nat) (r : Ring) : State :=
  let i := BitVec.ofNat 16 v
  match r with
  | .adminSq => (s.setFn fn (fun f => { f with admPi := i })).fetchAdmin fn
  | .cq h => s.ringCq fn h v
  | .eq h => s.ringEq fn h v
  | .srq h =>
    let key := qkey fn h
    ((s.modSrq key (fun q => if q.pi = i then q else { q with pi := i, short := false })).srqLow key).fetchSrq key
  | .missRing => (s.setFn fn (fun f => { f with missq := f.missq.map (fun q => { q with missCi := i, eventOut := false }) })
      ).writeMisses fn
  | .fillRing => (s.setFn fn (fun f => { f with missq := f.missq.map (fun q => { q with fillPi := i }) })).fetchFill fn
  | .sq n => s.ringSq n i
  | .rq n => s.ringRq n i
  | .porter ch => (s.modChan ch (fun c => { c with pi := i, ownZero := false })).fetchDesc ch

/-- A write to BAR2 (R67, R68, R106 to R109, R538): discarded, which R109 counts, or taken. -/
def State.doorbell (s : State) (d : Doorbell) : State :=
  let p := fnPort d.fn
  if !s.fnExists d.fn ∨ fnSlots d.fn ≤ d.slot ∨ (s.port p).state = .reset then s
  else if d.poisoned then s.emit (.aer p true)
  else if !s.doorbellForm d ∨ s.life = .shutter ∨ s.life = .shut then s
  else
    let discard := s.count Event.doorbellDiscard d.fn 1
    let v := if d.size = 4 then d.value % 2 ^ 32 else d.value
    match s.ringOf { d with value := v } with
    | none => discard
    | some r =>
      if (s.port p).state = .frozen ∨ !doorbellRsv (s.isIndexed d.fn d.slot) r v ∨ !s.indexFits d.fn r (BitVec.ofNat 16 v) ∨
        !s.ringTakes r then discard
      else if s.recalling d.fn r then s
      else s.ring d.fn v r

/-- The row of a kind of ring: a doorbell on a ring of another kind is another row's. -/
def State.doorbellRow (s : State) (d : Doorbell) (mine : Ring → Bool) : Host.Outcome State Fault Refusal :=
  match s.ringOf d with
  | none => ok (s.doorbell d)
  | some r => ok (if mine r then s.doorbell d else s)

/-- SQ_DOORBELL (R86, R106). -/
def execSqDoorbell (d : Doorbell) (s : State) : Host.Outcome State Fault Refusal :=
  s.doorbellRow d (fun r => match r with
    | .sq _ => true
    | _ => false)
/-- RQ_DOORBELL (R86, R106). -/
def execRqDoorbell (d : Doorbell) (s : State) : Host.Outcome State Fault Refusal :=
  s.doorbellRow d (fun r => match r with
    | .rq _ => true
    | _ => false)
/-- SRQ_DOORBELL (R86, R106). -/
def execSrqDoorbell (d : Doorbell) (s : State) : Host.Outcome State Fault Refusal :=
  s.doorbellRow d (fun r => match r with
    | .srq _ => true
    | _ => false)
/-- CQ_DOORBELL (R86, R106): a CI without ARM. -/
def execCqDoorbell (d : Doorbell) (s : State) : Host.Outcome State Fault Refusal :=
  s.doorbellRow d (fun r => match r with
    | .cq h => h != 1 && bits d.value 2 0 2 == 0
    | _ => false)
/-- CQ_ARM (R102): a CI with ARM. -/
def execCqArm (d : Doorbell) (s : State) : Host.Outcome State Fault Refusal :=
  s.doorbellRow d (fun r => match r with
    | .cq _ => bits d.value 2 0 1 == 1
    | _ => false)
/-- CQ_ARM_SOLICITED (R102): a CI with ARM_SOLICITED. -/
def execCqArmSolicited (d : Doorbell) (s : State) : Host.Outcome State Fault Refusal :=
  s.doorbellRow d (fun r => match r with
    | .cq _ => bits d.value 2 1 1 == 1
    | _ => false)
/-- EQ_DOORBELL (R86, R104). -/
def execEqDoorbell (d : Doorbell) (s : State) : Host.Outcome State Fault Refusal :=
  s.doorbellRow d (fun r => match r with
    | .eq _ => true
    | _ => false)
/-- ADMIN_SQ_DOORBELL (R86, R107). -/
def execAdminSqDoorbell (d : Doorbell) (s : State) : Host.Outcome State Fault Refusal :=
  if d.slot = 0 then s.doorbellRow d (fun _ => true) else ok s
/-- ADMIN_CQ_DOORBELL (R86, R107). -/
def execAdminCqDoorbell (d : Doorbell) (s : State) : Host.Outcome State Fault Refusal :=
  if d.slot = 1 then s.doorbellRow d (fun _ => true) else ok s
/-- MISS_RING_DOORBELL (R162). -/
def execMissRingDoorbell (d : Doorbell) (s : State) : Host.Outcome State Fault Refusal :=
  s.doorbellRow d (fun r => match r with
    | .missRing => true
    | _ => false)
/-- FILL_RING_DOORBELL (R163). -/
def execFillRingDoorbell (d : Doorbell) (s : State) : Host.Outcome State Fault Refusal :=
  s.doorbellRow d (fun r => match r with
    | .fillRing => true
    | _ => false)
/-- PORTER_DOORBELL (R474). -/
def execPorterDoorbell (d : Doorbell) (s : State) : Host.Outcome State Fault Refusal :=
  s.doorbellRow d (fun r => match r with
    | .porter _ => true
    | _ => false)

/-! ## Reservations and moderation -/

/-- The first waiter of a CQ with a free entry is granted it (R100). -/
def State.grantCq (s : State) (fn cq : Nat) : State :=
  let key := qkey fn cq
  match Tab.look s.cqs key with
  | none => s
  | some q =>
    if !q.room then s else
    match q.waiters with
    | [] => s
    | .sq n :: rest =>
      let s := { s with cqs := Tab.put s.cqs key { q with waiters := rest, reserved := q.reserved + 1 } }
      match Tab.look s.qps n with
      | none => s.unreserve fn cq
      | some x =>
        match x.sq.firstWaiting with
        | some w => (s.modSq n (fun y => { (Sq.modEnt y w.idx (fun w => { w with reserved := true })) with waiting := false })).advanceQp n
        | none => ((s.modSq n (fun y => { y with waiting := false })).unreserve fn cq).advanceQp n
    | .srq k :: rest =>
      let s := ({ s with cqs := Tab.put s.cqs key { q with waiters := [] } }.retryPost k)
      let held := match Tab.look s.srqs k with
        | some y => y.postHeld.isSome
        | none => false
      { s with cqs := Tab.mod s.cqs key (fun c =>
          { c with waiters := if held && !c.room then .srq k :: rest else rest ++ c.waiters }) }

/-- CQ_RESERVATION_GRANT (R100). -/
def execCqReservationGrant (fn cq : Nat) (s : State) : Host.Outcome State Fault Refusal := ok (s.grantCq fn cq)

/-- EQ_MODERATION_EXPIRY (R105): entries written since the last message are announced. -/
def execEqModerationExpiry (fn eq : Nat) (s : State) : Host.Outcome State Fault Refusal :=
  match Tab.look s.eqs (qkey fn eq) with
  | none => ok s
  | some e => ok (if e.owed && s.onTime 4 then s.announce fn eq else s)

/-! ## The administrative path's registers -/

/-- QUE_ADM_CFG is written (R114 to R116): discarded in SEALED, and while the path runs but for ENABLE = 0, which stops it after
the command in progress. -/
def State.admCfg (s : State) (fn v : Nat) : State :=
  let f := s.fn fn
  let on := bits v 0 16 1 == 1
  if s.life = .sealed then s
  else if f.admOn then
    if on then s
    else if f.admCur.isSome then s.setFn fn (fun f => { f with admStop := true })
    else s.adminOff fn
  else
    let s := s.setFn fn (fun f => { f with admSqLog2 := clampNat 4 12 (bits v 0 0 4), admCqLog2 := clampNat 4 12 (bits v 0 8 4) })
    if on then
      let f := s.fn fn
      let s := s.setFn fn (fun f => { f with admOn := true, admPi := 0, admCi := 0 })
      { s with cqs := Tab.put s.cqs (admCqKey fn) (Cq.fresh (f.admCqBase * 4096) f.admCqLog2 none) }
    else s

/-- A write to a register of a function that exists, on a port that is not in RESET. -/
def State.admCfgRow (s : State) (fn : Nat) (cfg : BitVec 32) (on : Bool) : Host.Outcome State Fault Refusal :=
  if s.fnExists fn ∧ (s.port (fnPort fn)).state ≠ .reset ∧ (bits cfg.toNat 0 16 1 == 1) = on then ok (s.admCfg fn cfg.toNat)
  else ok s

/-- ADMIN_ENABLE (R115, R116): QUE_ADM_CFG is written with ENABLE = 1. -/
def execAdminEnable (fn : Nat) (cfg : BitVec 32) (s : State) : Host.Outcome State Fault Refusal := s.admCfgRow fn cfg true

/-- ADMIN_DISABLE (R115): QUE_ADM_CFG is written with ENABLE = 0. -/
def execAdminDisable (fn : Nat) (cfg : BitVec 32) (s : State) : Host.Outcome State Fault Refusal := s.admCfgRow fn cfg false

end Sys2Proof.Machine
end

