-- ==== Sys2Proof/Machine/Arcade.lean ====
section
/-!
DEFINITION. The Arcade (R328 to R355): usable ports, route tables, prices, the choice of an output, replication, and the
packets that leave its inputs.
-/
namespace Sys2Proof.Machine

/-! ## Ports -/

/-- Group number of a device ID (R309). -/
def devGroup (d : Nat) : Nat := d / 256
/-- Local number of a device ID (R309). -/
def devLocal (d : Nat) : Nat := d % 256

/-- A port group is split (R416, `B001`). -/
def State.isSplit (s : State) (g : Nat) : Bool := s.openParam (0xB00101 + g) != 0

/-- The class of a logical port (R328): 0 UNUSED, 1 LOCAL, 2 GLOBAL. -/
def State.portClass (s : State) (q : Nat) : Nat := s.param (0x800101 + q)

/-- The link layer of a logical port. -/
def State.link (s : State) (q : Nat) : Link := Tab.getD s.links q Link.fresh

/-- The link layer of a logical port changed. -/
def State.modLink (s : State) (q : Nat) (f : Link → Link) : State := { s with links := Tab.put s.links q (f (s.link q)) }

/-- A logical port is usable (R329). -/
def State.usable (s : State) (q : Nat) : Bool :=
  decide (q < 64) && s.portClass q != 0 && (s.link q).active && (q % 2 == 0 || s.isSplit (q / 2)) &&
  (match Tab.look s.boards q with
   | some b => b.seen
   | none => false)

/-- The usable ports of a mask, lowest first. -/
def State.usableIn (s : State) (m : Nat) : List Nat := (maskList 64 m).filter s.usable

/-! ## Route tables -/

/-- MIN_MASK of an entry (R334). -/
def Route.min (e : Nat) : Nat := bits e 0 0 64
/-- DETOUR_MASK of an entry (R334). -/
def Route.detour (e : Nat) : Nat := bits e 8 0 64

/-- The group-table entry of a group, in the bank of `8120:01` (R335). -/
def State.groupEntry (s : State) (g : Nat) : Nat := s.param (0x810000 + s.param 0x812001 * 1024 + g)

/-- The local-table entry of a local number (R335). -/
def State.localEntry (s : State) (l : Nat) : Nat := s.param (0x811000 + s.param 0x812001 * 256 + l)

/-- The entry of a target (R335). -/
def State.tableEntry (s : State) (t : Nat) : Nat :=
  if devGroup t = devGroup s.deviceId then s.localEntry (devLocal t) else s.groupEntry (devGroup t)

/-- A device is reachable (R337). -/
def State.reachable (s : State) (d : Nat) : Bool :=
  d == s.deviceId || !(s.usableIn (Nat.lor (Route.min (s.tableEntry d)) (Route.detour (s.tableEntry d)))).isEmpty

/-! ## Prices -/

/-- Bytes of packets that wait for an output (R339, R350, R380). -/
def State.waitingBytes (s : State) (out : Nat) (tc : Nat → Bool) : Nat :=
  (s.inputs.filter (fun x => x.outs.contains out && tc x.pkt.tc)).foldl (fun n x => n + Packet.bytes x.pkt) 0

/-- The price of an output (R339). -/
def State.livePrice (s : State) (q : Nat) : Nat := min 255 (s.waitingBytes q (fun t => t ≤ 1) / 512)

/-- A price on the board of a port (R342): 255 from a stale slice. -/
def State.seenPrice (s : State) (q slice at_ : Nat) : Nat :=
  match Tab.look s.boards q with
  | none => 255
  | some b =>
    match Tab.look b.slices slice with
    | none => 255
    | some (img, bell, ok) =>
      if !ok ∨ s.param 0x802001 < (s.bell % 2 ^ 32 + 2 ^ 32 - bell % 2 ^ 32) % 2 ^ 32 then 255 else bits img at_ 0 8

/-- The cost of sending out of a usable port toward a target (R343). -/
def State.cost (s : State) (q t : Nat) : Nat :=
  let n := match Tab.look s.boards q with
    | some b => b.device
    | none => 0
  s.livePrice q +
    (if t = n then 0
     else if devGroup t = devGroup n then s.seenPrice q (devLocal t / 32) (0xD0 + devLocal t % 32)
     else s.seenPrice q (devGroup t / 128) (0x50 + devGroup t % 128))

/-! ## Choosing an output -/

/-- The highest ESC allowed (R343). -/
def escCap (p : Packet) : Nat := if p.tc = 2 then 2 else 3

/-- ESC after a port (R343). -/
def State.escAfter (s : State) (p : Packet) (q : Nat) (detour : Bool) : Nat :=
  p.esc + (if s.portClass q = 2 then 1 else 0) + detour.toNat

/-- The flow hash (R348). -/
def State.flowHash (s : State) (p : Packet) : Nat :=
  crc32c (leBytes 4 p.srcDev ++ leBytes 4 p.destDev ++ leBytes 2 p.flow ++ leBytes 1 p.tc ++ leBytes 1 0 ++ leBytes 4 s.deviceId)

/-- The (h mod k)-th port of a list (R348). -/
def selectPort (m : List Nat) (h : Nat) : Nat := nth m (h % m.length)

/-- A list of ports as a mask. -/
def portsMask (l : List Nat) : Nat := l.foldl (fun m q => m + 2 ^ q) 0

/-- A cheapest port of a list; ties go round among the ports of the set (R343). -/
def State.cheapest (s : State) (m : List Nat) (t : Nat) : Nat × State :=
  let costs := m.map (fun q => (q, s.cost q t))
  let c := costs.foldl (fun a x => min a x.2) 65535
  let tied := (costs.filter (fun x => x.2 == c)).map Prod.fst
  let set := portsMask m
  let q := match Tab.look s.rr set with
    | some last => match tied.find? (fun q => decide (last < q)) with
      | some q => q
      | none => tied.headD 0
    | none => tied.headD 0
  (q, if tied.length ≤ 1 then s else { s with rr := Tab.put s.rr set q })

/-- What the procedure of R343 chooses: a port, whether it is a detour, and the group of a non-minimal path. -/
structure Choice where
  port : Nat
  detour : Bool
  via : Option Nat
  deriving DecidableEq, Repr

/-- The groups that a non-minimal path may lead through (R343): those with a usable port in their entry. -/
def State.viaGroups (s : State) (t : Nat) : List Nat :=
  let lo := 0x810000 + s.param 0x812001 * 1024
  let listed := s.ledger.filter (fun e => decide (lo ≤ e.1 ∧ e.1 < lo + 1024) && !(s.usableIn (Route.min e.2)).isEmpty)
  (listed.map (fun e => e.1 - lo)).filter (fun g => g != devGroup s.deviceId && g != devGroup t)

/-- The best of a number of non-minimal candidates, drawn freely (R343, R344): its cost, group and port. -/
def State.bestVia (s : State) (p : Packet) (groups : List Nat) : Nat → Option (Nat × Nat × Nat) → Option (Nat × Nat × Nat) × State
  | 0, best => (best, s)
  | n + 1, best =>
    if groups.isEmpty then (best, s) else
    let (d, s) := s.draw groups.length
    let v := nth groups d
    let ports := (s.usableIn (Route.min (s.groupEntry v))).filter (fun q => decide (s.escAfter p q false ≤ 3))
    let best := ports.foldl (fun b q =>
      let c := s.cost q (v * 256)
      match b with
      | some (c', _, _) => if c < c' then some (c, v, q) else b
      | none => if c < 511 then some (c, v, q) else none) best
    State.bestVia s p groups n best

/-- A non-minimal path is allowed (R343). -/
def State.nonminAllowed (s : State) (p : Packet) (m : List Nat) : Bool :=
  s.flag 0x801001 && decide (p.tc ≤ 1) && p.mode != 2 && !p.nonmin && p.esc == 0 &&
  devGroup s.deviceId == devGroup p.srcDev && devGroup p.destDev != devGroup s.deviceId && (p.hops == 0 || m.isEmpty) &&
  (p.mode == 0 || m.isEmpty)

/-- The first step of the choice (R343): the cheapest non-minimal way, where it is allowed and cheaper than the minimal ports
`m` by the bias and the factor set. -/
def State.chooseVia (s : State) (p : Packet) (t : Nat) (m : List Nat) : Option Choice × State :=
  if s.nonminAllowed p m then
    let cmin := if m.isEmpty then 511 else m.foldl (fun a q => min a (s.cost q t)) 65535
    match s.bestVia p (s.viaGroups t) (s.param 0x801004) none with
    | (some (c, v, q), s) =>
      if c * s.param 0x801003 / 16 + s.param 0x801002 < cmin then (some { port := q, detour := false, via := some v }, s)
      else (none, s)
    | (none, s) => (none, s)
  else (none, s)

/-- The further steps of the choice (R343): a minimal port, or a detour within the own group. -/
def State.chooseDirect (s : State) (p : Packet) (t : Nat) (m : List Nat) : Option Choice × State :=
  let me := devGroup s.deviceId
  let plain (q : Nat) : Option Choice := some { port := q, detour := false, via := none }
  let (q, s1) := s.cheapest m t
  if !m.isEmpty && p.mode == 0 && !(devGroup t == me && decide (s.param 0x801005 < s.cost q t)) then (plain q, s1)
  else if !m.isEmpty && p.mode != 0 then (plain (selectPort m (s.flowHash p)), s)
  else
    let d := if devGroup t = me then
        (s.usableIn (Route.detour (s.tableEntry t))).filter (fun q => s.portClass q == 1 && decide (s.escAfter p q true ≤ escCap p))
      else []
    if !d.isEmpty then
      if p.mode = 0 then
        let (q, s) := s.cheapest d t
        (some { port := q, detour := true, via := none }, s)
      else (some { port := selectPort d (s.flowHash p), detour := true, via := none }, s)
    else if !m.isEmpty && devGroup t == me then (plain q, s1)
    else (none, s)

/-- The output of a unicast packet that is not for this device (R343): none when it is unroutable. -/
def State.chooseOut (s : State) (p : Packet) (t : Nat) : Option Choice × State :=
  let m := (s.usableIn (Route.min (s.tableEntry t))).filter (fun q => decide (s.escAfter p q false ≤ escCap p))
  match s.chooseVia p t m with
  | (some c, s) => (some c, s)
  | (none, s) => s.chooseDirect p t m

/-! ## Input buffers -/

/-- The first element equal to one given is replaced. -/
def replaceFirst {α : Type} [DecidableEq α] (x y : α) : List α → List α
  | [] => []
  | z :: zs => if z = x then y :: zs else z :: replaceFirst x y zs

/-- The head packet of an input virtual channel: the first that is not wholly on its way out. -/
def State.headOf (s : State) (inp vc : Nat) : Option InPkt :=
  s.inputs.find? (fun x => x.inp == inp && x.vc == vc && (!x.routed || !x.outs.isEmpty))

/-- A packet has left its input buffer: its cells are free and are returned (R352, R395), and the next of its channel is at the
head. -/
def State.freeInput (s : State) (x : InPkt) : State :=
  let s := { s with inputs := s.inputs.erase x }
  let s := match s.headOf x.inp x.vc with
    | some y => { s with inputs := replaceFirst y { y with tick := s.ticks, losses := 0 } s.inputs }
    | none => s
  if x.inp < 64 then
    s.modLink x.inp (fun l =>
      { l with owed := modNth l.owed (2 * x.vc + x.pool) (· + x.cells),
               rxPriv := if x.pool = 0 then modNth l.rxPriv x.vc (· + x.cells) else l.rxPriv,
               rxShared := if x.pool = 0 then l.rxShared else l.rxShared + x.cells })
  else s

/-- A packet that has nothing more to wait for leaves its input buffer. -/
def State.settleInput (s : State) (x : InPkt) : State := if x.outs.isEmpty && x.leaving.isEmpty then s.freeInput x else s

/-- A class of an output that had no packet waiting starts at the output's virtual time (R368, R369). -/
def State.wakeClass (s : State) (out tc : Nat) : State :=
  if s.inputs.any (fun x => x.outs.contains out && x.pkt.tc == tc) then s
  else
    let c := Tab.getD s.sched out Sched.fresh
    { s with sched := Tab.put s.sched out { c with s := modNth c.s tc (fun _ => c.v) } }

/-- A packet is queued for an output: it is marked CE where the bytes of its class that wait there exceed the threshold
(R350). -/
def State.markFor (s : State) (p : Packet) (out : Nat) : Packet × State :=
  if p.tc ≤ 1 ∧ s.param 0x803003 * 1024 < s.waitingBytes out (fun t => t == p.tc) then
    ({ p with ce := true }, s.count Event.ceMarks out 1)
  else (p, s)

/-- A packet of an input waits for its outputs with the header that it leaves with. -/
def State.queueFor (s : State) (x : InPkt) (p : Packet) (outs : List Nat) : State :=
  let s := outs.foldl (fun s o => s.wakeClass o p.tc) s
  { s with inputs := replaceFirst x { x with pkt := p, routed := true, outs := outs, losses := 0 } s.inputs }

/-- The ejection connection that a packet takes: packets of one flow share one (R330, R333). -/
def State.ejectTo (s : State) (p : Packet) : Nat := 64 + s.flowHash p % 4

/-- A packet is discarded at its input and counted. -/
def State.dropInput (s : State) (x : InPkt) (event inst : Nat) : State := (s.freeInput x).count event inst 1

/-- A group packet is replicated (R352): copies travel at ESC 3. -/
def State.replicate (s : State) (x : InPkt) : State :=
  let p := x.pkt
  let e := Tab.num s.mcast p.destQueue
  if !Mcast.valid e then s.dropInput x Event.mcastDiscard x.inp
  else
    let ports := (maskList 64 (Mcast.ports e)).filter (fun q => q != x.inp)
    let (up, down) := ports.partition s.usable
    let s := down.foldl (fun s q => s.count Event.mcastDiscard q 1) s
    let p' := { p with esc := 3 }
    let outs := up ++ (if Mcast.member e then [s.ejectTo p] else [])
    if p.hops ≥ 63 ∧ up ≠ [] then s.dropInput x Event.hopsDiscard x.inp
    else if outs.isEmpty then s.freeInput x
    else s.queueFor x p' outs

/-- A DIRECTED management packet takes its next hop (R324), or has come to its last device. -/
def State.directed (s : State) (x : InPkt) : State :=
  let p := x.pkt
  let i := Packet.ext p 0x30 4 4
  if i = Packet.ext p 0x30 0 4 then s.queueFor x p [s.ejectTo p]
  else
    let out := Packet.ext p 0x34 (6 * i) 6
    if !(s.link out).active then s.dropInput x Event.badPort x.inp
    else if 63 ≤ p.hops then s.dropInput x Event.hopsDiscard x.inp
    else
      let from_ := if x.inp = 64 then 63 else x.inp
      let ext := p.ext - extAt 0x34 (6 * i) 6 out + extAt 0x34 (6 * i) 6 from_ - extAt 0x30 4 4 i + extAt 0x30 4 4 (i + 1)
      s.queueFor x { p with ext := ext } [out]

/-- A packet whose header has reached the Arcade has its output chosen (R343). -/
def State.route (s : State) (x : InPkt) : State :=
  let p := x.pkt
  if groupType p.ptype then s.replicate x
  else if p.mode = 3 then s.directed x
  else
    let p := if p.nonmin ∧ devGroup s.deviceId = p.via then { p with nonmin := false } else p
    let t := if p.nonmin then p.via * 256 else p.destDev
    if p.nonmin = false ∧ t = s.deviceId then
      let (p, s) := s.markFor p (s.ejectTo p)
      s.queueFor x p [s.ejectTo p]
    else if 63 ≤ p.hops then s.dropInput x Event.hopsDiscard x.inp
    else
      match s.chooseOut p t with
      | (none, s) => s.dropInput x Event.unroutable x.inp
      | (some c, s) =>
        let esc := s.escAfter p c.port c.detour
        let p := match c.via with
          | some v => { p with nonmin := true, via := v }
          | none => p
        let (p, s) := s.markFor { p with esc := esc } c.port
        s.queueFor x p [c.port]

/-- A packet is routed under the bank that was in effect when its header reached the Arcade (R336); the bank in effect stays. -/
def State.routeBanked (s : State) (x : InPkt) : State :=
  { (s.setParam 0x812001 x.bank).route x with ledger := s.ledger }

/-- TRANSIT_PACKET (R343): the first packet of an input virtual channel whose output has not been chosen has it chosen. A device
that has not been OPEN carries no packet (R530). -/
def execTransitPacket (inp vc : Nat) (s : State) : Host.Outcome State Fault Refusal :=
  if !s.life.opened then ok s
  else
    match s.inputs.find? (fun x => x.inp == inp && x.vc == vc && !x.routed) with
    | some x => ok (s.routeBanked x)
    | none => ok s

/-- TC3_STALE_DISCARD (R346): a TC3 packet has waited at an input for longer than `8040:02` µs. -/
def execTc3StaleDiscard (inp : Nat) (s : State) : Host.Outcome State Fault Refusal :=
  match s.inputs.find? (fun x => x.inp == inp && x.pkt.tc == 3) with
  | some x => ok (s.atTime (x.clock + nsUnits (s.param 0x804002 * 1000) + 1) (fun s => s.dropInput x Event.tc3Stale inp))
  | none => ok s

/-- ROUTING_STALL (R347): the head of a virtual channel has not moved for `8040:03` bells. -/
def execRoutingStall (inp vc : Nat) (s : State) : Host.Outcome State Fault Refusal :=
  match s.headOf inp vc with
  | some x => ok (if x.tick + s.param 0x804003 ≤ s.ticks then (s.freeInput x).occur FaultCode.routingStall inp 0 else s)
  | none => ok s

/-! ## Boards and ports that fail -/

/-- The board of one slice as this device publishes it (R340, R341). -/
def State.boardImage (s : State) (bell slice : Nat) : Nat :=
  let me := s.deviceId
  let least (e : Nat) : Nat := (s.usableIn (Route.min e)).foldl (fun a q => min a (s.livePrice q)) 255
  let groups := (List.range 128).foldl (fun n i =>
    let g := slice * 128 + i
    n + place (0x50 + i) 0 8 (if g = devGroup me then 0 else least (s.groupEntry g))) 0
  let locals := (List.range 32).foldl (fun n i =>
    let l := slice * 32 + i
    n + place (0xD0 + i) 0 8 (if l = devLocal me then 0 else least (s.localEntry l))) 0
  place 0 0 18 me + place 4 0 32 bell + place 8 0 3 slice +
    (List.range 64).foldl (fun n q => n + place (0x10 + q) 0 8 (s.livePrice q)) 0 + groups + locals

/-- A board has arrived on a port (R329, R342): a change of publisher makes every slice stale. -/
def State.takeBoard (s : State) (q img : Nat) : State :=
  let dev := bits img 0 0 18
  let slice := bits img 8 0 3
  let b := Tab.getD s.boards q { device := dev, seen := false, slices := [] }
  let old := if b.device = dev then b.slices else Tab.map b.slices (fun _ x => (x.1, x.2.1, false))
  { s with boards := Tab.put s.boards q { device := dev, seen := true, slices := Tab.put old slice (img, bits img 4 0 32, true) } }

/-- Cells of a packet (R392). -/
def cellsOf (p : Packet) : Nat := ceilDiv (Packet.bytes p) 64

/-- The debit of a packet that has not begun on its link is taken back (R394: a debit belongs to the flit in which the packet
begins). -/
def Link.undebit (l : Link) (x : Sending) : Link :=
  let vc := x.pkt.tc * 4 + x.pkt.esc
  let c := cellsOf x.pkt
  if x.pool = 0 then { l with priv := modNth l.priv vc (· + c) }
  else { l with shared := l.shared + c, sharedUse := modNth l.sharedUse vc (· - c) }

/-- Packets granted on a port that have not begun to leave wait again (R355); those of mode 3 stay on a link that is ACTIVE. -/
def State.takeBack (s : State) (q : Nat) : State :=
  let l := s.link q
  let (back, stay) := l.queue.partition (fun x => !l.active || x.pkt.mode != 3)
  let s := { s with links := Tab.put s.links q ({ back.foldl Link.undebit l with queue := stay }) }
  back.foldl (fun s x => { s with inputs := s.inputs.map (fun y =>
    if y.id = x.id then { y with leaving := y.leaving.filter (fun o => o != q), outs := y.outs ++ [q] } else y) }) s

/-- Packets that wait for a port that has stopped being usable are routed again as they came (R355); copies of group packets for
it are discarded and counted. -/
def State.portLost (s : State) (q : Nat) : State :=
  let s := if (Tab.look s.links q).isSome then s.takeBack q else s
  (s.inputs.filter (fun x => x.outs.contains q)).foldl (fun s x =>
    if groupType x.pkt.ptype then
      let s := s.count Event.mcastDiscard q 1
      let y := { x with outs := x.outs.filter (fun o => o != q) }
      { s with inputs := replaceFirst x y s.inputs }.settleInput y
    else if x.pkt.mode = 3 ∧ (s.link q).active = true then s
    else { s with inputs := replaceFirst x { x with pkt := x.orig, routed := false, outs := [] } s.inputs }) s

/-- The slices of a port that was not usable before and is now are stale until they come again (R342). -/
def State.staleSlices (s : State) (q : Nat) : State :=
  { s with boards := Tab.mod s.boards q (fun b => { b with slices := Tab.map b.slices (fun _ x => (x.1, x.2.1, false)) }) }

/-- What follows from ports becoming usable or unusable between two states (R342, R355). -/
def State.portsChanged (s : State) (was : List Bool) : State :=
  (List.range 64).foldl (fun s q =>
    if nth was q && !s.usable q then s.portLost q
    else if !nth was q && s.usable q then s.staleSlices q
    else s) s

/-- Which ports are usable. -/
def State.usablePorts (s : State) : List Bool := (List.range 64).map s.usable

/-! ## The Multicast Table -/

/-- An entry of the Multicast Table is replaced (R351, R354): 18 bytes, group number then entry; reserved bits are not kept. -/
def State.mcastPut (s : State) (v : Nat) : State :=
  { s with mcast := Tab.setNum s.mcast (bits v 0 0 16) (bits v 2 0 110) }

end Sys2Proof.Machine
end

