-- ==== Sys2Proof/Machine/Auction.lean ====
section
/-!
DEFINITION. The Auctioneers of the crossbar outputs, the host request paths and the package-memory channels, and the egress
schedulers (R357 to R369).
-/
namespace Sys2Proof.Machine

/-- A bid: its requester in the Auctioneer's fixed order, its own rank and the calls it has lost in a row. -/
structure Bid where
  req : Nat
  rank : Nat
  losses : Nat
  deriving DecidableEq, Repr

/-- The rank of a bid after what it has lost (R360). -/
def Bid.effective (b : Bid) (patience : Nat) : Nat := min 7 (b.rank + b.losses / max 1 patience)

/-- The winner of a call (R359): the highest rank; among equal ones the requester that follows the last winner. -/
def winner (bids : List Bid) (patience last : Nat) : Option Nat :=
  let top := bids.foldl (fun a b => max a (b.effective patience)) 0
  let equal := (bids.filter (fun b => b.effective patience == top)).map Bid.req
  let least (l : List Nat) : Option Nat := l.foldl (fun a x => match a with
    | some y => some (min x y)
    | none => some x) none
  match least (equal.filter (fun r => decide (last < r))) with
  | some r => some r
  | none => least equal

/-! ## Crossbar outputs -/

/-- The credit pool from which a packet is taken on a port (R393): private, else shared within the channel's cap. -/
def State.creditPool (s : State) (q : Nat) (p : Packet) : Option Nat :=
  let l := s.link q
  let vc := p.tc * 4 + p.esc
  let c := cellsOf p
  if c ≤ nth l.priv vc then some 0
  else if c ≤ l.shared ∧ nth l.sharedUse vc + c ≤ 4 * s.openParam 0x804001 then some 1
  else none

/-- Credit is debited for a packet (R393). -/
def State.debit (s : State) (q pool : Nat) (p : Packet) : State :=
  let vc := p.tc * 4 + p.esc
  let c := cellsOf p
  s.modLink q (fun l =>
    if pool = 0 then { l with priv := modNth l.priv vc (· - c) }
    else { l with shared := l.shared - c, sharedUse := modNth l.sharedUse vc (· + c) })

/-- OVERHEAD of an output (R368); an ejection connection has none. -/
def State.outOverhead (s : State) (n : Nat) : Int := if n < 64 then toSigned 64 (s.param ((0x9100 + n) * 256 + 0x0B)) else 0

/-- The charge of a packet at an output (R368). -/
def State.outCharge (s : State) (n : Nat) (p : Packet) : Int := (Packet.bytes p : Int) + s.outOverhead n

/-- A shaper of a port lets its traffic start (R370): class 0 to 3, or 4 for the port. -/
def State.portShaperOpen (s : State) (n cls : Nat) : Bool :=
  let base := (0x9100 + n) * 256
  let rate := s.param (base + (if cls = 4 then 9 else 1 + cls))
  let burst := s.param (base + (if cls = 4 then 10 else 5 + cls))
  rate == 0 || decide (0 ≤ s.bucketLevel (portBucket n cls) burst)

/-- A shaper of a port is charged (R370). -/
def State.chargePort (s : State) (n cls : Nat) (charge : Int) : State :=
  let base := (0x9100 + n) * 256
  let rate := s.param (base + (if cls = 4 then 9 else 1 + cls))
  let burst := s.param (base + (if cls = 4 then 10 else 5 + cls))
  if rate = 0 then s else s.drawBucket (portBucket n cls) rate burst charge

/-- A packet in an input buffer has arrived whole. -/
def InPkt.whole (x : InPkt) : Bool := decide (Packet.bytes x.pkt ≤ x.avail)

/-- A packet of an input may leave on an output now: it has arrived whole where the local path is its output, its shapers let it start (R370), and there is room downstream (R358). -/
def State.mayLeave (s : State) (n : Nat) (x : InPkt) : Bool :=
  x.routed && x.outs.contains n &&
  (n ≥ 64 && InPkt.whole x || n < 64 && (s.usable n || x.pkt.mode == 3) && (s.link n).active && (s.creditPool n x.pkt).isSome &&
    s.portShaperOpen n x.pkt.tc && s.portShaperOpen n 4)

/-- The heads of the input virtual channels that may leave on an output: the bids of a call (R364). -/
def State.outBids (s : State) (n : Nat) : List InPkt :=
  s.inputs.filter (fun x => s.headOf x.inp x.vc == some x && s.mayLeave n x)

/-- The class that the scheduler of an output chooses among those that may leave (R368). -/
def Sched.choose (c : Sched) (classes : List Nat) : Option Nat :=
  let le (a b : BitVec 64) : Bool := decide ((b - a).toNat < 2 ^ 63)
  classes.foldl (fun best t => match best with
    | none => some t
    | some b => if le (nth c.s t) (nth c.s b) then some t else some b) none

/-- A packet leaves an input on an output (R313, R363, R370, R393): to the link, or to the local path. -/
def State.leave (s : State) (n : Nat) (x : InPkt) : State :=
  let charge := s.outCharge n x.pkt
  let s :=
    if n < 64 then
      match s.creditPool n x.pkt with
      | some pool =>
        let s := (s.debit n pool x.pkt).modLink n (fun l => { l with queue := l.queue ++ [{ pkt := { x.pkt with hops := x.pkt.hops + 1 }, pool := pool, id := x.id, avail := x.avail, sent := 0 }] })
        (((s.chargePort n x.pkt.tc charge).chargePort n 4 charge).count Event.forwarded n 1)
      | none => s
    else { s with arrived := s.arrived ++ [x.pkt] }
  let y := { x with outs := x.outs.filter (fun o => o != n), losses := 0, tick := s.ticks,
                    leaving := if n < 64 then x.leaving ++ [n] else x.leaving }
  { s with inputs := replaceFirst x y s.inputs }.settleInput y

/-- A lot goes on with further packets of its holder while the limit, the shapers and the credit let it (R361). -/
def State.lotRest (s : State) (n inp vc tc : Nat) : Nat → State
  | 0 => s
  | k + 1 =>
    match s.headOf inp vc with
    | some x => if s.mayLeave n x && x.pkt.tc == tc then State.lotRest (s.leave n x) n inp vc tc k else s
    | none => s

/-- A call at a crossbar output (R359 to R361, R364, R368): the scheduler chooses a class, the Auctioneer one of its bidders. -/
def State.callOutput (s : State) (n : Nat) : State :=
  let all := s.outBids n
  let c := Tab.getD s.sched n Sched.fresh
  match c.choose ((List.range 4).filter (fun t => all.any (fun x => x.pkt.tc == t))) with
  | none => s
  | some t =>
    let bids := all.filter (fun x => x.pkt.tc == t)
    let req (x : InPkt) : Nat := x.inp * 16 + x.vc + 1
    match winner (bids.map (fun x => ⟨req x, x.pkt.esc, x.losses⟩)) (s.param 0x900002) c.winner with
    | none => s
    | some r =>
      match bids.find? (fun x => req x == r) with
      | none => s
      | some x =>
        let w := max 1 (s.param (0x901001 + t))
        let tag := nth c.s t
        let step := BitVec.ofInt 64 (s.outCharge n x.pkt * 256 / (w : Int))
        let c' : Sched := { v := tag, s := modNth c.s t (· + step), winner := r }
        let s := { s with sched := Tab.put s.sched n c' }
        let s := bids.foldl (fun s y => if y = x then s else
          { s with inputs := replaceFirst y { y with losses := y.losses + 1 } s.inputs }) s
        (s.leave n x).lotRest n x.inp x.vc t (s.param 0x900001 - 1)

/-! ## Host request paths -/

/-- A unit may bid (R58, R59, R77): no earlier unit of its source waits, none of a source whose writes it covers does, and its
function is awake. While the port is THAWING only held entries and what they announce go out (R71). -/
def State.unitReady (s : State) (p : HPort) (before : List HostUnit) (u : HostUnit) : Bool :=
  !before.any (fun v => v.src == u.src || u.after.contains v.src) && !s.asleep u.fn && s.portOpen p

/-- The units of a path that bid, in order of entry. -/
def State.readyUnits (s : State) (p : HPort) : List HostUnit → List HostUnit → List HostUnit
  | _, [] => []
  | before, u :: us => (if s.unitReady p before u then [u] else []) ++ State.readyUnits s p (before ++ [u]) us

/-- Payload bytes of a unit (R361, the table after it): the data of writes and AtomicOps and the bytes that reads request. -/
def HostOp.bytes : HostOp → Nat
  | .write _ d _ => d.length
  | .entry _ _ => 32
  | .read _ _ n => n
  | .flush _ _ => 4
  | .atomic _ _ _ d => d.length
  | .msix _ _ => 4

/-- The first unit of each requester among those that bid. -/
def firstOf : List HostUnit → List Nat → List HostUnit
  | [], _ => []
  | u :: us, seen => if seen.contains u.req then firstOf us seen else u :: firstOf us (u.req :: seen)

/-- A read, flush read or AtomicOp is issued (R74, R81): its clock and its limit are noted. -/
def State.issued (s : State) (tag : Nat) : State :=
  { s with reads := Tab.mod s.reads tag (fun r => { r with at_ := some s.clock, limitUs := s.param 0x203001 }) }

/-- A write of a source has been issued: packets whose last write it was are received (R187). -/
def State.writeIssued (s : State) (src : Source) : State :=
  match src with
  | .stall ctx =>
    let l := s.landing.map (fun x => if x.ctx = ctx then { x with left := x.left - 1 } else x)
    let done := l.filter (fun x => x.ctx == ctx && x.left == 0)
    let s := { s with landing := l.filter (fun x => !(x.ctx == ctx && x.left == 0)) }
    done.foldl (fun s x => s.landed x) s
  | _ => s

/-- A unit goes out on its host port (R97, R365). -/
def State.issueUnit (s : State) (p : HPort) (u : HostUnit) : State :=
  let s := s.setPath p ((s.path p).erase u)
  let i := portNum p
  let s := s.tunePort p (fun h => { h with l1 := false })
  let wrote (s : State) (a : Nat) : State :=
    (s.tunePort p (fun h => { h with dirty := some a })).count Event.bytesWritten i u.op.bytes
  match u.op with
  | .write a _ _ => ((wrote s a).emit (.host p u.op)).writeIssued u.src
  | .entry a img =>
    let s := wrote s a
    let s := if s.flag 0x301001 then
        (s.emit (.host p (.write a (leBytes 28 img) false))).emit (.host p (.write (a + 28) (leBytes 4 (img / 2 ^ 224)) false))
      else s.emit (.host p u.op)
    s.writeIssued u.src
  | .read tag _ n => (((s.issued tag).count Event.bytesRead i n).emit (.host p u.op)).writeIssued u.src
  | .flush tag _ => ((s.issued tag).emit (.host p u.op)).writeIssued u.src
  | .atomic tag a _ _ => ((wrote (s.issued tag) a).emit (.host p u.op)).writeIssued u.src
  | .msix _ _ => (s.emit (.host p u.op)).writeIssued u.src

/-- A lot on a host path goes on with further units of its holder within the limit (R361). -/
def State.hostRest (s : State) (p : HPort) (req left : Nat) : Nat → State
  | 0 => s
  | k + 1 =>
    match (s.readyUnits p [] (s.path p)).find? (fun u => u.req == req) with
    | some u => if u.op.bytes ≤ left then State.hostRest (s.issueUnit p u) p req (left - u.op.bytes) k else s
    | none => s

/-- A call at a host request path (R359 to R361, R365, R366). Time goes on to its free place in the bell. -/
def State.callHost (s : State) (p : HPort) : State :=
  let s := s.later
  let bids := firstOf (s.readyUnits p [] (s.path p)) []
  let last := match p with
    | .A => s.wonA
    | .B => s.wonB
  match winner (bids.map (fun u => ⟨u.req + 1, s.param (0x900103 + u.cls), u.losses⟩)) (s.param 0x900102) last with
  | none => s
  | some r =>
    match bids.find? (fun u => u.req + 1 == r) with
    | none => s
    | some u =>
      let lost := bids.filter (fun v => v != u)
      let s := s.setPath p ((s.path p).map (fun v => if lost.contains v then { v with losses := v.losses + 1 } else v))
      let s := match p with
        | .A => { s with wonA := r }
        | .B => { s with wonB := r }
      (s.issueUnit p u).hostRest p u.req (s.param 0x900101 - u.op.bytes) (s.path p).length

/-! ## Package-memory channels -/

/-- A channel before its first call. -/
def PmemAuction.fresh : PmemAuction := ⟨0, List.replicate 7 0, 0⟩

/-- The accesses of a lot (R361): the first burst whole, then further ones within the limit. -/
def lotAccesses (limit : Nat) : List Nat → Nat → Nat
  | [], n => n
  | b :: bs, n => if n = 0 then lotAccesses limit bs b else if n + b ≤ limit then lotAccesses limit bs (n + b) else n

/-- A call at a package-memory channel (R359 to R361, R367). -/
def State.callPmem (s : State) (ch : Nat) (bids : List PmemBid) : State :=
  if 16 ≤ ch then s else
  let a := Tab.getD s.pmem ch PmemAuction.fresh
  let bids := bids.filter (fun b => decide (b.cls < 7) && !b.bursts.isEmpty)
  match winner (bids.map (fun b => ⟨b.cls + 1, s.param (0x900203 + b.cls), nth a.losses b.cls⟩)) (s.param 0x900202) a.winner with
  | none => s
  | some r =>
    let lot := match bids.find? (fun b => b.cls + 1 == r) with
      | some b => lotAccesses (s.param 0x900201) b.bursts 0
      | none => 0
    let losses := bids.foldl (fun l b => modNth l b.cls (fun n => if b.cls + 1 = r then 0 else n + 1)) a.losses
    { s with pmem := Tab.put s.pmem ch { winner := r, losses := losses, lots := lot } }

/-- AUCTION_CALL (R359). -/
def execAuctionCall (site : AuctionSite) (s : State) : Host.Outcome State Fault Refusal :=
  match site with
  | .output n => ok (if s.life.opened then s.callOutput n else s)
  | .host p => ok (s.callHost p)
  | .pmem ch bids => ok (s.callPmem ch bids)

end Sys2Proof.Machine
end

