-- ==== Sys2Proof/Machine/Link.lean ====
section
/-!
DEFINITION. The link layer (R384 to R415): link states, replay, what every flit carries, the bodies of DATA flits, and the
flit that a sender puts out in a flit time.
-/
namespace Sys2Proof.Machine

/-! ## Link states -/

/-- A health counter of a link, by its subindex (R413), raised. -/
def Link.counted (l : Link) (sub n : Nat) : Link := { l with health := modNth l.health (sub - 1) (· + BitVec.ofNat 64 n) }

/-- A health counter of a port raised (R413). -/
def State.health (s : State) (q sub n : Nat) : State := s.modLink q (fun l => l.counted sub n)

/-- Cells of the shared pool of a port (R392). -/
def State.sharedCells (s : State) (q : Nat) : Nat := if s.isSplit (q / 2) then 1920 else 4992

/-- A link at its entry to ACTIVE (R392, R407, R411); the health counters are kept (R413). -/
def Link.started (l : Link) (shared : Nat) : Link :=
  { Link.fresh with active := true, priv := List.replicate 16 72, shared := shared, rxPriv := List.replicate 16 72,
                    rxShared := shared, health := l.health, crcCount := l.crcCount, crcFrom := l.crcFrom }

/-- A link that is no longer ACTIVE (R411). -/
def Link.stopped (l : Link) : Link :=
  { Link.fresh with health := l.health, crcCount := l.crcCount, crcFrom := l.crcFrom }

/-- The link layer of a port goes ACTIVE (R411); the port is not usable before a board has arrived (R329), and the
time unit measures the link anew (R453). -/
def State.linkUp (s : State) (q : Nat) : State :=
  let s := s.modLink q (fun l => l.started (s.sharedCells q))
  { s with boards := Tab.mod s.boards q (fun b => { b with seen := false }),
           time := { s.time with ports := Tab.mod s.time.ports q (fun (p : TimePort) =>
             { p with sentLog := [], rxSeq := none, echo := none, sampleAt := none }) } }

/-- A packet ends incomplete on every output it had begun to leave on, with an ABORT in the next DATA flit (R355, R390);
one that had not begun there is taken from the output. -/
def State.cutSending (s : State) (id : Nat) : State :=
  { s with links := Tab.map s.links (fun _ (l : Link) =>
      let l := (l.queue.filter (fun x => x.id == id)).foldl Link.undebit l
      let l := { l with queue := l.queue.filter (fun x => x.id != id) }
      match l.tx with
      | some x => if x.id = id then { l with tx := none, abort := true } else l
      | none => l) }

/-- The packet being received on a port ends incomplete: it is discarded and its cells are freed (R390, R411). -/
def State.cutReceiving (s : State) (q : Nat) : State :=
  match (s.link q).rx with
  | none => s
  | some r =>
    let s := s.modLink q (fun l => { l with rx := none })
    match r.id with
    | none => s
    | some id =>
      let s := s.cutSending id
      match s.inputs.find? (fun x => x.id == id) with
      | some x => s.freeInput x
      | none => s

/-- What leaves or waits on a port is lost with its link or waits again (R355, R411). -/
def State.loseSending (s : State) (q : Nat) : State :=
  let s := s.portLost q
  match (s.link q).tx with
  | none => s
  | some x =>
    let s := s.modLink q (fun l => { l with tx := none })
    match s.inputs.find? (fun y => y.id == x.id) with
    | some y =>
      let y' := { y with leaving := y.leaving.filter (fun o => o != q) }
      ({ s with inputs := replaceFirst y y' s.inputs } : State).settleInput y'
    | none => s

/-- The link layer of a port goes INACTIVE (R411): link-down is counted and reported, and what it held is dropped. Cells of
packets that came over it are not returned to the next link, which begins with all of them (R392). -/
def State.dropLink (s : State) (q : Nat) : State :=
  if (s.link q).active then
    let s := s.cutReceiving q
    let s := s.modLink q (fun l => { l with active := false })
    let s := s.loseSending q
    let s := { s with inputs := s.inputs.map (fun (x : InPkt) => if x.inp = q then { x with cells := 0 } else x),
                      boards := Tab.mod s.boards q (fun b => { b with seen := false }) }
    ((s.modLink q Link.stopped).health q 0x0A 1).occur FaultCode.linkDown q 0
  else s

/-! ## Replay -/

/-- A replay of a port starts (R401, R403, R405): every unacknowledged flit is to be resent. Nothing starts when none is
unacknowledged. A limit reached, or a spilled flit that cannot be read, takes the link down. -/
def State.startReplay (s : State) (q : Nat) : State × Bool :=
  let l := s.link q
  match l.kept with
  | [] => (s, false)
  | k :: ks =>
    if (k :: ks).any Kept.bad then (s.occur FaultCode.cellar q 0, true)
    else
      let s := s.modLink q (fun l =>
        ({ l with replay := k :: ks, replays := l.replays + 1, replayFrom := some (k.flit.seq, s.clock) } : Link).counted 4 1)
      (s, decide (s.param 0xA01003 ≤ l.replays + 1))

/-! ## What every flit carries -/

/-- Flits up to an acknowledged sequence are retired; an ACK outside the unacknowledged range is ignored (R400, R403). -/
def Link.acked (l : Link) (a : BitVec 12) : Link :=
  if l.kept.any (fun k => k.flit.seq == a) then
    let gone := l.kept.takeWhile (fun k => k.flit.seq != a)
    let left := l.kept.drop (gone.length + 1)
    { l with kept := left, replays := 0,
             replay := l.replay.filter (fun k => left.any (fun j => j.flit.seq == k.flit.seq)) }
  else l

/-- A number of cells comes back to a virtual channel and pool (R395, R407). -/
def Link.returned (l : Link) (v pool n : Nat) : Link :=
  let l := { l with got := modNth l.got (2 * v + pool) (· + BitVec.ofNat 32 n) }
  if pool = 0 then { l with priv := modNth l.priv v (· + n) }
  else { l with shared := l.shared + n, sharedUse := modNth l.sharedUse v (· - n) }

/-- The ACK, credit and REPLAY_REQ fields of a flit whose CRC passed (R397, R400, R401). True when the link must go down. -/
def State.takeHeader (s : State) (q : Nat) (f : Flit) : State × Bool :=
  let s := s.modLink q (fun l => (l.acked f.ack).returned f.crVc f.crPool f.crCount)
  if f.replayReq then
    let recent := match (s.link q).replayFrom with
      | some (n, t) => n == f.ack + 1 && decide (s.clock < t + nsUnits (s.param 0xA01002))
      | none => false
    if recent then (s, false) else s.startReplay q
  else (s, false)

/-! ## Bodies -/

/-- The bytes of a packet that has not arrived whole, with zeros for those to come. -/
def paddedPacket (d : Bytes) : Packet :=
  let total := 72 + bits (leNat (d.take 64)) 0x0C 0 13
  Packet.ofWire (d ++ List.replicate (total - d.length) 0)

/-- A packet as it leaves, with the payload and trailer of the packet that has arrived. -/
def Packet.filled (p q : Packet) : Packet :=
  { p with payload := q.payload, byteCount := q.byteCount, poison := q.poison, rsv := q.rsv, crc := q.crc }

/-- More bytes of a packet have arrived: they stand in its input buffer, and for the outputs it leaves on. -/
def State.fillPacket (s : State) (id n : Nat) (p : Packet) : State :=
  let grow (x : Sending) : Sending := if x.id = id then { x with pkt := Packet.filled x.pkt p, avail := n } else x
  { s with inputs := s.inputs.map (fun x => if x.id = id then { x with pkt := Packet.filled x.pkt p, orig := p, avail := n } else x),
           links := Tab.map s.links (fun _ (l : Link) => { l with queue := l.queue.map grow, tx := l.tx.map grow }) }

/-- The header of a packet has arrived whole on a port: its cells are allocated (R395) and it stands in the input buffer. None
when the named pool lacks the cells (R396). A device that has not been OPEN discards it (R530). -/
def State.beginPacket (s : State) (q pool : Nat) (p : Packet) : Option (State × Nat) :=
  let l := s.link q
  let c := cellsOf p
  let v := p.tc * 4 + p.esc
  if (if pool = 0 then nth l.rxPriv v else l.rxShared) < c then none
  else if s.life.opened then
    let s := s.modLink q (fun l => if pool = 0 then { l with rxPriv := modNth l.rxPriv v (· - c) } else { l with rxShared := l.rxShared - c })
    let x : InPkt := { inp := q, vc := v, pool := pool, cells := c, pkt := p, routed := false, outs := [], clock := s.clock,
                       tick := s.ticks, losses := 0, orig := p, leaving := [], id := s.pktNum, avail := 0,
                       bank := s.param 0x812001 }
    some ({ s with inputs := s.inputs ++ [x], pktNum := s.pktNum + 1 }, s.pktNum)
  else
    let s := s.modLink q (fun l => { l with owed := modNth l.owed (2 * v + pool) (· + c) })
    some (({ s with pktNum := s.pktNum + 1 } : State).count Event.badPort q 1, s.pktNum)

/-- Bytes that continue the packet being received (R388): the bytes beyond its end, or none at a fault (R391, R396). -/
def State.feed (s : State) (q : Nat) (r : Receiving) (d : Bytes) : Option (State × Bytes) :=
  let data := r.data ++ d
  if data.length < 64 then some (s.modLink q (fun l => { l with rx := some { r with data := data } }), [])
  else
    let p := paddedPacket (data.take (72 + bits (leNat (data.take 64)) 0x0C 0 13))
    if 4096 < p.payload.length then none
    else
      let total := Packet.bytes p
      match (match r.id with
        | some id => some (s, id)
        | none => s.beginPacket q r.pool p) with
      | none => none
      | some (s, id) =>
        let s := s.fillPacket id (min total data.length) p
        let rx := if total ≤ data.length then none else some { r with data := data, id := some id }
        some (s.modLink q (fun l => { l with rx := rx }), data.drop total)

/-- The packets that begin in a body, one after another (R388): bytes to read, POOL bits left, packets still allowed. -/
def State.feedNew (s : State) (q : Nat) : Nat → Nat → Bytes → Option State
  | _, _, [] => some s
  | 0, _, _ => none
  | n + 1, pools, d =>
    match s.feed q { data := [], pool := pools % 2, id := none } d with
    | none => none
    | some (s, rest) => if (s.link q).rx.isSome then some s else State.feedNew s q n (pools / 2) rest

/-- The body of a DATA flit in sequence (R388, R390, R391). None is a protocol or a credit fault. -/
def State.acceptBody (s : State) (q : Nat) (f : Flit) : Option State :=
  let s := if f.abort then (s.cutReceiving q).health q 9 1 else s
  if (240 ≤ f.start ∧ f.start ≠ 255) ∨ 240 < f.fillAt ∨ (f.start ≠ 255 ∧ f.fillAt ≤ f.start) then none
  else
    let fst := f.body.take (if f.start = 255 then f.fillAt else f.start)
    match (match (s.link q).rx with
      | some r => (s.feed q r fst).map Prod.fst
      | none => some s) with
    | none => none
    | some s =>
      if f.start = 255 then some s
      else if (s.link q).rx.isSome then none
      else s.feedNew q 4 f.pool ((f.body.take f.fillAt).drop f.start)

/-! ## The sender -/

/-- The on-die replay capacity of a port (before R404). -/
def State.onDie (s : State) (q : Nat) : Nat := if s.isSplit (q / 2) then 192 else 384

/-- W (R398). -/
def State.sendWindow (s : State) (q : Nat) : Nat := if s.openParam 0xA01004 != 0 then 2048 else s.onDie q

/-- A body under construction (R387 to R389): its bytes, START, POOL, the packets begun, the numbers of those that ended. -/
structure Packing where
  body : Bytes
  start : Nat
  pool : Nat
  begun : Nat
  ended : List Nat
  tx : Option Sending
  queue : List Sending
  deriving DecidableEq, Repr

/-- Bytes that a packet can put into the rest of a body. -/
def Packing.send (k : Packing) (x : Sending) : Packing × Bool :=
  let n := min (240 - k.body.length) (x.avail - x.sent)
  let body := k.body ++ ((Packet.wire x.pkt).drop x.sent).take n
  let x := { x with sent := x.sent + n }
  if Packet.bytes x.pkt ≤ x.sent then ({ k with body := body, tx := none, ended := k.ended ++ [x.id] }, true)
  else ({ k with body := body, tx := some x }, false)

/-- The packets of a queue begin back to back, at most four in a flit (R388, R391). -/
def Packing.fill (k : Packing) : Nat → Packing
  | 0 => k
  | n + 1 =>
    match k.queue with
    | [] => k
    | x :: xs =>
      if 240 ≤ k.body.length then k
      else
        let k' := { k with queue := xs, start := if k.begun = 0 then k.body.length else k.start,
                           pool := k.pool + x.pool * 2 ^ k.begun, begun := k.begun + 1 }
        match k'.send x with
        | (k, true) => Packing.fill k n
        | (k, false) => k

/-- The body of the next DATA flit of a link. -/
def Link.pack (l : Link) : Packing :=
  let k : Packing := { body := [], start := 255, pool := 0, begun := 0, ended := [], tx := l.tx, queue := l.queue }
  match l.tx with
  | some x =>
    match k.send x with
    | (k, true) => k.fill 4
    | (k, false) => k
  | none => k.fill 4

/-- A body of 240 bytes. -/
def body240 (d : Bytes) : Bytes := d ++ List.replicate (240 - d.length) 0

/-- The credit return of the next flit: a virtual channel and pool with cells to return, and how many (R395). -/
def Link.creditNext (l : Link) : Nat × Nat :=
  match (List.range 32).find? (fun i => decide (0 < nth l.owed i)) with
  | some i => (i, min 127 (nth l.owed i))
  | none => (0, 0)

/-- A flit goes out with the ACK, REPLAY_REQ and credit return of the moment (R386, R402). -/
def State.sendFlit (s : State) (q : Nat) (f : Flit) : State :=
  let l := s.link q
  let (i, n) := l.creditNext
  let f := { f with ack := l.expected - 1, replayReq := l.replayReq, crVc := i / 2, crPool := i % 2, crCount := n }
  let s := s.modLink q (fun l => { l with owed := modNth l.owed i (· - n), ret := modNth l.ret i (· + BitVec.ofNat 32 n) })
  s.emit (.flit q f)

/-- A flit without packets: IDLE, or CONTROL with its CTYPE and body. -/
def plainFlit (kind ctype : Nat) (body : Bytes) : Flit :=
  { seq := BitVec.ofNat 12 ctype, ack := 0, kind := kind, replayReq := false, abort := false, start := 0, fillAt := 0, pool := 0,
    crVc := 0, crPool := 0, crCount := 0, body := body240 body }

/-- A control flit is put in line (R410). -/
def State.control (s : State) (q ctype : Nat) (body : Bytes) : State :=
  if (s.link q).active then s.modLink q (fun l => { l with control := l.control ++ [(ctype, body)] }) else s

/-- A flit is kept for replay; one that finds the on-die share full sends the oldest there to the Cellar (R404). -/
def Link.keep (l : Link) (k : Kept) (onDie : Nat) : Link :=
  if countP (fun (x : Kept) => !x.spilled) l.kept < onDie then { l with kept := l.kept ++ [k] }
  else
    match l.kept.find? (fun x => !x.spilled) with
    | some y => ({ l with kept := replaceFirst y { y with spilled := true } l.kept ++ [k] } : Link).counted 6 1
    | none => { l with kept := l.kept ++ [k] }

/-- Packets whose last byte has left are free to leave their input buffers (R352, R395). -/
def State.packetsLeft (s : State) (q : Nat) (ids : List Nat) : State :=
  ids.foldl (fun s id =>
    match s.inputs.find? (fun x => x.id == id) with
    | some x =>
      let y := { x with leaving := x.leaving.filter (fun o => o != q) }
      ({ s with inputs := replaceFirst x y s.inputs } : State).settleInput y
    | none => s) s

/-- A new DATA flit (R386 to R390, R398). -/
def State.sendData (s : State) (q : Nat) (k : Packing) : State :=
  let l := s.link q
  let f : Flit := { seq := l.seq, ack := 0, kind := 0, replayReq := false, abort := l.abort, start := k.start, fillAt := k.body.length,
                    pool := k.pool, crVc := 0, crPool := 0, crCount := 0, body := body240 k.body }
  let kept : Kept := { flit := f, spilled := false, bad := false, sentAt := s.clock }
  let s := s.modLink q (fun l =>
    let l := ({ l with seq := l.seq + 1, tx := k.tx, queue := k.queue, abort := false } : Link).keep kept (s.onDie q)
    l.counted 1 1)
  let s := if l.abort then s.health q 8 1 else s
  let s := { s with ports := Tab.mod s.ports q (fun (t : LanePort) => { t with idle := 0 }) }
  (s.packetsLeft q k.ended).sendFlit q f

/-- A flit of the replay in progress goes out again (R402). -/
def State.resendFlit (s : State) (q : Nat) (k : Kept) : State :=
  let s := s.modLink q (fun l =>
    ({ l with replay := l.replay.drop 1,
              kept := l.kept.map (fun j => if j.flit.seq = k.flit.seq then { j with sentAt := s.clock } else j) } : Link).counted 5 1)
  s.sendFlit q k.flit

end Sys2Proof.Machine
end

