-- ==== Sys2Proof/Machine/Lanes.lean ====
section
/-!
DEFINITION. Lanes and port bring-up (R416 to R444): training, equalisation, lane sets, sparing, and the power states of a
direction.
-/
namespace Sys2Proof.Machine

/-! ## Lanes of a port -/

/-- The training state of a logical port. -/
def State.lport (s : State) (q : Nat) : LanePort := Tab.getD s.ports q LanePort.fresh

/-- The training state of a logical port changed. -/
def State.modPort (s : State) (q : Nat) (f : LanePort → LanePort) : State := { s with ports := Tab.put s.ports q (f (s.lport q)) }

/-- A lane. -/
def State.lane (s : State) (l : Nat) : Lane := Tab.getD s.lanes l Lane.fresh

/-- A lane changed. -/
def State.modLane (s : State) (l : Nat) (f : Lane → Lane) : State := { s with lanes := Tab.put s.lanes l (f (s.lane l)) }

/-- Lanes of a logical port, as a mask of its group's lanes (R416). -/
def State.portMask (s : State) (q : Nat) : Nat :=
  if s.isSplit (q / 2) then (if q % 2 = 0 then 3 else 12) else if q % 2 = 0 then 15 else 0

/-- Lane number of a lane of the group of a port. -/
def laneAt (q i : Nat) : Nat := 4 * (q / 2) + i

/-- Logical port of a lane (R416). -/
def State.laneOwner (s : State) (l : Nat) : Nat := 2 * (l / 4) + (if s.isSplit (l / 4) && 2 ≤ l % 4 then 1 else 0)

/-- Indices of the lanes of a port, lowest first. -/
def State.portLanes (s : State) (q : Nat) : List Nat := maskList 4 (s.portMask q)

/-- A list of lane indices as a mask. -/
def lanesMask (l : List Nat) : Nat := l.foldl (fun m i => m + 2 ^ i) 0

/-- Lanes of a mask of a port for which a test holds. -/
def State.lanesWhere (s : State) (q mask : Nat) (p : Lane → Bool) : List Nat :=
  (s.portLanes q).filter (fun i => bitAt mask i && p (s.lane (laneAt q i)))

/-- Every lane of a mask of a port changed. -/
def State.modLanes (s : State) (q mask : Nat) (f : Lane → Lane) : State :=
  (s.portLanes q).foldl (fun s i => if bitAt mask i then s.modLane (laneAt q i) f else s) s

/-- The part sends something on every lane of a mask of a port. -/
def State.emitLanes (s : State) (q mask stage content : Nat) : State :=
  (s.portLanes q).foldl (fun s i => if bitAt mask i then s.emit (.lane (laneAt q i) stage content) else s) s

/-- Entry grade of a rate (R430). -/
def State.grade (s : State) (rate : Nat) : Nat := s.param (0xB01000 + rate)

/-- Number of lanes of a mask. -/
def widthOf (m : Nat) : Nat := (maskList 4 m).length

/-- The largest width that a number of lanes allows (R416). -/
def widthFor (n : Nat) : Nat := if 4 ≤ n then 4 else if 2 ≤ n then 2 else if 1 ≤ n then 1 else 0

/-! ## Stages -/

/-- A lane that trains anew keeps its counts (R442). -/
def Lane.restarted (l : Lane) : Lane :=
  { Lane.fresh with corrected := l.corrected, uncorrectable := l.uncorrectable, degrades := l.degrades }

/-- A port enters a stage of R421. -/
def State.toStage (s : State) (q : Nat) (t : Train) : State := s.modPort q (fun p => { p with stage := t, since := s.clock })

/-- A port that trains from the beginning: what it knew of its lanes and its peer is dropped. -/
def State.restartPort (s : State) (q : Nat) (t : Train) : State :=
  let s := s.modPort q (fun p => { LanePort.fresh with attempts := p.attempts, orderId := p.orderId, refLane := p.refLane })
  (s.modLanes q 15 Lane.restarted).toStage q t

/-- A port enters DETECT (R421). -/
def State.toDetect (s : State) (q : Nat) : State :=
  if s.portMask q = 0 then s else s.restartPort q .detect

/-- A port enters SIGNON: the sign-on pattern at rate 0 on every lane (R421). -/
def State.toSignon (s : State) (q : Nat) : State := (s.restartPort q .signon).emitLanes q 15 2 0

/-- An attempt has ended without ACTIVE: it is counted, and after `B020:03` in a row a fault is reported (R423). A port that is
looped back or whose peer's SPLIT differs stays where it is, with no fault after the first (R425, R441). -/
def State.attemptFails (s : State) (q : Nat) : State :=
  let n := (s.lport q).attempts + 1
  let limit := s.param 0xB02003
  if (s.lport q).hold != 0 then
    let s := s.modPort q (fun p => { p with attempts := min n (limit + 1), since := s.clock })
    if n = limit then s.occur FaultCode.bringUp q 0 else s
  else
    let s := (s.modPort q (fun p => { p with attempts := if limit ≤ n then 0 else n })).toDetect q
    if limit ≤ n then s.occur FaultCode.bringUp q 0 else s

/-- The link of a port fails (R411, R421): the link layer goes INACTIVE and every lane restarts at sign-on. -/
def State.linkFails (s : State) (q : Nat) : State :=
  if (s.lport q).stage = .active then (s.dropLink q).toSignon q else s.dropLink q

/-- A port group is disabled: its lanes fall silent (R421). -/
def State.portOff (s : State) (q : Nat) : State :=
  if (s.lport q).stage = .off then s
  else
    let s := (s.dropLink q).restartPort q .off
    s.modPort q (fun p => { p with attempts := 0 })

/-- A lifecycle state in which an enabled group trains (R421). -/
def Life.trains : Life → Bool
  | .setup | .open_ | .shutter => true
  | _ => false

/-- The groups follow `B003` (R421): an enabled group whose lanes are silent begins DETECT, a disabled one falls silent. -/
def State.applyGroups (s : State) : State :=
  (List.range 64).foldl (fun s q =>
    if s.flag (0xB00301 + q / 2) then
      if (s.lport q).stage = .off && s.life.trains then s.toDetect q else s
    else s.portOff q) s

/-- The groups whose split comes into effect train anew with their new lanes (R416, R444). -/
def State.applySplit (s : State) : State :=
  (List.range 32).foldl (fun s g =>
    if s.isSplit g then
      let s := s.portOff (2 * g)
      let s := (List.range 4).foldl (fun s i => s.modLane (4 * g + i) Lane.restarted) s
      if s.flag (0xB00301 + g) then (s.toDetect (2 * g)).toDetect (2 * g + 1) else s
    else s) s

/-- A port restarts its training (R421: `B060`). -/
def State.retrain (s : State) (q : Nat) : State := if (s.lport q).stage = .active then s.linkFails q else s

/-- RECEIVER_DETECT (R421): detection runs on each lane; a load on any lane takes the port to SIGNON. -/
def execReceiverDetect (q lanes : Nat) (s : State) : Host.Outcome State Fault Refusal :=
  if (s.lport q).stage = .detect then
    let s := s.emitLanes q 15 1 0
    ok (if (s.portLanes q).any (bitAt lanes) then s.toSignon q else s)
  else ok s

/-- SIGNON_SYMBOLS (R421): in DETECT they take the port to SIGNON; in ACTIVE, on a lane in use, they take the link down. -/
def execSignonSymbols (q lanes : Nat) (s : State) : Host.Outcome State Fault Refusal :=
  let p := s.lport q
  match p.stage with
  | .detect => ok (if (s.portLanes q).any (bitAt lanes) then s.toSignon q else s)
  | .active => ok (if Nat.land lanes p.rxSet ≠ 0 then s.linkFails q else s)
  | _ => ok s

/-! ## Capability records -/

/-- The record of a lane (R424); it carries RATE_GO once the leader has chosen a rate. -/
def State.laneRecord (s : State) (q i : Nat) : Nat :=
  let p := s.lport q
  let go := match p.rateGo with
    | some c => if p.leader then place 0 11 1 1 + place 0 12 2 c else 0
    | none => 0
  let img := place 0 0 2 i + place 0 2 1 (s.isSplit (q / 2)).toNat + place 0 3 1 (s.lane (laneAt q i)).gotRecord.toNat +
    place 0 4 4 (lanesMask (s.lanesWhere q 15 Lane.locked)) + place 0 8 3 (s.param (0xB00201 + q / 2)) + go +
    place 0 16 3 (s.param 0xB01201) + place 0 19 5 (q / 2) + place 4 0 64 Config.serial.toNat + place 0x0C 0 18 s.deviceId
  img + place 0x1C 0 32 (crc32c (leBytes 0x1C img))

/-- Every locked lane sends its record (R421, R424). -/
def State.sendRecords (s : State) (q : Nat) : State :=
  (s.lanesWhere q 15 Lane.locked).foldl (fun s i => s.emit (.lane (laneAt q i) 3 (s.laneRecord q i))) s

/-- COMMA_LOCK (R421, R422): the lane has symbol lock, with its polarity as it must be, and the port goes to EXCHANGE. -/
def execCommaLock (l : Nat) (inverted : Bool) (s : State) : Host.Outcome State Fault Refusal :=
  let q := s.laneOwner l
  let p := s.lport q
  if p.stage = .signon ∨ p.stage = .exchange then
    let s := s.modLane l (fun x => { x with locked := true, inverted := inverted })
    let s := if p.stage = .signon then s.toStage q .exchange else s
    ok (s.sendRecords q)
  else ok s

/-- Coefficients of the presets: magnitudes of pre-cursor and post-cursor (R429). -/
def presetOf : Nat → Nat × Nat
  | 0 => (0, 0)
  | 1 => (0, 8)
  | 2 => (0, 16)
  | 3 => (4, 8)
  | 4 => (4, 16)
  | 5 => (8, 8)
  | 6 => (8, 16)
  | _ => (0, 24)

/-- The highest rate code of a mask, 0 when it is empty (R426). -/
def highestRate (m : Nat) : Nat := if bitAt m 2 then 3 else if bitAt m 1 then 2 else if bitAt m 0 then 1 else 0

/-- Every locked lane shows ACK = 1 at both ends (R421): each has received a record, each shows the peer's ACK, and each lane
that the peer holds locked is among them. -/
def State.exchanged (s : State) (q : Nat) : Bool :=
  let locked := s.lanesWhere q 15 Lane.locked
  let peers := (locked.filter (fun i => (s.lane (laneAt q i)).gotAck)).map (fun i => (s.lane (laneAt q i)).peerLane)
  !locked.isEmpty && locked.all (fun i => (s.lane (laneAt q i)).gotRecord && (s.lane (laneAt q i)).gotAck) &&
    (maskList 4 (s.lport q).peerLocked).all (fun j => peers.contains j)

/-- What a record says of the peer (R424, R425, R429). -/
def State.takeRecord (s : State) (q l r : Nat) : State :=
  let serial := bits r 4 0 64
  let pg := bits r 0 19 5
  let mine := Config.serial.toNat
  let (pre, post) := presetOf (bits r 0 16 3)
  let hold := if serial = mine ∧ pg = q / 2 then 1 else if (bits r 0 2 1 == 1) != s.isSplit (q / 2) then 2 else 0
  let s := s.modLane l (fun x => { x with peerLane := bits r 0 0 2, gotRecord := true, gotAck := bits r 0 3 1 == 1 })
  let s := s.modLanes q 15 (fun x => { x with pre := pre, post := post })
  s.modPort q (fun p =>
    { p with peerSerial := serial, peerRates := bits r 0 8 3, peerLocked := bits r 0 4 4, hold := hold,
             leader := decide (serial < mine) || (decide (serial = mine) && decide (pg < q / 2)) })

/-- A rate has been chosen: both ends change 10 µs after the first frame that says so (R426). -/
def State.chooseRate (s : State) (q code : Nat) : State :=
  (s.modPort q (fun p => { p with rateGo := some code, rateGoAt := s.clock })).toStage q .rate

/-- CAPABILITY_FRAME (R424 to R426): a frame whose CRC fails is ignored. In EXCHANGE, and for a follower in RATE, its RATE_GO is
followed; the leader chooses once the exchange is complete. -/
def execCapabilityFrame (l : Nat) (record : Bytes) (s : State) : Host.Outcome State Fault Refusal :=
  let r := leNat record
  let q := s.laneOwner l
  let st := (s.lport q).stage
  if crc32c (record.take 0x1C) ≠ bits r 0x1C 0 32 ∨ (s.lane l).locked = false then ok s
  else if st = .exchange then
    let s := s.takeRecord q l r
    let p := s.lport q
    if p.hold ≠ 0 then ok (s.sendRecords q)
    else if !p.leader && bits r 0 11 1 == 1 then ok (s.chooseRate q (bits r 0 12 2))
    else if s.exchanged q then
      if p.leader then
        match highestRate (Nat.land (s.param (0xB00201 + q / 2)) p.peerRates) with
        | 0 => ok (s.sendRecords q)
        | code => ok ((s.chooseRate q code).sendRecords q)
      else ok ((s.toStage q .rate).sendRecords q)
    else ok (s.sendRecords q)
  else if st = .rate ∧ (s.lport q).leader = false ∧ (s.lport q).rateGo = none ∧ bits r 0 11 1 = 1 then
    ok (s.chooseRate q (bits r 0 12 2))
  else ok s

/-- RATE_SWITCH (R426): 10 µs after the first frame that carries RATE_GO. -/
def execRateSwitch (q : Nat) (s : State) : Host.Outcome State Fault Refusal :=
  let p := s.lport q
  match p.stage, p.rateGo with
  | .rate, some code =>
    ok (s.atTime (p.rateGoAt + nsUnits 10000) (fun s =>
      (s.modPort q (fun p => { p with rate := code, rateGo := none })).modLanes q 15 (fun x => { x with locked := false })))
  | _, _ => ok s

/-- RATE_LOCK (R421, R430): lanes hold symbol lock at the new rate; training frames are sent and equalisation begins. -/
def execRateLock (q lanes : Nat) (s : State) : Host.Outcome State Fault Refusal :=
  let p := s.lport q
  if (p.stage = .rate ∨ p.stage = .equalise) ∧ p.rate ≠ 0 ∧ p.rateGo = none ∧ (s.portLanes q).any (bitAt lanes) then
    let s := s.modLanes q lanes (fun x => { x with locked := true })
    ok (if p.stage = .rate then (s.toStage q .equalise).emitLanes q 15 5 0 else s)
  else ok s

/-! ## Equalisation -/

/-- A coefficient of a transmitter after a step, or none where the step would leave its range (R428, R430). -/
def Lane.stepped (x : Lane) (e : EqStep) : Option Lane :=
  if e.post then
    if e.up then (if x.post = 0 then none else some { x with post := x.post - 1 })
    else if 24 ≤ x.post then none else some { x with post := x.post + 1 }
  else if e.up then (if x.pre = 0 then none else some { x with pre := x.pre - 1 })
  else if 16 ≤ x.pre then none else some { x with pre := x.pre + 1 }

/-- A lane after a round of equalisation (R430): the step stays only where it raises the FOM. -/
def Lane.judged (x : Lane) (e : EqStep) (grade : Nat) : Lane :=
  match x.stepped e with
  | none =>
    let x := { x with fom := e.fomBefore, stale := x.stale + 1 }
    { x with done := decide (grade ≤ x.fom) && decide (16 ≤ x.stale) }
  | some y =>
    let kept := decide (e.fomBefore < e.fomAfter)
    let z := if kept then { y with fom := e.fomAfter } else { x with fom := e.fomBefore }
    let z := { z with stale := if e.fomBefore + 2 ≤ e.fomAfter then 0 else x.stale + 1 }
    { z with done := decide (grade ≤ z.fom) && decide (16 ≤ z.stale) }

/-- EQ_STEP (R430): a step on a lane that equalises, in EQUALISE or retrained alone (R435). -/
def execEqStep (l : Nat) (e : EqStep) (s : State) : Host.Outcome State Fault Refusal :=
  let q := s.laneOwner l
  let p := s.lport q
  let x := s.lane l
  let alone := p.stage == .active && !bitAt p.txSet (l % 4) && !bitAt p.rxSet (l % 4) && !x.done
  if (p.stage == .equalise && x.locked) || alone then
    let y := x.judged e (s.grade p.rate)
    let y := if alone then { y with done := false } else y
    ok ((s.modLane l (fun _ => y)).emit (.eqAnswer l (x.stepped e).isNone))
  else ok s

/-- No width is possible at this rate (R427): the leader tries it again up to `B020:04` times, then the next lower one; after
rate 1 the port returns to DETECT. -/
def State.equaliseFails (s : State) (q : Nat) : State :=
  let p := s.lport q
  let again := decide (p.rateTries + 1 < s.param 0xB02004)
  let s := s.modLanes q 15 (fun x => { x with locked := false, done := false, stale := 0, fom := 0 })
  if !again && p.rate ≤ 1 then s.attemptFails q
  else
    let code := if again then p.rate else p.rate - 1
    let s := s.modPort q (fun p => { p with rateTries := if again then p.rateTries + 1 else 0, rate := 0 })
    if p.leader then (s.chooseRate q code).sendRecords q else s.toStage q .rate

/-- A port goes ACTIVE on the lanes that are done in both directions (R432, R451): the lowest-numbered make the lane set of each
direction. -/
def State.toActive (s : State) (q done : Nat) : State :=
  let l := maskList 4 done
  let w := widthFor l.length
  let set := lanesMask (l.take w)
  let s := s.modLanes q 15 (fun x => { x with below := 0, blink := false, lostAt := none })
  let s := s.modLanes q (15 - done) (fun x => { x with done := false })
  let s := s.modPort q (fun p =>
    { p with attempts := 0, rateTries := 0, txSet := set, rxSet := set, txP1 := false, rxP1 := false,
             order := none, request := none, switching := none, idle := 0, goodTx := 0, goodRx := 0, refLane := l.headD 0 })
  (s.toStage q .active).linkUp q

/-- EQUALISE_COMPLETE (R430 to R432): every locked lane is done in both directions, or `B020:02` has passed and the lanes that
are not done are excluded. -/
def execEqualiseComplete (q peerDone : Nat) (s : State) : Host.Outcome State Fault Refusal :=
  let p := s.lport q
  if p.stage ≠ .equalise then ok s
  else
    let locked := lanesMask (s.lanesWhere q 15 Lane.locked)
    let done := Nat.land (lanesMask (s.lanesWhere q locked Lane.done)) peerDone
    if done = locked ∧ locked ≠ 0 then ok (s.toActive q done)
    else ok (s.atTime (p.since + nsUnits (s.param 0xB02002 * 1000)) (fun s =>
      if done = 0 then s.equaliseFails q else s.toActive q done))

/-- TRAINING_STAGE_TIMEOUT (R421, R423, R427): a stage has lasted beyond its limit. In EQUALISE a port of which no lane is done
falls back in rate. -/
def execTrainingStageTimeout (q : Nat) (s : State) : Host.Outcome State Fault Refusal :=
  let p := s.lport q
  match p.stage with
  | .off | .active => ok s
  | .equalise =>
    ok (s.atTime (p.since + nsUnits (s.param 0xB02002 * 1000)) (fun s =>
      if (s.lanesWhere q 15 Lane.done).isEmpty then s.equaliseFails q else s))
  | _ => ok (s.atTime (p.since + nsUnits (s.param 0xB02001 * 1000)) (fun s => s.attemptFails q))

/-! ## Lane control in ACTIVE -/

/-- The word of a lane control flit (R433). -/
def orderWord (id dir lanes power reason : Nat) : Nat :=
  place 0 0 8 id + place 0 8 1 dir + place 0 9 3 (widthOf lanes) + place 0 12 4 lanes + place 0 16 1 power + place 0 17 3 reason

/-- ORDER_ID of a word. -/
def Order.id (w : Nat) : Nat := bits w 0 0 8
/-- DIR of a word. -/
def Order.dir (w : Nat) : Nat := bits w 0 8 1
/-- LANES of a word. -/
def Order.lanes (w : Nat) : Nat := bits w 0 12 4
/-- POWER of a word. -/
def Order.p1 (w : Nat) : Bool := bits w 0 16 1 == 1
/-- REASON of a word. -/
def Order.reason (w : Nat) : Nat := bits w 0 17 3

/-- A lane control flit goes out. -/
def State.laneControl (s : State) (q ctype w : Nat) : State := s.control q ctype (leBytes 4 w)

/-- The transmitter of a direction switches (step 3 of R434): a marker on every lane of the old and the new set. -/
def State.switchTx (s : State) (q w : Nat) : State :=
  let p := s.lport q
  let s := s.emit (.marker q (Nat.lor p.txSet (Order.lanes w)))
  s.modPort q (fun p => { p with txSet := Order.lanes w, txP1 := Order.p1 w, idle := 0, goodTx := 0 })

/-- The leader orders a change (R433, R434). One order runs at a time (R441). -/
def State.giveOrder (s : State) (q dir lanes power reason : Nat) : State :=
  let p := s.lport q
  if p.order.isSome ∨ lanes = 0 then s
  else
    let w := orderWord p.orderId dir lanes power reason
    let s := s.modPort q (fun p => { p with order := some w, orderId := (p.orderId + 1) % 256,
                                            switching := if dir = 1 then some w else p.switching })
    let s := s.laneControl q 0x021 w
    if dir = 0 then s.switchTx q w else s

/-- A change that this end wants: the leader orders it, the follower asks for it (R440, R441). -/
def State.wantChange (s : State) (q : Nat) (tx : Bool) (lanes power reason : Nat) : State :=
  let p := s.lport q
  let dir := if p.leader = tx then 0 else 1
  if p.leader then s.giveOrder q dir lanes power reason
  else if lanes = 0 then s
  else
    let w := orderWord 0 dir lanes power reason
    (s.modPort q (fun p => { p with request := some w })).laneControl q 0x020 w

/-- The word of a lane control flit that arrived. -/
def Flit.word (f : Flit) : Nat := leNat (f.body.take 4)

/-- The leader judges a request against the present lane sets (R433, R436, R437, R440, R441): it orders the change or drops the
request. -/
def State.judgeRequest (s : State) (q w : Nat) : State :=
  let p := s.lport q
  let cur := if Order.dir w = 0 then p.txSet else p.rxSet
  let p1 := if Order.dir w = 0 then p.txP1 else p.rxP1
  let lanes := Nat.land (Order.lanes w) (s.portMask q)
  let n := widthOf lanes
  if !p.leader ∨ (lanes = cur ∧ Order.p1 w = p1) ∨ n ≠ widthFor n ∨ n = 0 then s
  else if Order.reason w = 0 then
    s.giveOrder q (Order.dir w) lanes (Order.p1 w).toNat 0
  else if Order.reason w = 2 then (if p1 ∨ n ≠ 1 then s else s.giveOrder q (Order.dir w) lanes 1 2)
  else if Order.p1 w = false then s.giveOrder q (Order.dir w) lanes 0 (Order.reason w)
  else s

/-- A request still stands after an order for its direction that did not answer it (R441). -/
def requestStays (r w : Nat) : Bool := Order.dir r != Order.dir w || (Order.reason r != Order.reason w && Order.lanes r != Order.lanes w)

/-- The follower takes an order (R434, R441). -/
def State.takeOrder (s : State) (q w : Nat) : State :=
  let p := s.lport q
  if p.leader then s
  else
    let s := s.modPort q (fun p => { p with request := p.request.filter (fun r => requestStays r w) })
    if Order.dir w = 1 then s.switchTx q w
    else if p.rxSet = Order.lanes w ∧ p.rxP1 = Order.p1 w then s.laneControl q 0x022 w
    else s.modPort q (fun p => { p with switching := some w })

/-- The receiver of a direction switches on the marker (step 4 of R434). -/
def State.switchRx (s : State) (q : Nat) : State :=
  let p := s.lport q
  match p.switching with
  | none => s
  | some w =>
    let s := s.modPort q (fun p => { p with rxSet := Order.lanes w, rxP1 := Order.p1 w, switching := none, goodRx := 0 })
    if p.leader then s.modPort q (fun p => { p with order := none }) else s.laneControl q 0x022 w

/-- SWITCH_MARKER (R434): the receiver switches lane set. -/
def execSwitchMarker (q lanes : Nat) (s : State) : Host.Outcome State Fault Refusal :=
  let p := s.lport q
  ok (if p.stage = .active ∧ Nat.land lanes p.rxSet ≠ 0 then s.switchRx q else s)

/-! ## Sparing, narrowing and power -/

/-- Lanes of a port that are trained and at the grade: those in use or spare, lowest first. -/
def State.goodLanes (s : State) (q : Nat) : List Nat := s.lanesWhere q 15 (fun x => x.done && !x.degraded)

/-- The lane set of the largest width that the good lanes of a port allow (R432, R437, R439). -/
def State.bestSet (s : State) (q : Nat) : Nat :=
  let l := s.goodLanes q
  lanesMask (l.take (widthFor l.length))

/-- The receive lane set without a degraded lane (R436): a spare in its place where the part may, else the next lower width; from
P1 the direction returns to P0 (after R441). Zero when no lane is left (R438). -/
def State.setWithout (s : State) (q i : Nat) : Nat :=
  let p := s.lport q
  if p.rxP1 then s.bestSet q
  else
    let rest := (maskList 4 p.rxSet).filter (fun j => j != i)
    let spares := (s.goodLanes q).filter (fun j => !bitAt p.rxSet j)
    match spares with
    | j :: _ => if s.flag 0xB01102 ∨ rest = [] then lanesMask (j :: rest) else lanesMask (rest.take (widthFor rest.length))
    | [] => lanesMask (rest.take (widthFor rest.length))

/-- A lane in use is marked degraded, and the change that this asks for is made (R436, R438). -/
def State.degrade (s : State) (l : Nat) : State :=
  let q := s.laneOwner l
  let s := s.modLane l (fun x => { x with degraded := true, done := false, below := 0, blink := false, degrades := x.degrades + 1 })
  s.wantChange q false (s.setWithout q (l % 4)) 0 0

/-- LANE_DEGRADE (R436): below the grade by more than the margin for `B010:05` bells, or a loss of lock that has ended. -/
def execLaneDegrade (l : Nat) (s : State) : Host.Outcome State Fault Refusal :=
  let p := s.lport (s.laneOwner l)
  let x := s.lane l
  if p.stage = .active ∧ bitAt p.rxSet (l % 4) = true ∧ x.degraded = false ∧ (x.blink = true ∨ s.param 0xB01005 ≤ x.below) then
    ok (s.degrade l)
  else ok s

/-- SYMBOL_LOCK_LOST (R411, R419): the lock-loss timer of a lane in use starts. -/
def execSymbolLockLost (l : Nat) (s : State) : Host.Outcome State Fault Refusal :=
  let p := s.lport (s.laneOwner l)
  if p.stage = .active ∧ bitAt p.rxSet (l % 4) = true ∧ (s.lane l).lostAt = none then
    let s := s.later
    ok (s.modLane l (fun x => { x with locked := false, lostAt := some s.clock }))
  else ok s

/-- SYMBOL_LOCK_REGAINED (R412, R436): lock returns before `A010:01` has passed; the lane counts as degraded. -/
def execSymbolLockRegained (l : Nat) (s : State) : Host.Outcome State Fault Refusal :=
  match (s.lane l).lostAt with
  | some t =>
    if s.clock < t + nsUnits (s.param 0xA01001 * 1000) then
      ok (s.modLane l (fun x => { x with locked := true, lostAt := none, blink := true }))
    else ok s
  | none => ok s

/-- LOCK_LOSS_EXPIRY (R411): lock has been lost for `A010:01` on a lane in use. -/
def execLockLossExpiry (l : Nat) (s : State) : Host.Outcome State Fault Refusal :=
  let q := s.laneOwner l
  match (s.lane l).lostAt with
  | some t =>
    if (s.lport q).stage = .active ∧ bitAt (s.lport q).rxSet (l % 4) = true then
      ok (s.atTime (t + nsUnits (s.param 0xA01001 * 1000)) (fun s => s.linkFails q))
    else ok s
  | none => ok s

/-- LANE_RETRAINED (R435): a lane outside every lane set that has reached the grade becomes a spare. -/
def execLaneRetrained (l fom : Nat) (s : State) : Host.Outcome State Fault Refusal :=
  let p := s.lport (s.laneOwner l)
  if p.stage = .active ∧ bitAt p.txSet (l % 4) = false ∧ bitAt p.rxSet (l % 4) = false then
    let good := decide (s.grade p.rate ≤ fom)
    ok (s.modLane l (fun x =>
      if good then { x with fom := fom, locked := true, done := true, degraded := false, below := 0, blink := false, lostAt := none }
      else { x with fom := fom }))
  else ok s

/-- WIDTH_RESTORE (R437): enough lanes have held the grade for `B011:01` bells while a direction ran below its width. -/
def execWidthRestore (q : Nat) (tx : Bool) (s : State) : Host.Outcome State Fault Refusal :=
  let p := s.lport q
  let held := if tx then p.goodTx else p.goodRx
  let cur := if tx then p.txSet else p.rxSet
  let set := s.bestSet q
  if p.stage = .active ∧ (if tx then p.txP1 else p.rxP1) = false ∧ s.param 0xB01101 ≤ held ∧ widthOf cur < widthOf set then
    ok (s.wantChange q tx set 0 1)
  else ok s

/-- P1_IDLE (R440): the transmit direction has sent no DATA flit for `B030:02` bells and may rest. -/
def execP1Idle (q : Nat) (s : State) : Host.Outcome State Fault Refusal :=
  let p := s.lport q
  if p.stage = .active ∧ p.txP1 = false ∧ s.flag 0xB03001 = true ∧ s.param 0xB03002 ≤ p.idle then
    ok (s.wantChange q true (lanesMask ((maskList 4 p.txSet).take 1)) 1 2)
  else ok s

/-- P1_WAKE (R440): a transmitter in P1 that has a lot granted, or more than one flit waiting, asks for P0. -/
def execP1Wake (q : Nat) (s : State) : Host.Outcome State Fault Refusal :=
  let p := s.lport q
  let l := s.link q
  if p.stage = .active ∧ p.txP1 = true ∧ (l.queue ≠ [] ∨ l.tx.isSome = true ∨ 1 < l.replay.length) then
    ok (s.wantChange q true (s.bestSet q) 0 3)
  else ok s

/-! ## The bell task of the lanes -/

/-- Measured figures of merit (R431), and the bells that a lane in use has stood below its grade (R436). -/
def State.adaptLanes (s : State) (foms : List (Nat × Nat)) : State :=
  let s := foms.foldl (fun s e => if (s.lport (s.laneOwner e.1)).stage = .active then
      s.modLane e.1 (fun x => { x with fom := min 400 e.2 }) else s) s
  { s with lanes := Tab.map s.lanes (fun l (x : Lane) =>
      let p := s.lport (s.laneOwner l)
      if p.stage = .active ∧ bitAt p.rxSet (l % 4) = true ∧ x.fom + s.param 0xB01004 < s.grade p.rate then
        { x with below := x.below + 1 }
      else { x with below := 0 }) }

/-- What a port in ACTIVE counts and repeats at a bell boundary (R433, R437, R440); a degraded lane still in use is asked out
again (R436). -/
def State.portBell (s : State) (q : Nat) : State :=
  let p := s.lport q
  if p.stage ≠ .active then s
  else
    let best := widthOf (s.bestSet q)
    let s := s.modPort q (fun p =>
      { p with idle := p.idle + 1,
               goodTx := if !p.txP1 && widthOf p.txSet < best then p.goodTx + 1 else 0,
               goodRx := if !p.rxP1 && widthOf p.rxSet < best then p.goodRx + 1 else 0 })
    let s := match p.order with
      | some w => let s := s.laneControl q 0x021 w
                  if Order.dir w = 0 then s.emit (.marker q (Nat.lor p.txSet (Order.lanes w))) else s
      | none => s
    match p.request with
    | some w => s.laneControl q 0x020 w
    | none =>
      match s.lanesWhere q p.rxSet Lane.degraded with
      | i :: _ => s.wantChange q false (s.setWithout q i) 0 0
      | [] => s

end Sys2Proof.Machine
end

