-- ==== Sys2Proof/Machine/Time.lean ====
section
/-!
DEFINITION. Fabric time (R445 to R471): link measurement, the choice of a root, the servo, steps, the reference and PPS_OUT.
-/
namespace Sys2Proof.Machine

/-! ## Units -/

/-- Picoseconds, in units of 2^-48 s, rounded toward zero. -/
def psUnits (ps : Int) : Int := (ps * 2 ^ 48).tdiv (10 ^ 12)

/-- What the time unit knows of a port. -/
def State.timePort (s : State) (q : Nat) : TimePort := Tab.getD s.time.ports q TimePort.fresh

/-- What the time unit knows of a port, changed. -/
def State.modTimePort (s : State) (q : Nat) (f : TimePort → TimePort) : State :=
  { s with time := { s.time with ports := Tab.put s.time.ports q (f (s.timePort q)) } }

/-- A difference of two stamps modulo 2^80, in units of 2^-48 s (R446). -/
def stampDiff (a b : Nat) : Int := toSigned 80 ((a + 2 ^ 80 - b % 2 ^ 80) % 2 ^ 80)

/-- The asymmetry of a port, `C040` (R454). -/
def State.asym (s : State) (q : Nat) : Int := toSigned 64 (s.param (0xC04001 + q))

/-! ## The choice of a root -/

/-- A root's rank (R455): class, priority, serial. -/
def rootRank (cls prio serial : Nat) : Nat := (cls * 256 + prio) * 2 ^ 64 + serial

/-- This device's class as a candidate (R455): 2 while its reference is in use. -/
def State.ownClass (s : State) : Nat := if s.time.refInUse && s.param 0xC02001 != 0 then 2 else 1

/-- An event fell within the last `C030:06` bells. -/
def State.recent (s : State) (t : Option Nat) : Bool :=
  match t with
  | some t => decide (s.ticks ≤ t + s.param 0xC03006)
  | none => false

/-- Ports on which a root is offered (R456). -/
def State.offers (s : State) : List (Nat × TimePort) :=
  s.time.ports.filter (fun e => s.recent e.2.syncAt && e.2.rootClass != 0 && decide (e.2.distance < 15))

/-- The best rank offered, or this device's own where it is a candidate and better (R455, R456). -/
def State.bestRank (s : State) : Nat :=
  let own := if s.param 0xC01001 = 0 then 0 else rootRank s.ownClass (s.param 0xC01001) Config.serial.toNat
  s.offers.foldl (fun m e => max m (rootRank e.2.rootClass e.2.rootPriority e.2.rootSerial)) own

/-- The time state changes. -/
def State.timeTo (s : State) (t : TimeState) : State := { s with time := { s.time with state := t, lockRun := 0, unlockRun := 0 } }

/-- A device that is no longer the root leaves its reference alone (R458). -/
def TimeUnit.noReference (t : TimeUnit) : TimeUnit := { t with lastEdge := none, refInUse := false, refLost := false, refSeconds := none }

/-- The device chooses its root (R456, R457, R461). -/
def State.elect (s : State) : State :=
  let best := s.bestRank
  let own := decide (s.param 0xC01001 ≠ 0) && best == rootRank s.ownClass (s.param 0xC01001) Config.serial.toNat
  if best = 0 then
    { s with time := { s.time.noReference with isRoot := false, rootSerial := 0, rootPriority := 0, rootClass := 0, distance := 0 } }
  else
    let named := s.offers.filter (fun e => rootRank e.2.rootClass e.2.rootPriority e.2.rootSerial == best)
    let d := named.foldl (fun m e => min m (e.2.distance + 1)) 16
    let t := if own then s.time else s.time.noReference
    let was := s.time.isRoot
    let t := { t with isRoot := own, rootSerial := best % 2 ^ 64, rootPriority := best / 2 ^ 64 % 256, rootClass := best / 2 ^ 72,
                      distance := if own then 0 else d, hadRoot := true, refFrom := if own && !was then t.localTime else t.refFrom }
    let s := { s with time := t }
    if own then (if s.time.state = TimeState.locked then s else s.timeTo .locked)
    else if s.time.state = TimeState.free then s.timeTo .acquire
    else s

/-- Ports sampled within `C030:06` bells whose neighbour advertises the chosen root at a distance (R456, R460). -/
def State.measured (s : State) (d : Nat) : List TimePort :=
  (s.time.ports.filter (fun e => (s.link e.1).active && s.recent e.2.sampleAt && e.2.rootSerial == s.time.rootSerial &&
    e.2.rootClass == s.time.rootClass && e.2.rootPriority == s.time.rootPriority && e.2.rootClass != 0 && e.2.distance == d)).map Prod.snd

/-- The upstream set (R456, R460). -/
def State.upstream (s : State) : List TimePort := if s.time.isRoot ∨ s.time.distance = 0 then [] else s.measured (s.time.distance - 1)

/-- The peer set (R456, R460). -/
def State.peerSet (s : State) : List TimePort := if s.time.isRoot ∨ s.time.distance = 0 then [] else s.measured s.time.distance

/-! ## The servo -/

/-- The bound the device reports (R462). -/
def State.timeBound (s : State) : Nat :=
  let t := s.time
  let b : Nat := match t.state with
    | .locked => if t.isRoot then (if t.refInUse then t.refError.natAbs else 0) else t.e.natAbs + 100 * t.distance
    | .holdover => t.boundAt + (s.ticks - t.holdoverAt) * 953674316 * s.param 0xC03008 / 10 ^ 12
    | _ => 4294967295
  min b 4294967295

/-- The step rules (R464). -/
def State.stepAllowed (s : State) (e : Int) : Bool :=
  decide ((s.param 0xC03001 : Int) * 1000 < (e.natAbs : Int)) &&
  (match s.life with
   | .setup => s.time.state == .free || s.time.state == .acquire || s.time.state == .holdover
   | .open_ | .shutter => decide (0 < e) && s.flag 0xC03007
   | _ => false)

/-- Send-at-time entries whose time a forward step has passed are released and counted as late (R468). -/
def State.releasePassed (s : State) (was : Nat) : State :=
  s.qps.foldl (fun s e =>
    match s.ripe e.1 .waitTime with
    | some (q, w) =>
      if 0 < atAhead w.raw was ∧ atAhead w.raw s.shortTime ≤ 0 then
        (s.count Event.lateRelease (Ctx.stall (s.freshCtx (if q.st then Kind.st else Kind.ct) (fnPort q.fn) (Ent.destDev w.raw) q.tc) e.1) 1).startOp
          e.1 q w
      else s
    | none => s) s

/-- Fabric time moves by a number of units of 2^-48 s at one instant between two boundaries (R465). -/
def State.stepTime (s : State) (units : Int) : State :=
  let was := s.shortTime
  let t : Nat := (((s.time.now : Int) + s.sub * 2 ^ 16 + units).toNat) % 2 ^ 96
  let s := { s with time := { s.time with now := t / 2 ^ 28 * 2 ^ 28 }, sub := t % 2 ^ 28 / 2 ^ 16 }
  if 0 < units then s.releasePassed was else s

/-- The limit of the correction in ps per bell (R448, R460). -/
def State.slewLimit (s : State) : Int := (((s.param 0xC03002 : Int) * 953674).tdiv 1000000)

/-- The error of the servo (R460). -/
def State.servoError (s : State) : Int :=
  if s.time.isRoot then (if s.time.refInUse then s.time.refError else 0)
  else
    let u := s.upstream
    let p := s.peerSet
    let sum (l : List TimePort) : Int := l.foldl (fun a x => a + x.theta) 0
    (2 * sum u + sum p).tdiv (2 * u.length + p.length : Nat)

/-- A step, with the fault that one in OPEN or SHUTTER reports (R464, R465). -/
def State.servoStep (s : State) (e : Int) : State :=
  let s := if s.life = .setup then s else s.occur FaultCode.timeStep 0 0
  s.stepTime (psUnits e)

/-- The error of an update and the runs of updates that it lengthens or ends (R461). -/
def State.servoRuns (s : State) (e : Int) : State :=
  { s with time := { s.time with e := e, emptyRun := 0,
                                 lockRun := if e.natAbs ≤ s.param 0xC03003 then s.time.lockRun + 1 else 0,
                                 unlockRun := if s.param 0xC03005 < e.natAbs then s.time.unlockRun + 1 else 0 } }

/-- An update without a source: the frequency term alone (R460). -/
def State.servoFree (s : State) : State :=
  { s with time := { s.time with c := clampInt (-s.slewLimit) s.slewLimit s.time.f, emptyRun := s.time.emptyRun + 1,
                                 lockRun := 0, unlockRun := 0 } }

/-- The correction of an update that does not step (R460). -/
def State.servoTerms (s : State) (e : Int) : State :=
  let f := s.time.f + e.tdiv 1024
  { s with time := { s.time with f := f, c := clampInt (-s.slewLimit) s.slewLimit (f + e.tdiv 16) } }

/-- An update that steps counts no lock run (R464). -/
def State.noLockRun (s : State) : State := { s with time := { s.time with lockRun := 0 } }

/-- An update with a source and its error: a step where one is allowed, or the correction, with the fault of a time base that is
ahead (R460, R461, R464). -/
def State.servoWith (s : State) (e : Int) : State :=
  if (s.servoRuns e).stepAllowed e then (s.servoRuns e).noLockRun.servoStep e
  else
    let s := (s.servoRuns e).servoTerms e
    if s.life = .open_ ∧ e < 0 ∧ (s.param 0xC03001 : Int) * 1000 < (e.natAbs : Int) then s.occur FaultCode.timeAhead 0 0 else s

/-- One update of the servo (R460, R461, R464). -/
def State.servo (s : State) : State :=
  let s := s.elect
  if !s.time.isRoot && s.upstream.isEmpty then s.servoFree
  else
    let s := if s.time.state = .holdover then s.timeTo .acquire else s
    s.servoWith s.servoError

/-- The clock reaches the next bell boundary (R22, R460, R466): the local time base has advanced by a bell less the correction. -/
def State.nextBoundary (s : State) : State :=
  { s with ticks := s.ticks + 1, sub := 0,
           time := { s.time with now := (s.time.now / 2 ^ 28 + 1) * 2 ^ 28 % 2 ^ 96,
                                 localTime := s.time.localTime + (10 ^ 12 - s.time.c * 2 ^ 20) } }

/-! ## Link exchanges -/

/-- The present instant in units of 2^-48 s; its place below 2^-32 s is free (R446). -/
def State.fineTime (s : State) : Nat × State :=
  let (d, s) := s.draw 65536
  (s.time.now + s.sub * 2 ^ 16 + d, s)

/-- The body of a TIME_SYNC that leaves now (R450, R451), and its departure noted. -/
def State.syncBody (s : State) (q : Nat) : Bytes × State :=
  let (t, s) := s.later.fineTime
  let p := s.timePort q
  let u := s.time
  let st := match u.state with
    | .free => 0
    | .acquire => 1
    | .locked => 2
    | .holdover => 3
  let echo := match p.rxSeq with
    | some n => place 0x0C 16 16 n + place 0x10 0 64 (p.rxTx / 2 ^ 16) + place 0x18 0 16 p.rxTx + place 0x18 16 16 p.rxAt +
        place 0x20 0 64 (p.rxAt / 2 ^ 16)
    | none => 0
  let img := place 0 0 64 (t / 2 ^ 16) + place 8 0 16 t + place 8 16 16 (t / 2 ^ 80) + place 0x0C 0 16 p.sent.toNat + echo +
    place 0x28 0 64 u.rootSerial + place 0x30 0 8 u.rootPriority + place 0x30 8 2 u.rootClass + place 0x30 16 4 u.distance +
    place 0x30 20 2 st + place 0x38 0 64 (s.param (0xC04001 + q))
  (leBytes 240 img, s.modTimePort q (fun p => { p with sent := p.sent + 1, sentLog := ((p.sent.toNat, t % 2 ^ 80) :: p.sentLog).take 64 }))

/-- A sample (R453): the offset of the peer and the one-way delay, in ps. -/
def syncSample (t1 t2 t3 t4 : Nat) (asym : Int) : Int × Nat :=
  let th := ((stampDiff t2 t1 + stampDiff t3 t4) * 10 ^ 12 - asym * 2 ^ 48).tdiv (2 ^ 49)
  let d := ((stampDiff t4 t1 - stampDiff t3 t2) * 10 ^ 12).tdiv (2 ^ 49)
  (th, min d.toNat 4294967295)

/-- A sequence number is newer than the last (R453). -/
def seqNewer (last : Option Nat) (n : Nat) : Bool :=
  match last with
  | none => true
  | some m => let d := (n + 65536 - m % 65536) % 65536
              decide (0 < d ∧ d < 32768)

/-- A TIME_SYNC arrives (R450, R453, R454, R456): what it announces, and a sample where it brings a new echo of a sync that this
port sent. -/
def State.takeSync (s : State) (q r arrival : Nat) : State :=
  let tx := bits r 0 0 64 * 2 ^ 16 + bits r 8 0 16
  let t1 := bits r 0x10 0 64 * 2 ^ 16 + bits r 0x18 0 16
  let t2 := bits r 0x20 0 64 * 2 ^ 16 + bits r 0x18 16 16
  let seq := bits r 0x0C 16 16
  let p := s.timePort q
  let s := s.modTimePort q (fun p =>
    { p with rxSeq := some (bits r 0x0C 0 16), rxTx := tx, rxAt := arrival % 2 ^ 80, syncAt := some s.ticks,
             rootSerial := bits r 0x28 0 64, rootPriority := bits r 0x30 0 8, rootClass := bits r 0x30 8 2,
             distance := bits r 0x30 16 4, state := bits r 0x30 20 2 })
  let s := if toSigned 64 (bits r 0x38 0 64) = -s.asym q then s else s.count Event.asymMismatch q 1
  let s := if seqNewer p.echo seq && p.sentLog.contains (seq, t1) then
      let (th, d) := syncSample t1 t2 tx arrival (s.asym q)
      s.modTimePort q (fun p => { p with echo := some seq, theta := th, delay := d, sampleAt := some s.ticks })
    else s
  s.elect

/-! ## The commands -/

/-- TIME_SYNC (R453). -/
def execTimeSync (q : Nat) (f : Flit) (arrival : Nat) (s : State) : Host.Outcome State Fault Refusal :=
  if (s.link q).active ∧ f.kind = 2 ∧ f.seq = 0x010 then
    let (s, down) := s.takeHeader q f
    ok (if down then s.linkFails q else s.takeSync q (leNat f.body) arrival)
  else ok s

/-- UPSTREAM_SILENT (R461): the upstream set has been empty for `C030:06` bells after a root had been chosen. -/
def execUpstreamSilent (s : State) : Host.Outcome State Fault Refusal :=
  let t := s.time
  if (t.state = .locked ∨ t.state = .acquire) ∧ t.isRoot = false ∧ t.hadRoot = true ∧ s.param 0xC03006 ≤ t.emptyRun then
    ok ({ s with time := { t with boundAt := s.timeBound, holdoverAt := s.ticks } }.timeTo .holdover)
  else ok s

/-- TIME_LOCK (R461): |e| has stayed within `C030:03` for `C030:04` bells, and a member of the upstream set is LOCKED. -/
def execTimeLock (s : State) : Host.Outcome State Fault Refusal :=
  if s.time.state = .acquire ∧ s.param 0xC03004 ≤ s.time.lockRun ∧ s.upstream.any (fun p => p.state == 2) = true then
    ok (s.timeTo .locked)
  else ok s

/-- TIME_UNLOCK (R461): |e| has stood above `C030:05` for 16 bells. -/
def execTimeUnlock (s : State) : Host.Outcome State Fault Refusal :=
  if s.time.state = .locked ∧ s.time.isRoot = false ∧ 16 ≤ s.time.unlockRun then ok (s.timeTo .acquire) else ok s

/-- The signed fraction of a stamp, in ps (R458). -/
def fractionPs (stamp : Nat) : Int := (toSigned 48 (stamp % 2 ^ 48) * 10 ^ 12).tdiv (2 ^ 48)

/-- The seconds count written to `C020:02` is set at an edge, under the step rules (R458, R464). -/
def State.setSeconds (s : State) (stamp : Nat) : State :=
  match s.time.refSeconds with
  | none => s
  | some v =>
    let s := { s with time := { s.time with refSeconds := none } }
    let sec : Int := ((stamp + 2 ^ 47) / 2 ^ 48 : Nat)
    let e := ((v : Int) - sec) * 10 ^ 12
    if s.stepAllowed e then
      let s := if s.life = .setup then s else s.occur FaultCode.timeStep 0 0
      s.stepTime (((v : Int) - sec) * 2 ^ 48)
    else s

/-- A good edge (R458, R459): the reference is in use, and its error is read. -/
def State.goodEdge (s : State) (stamp local_ : Nat) : State :=
  let s := { s with time := { s.time with lastEdge := some local_, refInUse := true, refLost := false, refFrom := s.time.localTime,
                                          refError := fractionPs stamp - toSigned 64 (s.param 0xC02003) } }
  s.setSeconds stamp

/-- PPS_IN_EDGE (R458, R459): only the root uses it. `stamp` is its ftime in 2^-48 s, `local_` its place on the local time base in
ps. An edge that does not come 1 s ± 100 µs after the last one kept is discarded and counted. -/
def execPpsInEdge (stamp local_ : Nat) (s : State) : Host.Outcome State Fault Refusal :=
  if s.time.isRoot = false ∨ s.param 0xC02001 = 0 then ok s
  else
    match s.time.lastEdge with
    | none => ok ({ s with time := { s.time with lastEdge := some local_ } }.setSeconds stamp)
    | some t =>
      if t + 10 ^ 12 ≤ local_ + 10 ^ 8 ∧ local_ ≤ t + 10 ^ 12 + 10 ^ 8 then ok (s.goodEdge stamp local_)
      else ok (s.count Event.ppsDiscard anyUnit 1)

/-- REFERENCE_LOST (R459): 3 s without a good edge; the class falls to 1 and the fault is reported. -/
def execReferenceLost (s : State) : Host.Outcome State Fault Refusal :=
  let t := s.time
  if t.isRoot = true ∧ s.param 0xC02001 ≠ 0 ∧ t.refLost = false ∧ t.refFrom + 3 * 10 ^ 12 * 2 ^ 20 ≤ t.localTime then
    ok (({ s with time := { t with refInUse := false, refLost := true, lastEdge := none } }.elect).occur FaultCode.timeReferenceLost 0 0)
  else ok s

/-- A reference that stays lost is a cause that lasts (R545, R546). -/
def State.referenceHeld (s : State) : State :=
  if s.time.isRoot && s.time.refLost && s.param 0xC02001 != 0 then s.occur FaultCode.timeReferenceLost 0 0 else s

/-- An instant at which the fraction is 0, with the delay of `C060:03` added, falls into the present bell (R470). -/
def State.secondHere (s : State) : Bool :=
  let a := (s.time.now : Int) - psUnits (toSigned 64 (s.param 0xC06003))
  decide ((a - 1).fdiv (2 ^ 48) < (a + 2 ^ 28 - 1).fdiv (2 ^ 48))

/-- PPS_OUT_PULSE (R470). -/
def execPpsOutPulse (s : State) : Host.Outcome State Fault Refusal :=
  let m := s.param 0xC06001
  if s.secondHere ∧ (m = 2 ∨ (m = 1 ∧ (s.time.state = .locked ∨ s.time.state = .holdover))) then
    let s := s.later
    ok { s with time := { s.time with ppsOut := true, ppsEnd := s.clock + nsUnits (s.param 0xC06002 * 1000) } }
  else ok s

/-- PPS_OUT_END (R470): the pulse has run its width. -/
def execPpsOutEnd (s : State) : Host.Outcome State Fault Refusal :=
  if s.time.ppsOut then
    ok (s.atTime s.time.ppsEnd (fun s => { s with time := { s.time with ppsOut := false } }))
  else ok s

end Sys2Proof.Machine
end

