-- ==== Sys2Proof/Machine/Flits.lean ====
section
/-!
DEFINITION. The commands of the link layer: flits that arrive, flit times, replay timers (R386 to R410), and the lane control
flits of R433.
-/
namespace Sys2Proof.Machine

/-- What every flit of an ACTIVE link carries is applied (R397), then its content; a failure takes the link down (R411). -/
def State.onFlit (s : State) (q : Nat) (f : Flit) (content : State → Option State) : State :=
  if (s.link q).active then
    match s.takeHeader q f with
    | (s, true) => s.linkFails q
    | (s, false) =>
      match content s with
      | some s => s
      | none => s.linkFails q
  else s

/-- A control flit of a type whose content is acted on only when it is that. -/
def State.onControl (s : State) (q ctype : Nat) (f : Flit) (content : State → Option State) : State :=
  if f.kind = 2 ∧ f.seq.toNat = ctype then s.onFlit q f content else s

/-- A DATA flit (R399): a duplicate is counted, one ahead of a lost flit asks for a replay, the one expected is accepted. -/
def State.takeData (s : State) (q : Nat) (f : Flit) : Option State :=
  let l := s.link q
  let d := (f.seq - l.expected).toNat
  if 2048 ≤ d then some (s.health q 0x0B 1)
  else if d ≠ 0 then some (s.modLink q (fun l => { l with replayReq := true }))
  else
    let s := s.modLink q (fun l => ({ l with expected := l.expected + 1, replayReq := false } : Link).counted 2 1)
    s.acceptBody q f

/-- DATA_FLIT (R391, R399). KIND = 3 is a protocol fault. -/
def execDataFlit (q : Nat) (f : Flit) (s : State) : Host.Outcome State Fault Refusal :=
  if f.kind = 0 then ok (s.onFlit q f (fun s => s.takeData q f))
  else if f.kind = 3 then ok (s.onFlit q f (fun _ => none))
  else ok s

/-- IDLE_FLIT (R386, R397): only its ACK and credit fields apply. -/
def execIdleFlit (q : Nat) (f : Flit) (s : State) : Host.Outcome State Fault Refusal :=
  ok (if f.kind = 1 then s.onFlit q f some else s)

/-- PRICE_BOARD (R342). -/
def execPriceBoard (q : Nat) (f : Flit) (s : State) : Host.Outcome State Fault Refusal :=
  ok (s.onControl q 0x001 f (fun s =>
    let was := s.usablePorts
    some ((s.takeBoard q (leNat f.body)).portsChanged was)))

/-- One virtual channel and pool of a CREDIT_SYNC (R409): lost cells come back, or the counts cannot be true. -/
def State.syncOne (q : Nat) (body : Nat) (i : Nat) (s : State) : Option State :=
  let lost := (BitVec.ofNat 32 (bits body (4 * i) 0 32) - nth (s.link q).got i).toNat
  if lost < 2 ^ 31 then some (s.modLink q (fun l => (l.returned (i / 2) (i % 2) lost).counted 7 lost)) else none

/-- CREDIT_SYNC (R409). -/
def execCreditSync (q : Nat) (f : Flit) (s : State) : Host.Outcome State Fault Refusal :=
  ok (s.onControl q 0x002 f (fun s => (List.range 32).foldl (fun o i => o.bind (State.syncOne q (leNat f.body) i)) (some s)))

/-- CTYPE values that this part defines (R410, R433, R449). -/
def definedCtype (c : Nat) : Bool := [0x001, 0x002, 0x010, 0x020, 0x021, 0x022].contains c

/-- UNDEFINED_CONTROL_FLIT (R410). -/
def execUndefinedControlFlit (q : Nat) (f : Flit) (s : State) : Host.Outcome State Fault Refusal :=
  ok (if f.kind = 2 ∧ definedCtype f.seq.toNat = false then s.onFlit q f (fun s => some (s.health q 0x0C 1)) else s)

/-- FLIT_CRC_FAILURE (R385, R399, R414): the flit is discarded whole and a replay is asked for; too many failures in the window
report the link as degraded. -/
def execFlitCrcFailure (q : Nat) (s : State) : Host.Outcome State Fault Refusal :=
  let l := s.link q
  if l.active then
    let fresh := decide (l.crcFrom + s.param 0xA02001 ≤ s.ticks) || l.crcCount == 0
    let n := if fresh then 1 else l.crcCount + 1
    let s := s.modLink q (fun l => ({ l with replayReq := true, crcCount := n, crcFrom := if fresh then s.ticks else l.crcFrom } : Link).counted 3 1)
    ok (if n = s.param 0xA02002 + 1 then s.occur FaultCode.linkDegraded q 0 else s)
  else ok s

/-- REPLAY_TIMEOUT (R401): the oldest unacknowledged flit has been outstanding for `A010:02` ns since it was last sent. -/
def execReplayTimeout (q : Nat) (s : State) : Host.Outcome State Fault Refusal :=
  let l := s.link q
  match l.kept with
  | [] => ok s
  | k :: _ =>
    if l.active = false ∨ l.replay.any (fun j => j.flit.seq == k.flit.seq) = true then ok s
    else
      ok (s.atTime (k.sentAt + nsUnits (s.param 0xA01002)) (fun s =>
        match s.startReplay q with
        | (s, true) => s.linkFails q
        | (s, false) => s))

/-- A control flit leaves; a TIME_SYNC (R450) and a CREDIT_SYNC (R408) are filled in at their departure. The RET of a CREDIT_SYNC
counts what its own flit returns. -/
def State.sendControl (s : State) (q : Nat) (c : Nat × Bytes) : State :=
  let s := s.modLink q (fun l => { l with control := l.control.erase c })
  if c.1 = 0x010 then
    let (b, s) := s.syncBody q
    s.sendFlit q (plainFlit 2 c.1 b)
  else if c.1 = 0x002 then
    let l := s.link q
    let (i, n) := l.creditNext
    s.sendFlit q (plainFlit 2 c.1 ((modNth l.ret i (· + BitVec.ofNat 32 n)).flatMap (fun x => leBytes 4 x.toNat)))
  else s.sendFlit q (plainFlit 2 c.1 c.2)

/-- The flit of one flit time (R386): control flits first, those of fabric time before others (R410), then the replay in
progress (R401), then a new DATA flit while fewer than W are unacknowledged (R398), else IDLE. -/
def State.sendNext (s : State) (q : Nat) : State :=
  let l := s.link q
  match l.control.find? (fun c => c.1 / 16 == 1), l.control with
  | some c, _ => s.sendControl q c
  | none, c :: _ => s.sendControl q c
  | none, [] =>
    match l.replay with
    | k :: _ => s.resendFlit q k
    | [] =>
      let k := l.pack
      if l.kept.length < s.sendWindow q ∧ (k.body ≠ [] ∨ l.abort = true) then s.sendData q k
      else s.sendFlit q (plainFlit 1 0 [])

/-- FLIT_TIME (R386). Time goes on to its free place in the bell. -/
def execFlitTime (q : Nat) (s : State) : Host.Outcome State Fault Refusal :=
  ok (if (s.link q).active then s.later.sendNext q else s)

/-- LANE_REQUEST (R433, R441): the leader judges it; one that meets an order in progress is asked again. -/
def execLaneRequest (q : Nat) (f : Flit) (s : State) : Host.Outcome State Fault Refusal :=
  ok (s.onControl q 0x020 f (fun s => some (s.judgeRequest q (Flit.word f))))

/-- LANE_ORDER (R434, R439, R441). -/
def execLaneOrder (q : Nat) (f : Flit) (s : State) : Host.Outcome State Fault Refusal :=
  ok (s.onControl q 0x021 f (fun s => some (s.takeOrder q (Flit.word f))))

/-- LANE_DONE (R433, R434): the order with its ORDER_ID is no longer repeated. -/
def execLaneDone (q : Nat) (f : Flit) (s : State) : Host.Outcome State Fault Refusal :=
  ok (s.onControl q 0x022 f (fun s =>
    let w := Flit.word f
    some (match (s.lport q).order with
      | some o => if Order.id o = Order.id w ∧ (s.lport q).leader = true then s.modPort q (fun p => { p with order := none }) else s
      | none => s)))

end Sys2Proof.Machine
end

