-- ==== Sys2Proof/Machine/Lifecycle.lean ====
section
/-!
DEFINITION. Lifecycle, power and the Shutter (R526 to R544, R577 to R585), and the exits of fault sources (R549, R550).
-/
namespace Sys2Proof.Machine

/-! ## Notices -/

/-- CAN FD data lengths (R510). -/
def fdLength (n : Nat) : Nat :=
  if n ≤ 8 then n else if n ≤ 12 then 12 else if n ≤ 16 then 16 else if n ≤ 20 then 20 else if n ≤ 24 then 24
  else if n ≤ 32 then 32 else if n ≤ 48 then 48 else 64

/-- A frame with its content padded with zeros to a CAN FD length (R510). -/
def lapFrame (ident : Nat) (d : Bytes) : LapFrame :=
  { ident := ident, data := d ++ List.replicate (fdLength d.length - d.length) 0 }

/-- LAP is off: bus address 0 or 127 (R508). -/
def Lap.silent (l : Lap) : Bool := l.addr == 0 || l.addr == 127

/-- The frames of one response, or a notice, wait to be sent (R515). -/
def State.lapQueue (s : State) (frames : List LapFrame) : State :=
  if s.lap.silent then s
  else { s with lap := { s.lap with txq := s.lap.txq ++ frames.map (fun f => ⟨f, s.clock, s.lap.resps⟩), resps := s.lap.resps + 1 } }

/-- A NOTICE (R509, R512). -/
def State.notice (s : State) : State :=
  let img := place 0 0 8 0x10 + place 1 0 8 (Life.code s.life) + place 4 0 32 s.clerk.version + place 8 0 64 Config.serial.toNat +
    place 0x10 0 32 Config.romVersion.toNat
  s.lapQueue [lapFrame (s.param 0xF80001 + 0x100 + s.lap.addr) (leBytes 20 img)]

/-- A lifecycle state is entered; a NOTICE says so (R512, R526). -/
def State.enterLife (s : State) (l : Life) : State := ({ s with life := l } : State).notice

/-! ## Reset -/

/-- The part as it stands when everything is lost: what is kept are the queue of commands, the model's own record and counters,
and the levels that the board drives on PERST and PWRFAIL_N. -/
def State.cleared (s : State) (life : Life) (addr : Nat) : State :=
  { State.reset with
    pending := s.pending, out := s.out, free := s.free, tags := s.tags, life := life, lap := { Lap.fresh addr with resps := s.lap.resps },
    hostA := { HostPort.fresh with perst := s.hostA.perst }, hostB := { HostPort.fresh with perst := s.hostB.perst },
    power := { Power.fresh with pwrfailN := s.power.pwrfailN, pwrfail := s.power.pwrfail } }

/-- Entry to SHUT (R526, R542): what is unfinished is abandoned, and SHUT_DONE is driven high. Transit traffic goes on (R530). -/
def State.toShut (s : State) : State :=
  let s := { s with
    power := { s.power with shutDone := true, openPending := false }, pathA := [], pathB := [], reads := [], landing := [], bench := [],
    shaped := [], parked := [], groupRx := [], misses := [],
    ctxs := Tab.map s.ctxs (fun _ (c : Ctx) => { c with sent := [], msgs := [], rx := [], timer := none }),
    qps := Tab.map s.qps (fun _ (q : Qp) => { q with sq := { q.sq with ents := [] } }) }
  s.enterLife .shut

/-- Reset release (R526, R578): SEALED, with a NOTICE; PWRFAIL_N low takes the part on to SHUT. -/
def State.resetReleased (s : State) (addr : Nat) : State :=
  let s := (s.cleared .sealed addr).notice
  if s.power.pwrfail then s.toShut else s

/-- A device reset (R526): every parameter takes its power-up value and the boot ROM runs again. The fault log is kept (the table
after R550). -/
def State.deviceReset (s : State) : State :=
  let c := s.resetReleased s.lap.addr
  { c with beadle := { c.beadle with log := s.beadle.log } }

/-- RESET_RELEASE (R508, R526, R578, R579): withheld while TEST_MODE is high or an order violation is latched. -/
def execResetRelease (maddr : Nat) (testMode : Bool) (s : State) : Host.Outcome State Fault Refusal :=
  ok (if s.life = .dark ∧ testMode = false ∧ s.power.violation = false then s.resetReleased maddr else s)

/-- ORDER_VIOLATION (R578). -/
def execOrderViolation (s : State) : Host.Outcome State Fault Refusal :=
  ok (if s.life = .dark then { s with power := { s.power with violation := true } } else s)

/-- The part goes DARK and everything is lost (R526); an order violation that was latched is cleared with the core rails (R578). -/
def State.goDark (s : State) : State := s.cleared .dark 0

/-- RAIL_OUT_OF_RANGE (R526). -/
def execRailOutOfRange (s : State) : Host.Outcome State Fault Refusal := ok s.goDark

/-- REFCLK_STOP (R578): for more than 10 µs; handled as a rail that leaves its range. -/
def execRefclkStop (s : State) : Host.Outcome State Fault Refusal := ok s.goDark

/-- PMEM_READY (R531, step 4). -/
def execPmemReady (s : State) : Host.Outcome State Fault Refusal :=
  ok (if s.life = .dark then s else { s with clerk := { s.clerk with pmemReady := true } })

/-- AGENTS_READY (R531, step 8, R532). -/
def execAgentsReady (s : State) : Host.Outcome State Fault Refusal :=
  ok (if s.life = .dark ∨ s.life = .sealed then s else { s with clerk := { s.clerk with agentsReady := true } })

/-! ## Opening -/

/-- The open conditions hold (R526, R527). -/
def State.mayOpen (s : State) : Bool :=
  s.life == .setup && s.power.openPending && (!s.flag 0xE00002 || s.time.state == .locked)

/-- The price-board slice of a bell goes out on every ACTIVE link of a device that has been OPEN (R28, R341, R529). -/
def State.publishBoards (s : State) (bell : Nat) : State :=
  let img := leBytes 240 (s.boardImage bell (bell % 8))
  (List.range 64).foldl (fun s q => s.control q 0x001 img) s

/-- The part enters OPEN (R34, R495, R526): the rw-setup values are read, the Device Store is cleared, price boards start, and
what waited for OPEN goes on. -/
def State.enterOpen (s : State) : State :=
  let s := { s with power := { s.power with entered := true, openPending := false }, store := [], storePoison := [] }
  let s := s.enterLife .open_
  let s := s.applySplit.publishBoards s.bell
  ((s.fnsOn .A) ++ (s.fnsOn .B)).foldl (fun s fn => s.resumeFn fn) s

/-- ENTER_OPEN (R526, R527): at a bell boundary. -/
def execEnterOpen (s : State) : Host.Outcome State Fault Refusal :=
  ok (if s.mayOpen ∧ s.sub = 0 then s.enterOpen else s)

/-- An open request (R527): outside SETUP there is nothing to open. -/
def State.askOpen (s : State) : State :=
  if s.life = .setup then { s with power := { s.power with openPending := true } } else s

/-! ## The Shutter -/

/-- An entry is durable (R537, R539). -/
def Wqe.durable (w : Wqe) : Bool := Ent.opcode w.raw == 6 || Ent.opcode w.raw == 7

/-- A send queue in the Shutter keeps its started durable entries: the others complete never (R538, R539). -/
def Sq.shuttered (q : Sq) : Sq :=
  { q with ents := q.ents.filter (fun w => w.durable && (w.stage == .started || w.stage == .done)) }

/-- A context in the Shutter keeps durable messages and answers, and the packets of those (R538, R539). -/
def Ctx.shuttered (c : Ctx) : Ctx :=
  let keep := c.msgs.filter (fun m => m.reply || m.ptype == 6 || m.ptype == 7)
  let sent := c.sent.filter (fun p => keep.any (fun m => m.id == p.id))
  { c with msgs := keep, sent := sent, timer := if sent.isEmpty then none else c.timer }

/-- Entry to SHUTTER (R524, R538): nothing further starts, a pending changeover is cancelled, tree nodes go BROKEN, and only durable
work runs on. -/
def State.enterShutter (s : State) : State :=
  let s := s.enterLife .shutter
  let s := if s.clerk.switchBell.isSome then { s with clerk := { s.clerk with switchBell := none, switchResult := 4 } } else s
  let s := (Tab.keys s.trees).foldl (fun s t => s.breakTree t) s
  let s := { s with qps := Tab.map s.qps (fun _ (q : Qp) => { q with sq := Sq.shuttered q.sq }),
                    ctxs := Tab.map s.ctxs (fun _ c => Ctx.shuttered c) }
  (Tab.keys s.qps).foldl (fun s q => s.retireSq q 65536) s

/-- PWRFAIL_N_FALL (R536): the pin is low; the filter runs. -/
def execPwrfailNFall (s : State) : Host.Outcome State Fault Refusal :=
  if s.power.pwrfailN then ok s
  else
    let s := s.later
    ok { s with power := { s.power with pwrfailN := true, fallAt := s.clock } }

/-- PWRFAIL_LOW (R526, R536): PWRFAIL_N has stayed low for 2 µs. -/
def execPwrfailLow (s : State) : Host.Outcome State Fault Refusal :=
  if s.power.pwrfailN = true ∧ s.power.pwrfail = false then
    ok (s.atTime (s.power.fallAt + nsUnits 2000) (fun s =>
      let s := { s with power := { s.power with pwrfail := true } }
      match s.life with
      | .sealed | .setup => s.toShut
      | .open_ => s.enterShutter
      | _ => s))
  else ok s

/-- PWRFAIL_N_RISE (R536): a pulse shorter than the filter is ignored and counted. -/
def execPwrfailNRise (s : State) : Host.Outcome State Fault Refusal :=
  if s.power.pwrfailN then
    let s := s.later
    let p := s.power
    ok { s with power := { p with pwrfailN := false, pwrfail := false, riseAt := if p.pwrfail then s.clock else p.riseAt,
                                  glitches := if p.pwrfail ∨ s.life = .dark then p.glitches else p.glitches + 1 } }
  else ok s

/-- Durable entries or durable messages remain (R541). -/
def State.durableLeft (s : State) : Bool :=
  s.qps.any (fun e => e.2.sq.ents.any Wqe.durable) ||
  s.ctxs.any (fun e => e.2.rx.any (fun m => m.ptype == 6 && m.failed.isNone)) ||
  s.groupRx.any (fun e => e.2.ptype == 7)

/-- The drain's flush read on a port that has been written (R541), after everything that still bids on it. -/
def State.drainFlush (s : State) (p : HPort) : State :=
  match (s.port p).dirty with
  | none => s
  | some a =>
    let after := ((s.path p).map HostUnit.src).eraseDups
    (s.hostFlush (portPf p) 0 0 .clerk after a (.drain p)).tunePort p (fun h => { h with dirty := none })

/-- DRAIN_DONE (R541): once no durable work remains the flush reads are issued; once they have completed the part enters SHUT. -/
def execDrainDone (s : State) : Host.Outcome State Fault Refusal :=
  if s.life ≠ .shutter ∨ s.durableLeft = true then ok s
  else if s.power.flushed then
    ok (if s.reads.any (fun r => match r.2.for_ with | .drain _ => true | _ => false) then s else s.toShut)
  else
    let s := { s with power := { s.power with flushed := true } }
    let s := (s.drainFlush .A).drainFlush .B
    ok (if s.reads.any (fun r => match r.2.for_ with | .drain _ => true | _ => false) then s else s.toShut)

/-- DRAIN_LIMIT (R542): `E020:03` µs have passed since PWRFAIL_N fell; what is unfinished is abandoned and counted. -/
def execDrainLimit (s : State) : Host.Outcome State Fault Refusal :=
  if s.life = .shutter then
    ok (s.atTime (s.power.fallAt + nsUnits (s.openParam 0xE02003 * 1000)) (fun s =>
      let n := s.qps.foldl (fun n e => n + countP Wqe.durable e.2.sq.ents) 0
      ({ s with power := { s.power with abandoned := s.power.abandoned + n } } : State).toShut))
  else ok s

/-- AUTO_RESTART (R526, R528): PWRFAIL_N has been high for `E020:05` ms, with `E020:04` = 1. -/
def execAutoRestart (s : State) : Host.Outcome State Fault Refusal :=
  if s.life = .shut ∧ s.power.pwrfailN = false ∧ s.flag 0xE02004 = true then
    ok (s.atTime (s.power.riseAt + nsUnits (s.param 0xE02005 * 1000000)) State.deviceReset)
  else ok s

/-! ## Power and temperature -/

/-- The average input power in mW (R534). -/
def Power.average (p : Power) : Nat := p.samples.foldl (· + ·) 0 / max 1 p.samples.length

/-- The throttle level in force (R534, R585). -/
def Power.level (p : Power) : Nat := if p.hold then 12 else p.throttle

/-- The cap in mW, none when `E010:01` is 0 (R534). -/
def State.capMw (s : State) : Option Nat := if s.param 0xE01001 = 0 then none else some (s.param 0xE01001 * 1000)

/-- The average stands above the cap (R534). -/
def State.aboveCap (s : State) : Bool :=
  match s.capMw with
  | some c => decide (c < s.power.average)
  | none => false

/-- The average stands below the cap less the hysteresis, or there is no cap (R534). -/
def State.belowCap (s : State) : Bool :=
  match s.capMw with
  | some c => decide (s.power.average + s.param 0xE01002 * 1000 < c)
  | none => true

/-- THROTTLE_CHANGE (R534): at most one change in 1,024 bells. -/
def execThrottleChange (s : State) : Host.Outcome State Fault Refusal :=
  let p := s.power
  let free := match p.throttleAt with
    | some t => decide (t + 1024 ≤ s.ticks)
    | none => true
  if !free || !s.onTime 15 then ok s
  else if s.aboveCap ∧ p.throttle < 12 then ok { s with power := { p with throttle := p.throttle + 1, throttleAt := some s.ticks } }
  else if s.belowCap ∧ 0 < p.throttle then ok { s with power := { p with throttle := p.throttle - 1, throttleAt := some s.ticks } }
  else ok s

/-- The highest sensor reading, in millidegrees. -/
def Power.hottest (p : Power) : Option Int :=
  p.tempsMc.foldl (fun a x => match a with
    | some y => some (max x y)
    | none => some x) none

/-- A sensor reads above a limit. -/
def Power.above (p : Power) (mc : Int) : Bool := p.tempsMc.any (fun x => decide (mc < x))

/-- THERMAL_HOLD (R585): a sensor has read 113 °C or more for 8 bells in a row. -/
def execThermalHold (s : State) : Host.Outcome State Fault Refusal :=
  ok (if 8 ≤ s.power.hotRun then { s with power := { s.power with hold := true } } else s)

/-- THERMAL_RELEASE (R585): every sensor reads 108 °C or less. -/
def execThermalRelease (s : State) : Host.Outcome State Fault Refusal :=
  ok (if s.power.above 108000 then s else { s with power := { s.power with hold := false } })

/-- The junction is above `E100:04` (R545). -/
def State.tooHot (s : State) : Bool := s.power.above (s.param 0xE10004 * 1000 : Nat)

/-- THERMAL_LIMIT_EXCEEDED (R545, R546): the first appearance; it recurs at every boundary while it lasts. -/
def execThermalLimitExceeded (s : State) : Host.Outcome State Fault Refusal :=
  let r := Tab.getD s.beadle.sources (FaultCode.thermal * 256) FaultRec.fresh
  ok (if s.tooHot ∧ r.active = false then s.occur FaultCode.thermal 0 0 else s)

/-! ## Exits of fault sources -/

/-- QUIET_PERIOD_EXIT (R549): the source has made no occurrence in the last `E100:01` bells. -/
def execQuietPeriodExit (source : Nat) (s : State) : Host.Outcome State Fault Refusal :=
  let r := Tab.getD s.beadle.sources source FaultRec.fresh
  ok (if r.active = true ∧ r.lastTick + s.param 0xE10001 < s.ticks ∧ s.onTime 15 = true then { s with beadle := s.beadle.exit source } else s)

/-- Activations ended early by software (R550): one source, or all of them. -/
def State.clearSources (s : State) (v : Nat) : State :=
  if v = 0xFFFF then { s with beadle := (Tab.keys s.beadle.sources).foldl Beadle.exit s.beadle }
  else { s with beadle := s.beadle.exit v }

end Sys2Proof.Machine
end

