-- ==== Sys2Proof/Machine/Tally.lean ====
section
/-!
DEFINITION. The Tally at the bell (R562, R563) and its dumps to host memory (R564 to R567).
-/
namespace Sys2Proof.Machine

/-- A set of numbers as a bit map of `n` bytes. -/
def bitMap (n : Nat) (l : List Nat) : Bytes :=
  leBytes n ((l.eraseDups.filter (fun i => decide (i < 8 * n))).foldl (fun m i => m + 2 ^ i) 0)

/-- The 512 counters of a set, u64 each (R557, R565). -/
def tallyImage (t : Tab Nat) : Bytes := (List.range 512).flatMap (fun n => leBytes 8 (Tab.num t n))

/-- Bytes 0x40 to 0x1FFF of a dump record (R565). -/
def State.dumpBody (s : State) (counts : Tab Nat) : Bytes :=
  let sample (first n size : Nat) : Bytes := (List.range n).flatMap (fun i => leBytes size (Tab.num s.samples (first + i)))
  tallyImage counts ++ sample 0 68 40 ++ sample 68 2 16 ++ sample 128 64 16 ++ bitMap 64 s.tally.wraps ++
    (List.range 16).flatMap (fun d => leBytes 8 (Tab.num s.tally.overruns (d + 1))) ++ List.replicate 64 0

/-- Bytes 0x00 to 0x0F of a dump record (R565). -/
def State.dumpHead (s : State) (bell : Nat) : Bytes :=
  leBytes 16 (place 0 0 64 bell + place 8 0 16 s.tally.pi.toNat + place 8 16 16 s.tally.missed +
    place 0x0C 31 1 (phaseOf s.tally.pi (s.param 0xF01002)))

/-- A dump is due at a boundary (R564): the counters are those latched there. One that falls due while the last is still to be
made is skipped (R567). -/
def State.dumpDue (s : State) : State :=
  if s.flag 0xF01006 = true ∧ s.bell % s.param 0xF01003 = 0 then
    match s.tally.due with
    | some _ => { s with tally := { s.tally with missed := min 65535 (s.tally.missed + 1) } }
    | none => { s with tally := { s.tally with due := some (s.bell, s.tally.latched) } }
  else s

/-- The ring is full, the last record is still being written, or the function can issue no request (R77, R567). -/
def State.dumpBlocked (s : State) : Bool :=
  let fn := s.param 0xF01004
  decide (2 ^ s.param 0xF01002 ≤ ringUsed s.tally.pi s.tally.ci) || !s.awake fn || !s.fnExists fn ||
  (s.path (fnPort fn)).any (fun u => u.src == Source.tally)

/-- One write of a dump record: a request of the queue engine's class (R564). -/
def State.dumpWrite (s : State) (addr : Nat) (data : Bytes) : State :=
  s.hostWrite (s.param 0xF01004) 1 0 .tally addr data false none

/-- A dump record is written, its header last (R564 to R566), and the wrap map is cleared. -/
def State.dump (s : State) (bell : Nat) (counts : Tab Nat) : State :=
  let base := s.param 0xF01001 + s.tally.pi.toNat % 2 ^ s.param 0xF01002 * 8192
  let body := s.dumpBody counts
  let s' := (((s.dumpWrite (base + 0x40) (body.take 0xFC0)).dumpWrite (base + 0x1000) (body.drop 0xFC0)).dumpWrite (base + 0x10)
    (List.replicate 48 0)).dumpWrite base (s.dumpHead bell)
  { s' with tally := { s'.tally with pi := s'.tally.pi + 1, missed := 0, wraps := [] } }

/-- TALLY_DUMP (R564 to R567): the record of the dump that is due is written, or skipped and counted. A device with no host port in
use dumps nothing. -/
def execTallyDump (s : State) : Host.Outcome State Fault Refusal :=
  match s.tally.due with
  | none => ok s
  | some (bell, counts) =>
    if !s.onTime 16 then ok s
    else
    let s := { s with tally := { s.tally with due := none } }
    if s.flag 0xF01006 = false ∨ (s.hostA.state = .reset ∧ s.hostB.state = .reset) then ok s
    else if s.dumpBlocked then ok { s with tally := { s.tally with missed := min 65535 (s.tally.missed + 1) } }
    else ok (s.dump bell counts)

/-- The latch of the counters at a bell boundary (R562); each counter may raise an event again (R563). -/
def State.tallyLatch (s : State) : State := { s with tally := { s.tally with latched := s.tally.counts, raised := [] } }

/-- `F010:06` is written (R564): PI and CI begin at 0 when dumps are enabled; a dump still due when they are disabled is not made. -/
def State.setDumpEnable (s : State) (v : Nat) : State :=
  let s' := s.setParam 0xF01006 v
  if v ≠ 0 ∧ s.flag 0xF01006 = false then { s' with tally := { s'.tally with pi := 0, ci := 0, due := none } }
  else if v = 0 then { s' with tally := { s'.tally with due := none } }
  else s'

end Sys2Proof.Machine
end

