-- ==== Sys2Proof/Machine/Ledger.lean ====
section
/-!
DEFINITION. The Ledger: what a parameter reads as (R442, R443, R471, R489, R498, R525, R544, R554, R556, R569, R588), whether an
access is admitted (R491 to R497, R532), what a write does, staged writes (R31, R32), and configuration images (R499 to R502).
-/
namespace Sys2Proof.Machine

/-! ## Values that report live state -/

/-- STAGE codes (R442). -/
def Train.code : Train → Nat
  | .off => 0 | .detect => 1 | .signon => 2 | .exchange => 3 | .rate => 4 | .equalise => 5 | .active => 6

/-- The parameters that exist in the lifecycle state (R494). -/
def State.ledgerRows (s : State) : List Param := if s.life = .sealed then Param.rows.filter (·.boot) else Param.rows

/-- `0000:02` (R525). -/
def State.ledgerCount (s : State) : Nat := s.ledgerRows.foldl (fun n r => n + Param.count r) 0

/-- The first 16 bytes of a descriptor (R498). -/
def State.descriptorHead (s : State) (r : Param) (addr : Nat) : Nat :=
  place 0 0 24 addr + place 0 24 8 (PType.code r.ty) + place 4 0 16 (PType.bytes r.ty) + place 4 16 8 (Right.code r.right) +
  place 4 24 8 r.effect + place 8 0 32 ((Param.first s.ledgerRows (addr + 1)).getD 0xFFFFFFFF)

/-- The status of a logical port (R443). -/
def State.portStatus (s : State) (q : Nat) : Nat :=
  let p := s.lport q
  Train.code p.stage + p.rate % 4 * 8 + (if p.leader then 32 else 0) + widthOf p.txSet * 64 + widthOf p.rxSet * 512 +
  (if p.txP1 then 4096 else 0) + (if p.rxP1 then 8192 else 0) + p.hold % 4 * 16384

/-- The status of a lane (R442). -/
def State.laneStatus (s : State) (l : Nat) : Nat :=
  let p := s.lport (s.laneOwner l)
  let x := s.lane l
  let used := bitAt p.txSet (l % 4) || bitAt p.rxSet (l % 4)
  place 0 0 9 x.fom + place 0 9 3 (Train.code p.stage) + place 0 14 2 p.rate + place 0 16 1 (if x.degraded then 1 else 0) +
  place 0 17 1 (if used then 1 else 0) + place 0 18 1 (if p.stage == .active && x.done && !used then 1 else 0) +
  place 0 19 1 (if x.inverted then 1 else 0) + place 0 20 2 x.peerLane

/-- The FIR of a lane (R428, R442). -/
def Lane.fir (x : Lane) : Nat := place 0 0 5 x.pre + place 0 8 7 (64 - x.pre - x.post) + place 0 16 5 x.post

/-- Values of the Clerk's own domain (R525). -/
def State.clerkValue (s : State) (addr : Nat) : Option Nat :=
  match addr with
  | 0x000002 => some s.ledgerCount
  | 0x003001 => some s.clerk.version
  | 0x003002 => some s.clerk.staged
  | 0x003003 => some s.clerk.stagedVersion
  | 0x003005 => some s.clerk.switchResult
  | 0x003006 => some s.clerk.switchCount
  | 0x003007 => some (Life.code s.life)
  | 0x100002 => some Config.serial.toNat
  | 0x100003 => some Config.dieId.toNat
  | 0x100004 => some Config.stepping.toNat
  | 0x710101 => some s.trees.length
  | 0x820003 => some (Tab.num s.mcast (s.param 0x820002))
  | 0xD00002 => some s.hostA.perBell
  | 0xD00003 => some s.hostB.perBell
  | _ => none

/-- The slices of the last board from a port (`8300`), slice 0 first; one not received is zero. -/
def State.boardSeen (s : State) (q : Nat) : Nat :=
  match Tab.look s.boards q with
  | none => 0
  | some b => (List.range 8).foldl (fun n i => n + place (240 * i) 0 1920 (Tab.getD b.slices i (0, 0, false)).1) 0

/-- Values of the link and lane domains (R413, R442, R443) and of the boards and samples (R341, R380). -/
def State.linkValue (s : State) (addr : Nat) : Option Nat :=
  let i := addr / 256
  let sub := addr % 256
  if i = 0x8300 then some (s.boardSeen (sub - 1))
  else if i = 0x9501 then some (Tab.num s.samples (127 + sub))
  else if i = 0x9510 then some (Tab.num s.samples (sub - 1))
  else if i = 0x9520 then some (Tab.num s.samples (67 + sub))
  else if 0xA100 ≤ i ∧ i ≤ 0xA13F then some ((s.link (i - 0xA100)).health.getD (sub - 1) 0).toNat
  else if i = 0xB040 then some (s.portStatus (sub - 1))
  else if i = 0xB050 then some (s.lport (sub - 1)).peerSerial
  else if 0xB100 ≤ i ∧ i ≤ 0xB17F then
    let x := s.lane (i - 0xB100)
    match sub with
    | 1 => some (s.laneStatus (i - 0xB100))
    | 2 => some x.fir
    | 3 => some x.corrected.toNat
    | 4 => some x.uncorrectable.toNat
    | 5 => some x.degrades.toNat
    | _ => none
  else none

/-- Values of the time unit and the Porter (R471, R489). -/
def State.timeValue (s : State) (addr : Nat) : Option Nat :=
  let i := addr / 256
  let sub := addr % 256
  match addr with
  | 0xC00001 => some (TimeState.code s.time.state)
  | 0xC00002 => some (if s.time.isRoot then 1 else 0)
  | 0xC00003 => some s.time.rootSerial
  | 0xC00004 => some s.time.distance
  | 0xC00005 => some (ofSigned 64 s.time.e)
  | 0xC00006 => some s.timeBound
  | 0xC00007 => some ((s.time.now / 2 ^ 28 * 2 ^ 12 + s.sub) % 2 ^ 80)
  | _ =>
    if i = 0xC050 then some (s.timePort (sub - 1)).delay
    else if i = 0xC051 then some (ofSigned 64 (s.timePort (sub - 1)).theta)
    else if i = 0xC052 then some (s.lport (sub - 1)).refLane
    else if i = 0xD101 then
      let x := s.chan (sub - 1)
      some (place 0 0 3 (ChState.code x.state) + place 0 8 8 x.fn + place 0 16 16 x.ci.toNat + place 0 32 32 x.off)
    else none

/-- The map of ACTIVE sources (`E101:01`). -/
def Beadle.map (b : Beadle) : Nat := b.sources.foldl (fun n e => if e.2.active then n + 2 ^ e.1 else n) 0

/-- Values of the lifecycle domain (R544, R554, R556, R588). -/
def State.powerValue (s : State) (addr : Nat) : Option Nat :=
  let sub := addr % 256
  match addr with
  | 0xE00004 => some (if s.power.openPending then 1 else 0)
  | 0xE01003 => some s.power.average
  | 0xE01004 => some s.power.level
  | 0xE02006 => some s.power.abandoned
  | 0xE02007 => some s.power.glitches.toNat
  | 0xE03001 => some (ofSigned 64 (s.power.hottest.getD 0))
  | 0xE03002 => some (ofSigned 64 (s.power.peakMc.getD 0))
  | 0xE03003 => some (if s.power.hold then 1 else 0)
  | 0xE10002 => some s.beadle.recoveries.toNat
  | 0xE10005 => some (countP (fun e => e.2.active) s.beadle.sources)
  | 0xE10006 => some s.beadle.pmemCorrected.toNat
  | 0xE10007 => some s.beadle.sramCorrected.toNat
  | 0xE10101 => some s.beadle.map
  | 0xE10202 =>
    let k := s.param 0xE10201
    some (recordImage (k / 256) (k % 256) (Tab.getD s.beadle.sources k FaultRec.fresh))
  | _ => if addr / 256 = 0xE031 then some (s.power.railsMv.getD (sub - 1) 0) else none

/-- Values of the Tally and of the management bus (R525, R569). -/
def State.tallyValue (s : State) (addr : Nat) : Option Nat :=
  let i := addr / 256
  let sub := addr % 256
  match addr with
  | 0xF01101 => some s.tally.ci.toNat
  | 0xF01102 => some s.tally.pi.toNat
  | 0xF80002 => some s.lap.rate
  | 0xF80006 => some s.lap.addr
  | _ =>
    if i = 0xF020 then some (Tab.num s.tally.overruns sub)
    else if i = 0xF021 then some (Tab.num s.tally.runs sub)
    else if i = 0xF200 ∨ i = 0xF201 then some (Tab.num s.tally.counts ((i - 0xF200) * 256 + sub))
    else if i = 0xF300 ∨ i = 0xF301 then some (Tab.num s.tally.latched ((i - 0xF300) * 256 + sub))
    else if i = 0xF801 then some (s.lap.counts.getD (sub - 1) 0).toNat
    else none

/-- The value of a parameter as its image, but for the directory entry. -/
def State.plainValue (s : State) (addr : Nat) : Nat :=
  ((s.clerkValue addr).orElse (fun _ => (s.linkValue addr).orElse (fun _ => (s.timeValue addr).orElse (fun _ =>
    (s.powerValue addr).orElse (fun _ => s.tallyValue addr))))).getD (s.param addr)

/-- POWER_UP of a descriptor (R498): the first 16 bytes of the power-up value, of a measured or manufactured one the value. -/
def State.powerUpHead (s : State) (r : Param) (addr : Nat) : Nat :=
  let live := [0x000002, 0x100002, 0x100003, 0x100004, 0xE03001, 0xE03002, 0xF80006].contains addr || addr / 256 == 0xE031
  if r.right = .wo then 0
  else if live then s.plainValue addr
  else if addr = 0x000102 then
    match Param.first s.ledgerRows 0 with
    | some a => match Param.find a with
      | some r0 => s.descriptorHead r0 a
      | none => 0
    | none => 0
  else r.pu % 2 ^ 128

/-- The descriptor of a parameter (R498). -/
def State.descriptor (s : State) (r : Param) (addr : Nat) : Nat :=
  let bound (b : Int) : Nat := if PType.numeric r.ty then ofSigned 64 b else 0
  s.descriptorHead r addr + place 0x10 0 128 (s.powerUpHead r addr) + place 0x20 0 64 (bound r.lo) + place 0x28 0 64 (bound r.hi) +
  place 0x30 0 640 (leNat ((Param.nameOf r addr).take 80))

/-- `0001:02` (R498): the descriptor of the first parameter at or above `0001:01`; with none, a free value. -/
def State.directoryEntry (s : State) : Nat :=
  match Param.first s.ledgerRows (s.param 0x000101) with
  | some a => match Param.find a with
    | some r => s.descriptor r a
    | none => 0
  | none => leNat ((List.range 128).map Config.noEntryByte)

/-- The value of a parameter as its image. -/
def State.ledgerValue (s : State) (addr : Nat) : Nat :=
  if addr = 0x000102 then s.directoryEntry else s.plainValue addr

/-- A number of free values below a bound. -/
def State.draws (s : State) (bound : Nat) : Nat → List Nat × State
  | 0 => ([], s)
  | n + 1 =>
    let (v, s) := s.draw bound
    let (l, s) := State.draws s bound n
    (v :: l, s)

/-- What is measured as it is read: the codewords a locked lane has seen meanwhile (R442), and temperatures and rail voltages of
which no bell has brought a reading yet (R588), are free values; a time is read at a free place in the bell. -/
def State.sense (s : State) (addr : Nat) : State :=
  let i := addr / 256
  if addr = 0xC00007 then s.later
  else if 0xB100 ≤ i ∧ i ≤ 0xB17F ∧ (addr % 256 = 3 ∨ addr % 256 = 4) ∧ (s.lane (i - 0xB100)).locked then
    let (a, s) := s.draw (2 ^ 32)
    let (b, s) := s.draw (2 ^ 32)
    s.modLane (i - 0xB100) (fun x => { x with corrected := x.corrected + BitVec.ofNat 64 a, uncorrectable := x.uncorrectable + BitVec.ofNat 64 b })
  else if i = 0xE030 ∧ s.power.tempsMc.isEmpty then
    let (l, s) := s.draws 165001 16
    let t : List Int := l.map (fun (v : Nat) => Int.ofNat v - 40000)
    { s with power := { s.power with tempsMc := t, peakMc := ({ s.power with tempsMc := t } : Power).hottest } }
  else if i = 0xE031 ∧ s.power.railsMv.isEmpty then
    let (l, s) := s.draws 4001 8
    { s with power := { s.power with railsMv := l } }
  else s

/-! ## Admission -/

/-- What lifecycle state and right say of an access (R493, R494, R506, R528, R532); `pf` is false on the path of a VF. -/
def State.ledgerGate (s : State) (pf write : Bool) (addr : Nat) : Nat :=
  let starting := s.life == .setup && !s.clerk.agentsReady
  match Param.find addr with
  | none => if starting then Lres.busy else Lres.noObject
  | some r =>
    if s.life = .sealed ∧ r.boot = false then Lres.noObject
    else if starting ∧ r.boot = false then Lres.busy
    else if write then
      if (s.life = .shutter ∨ s.life = .shut) ∧ ¬(s.life = .shut ∧ addr = 0xE00003) then Lres.state
      else if !pf then Lres.access
      else match r.right with
        | .ro => Lres.access
        | .rwSetup => if s.life = .setup then Lres.ok else Lres.access
        | _ => Lres.ok
    else if r.right = .wo then Lres.access
    else Lres.ok

/-- Ranges that are more than two bounds: powers of two, alignment, a value apart, R558. -/
def rangeRule (addr v : Nat) : Bool :=
  match addr with
  | 0x501002 => (List.range 32).any (fun k => v == 2 ^ k)
  | 0x501102 => (List.range 32).any (fun k => v == 2 ^ k)
  | 0x501001 => v % 4096 == 0
  | 0x501101 => v % 4096 == 0
  | 0xF01001 => v % 4096 == 0
  | 0xE01001 => v == 0 || decide (150 ≤ v)
  | 0x602002 => v == 0 || decide (16 ≤ v)
  | 0xF80001 => v % 0x200 == 0
  | _ => if addr / 256 = 0xF100 ∨ addr / 256 = 0xF101 then Event.cfgOk v else true

/-- A value lies in the range of its parameter (R491). -/
def Param.inRange (r : Param) (addr v : Nat) : Bool :=
  match r.ty with
  | .ftime => true
  | .text _ => true
  | .blob _ => true
  | .i64 => decide (r.lo ≤ toSigned 64 v ∧ toSigned 64 v ≤ r.hi)
  | _ => decide (r.lo ≤ (v : Int) ∧ (v : Int) ≤ r.hi) && rangeRule addr v

/-- A write as R491 to R494 judge it. -/
def State.writeForm (s : State) (pf : Bool) (addr : Nat) (data : Bytes) : Nat :=
  let g := s.ledgerGate pf true addr
  if g ≠ Lres.ok then g
  else match Param.find addr with
    | none => Lres.noObject
    | some r =>
      if data.length ≠ PType.bytes r.ty then Lres.length
      else if Param.inRange r addr (leNat data) then Lres.ok
      else Lres.range

/-- A switch may be asked for (R523). -/
def State.switchCode (s : State) (b : Nat) : Nat :=
  if ¬(s.clerk.staged = 2 ∧ (s.life = .setup ∨ s.life = .open_) ∧ s.clerk.switchBell.isNone) then Lres.state
  else if s.bell + 16 ≤ b then Lres.ok else Lres.range

/-- A firmware load runs. -/
def State.loading (s : State) : Bool := s.clerk.loader.isSome

/-- A staging may start (R520, the table after R524). -/
def State.stagingCode (s : State) : Nat :=
  if s.life ≠ .setup ∧ s.life ≠ .open_ then Lres.state
  else if s.clerk.switchBell.isSome ∨ s.clerk.pausedAt.isSome ∨ s.loading = true then Lres.busy
  else Lres.ok

/-- A bulk action may start (R497, R520). -/
def State.bulkCode (s : State) (v : Nat) : Nat :=
  if s.clerk.bulkBusy then Lres.busy
  else if v = 2 then (if s.life ≠ .sealed then Lres.state else if s.loading then Lres.busy else Lres.ok)
  else if v = 3 then s.stagingCode
  else Lres.ok

/-- What a node record meets when the Ledger installs it (R280 to R282). -/
def State.treeCode (s : State) (r : Nat) : Nat :=
  let checks := if Tab.has s.trees (Node.tree r) then s.ownsTree (Node.tree r) none :: s.mayReplace r else s.mayCreate r
  if s.nodeOk r && checks.all (fun x => x == Res.done) then Lres.ok else Lres.range

/-- What the state of the object says of a write. -/
def State.objectCode (s : State) (addr v : Nat) : Nat :=
  match addr with
  | 0x003004 => s.switchCode v
  | 0x710001 => s.treeCode v
  | 0x710002 => if s.ownsTree v none = Res.done then Lres.ok else Lres.range
  | 0xF01001 => if s.flag 0xF01006 then Lres.state else Lres.ok
  | 0xF01002 => if s.flag 0xF01006 then Lres.state else Lres.ok
  | 0xF01004 => if s.flag 0xF01006 then Lres.state else Lres.ok
  | _ => Lres.ok

/-- Parameters that a rule relates: E + D within 30 (R35), and the dead time at least four heartbeats (`7030`). -/
def ruleParams : List (Nat × Nat) := [(0x111001, 0x111002), (0x703001, 0x703002)]

/-- A rule between parameters holds of given values. -/
def ruleHolds (get : Nat → Nat) (p : Nat × Nat) : Bool :=
  if p.1 = 0x111001 then decide (get p.1 + get p.2 ≤ 30) else decide (4 * get p.1 ≤ get p.2)

/-- The rules hold of the values as they stand with one of them changed. -/
def State.rulesCode (s : State) (addr v : Nat) : Nat :=
  let get (a : Nat) : Nat := if a = addr then v else s.param a
  if ruleParams.all (fun p => !(p.1 == addr || p.2 == addr) || ruleHolds get p) then Lres.ok else Lres.range

/-! ## What a write does -/

/-- Writes counted for a bell (R32). -/
def State.stagedAt (s : State) (b : Nat) : Nat := countP (fun (x : Staged) => x.bell == b && x.counts) s.staged

/-- The first bell at or after one that has room for a write (R32). -/
def State.roomFrom (s : State) : Nat → Nat → Nat
  | 0, b => b
  | fuel + 1, b => if s.stagedAt b < 256 then b else State.roomFrom s fuel (b + 1)

/-- The bell at which a write accepted now takes effect (R31, R32). -/
def State.stageBell (s : State) : Nat := s.roomFrom (s.staged.length + 1) (s.bell + 1)

/-- Writes are staged for a bell as one write (R31, R32, R502). -/
def State.stage (s : State) (b : Nat) (l : List (Nat × Nat)) : State :=
  { s with staged := s.staged ++ (l.zipIdx).map (fun e => ⟨b, e.1.1, e.1.2, e.2 == 0⟩) }

/-- A parameter of right rw whose effect is at the next bell (`E010:01`): staged, but no rw-bell write (R495). -/
def State.stageQuiet (s : State) (addr v : Nat) : State :=
  { s with staged := s.staged ++ [⟨s.bell + 1, addr, v, false⟩] }

/-- The write acts once its response has been sent (`0010:01`, `F800:01`, `E000:03`). -/
def afterResponse (addr : Nat) : Bool := addr == 0x001001 || addr == 0xF80001 || addr == 0xE00003

/-- What a write that acts after its response does then (R509, R518, R526). A device reset follows at once where the response needs no
sending, and once it has been sent otherwise. -/
def State.afterWrite (s : State) (w : Option ResetWait) (addr v : Nat) : State :=
  if addr = 0x001001 then { s with clerk := { s.clerk with key := v } }
  else if addr = 0xE00003 then
    match w with
    | none => s.deviceReset
    | some _ => { s with power := { s.power with resetAfter := w } }
  else if addr = 0xF80001 then s.setParam addr v
  else s

/-- The response that a device reset waits for has been sent. -/
def State.responseSent (s : State) : ResetWait → Bool
  | .lap r => !s.lap.txq.any (fun x => x.resp == r)
  | .packet id => !s.inputs.any (fun x => x.id == id) && !s.links.any (fun e => e.2.queue.any (fun q => q.id == id) ||
      (match e.2.tx with
       | some q => q.id == id
       | none => false))
  | .entries fn => !(s.path (fnPort fn)).any (fun u => u.fn == fn && u.op.held)

/-- A device reset that waits is made once its response has been sent (R526). -/
def State.settleReset (s : State) : State :=
  match s.power.resetAfter with
  | some w => if s.responseSent w then s.deviceReset else s
  | none => s

/-- What a write does at once (R495). -/
def State.perform (s : State) (addr v : Nat) : State :=
  match addr with
  | 0x003004 => { s with clerk := { s.clerk with switchBell := some v, switchResult := 1 } }
  | 0x206001 => s.freezePort .A Cause.management
  | 0x206002 => s.freezePort .B Cause.management
  | 0x710001 => s.installTree v none
  | 0x710002 => s.removeTree v
  | 0x820001 => s.mcastPut v
  | 0xC02002 => { s with time := { s.time with refSeconds := some v } }
  | 0xE00001 => s.askOpen
  | 0xE10203 => s.clearSources v
  | 0xF01006 => s.setDumpEnable v
  | 0xF01101 => { s with tally := { s.tally with ci := BitVec.ofNat 16 v } }
  | _ =>
    if addr / 256 = 0xB060 then s.retrain (addr % 256 - 1)
    else if addr / 256 = 0xF200 ∨ addr / 256 = 0xF201 then
      { s with tally := { s.tally with counts := Tab.setNum s.tally.counts (addr - 0xF20000) v } }
    else s.setParam addr v

/-- How a parameter takes a write: its right, and whether it waits for the next bell. -/
def Param.staged (r : Param) : Bool := r.right == .rwBell || r.effect == 2

/-- A write other than a bulk action: its result, the bell of R32, and the state; one that acts after its response is left to
`State.afterWrite`. -/
def State.ledgerWrite (s : State) (pf : Bool) (addr : Nat) (data : Bytes) : Nat × Nat × State :=
  let v := leNat data
  let code := [s.writeForm pf addr data, s.rulesCode addr v, s.objectCode addr v].find? (fun c => c != Lres.ok)
  match code, Param.find addr with
  | some c, _ => (c, 0, s)
  | none, none => (Lres.noObject, 0, s)
  | none, some r =>
    if r.right = .rwBell then (Lres.ok, s.stageBell, s.stage s.stageBell [(addr, v)])
    else if Param.staged r then (Lres.ok, 0, s.stageQuiet addr v)
    else if afterResponse addr then (Lres.ok, 0, s)
    else (Lres.ok, 0, s.perform addr v)

/-- A read: its result, the value's bytes, and the state. -/
def State.ledgerRead (s : State) (addr : Nat) : Nat × Bytes × State :=
  let g := s.ledgerGate true false addr
  match Param.find addr with
  | some r => if g ≠ Lres.ok then (g, [], s)
    else
      let s := s.sense addr
      (Lres.ok, leBytes (PType.bytes r.ty) (s.ledgerValue addr), s)
  | none => (g, [], s)

/-! ## Configuration images -/

/-- A record of an image (R500): its offset, address, value, and whether its reserved bytes and padding are zero. -/
structure ImageRecord where
  off : Nat
  addr : Nat
  value : Bytes
  clean : Bool
  deriving DecidableEq, Repr, Inhabited

/-- The records of an image from an offset, when they end exactly at its end (R500, R501). -/
def imageRecords : Nat → Nat → Bytes → Option (List ImageRecord)
  | 0, _, d => if d.isEmpty then some [] else none
  | n + 1, off, d =>
    let h := leNat (d.take 8)
    let len := bits h 4 0 16
    let size := 8 + (len + 7) / 8 * 8
    if d.length < size then none
    else
      let r : ImageRecord := { off := off, addr := bits h 0 0 24, value := (d.drop 8).take len,
                               clean := bits h 3 0 8 == 0 && bits h 6 0 16 == 0 && leNat ((d.drop (8 + len)).take (size - 8 - len)) == 0 }
      match imageRecords n (off + size) (d.drop size) with
      | some l => some (r :: l)
      | none => none

/-- The header of an image is good, and so is its CRC (R499, R501). -/
def imageHeaderOk (d : Bytes) : Bool :=
  let h := leNat (d.take 32)
  let len := bits h 8 0 32
  bits h 0 0 32 == 0x494C5154 && bits h 4 0 16 == 1 && bits h 6 0 16 == 0 && len % 8 == 0 &&
  decide (32 ≤ len ∧ len ≤ 134217728 ∧ len = d.length) && bits h 0x14 0 96 == 0 &&
  crc32c (d.take 16 ++ List.replicate 4 0 ++ d.drop 20) == bits h 0x10 0 32

/-- What a trial of an image has come to: the records applied to a state, what is staged, what acts after the response, and the first
failure with its offset. -/
structure ImageTrial where
  st : State
  staged : List (Nat × Nat)
  after : List (Nat × Nat)
  fail : Option (Nat × Nat)
  deriving DecidableEq, Repr, Inhabited

/-- One record of an image, tried after those before it (R501, R502). A bulk action cannot run from within an image. -/
def ImageTrial.record (t : ImageTrial) (r : ImageRecord) : ImageTrial :=
  if t.fail.isSome then t
  else
    let v := leNat r.value
    let codes := [if r.clean then Lres.ok else Lres.format, t.st.writeForm true r.addr r.value,
                  if r.addr = 0x002002 then Lres.busy else Lres.ok, t.st.objectCode r.addr v]
    match codes.find? (fun c => c != Lres.ok), Param.find r.addr with
    | some c, _ => { t with fail := some (c, r.off) }
    | none, none => t
    | none, some p =>
      if p.right = .rwBell then { t with staged := t.staged ++ [(r.addr, v)] }
      else if Param.staged p then { t with st := t.st.stageQuiet r.addr v }
      else if afterResponse r.addr then { t with after := t.after ++ [(r.addr, v)] }
      else { t with st := t.st.perform r.addr v }

/-- The last of the records that sets one of the two parameters of a rule. -/
def lastSetting (l : List ImageRecord) (p : Nat × Nat) : Nat :=
  l.foldl (fun o r => if r.addr = p.1 ∨ r.addr = p.2 then r.off else o) 0xFFFFFFFF

/-- The outcome of an image: its result, the offset of the report (R504), the bell of its rw-bell records, and what acts after the
response. -/
structure ImageResult where
  code : Nat
  off : Nat
  bell : Nat
  after : List (Nat × Nat)
  deriving DecidableEq, Repr, Inhabited

/-- An image is checked as a whole and, where nothing fails, applied (R501, R502). -/
def State.loadImage (s : State) (d : Bytes) : ImageResult × State :=
  let bad : ImageResult := ⟨Lres.format, 0xFFFFFFFF, 0, []⟩
  if !imageHeaderOk d then (bad, s)
  else match imageRecords (min (bits (leNat (d.take 32)) 0x0C 0 32) (d.length + 1)) 32 (d.drop 32) with
    | none => (bad, s)
    | some l =>
      let t := l.foldl ImageTrial.record ⟨s, [], [], none⟩
      match t.fail with
      | some (c, o) => (⟨c, o, 0, []⟩, s)
      | none =>
        let set (p : Nat × Nat) : Bool := l.any (fun r => r.addr == p.1 || r.addr == p.2)
        match ruleParams.find? (fun p => set p && !ruleHolds t.st.param p) with
        | some p => (⟨Lres.range, lastSetting l p, 0, []⟩, s)
        | none =>
          let b := t.st.stageBell
          if t.staged.isEmpty then (⟨Lres.ok, 0xFFFFFFFF, 0, t.after⟩, t.st)
          else (⟨Lres.ok, 0xFFFFFFFF, b, t.after⟩, t.st.stage b t.staged)

/-- What acts after the response of an image. -/
def State.afterAll (s : State) (w : Option ResetWait) (l : List (Nat × Nat)) : State := l.foldl (fun s e => s.afterWrite w e.1 e.2) s

end Sys2Proof.Machine
end

