-- ==== Sys2Proof/Machine/Access.lean ====
section
/-!
DEFINITION. The three paths to the Ledger (R20): how an access is performed for a path and answered on it (R505, R510, R511, R516 to
R519), accesses queued by a changeover (R523), the bulk buffer and its actions (R520).
-/
namespace Sys2Proof.Machine

/-! ## Answers -/

/-- A mailbox changed. -/
def State.modMailbox (s : State) (fn : Nat) (f : Mailbox → Mailbox) : State := s.setFn fn (fun x => { x with mailbox := f x.mailbox })

/-- Bytes written over the first bytes of MBX_DATA. -/
def Mailbox.put (m : Mailbox) (v : Bytes) : Mailbox :=
  { m with data := m.data / 2 ^ (8 * v.length) * 2 ^ (8 * v.length) + leNat v }

/-- A value that was read is placed in MBX_DATA (R505). -/
def Mailbox.fill (m : Mailbox) (v : Bytes) : Mailbox := { m.put v with doneLen := v.length }

/-- An answered request is kept (R519): the last 16 of a requester, of the 256 requesters answered last. -/
def State.keep (s : State) (k : Kpt) : State :=
  let same (x : Kpt) : Bool := x.inband == k.inband && x.requester == k.requester
  let l := s.clerk.kept.filter (fun x => !(same x && x.ident == k.ident))
  let mine := (l.filter same).take 15
  let l := k :: l.filter (fun x => !same x || mine.contains x)
  let who := ((l.map (fun x => (x.inband, x.requester))).eraseDups).take 256
  { s with clerk := { s.clerk with kept := l.filter (fun x => who.contains (x.inband, x.requester)) } }

/-- A kept answer to a request, where it was given within `0010:03` bells (R519). -/
def State.keptAnswer (s : State) (inband : Bool) (who ident : Nat) : Option Kpt :=
  s.clerk.kept.find? (fun x => x.inband == inband && x.requester == who && x.ident == ident && decide (s.ticks ≤ x.at_ + s.param 0x001003))

/-- The frames of a response on the management bus (R510, R511): the value in segments of 56 bytes, the last marked LAST. -/
def State.lapFrames (s : State) (op src tid code : Nat) (value : Bytes) : List LapFrame :=
  let n := max 1 ((value.length + 55) / 56)
  (List.range n).map (fun i =>
    let seg := i + (if i + 1 = n then 128 else 0)
    let head := place 0 0 8 (op + 0x80) + place 1 0 8 tid + place 2 0 7 src + place 3 0 8 seg + place 4 0 8 code
    lapFrame (s.param 0xF80001 + 0x80 + s.lap.addr) (leBytes 8 head ++ (value.drop (56 * i)).take 56))

/-- A response on the management bus, kept for repeats (R519). -/
def State.lapAnswer (s : State) (src tid : Nat) (frames : List LapFrame) : State :=
  (s.lapQueue frames).keep { inband := false, requester := src, ident := tid, at_ := s.ticks, frames := frames, packet := none }

/-- A response packet (R325, R516): directed where the request was, back over the ports that it recorded. -/
def State.mgmtPacket (s : State) (port : Nat) (req : Packet) (code count : Nat) (records : Bytes) : Packet :=
  let hops := Packet.ext req 0x30 0 4
  let back := if req.mode = 3 then
      (List.range (hops - 1)).foldl (fun n i => n + extAt 0x34 (6 * (i + 1)) 6 (Packet.ext req 0x34 (6 * (hops - 1 - i)) 6))
        (extAt 0x34 0 6 port)
    else 0
  Packet.sealed { Packet.blank with
    ptype := 0x41, tc := 3, mode := req.mode, destDev := req.srcDev, srcDev := s.deviceId, flow := Packet.ext req 0x30 16 16,
    ext := extAt 0x30 0 4 hops + extAt 0x30 16 16 (Packet.ext req 0x30 16 16) + back,
    payload := leBytes 8 (place 0 0 16 count + place 2 0 8 code) ++ records }

/-- A response leaves for its requester, and is kept for repeats (R519). -/
def State.mgmtAnswer (s : State) (p : Packet) : State :=
  (s.sendPacket p).keep { inband := true, requester := p.destDev, ident := Packet.ext p 0x30 16 16, at_ := s.ticks, frames := [], packet := some p }

/-- A value padded with zeros to a multiple of 8 (R516). -/
def padded8 (d : Bytes) : Bytes := d ++ List.replicate ((8 - d.length % 8) % 8) 0

/-- A record of a response (R516). -/
def mgmtRecord (addr op code bell : Nat) (value : Bytes) : Bytes :=
  leBytes 16 (place 0 0 32 addr + place 4 0 16 value.length + place 4 16 8 op + place 4 24 8 code + place 8 0 64 bell) ++ padded8 value

/-- A management request from a device that carries one record and is routed by DEST_DEVICE. -/
def bareRequest (dev reqId : Nat) : Packet :=
  { Packet.blank with ptype := 0x40, tc := 3, srcDev := dev, flow := reqId, ext := extAt 0x30 16 16 reqId }

/-- The answer to one access on its path: whether it wrote, its address, result, bell and value. A mailbox that was reset meanwhile
is not touched (R507). -/
def State.answer (s : State) (via : Via) (write : Bool) (addr code bell : Nat) (value : Bytes) : State :=
  match via with
  | .mailbox fn seq =>
    if (s.fn fn).mailbox.running then
      s.modMailbox fn (fun m => { (if write || code != Lres.ok then { m with doneLen := 0 } else m.fill value) with
                                    doneSeq := seq, result := code, bell := bell, running := false })
    else s
  | .lap src tid =>
    s.lapAnswer src tid (s.lapFrames (if write then 2 else 1) src tid code (if write then leBytes 8 bell else value))
  | .inband dev reqId =>
    s.mgmtAnswer (s.mgmtPacket 63 (bareRequest dev reqId) 0 1 (mgmtRecord addr (if write then 2 else 1) code bell value))

/-- What a device reset asked for on a path waits for, once the path has been answered (R526). -/
def State.resetWait (s : State) : Via → Option ResetWait
  | .mailbox _ _ => none
  | .lap _ _ => some (.lap (s.lap.resps - 1))
  | .inband _ _ => some (.packet (s.pktNum - 1))

/-- The path may write (R506): the mailbox of a VF may not. -/
def viaWrites : Via → Bool
  | .mailbox fn _ => fnIsPf fn
  | _ => true

/-! ## Bulk actions -/

/-- The image in the bulk buffer (R520). -/
def State.bulkImage (s : State) : Bytes := Cells.readBytes s.bulk 0 (s.param 0x002001)

/-- A bulk action that loads or stages firmware begins (R520). -/
def State.beginBulk (s : State) (via : Via) (v : Nat) : State :=
  { s with clerk := { s.clerk with loader := some (.bulk via), bulkBusy := true, staged := if v = 3 then 1 else s.clerk.staged } }

/-- What stands in the way of a write of `0020:02`. -/
def State.bulkRefused (s : State) (pf : Bool) (data : Bytes) : Nat :=
  let f := s.writeForm pf 0x002002 data
  if f ≠ Lres.ok then f else s.bulkCode (leNat data)

/-- A BLOCK (R520): refused outside the buffer, while a bulk action runs, and where no write is taken (R494). -/
def State.blockCode (s : State) (off len : Nat) : Nat :=
  if s.life = .shutter ∨ s.life = .shut then Lres.state
  else if 134217728 < off + len then Lres.range
  else if s.clerk.bulkBusy then Lres.busy
  else Lres.ok

/-- A BLOCK performed: its result and the buffer (R520). -/
def State.putBlock (s : State) (off : Nat) (data : Bytes) : Nat × State :=
  let c := s.blockCode off data.length
  (c, if c = Lres.ok then { s with bulk := Cells.writeBytes s.bulk off data } else s)

/-! ## Single accesses -/

/-- A write is performed and answered, then what acts after the response does (R495, R518, R526). A bulk action is answered when it
ends (R520). -/
def State.doWrite (s : State) (via : Via) (addr : Nat) (data : Bytes) : State :=
  if addr = 0x002002 then
    let c := s.bulkRefused (viaWrites via) data
    if c ≠ Lres.ok then s.answer via true addr c 0 []
    else if leNat data = 1 then
      let (r, s) := s.loadImage s.bulkImage
      let s := s.answer via true addr r.code r.bell []
      s.afterAll (s.resetWait via) r.after
    else s.beginBulk via (leNat data)
  else
    let (c, b, s) := s.ledgerWrite (viaWrites via) addr data
    let s := s.answer via true addr c b []
    if c = Lres.ok ∧ afterResponse addr then s.afterWrite (s.resetWait via) addr (leNat data) else s

/-- A read is performed and answered. -/
def State.doRead (s : State) (via : Via) (addr : Nat) : State :=
  let (c, v, s) := s.ledgerRead addr
  s.answer via false addr c 0 v

/-- Work of the Clerk is queued while a changeover pauses control work (R523). -/
def State.orQueue (s : State) (q : Queued) (go : State → State) : State :=
  if s.clerk.pausedAt.isSome then { s with clerk := { s.clerk with queue := s.clerk.queue ++ [q] } } else go s

/-- One access on a path. -/
def State.access (s : State) (via : Via) (write : Bool) (addr : Nat) (data : Bytes) : State :=
  s.orQueue (.access via write addr data) (fun s => if write then s.doWrite via addr data else s.doRead via addr)

/-! ## In-band requests -/

/-- A record of a request (R516): address, length, operation, value. -/
structure MgmtRec where
  addr : Nat
  len : Nat
  op : Nat
  value : Bytes
  deriving DecidableEq, Repr, Inhabited

/-- The records of a request's payload, none when it is malformed (R516). -/
def mgmtRecords : Nat → Bytes → Option (List MgmtRec)
  | 0, d => if d.isEmpty then some [] else none
  | n + 1, d =>
    let h := leNat (d.take 8)
    let op := bits h 4 16 8
    let len := bits h 4 0 16
    let carried := if op = 1 then 0 else len
    let size := 8 + (carried + 7) / 8 * 8
    if d.length < size || !(op == 2 || op == 3 || (op == 1 && len == 0)) || bits h 4 24 8 != 0 ||
        leNat ((d.drop (8 + carried)).take (size - 8 - carried)) != 0 then none
    else
      match mgmtRecords n (d.drop size) with
      | some l => some ({ addr := bits h 0 0 32, len := len, op := op, value := (d.drop 8).take carried } :: l)
      | none => none

/-- The records of a request (R516): the header's reserved fields are zero and COUNT tells their number. -/
def mgmtParse (d : Bytes) : Option (List MgmtRec) :=
  let h := leNat (d.take 8)
  if d.length < 8 || bits h 2 0 48 != 0 then none else mgmtRecords (min (bits h 0 0 16) (d.length + 1)) (d.drop 8)

/-- What performing the records has come to: the state, the response records, their number, what acts after the response, and whether
performing has stopped (for room, or for a bulk action that runs). -/
structure MgmtRun where
  st : State
  out : Bytes
  count : Nat
  after : List (Nat × Nat)
  full : Bool
  wait : Bool
  deriving DecidableEq, Repr, Inhabited

/-- A response record is added, where the response stays within 4,096 bytes (R517). -/
def MgmtRun.add (r : MgmtRun) (s : State) (m : MgmtRec) (code bell : Nat) (value : Bytes) (after : List (Nat × Nat)) : MgmtRun :=
  let d := mgmtRecord m.addr m.op code bell value
  if 4096 < 8 + r.out.length + d.length then { r with full := true }
  else { r with st := s, out := r.out ++ d, count := r.count + 1, after := r.after ++ after }

/-- One record is performed (R517, R520). -/
def MgmtRun.record (dev reqId : Nat) (r : MgmtRun) (m : MgmtRec) : MgmtRun :=
  let s := r.st
  if r.full || r.wait then r
  else if m.op = 1 then
    let (c, v, s) := s.ledgerRead m.addr
    r.add s m c 0 v []
  else if 4096 < 8 + r.out.length + 16 then { r with full := true }
  else if m.op = 3 then
    let (c, s) := s.putBlock m.addr m.value
    r.add s m c 0 [] []
  else if m.addr = 0x002002 then
    let c := s.bulkRefused true m.value
    if c ≠ Lres.ok then r.add s m c 0 [] []
    else if leNat m.value = 1 then
      let (i, s) := s.loadImage s.bulkImage
      r.add s m i.code i.bell [] i.after
    else { r with st := s.beginBulk (.inband dev reqId) (leNat m.value), wait := true }
  else
    let (c, b, s) := s.ledgerWrite true m.addr m.value
    r.add s m c b [] (if c = Lres.ok ∧ afterResponse m.addr then [(m.addr, leNat m.value)] else [])

/-- The records of a request are performed from a point on; the response follows, and then what acts after it (R517, R518). -/
def State.runRequest (s : State) (q : PartReq) (l : List MgmtRec) : State :=
  let r := l.foldl (MgmtRun.record q.pkt.srcDev (Packet.ext q.pkt 0x30 16 16)) ⟨s, q.done, q.count, q.after, false, false⟩
  if r.wait then { r.st with clerk := { r.st.clerk with part := some { q with done := r.out, count := r.count, after := r.after } } }
  else
    let s := r.st.mgmtAnswer (r.st.mgmtPacket q.port q.pkt Lres.ok r.count r.out)
    s.afterAll (some (.packet (s.pktNum - 1))) r.after

/-- A request is performed and answered (R516). -/
def State.doRequest (s : State) (port : Nat) (p : Packet) : State :=
  match mgmtParse p.payload with
  | none => s.mgmtAnswer (s.mgmtPacket port p Lres.format 0 [])
  | some l => s.runRequest ⟨port, p, [], 0, []⟩ l

/-- A bulk action that loaded or staged firmware has ended: its path is answered, and an in-band request goes on (R517, R520). -/
def State.endBulk (s : State) (via : Via) (code : Nat) : State :=
  let s := { s with clerk := { s.clerk with bulkBusy := false } }
  match s.clerk.part with
  | some q =>
    let s := { s with clerk := { s.clerk with part := none } }
    let q := { q with done := q.done ++ mgmtRecord 0x002002 2 code 0 [], count := q.count + 1 }
    match mgmtParse q.pkt.payload with
    | none => s
    | some l => s.runRequest q (l.drop q.count)
  | none => s.answer via true 0x002002 code 0 []

/-- MGMT_REQ (R326, R516 to R519): with management disabled or another key it is discarded and counted; a repeat is answered with the
response that was kept. -/
def execMgmtReq (port : Nat) (p : Packet) (s : State) : Host.Outcome State Fault Refusal :=
  s.packetRow p 0x40 (fun s =>
    if !s.flag 0x001002 || Packet.ext p 0x28 0 64 != s.clerk.key then s.count Event.mgmtDiscard anyUnit 1
    else match s.keptAnswer true p.srcDev (Packet.ext p 0x30 16 16) with
      | some k => match k.packet with
        | some r => s.sendPacket r
        | none => s
      | none => s.orQueue (.request port p) (fun s => s.doRequest port p))

/-- MGMT_RESP (R325): a response comes to the Clerk. -/
def execMgmtResp (_port : Nat) (p : Packet) (s : State) : Host.Outcome State Fault Refusal :=
  s.packetRow p 0x41 (fun s => { s with clerk := { s.clerk with responses := s.clerk.responses ++ [p] } })

/-! ## The mailbox -/

/-- The registers of a function can be reached: its port is not in RESET, it exists, and no FLR of it runs (R44, R68, R73). -/
def State.reachableFn (s : State) (fn : Nat) : Bool :=
  s.life != .dark && s.fnExists fn && !(s.fn fn).flr && (s.port (fnPort fn)).state != .reset

/-- A submission finishes at once (R505, R506). -/
def Mailbox.finish (m : Mailbox) (code : Nat) : Mailbox := { m with doneSeq := m.seq, result := code, doneLen := 0, bell := 0 }

/-- A submission: MBX_SEQ, MBX_LEN and MBX_OP are written (R505, R506). While a request runs it finishes at once with BUSY. -/
def State.submit (s : State) (fn len seq op : Nat) (go : State → State) : State :=
  if !s.reachableFn fn then s
  else if (s.fn fn).mailbox.running then s.modMailbox fn (fun m => ({ m with seq := seq, op := op } : Mailbox).finish Lres.busy)
  else go (s.modMailbox fn (fun m => { m with len := len, seq := seq, op := op }))

/-- MAILBOX_READ (R493, R505, R506). -/
def execMailboxRead (fn len seq : Nat) (s : State) : Host.Outcome State Fault Refusal :=
  ok (s.submit fn len seq 1 (fun s =>
    (s.modMailbox fn (fun m => { m with running := true })).access (.mailbox fn seq) false (s.fn fn).mailbox.addr []))

/-- MAILBOX_WRITE (R491 to R494, R505, R506): the first MBX_LEN bytes of MBX_DATA are written; no value is longer than that field. -/
def execMailboxWrite (fn len seq : Nat) (s : State) : Host.Outcome State Fault Refusal :=
  ok (s.submit fn len seq 2 (fun s =>
    let m := (s.fn fn).mailbox
    (s.modMailbox fn (fun m => { m with running := true })).access (.mailbox fn seq) true m.addr (leBytes len m.data)))

/-- MAILBOX_BAD_OP (R505): any other MBX_OP finishes at once with FORMAT. -/
def execMailboxBadOp (fn len seq op : Nat) (s : State) : Host.Outcome State Fault Refusal :=
  ok (s.submit fn len seq op (fun s => s.modMailbox fn (fun m => m.finish Lres.format)))

/-! ## Writes that the table names -/

/-- A write of one parameter on a path: through the mailbox, whose registers it sets, as a whole WRITE of the management bus, or as a
request of one record (R505, R511, R516, R519). -/
def State.viaWrite (s : State) (via : Via) (addr : Nat) (data : Bytes) : State :=
  match via with
  | .mailbox fn seq =>
    if (s.fn fn).mailbox.running then s.submit fn data.length seq 2 id
    else
      let s := if s.reachableFn fn then s.modMailbox fn (fun m => ({ m with addr := addr } : Mailbox).put data) else s
      s.submit fn data.length seq 2 (fun s =>
        (s.modMailbox fn (fun m => { m with running := true })).access via true addr data)
  | .lap src tid =>
    if s.life = .dark ∨ s.lap.silent ∨ s.lap.off then s
    else match s.keptAnswer false src tid with
      | some k => s.lapQueue k.frames
      | none => s.access via true addr data
  | .inband dev reqId =>
    if !s.life.opened then s
    else if !s.flag 0x001002 then s.count Event.mgmtDiscard anyUnit 1
    else match s.keptAnswer true dev reqId with
      | some k => match k.packet with
        | some r => s.sendPacket r
        | none => s
      | none => s.access via true addr data

/-- TREE_WRITE (R282): `7100:01`. -/
def execTreeWrite (via : Via) (data : Bytes) (s : State) : Host.Outcome State Fault Refusal := ok (s.viaWrite via 0x710001 data)
/-- TREE_DESTROY (R282): `7100:02`. -/
def execTreeDestroy (via : Via) (data : Bytes) (s : State) : Host.Outcome State Fault Refusal := ok (s.viaWrite via 0x710002 data)
/-- MCAST_WRITE (R354): `8200:01`. -/
def execMcastWrite (via : Via) (data : Bytes) (s : State) : Host.Outcome State Fault Refusal := ok (s.viaWrite via 0x820001 data)
/-- PORT_RETRAIN (R421): `B060`. -/
def execPortRetrain (via : Via) (port : Nat) (data : Bytes) (s : State) : Host.Outcome State Fault Refusal :=
  ok (s.viaWrite via (0xB06001 + port) data)
/-- FREEZE_REQUEST (R73, R81): `2060`. -/
def execFreezeRequest (via : Via) (p : HPort) (data : Bytes) (s : State) : Host.Outcome State Fault Refusal :=
  ok (s.viaWrite via (0x206001 + portNum p) data)
/-- REF_SECONDS_WRITE (R458): `C020:02`. -/
def execRefSecondsWrite (via : Via) (data : Bytes) (s : State) : Host.Outcome State Fault Refusal := ok (s.viaWrite via 0xC02002 data)
/-- DIRECTORY_SELECT (R498): `0001:01`. -/
def execDirectorySelect (via : Via) (data : Bytes) (s : State) : Host.Outcome State Fault Refusal := ok (s.viaWrite via 0x000101 data)
/-- MGMT_KEY_WRITE (R518): `0010:01`. -/
def execMgmtKeyWrite (via : Via) (data : Bytes) (s : State) : Host.Outcome State Fault Refusal := ok (s.viaWrite via 0x001001 data)
/-- BULK_LOAD_IMAGE (R520): action 1 of `0020:02`. -/
def execBulkLoadImage (via : Via) (s : State) : Host.Outcome State Fault Refusal := ok (s.viaWrite via 0x002002 [1])
/-- BULK_LOAD_FIRMWARE (R520): action 2. -/
def execBulkLoadFirmware (via : Via) (s : State) : Host.Outcome State Fault Refusal := ok (s.viaWrite via 0x002002 [2])
/-- BULK_STAGE_FIRMWARE (R520): action 3. -/
def execBulkStageFirmware (via : Via) (s : State) : Host.Outcome State Fault Refusal := ok (s.viaWrite via 0x002002 [3])
/-- SWITCH_BELL_WRITE (R523): `0030:04`. -/
def execSwitchBellWrite (via : Via) (data : Bytes) (s : State) : Host.Outcome State Fault Refusal := ok (s.viaWrite via 0x003004 data)
/-- REQUEST_OPEN (R527): `E000:01`. -/
def execRequestOpen (via : Via) (data : Bytes) (s : State) : Host.Outcome State Fault Refusal := ok (s.viaWrite via 0xE00001 data)
/-- DEVICE_RESET (R526): `E000:03`. -/
def execDeviceReset (via : Via) (data : Bytes) (s : State) : Host.Outcome State Fault Refusal := ok (s.viaWrite via 0xE00003 data)
/-- BEADLE_SELECT (R554): `E102:01`. -/
def execBeadleSelect (via : Via) (data : Bytes) (s : State) : Host.Outcome State Fault Refusal := ok (s.viaWrite via 0xE10201 data)
/-- BEADLE_CLEAR (R550): `E102:03`. -/
def execBeadleClear (via : Via) (data : Bytes) (s : State) : Host.Outcome State Fault Refusal := ok (s.viaWrite via 0xE10203 data)
/-- TALLY_COUNT_WRITE (R559): `F200`, `F201`. -/
def execTallyCountWrite (via : Via) (counter : Nat) (data : Bytes) (s : State) : Host.Outcome State Fault Refusal :=
  ok (s.viaWrite via (0xF20000 + counter) data)
/-- TALLY_DUMP_ENABLE (R564, R567): `F010:06`. -/
def execTallyDumpEnable (via : Via) (data : Bytes) (s : State) : Host.Outcome State Fault Refusal := ok (s.viaWrite via 0xF01006 data)
/-- TALLY_DUMP_CI (R564): `F011:01`. -/
def execTallyDumpCi (via : Via) (data : Bytes) (s : State) : Host.Outcome State Fault Refusal := ok (s.viaWrite via 0xF01101 data)

end Sys2Proof.Machine
end

