-- ==== Sys2Proof/Machine/Ecc.lean ====
section
/-!
DEFINITION. ECC errors (R66, R551, R552): their counts and occurrences, and what an uncorrectable one does to what stood where it
struck. No rule tells which item an address of a channel or a block holds, so the item struck is a free choice among those that the
memory of that kind holds, or none of them (notes/assumptions/3.md).
-/
namespace Sys2Proof.Machine

/-- One of a list, or none of it: a free choice (notes/assumptions/3.md). -/
def State.struck {α : Type} (s : State) (l : List α) : Option α × State :=
  let (k, s) := s.draw (l.length + 1)
  (l[k]?, s)

/-- What is struck is changed; where nothing is, nothing is. -/
def State.strike {α : Type} (s : State) (l : List α) (f : State → α → State) : State :=
  match s.struck l with
  | (some x, s) => f s x
  | (none, s) => s

/-! ## Counts -/

/-- A corrected error (R551): counted in all and in its window, with one occurrence where the count passes the limit of the window. -/
def State.correctedAt (s : State) (code inst : Nat) : State :=
  let b := s.beadle
  let k := code * 256 + inst
  let n := Tab.num b.window k + 1
  let b := { b with window := Tab.put b.window k n }
  let b := if code = FaultCode.pmemCorrectableRate then { b with pmemCorrected := b.pmemCorrected + 1 }
    else { b with sramCorrected := b.sramCorrected + 1 }
  let s := { s with beadle := b }
  if n = b.limit + 1 then s.occur code inst 0 else s

/-- A window of 2^20 bells begins (R551): its counts begin at 0, under the limit as it stands then. -/
def State.eccWindow (s : State) : State :=
  if s.bell / 2 ^ 20 = s.beadle.windowNo then s
  else { s with beadle := { s.beadle with window := [], windowNo := s.bell / 2 ^ 20, limit := s.param 0xE10003 } }

/-! ## What an uncorrectable error does (R552) -/

/-- A line of the Device Store is marked poisoned (R66). -/
def State.strikeStore (s : State) : State :=
  let (n, s) := s.draw (s.openParam 0x111002 * 2 ^ 24)
  if s.openParam 0x111002 = 0 ∨ s.storePoison.contains n then s else { s with storePoison := s.storePoison ++ [n] }

/-- A Match Store entry: its SRQ is handled as under R271. -/
def State.strikeMatch (s : State) : State := s.strike (Tab.keys s.srqs) State.clearMatching

/-- A second-level TLB entry, pinned or not, is dropped. -/
def State.strikeTlb (s : State) : State := s.strike s.tlb (fun s e => { s with tlb := s.tlb.erase e })

/-- A first-level copy is dropped; the next lookup misses there. -/
def State.strikeL1 (s : State) : State :=
  s.strike (s.tlb.filter (·.l1)) (fun s e => { s with tlb := replaceFirst e { e with l1 := false } s.tlb })

/-- A flit in the Cellar cannot be read back whole (R405). -/
def State.strikeCellar (s : State) : State :=
  s.strike (s.links.flatMap (fun e => (e.2.kept.filter (·.spilled)).map (fun k => (e.1, k)))) (fun s x =>
    s.modLink x.1 (fun l => { l with kept := replaceFirst x.2 { x.2 with bad := true } l.kept }))

/-- Contributions that a node holds: tree, operation, segment, and the local slot or the child. -/
def State.contributions (s : State) : List (Nat × BitVec 32 × Nat × Bool × Nat) :=
  s.trees.flatMap (fun t => t.2.ops.flatMap (fun o => o.segs.flatMap (fun g =>
    (Tab.keys g.2.loc).map (fun k => (t.1, o.osn, g.1, true, k)) ++ (Tab.keys g.2.child).map (fun k => (t.1, o.osn, g.1, false, k)))))

/-- A contribution in the staging of the Exchange is poisoned (R66). -/
def State.strikeStaging (s : State) : State :=
  s.strike s.contributions (fun s x =>
    s.modOp x.1 x.2.1 (fun o =>
      { o with segs := Tab.mod o.segs x.2.2.1 (fun (g : Seg) =>
          let bad (v : SegVal) : SegVal := { v with poison := true }
          if x.2.2.2.1 then { g with loc := Tab.mod g.loc x.2.2.2.2 bad } else { g with child := Tab.mod g.child x.2.2.2.2 bad }) }))

/-- A context on the Shelf is lost (R182). -/
def State.strikeShelf (s : State) : State :=
  s.strike (s.ctxs.filter (fun e => e.2.slot && e.2.res == .resident)) (fun s e => s.loseContext e.1 e.2 Status.poisoned)

/-- Payload that a Stall holds is poisoned (R66): the message goes out poisoned from there on (R64). -/
def State.strikePayload (s : State) : State :=
  s.strike (s.ctxs.flatMap (fun e => e.2.msgs.flatMap (fun m => m.got.map (fun g => (e.1, m.id, g))))) (fun s x =>
    s.modMsg x.1 x.2.1 (fun m => { m with got := replaceFirst x.2.2 (x.2.2.1, x.2.2.2.1, true) m.got, poisoned := true }))

/-- An entry of a route table or of the Multicast Table counts as all zeros until it is rewritten. -/
def State.strikeRoutes (s : State) : State :=
  let was := s.usablePorts
  let routes := (Tab.keys s.ledger).filter (fun a => decide (0x810000 ≤ a ∧ a < 0x811200))
  (s.strike (routes.map (fun a => (true, a)) ++ (Tab.keys s.mcast).map (fun g => (false, g))) (fun s x =>
    if x.1 then s.setParam x.2 0 else { s with mcast := Tab.del s.mcast x.2 })).portsChanged was

/-- A packet in an input buffer is poisoned (R66). -/
def State.strikeInput (s : State) : State :=
  s.strike s.inputs (fun s x =>
    { s with inputs := replaceFirst x { x with pkt := { x.pkt with poison := true }, orig := { x.orig with poison := true } } s.inputs })

/-- A piece that has arrived at the Porter is poisoned (R66). -/
def State.strikePorter (s : State) : State :=
  s.strike (s.porter.flatMap (fun e => e.2.arrived.map (fun a => (e.1, a)))) (fun s x =>
    s.modChan x.1 (fun c => { c with arrived := replaceFirst x.2 (x.2.1, x.2.2.1, true) c.arrived }))

/-- An uncorrectable error in package memory (R34, R552): the region struck is a free choice. -/
def State.strikePmem (s : State) : State :=
  let (r, s) := s.draw 6
  match r with
  | 0 => s.strikeStore
  | 1 => s.strikeMatch
  | 2 => s.strikeTlb
  | 3 => s.strikeCellar
  | 4 => s.strikeStaging
  | _ => s

/-- An uncorrectable error in an array of a block, by its place in the table of R18 (R552). -/
def State.strikeSram (s : State) (block : Nat) : State :=
  let (r, s) := s.draw 2
  match block with
  | 2 => s.strikeL1
  | 3 => if r = 0 then s.strikeShelf else s.strikePayload
  | 4 => s.strikeMatch
  | 5 => s.strikeStaging
  | 6 => if r = 0 then s.strikeRoutes else s.strikeInput
  | 9 => s.strikeInput
  | 12 => s.strikePorter
  | _ => s

/-- An uncorrectable error (R552): one occurrence with its address, and what it does. -/
def State.uncorrectableAt (s : State) (code inst addr : Nat) : State :=
  let s := s.occur code inst (addr % 2 ^ 32)
  if code = FaultCode.pmemUncorrectable then s.strikePmem else s.strikeSram inst

end Sys2Proof.Machine
end

