-- ==== Sys2Proof/Machine/Bus.lean ====
section
/-!
DEFINITION. The management bus (R508 to R515): LAP requests, the data-phase rate, error confinement, and frames that are not sent.
-/
namespace Sys2Proof.Machine

/-! ## Frames -/

/-- A field of a LAP frame (R510). -/
def LapFrame.field (f : LapFrame) (off lo w : Nat) : Nat := bits (leNat f.data) off lo w

/-- The controller takes part in the bus (R508, R514, R533). -/
def State.lapHears (s : State) : Bool := s.life != .dark && !s.lap.silent && !s.lap.off

/-- The identifier of requests to this device (R509). -/
def State.lapOwn (s : State) : Nat := s.param 0xF80001 + s.lap.addr

/-- The identifier of broadcast requests (R509). -/
def State.lapAll (s : State) : Nat := s.param 0xF80001 + 0x7F

/-- One of the counts of `F801` raised, by its subindex. -/
def State.lapCount (s : State) (sub : Nat) : State := { s with lap := { s.lap with counts := modNth s.lap.counts (sub - 1) (· + 1) } }

/-- A frame without error has been received (R513). -/
def State.lapGood (s : State) : State := { s with lap := { s.lap with goodSince := true } }

/-- A WRITE under assembly of a requester is dropped (R511). -/
def State.dropWrite (s : State) (src : Nat) : State := { s with lap := { s.lap with writes := s.lap.writes.filter (fun w => w.1 != src) } }

/-- Requests held for the Clerk on this path (R515). -/
def State.lapHeld (s : State) : Nat :=
  countP (fun q => match q with
    | .access (.lap _ _) _ _ _ => true
    | .block _ _ _ => true
    | _ => false) s.clerk.queue

/-- A request frame to this device is taken; one beyond the 32 that the part holds is dropped and counted (R515). -/
def State.lapTake (s : State) (f : LapFrame) (go : State → State) : State :=
  let s := s.lapGood.lapCount 1
  let s := if LapFrame.field f 0 0 8 = 2 then s else s.dropWrite (LapFrame.field f 2 0 7)
  if 32 ≤ s.lapHeld then s.lapCount 6 else go s

/-- A response of one frame with no value: OP, TID, requester, SEG and result (R510). -/
def State.lapPlain (s : State) (op src tid seg code : Nat) : LapFrame :=
  lapFrame (s.param 0xF80001 + 0x80 + s.lap.addr)
    (leBytes 8 (place 0 0 8 (op + 0x80) + place 1 0 8 tid + place 2 0 7 src + place 3 0 8 seg + place 4 0 8 code))

/-- A malformed request is answered FORMAT, which is not kept, so that it can be repeated with its TID (R511, the table after R515). -/
def State.lapFormat (s : State) (f : LapFrame) : State :=
  s.lapQueue [s.lapPlain (LapFrame.field f 0 0 8 % 128) (LapFrame.field f 2 0 7) (LapFrame.field f 1 0 8) 128 Lres.format]

/-- A request that a kept answer matches is answered with it (R519); any other is performed. -/
def State.lapOnce (s : State) (f : LapFrame) (go : State → State) : State :=
  match s.keptAnswer false (LapFrame.field f 2 0 7) (LapFrame.field f 1 0 8) with
  | some k => s.lapQueue k.frames
  | none => go s

/-- Bytes 4 to 7 hold an address alone, and the reserved bit of byte 2 is zero (R510). -/
def LapFrame.addressed (f : LapFrame) : Bool := decide (7 ≤ f.data.length) && LapFrame.field f 2 7 1 == 0 && LapFrame.field f 7 0 8 == 0

/-! ## Requests -/

/-- LAP_READ (R493, R510, R511). A request whose OP the table does not define is malformed. -/
def execLapRead (f : LapFrame) (s : State) : Host.Outcome State Fault Refusal :=
  let op := LapFrame.field f 0 0 8
  if !s.lapHears || f.ident != s.lapOwn || (op != 1 && decide (1 ≤ op ∧ op ≤ 5)) then ok s
  else ok (s.lapTake f (fun s =>
    if op != 1 || !LapFrame.addressed f then s.lapFormat f
    else s.lapOnce f (fun s => s.access (.lap (LapFrame.field f 2 0 7) (LapFrame.field f 1 0 8)) false (LapFrame.field f 4 0 24) [])))

/-- Bytes that a value takes in the DATA of its segments, the last frame padded to a CAN FD length (R510, R511). -/
def segmentBytes (len : Nat) : Nat :=
  let n := max 1 ((len + 55) / 56)
  56 * (n - 1) + (fdLength (8 + (len - 56 * (n - 1))) - 8)

/-- The value of a WRITE from the bytes of its segments: the length of the parameter's type, with zeros after it; none where those
are not zero. Bytes of any other length are taken as they are, and the write is refused for its length. -/
def lapValue (addr : Nat) (d : Bytes) : Option Bytes :=
  match Param.find addr with
  | none => some d
  | some r =>
    let len := PType.bytes r.ty
    if d.length = segmentBytes len then (if leNat (d.drop len) = 0 then some (d.take len) else none) else some d

/-- LAP_WRITE (R511): a segment is added, in order and of one address; with the last the value is written. -/
def execLapWrite (f : LapFrame) (s : State) : Host.Outcome State Fault Refusal :=
  let src := LapFrame.field f 2 0 7
  let tid := LapFrame.field f 1 0 8
  let addr := LapFrame.field f 4 0 24
  let seg := LapFrame.field f 3 0 7
  let body := f.data.drop 8
  if !s.lapHears || f.ident != s.lapOwn || LapFrame.field f 0 0 8 != 2 then ok s
  else ok (s.lapTake f (fun s =>
    let got := match s.lap.writes.find? (fun w => w.1 == src) with
      | some (_, t, a, d, n) => if seg != 0 && t == tid && a == addr && n == seg then some d else none
      | none => none
    let s := s.dropWrite src
    match (if seg = 0 then some [] else got), LapFrame.addressed f with
    | some d, true =>
      if LapFrame.field f 3 7 1 = 0 then { s with lap := { s.lap with writes := s.lap.writes ++ [(src, tid, addr, d ++ body, seg + 1)] } }
      else match lapValue addr (d ++ body) with
        | none => s.lapFormat f
        | some v => s.lapOnce f (fun s => s.access (.lap src tid) true addr v)
    | _, _ => s.lapFormat f))

/-- LAP_BLOCK (R510, R520): 1 to 56 bytes into the bulk buffer. -/
def execLapBlock (f : LapFrame) (s : State) : Host.Outcome State Fault Refusal :=
  let src := LapFrame.field f 2 0 7
  let tid := LapFrame.field f 1 0 8
  let n := LapFrame.field f 3 0 8
  if !s.lapHears || f.ident != s.lapOwn || LapFrame.field f 0 0 8 != 3 then ok s
  else ok (s.lapTake f (fun s =>
    if n < 1 ∨ 56 < n ∨ f.data.length < 8 + n ∨ LapFrame.field f 2 7 1 ≠ 0 then s.lapFormat f
    else s.lapOnce f (fun s => s.orQueue (.block (.lap src tid) (LapFrame.field f 4 0 32) ((f.data.drop 8).take n)) (fun s =>
      let (c, s) := s.putBlock (LapFrame.field f 4 0 32) ((f.data.drop 8).take n)
      s.lapAnswer src tid [s.lapPlain 3 src tid n c]))))

/-- LAP_RATE (R513): on the broadcast identifier only, a defined code and a delay of 1 to 1,000 ms; never answered. -/
def execLapRate (f : LapFrame) (s : State) : Host.Outcome State Fault Refusal :=
  if !s.lapHears || f.ident != s.lapAll || LapFrame.field f 0 0 8 != 4 then ok s
  else
    let s := s.lapGood.later
    let code := LapFrame.field f 8 0 8
    let ms := LapFrame.field f 8 8 16
    ok (if code ≤ 3 ∧ 1 ≤ ms ∧ ms ≤ 1000 then { s with lap := { s.lap with pendingRate := some (code, s.clock + nsUnits (ms * 1000000)) } } else s)

/-- LAP_PING (R509, R510): to this device or to all. -/
def execLapPing (f : LapFrame) (s : State) : Host.Outcome State Fault Refusal :=
  let src := LapFrame.field f 2 0 7
  let tid := LapFrame.field f 1 0 8
  if !s.lapHears || (f.ident != s.lapOwn && f.ident != s.lapAll) || LapFrame.field f 0 0 8 != 5 then ok s
  else ok (s.lapTake f (fun s => s.lapOnce f (fun s => s.lapAnswer src tid [s.lapPlain 5 src tid 0 Lres.ok])))

/-- LAP_FOREIGN_FRAME (R509): a frame that LAP ignores is counted. -/
def execLapForeignFrame (_f : LapFrame) (s : State) : Host.Outcome State Fault Refusal :=
  ok (if s.lapHears then s.lapGood.lapCount 2 else s)

/-! ## Rate -/

/-- LAP_RATE_SWITCH (R513): DELAY_MS after the end of the RATE frame. -/
def execLapRateSwitch (s : State) : Host.Outcome State Fault Refusal :=
  match s.lap.pendingRate with
  | none => ok s
  | some (code, at_) =>
    ok (s.atTime at_ (fun s =>
      { s with lap := { s.lap with rate := code, pendingRate := none, goodSince := false,
                                   windowEnd := s.clock + nsUnits (s.param 0xF80003 * 1000000) } }))

/-- LAP_RATE_FALLBACK (R513): since a switch to another rate than 5 Mbit/s no frame has come without error for `F800:03` ms, and the
controller is error-passive. -/
def execLapRateFallback (s : State) : Host.Outcome State Fault Refusal :=
  if s.lap.rate = 0 ∨ s.lap.goodSince = true ∨ (s.lap.txErr < 128 ∧ s.lap.rxErr < 128) then ok s
  else ok (s.atTime s.lap.windowEnd (fun s => { s with lap := { s.lap with rate := 0 } }))

/-! ## Errors -/

/-- BUS_OFF (R514, ISO 11898-1): the transmit error counter has passed 255; counted, and reported to the Beadle. -/
def execBusOff (s : State) : Host.Outcome State Fault Refusal :=
  if s.lapHears ∧ 255 < s.lap.txErr then
    let s := s.later
    ok ((({ s with lap := { s.lap with off := true, offAt := s.clock } } : State).lapCount 4).occur FaultCode.lapBusoff 0 0)
  else ok s

/-- BUS_OFF_RECOVERED (R514): 128 occurrences of 11 recessive bits at 1 Mbit/s have passed, and `F800:04` ms after them. -/
def execBusOffRecovered (s : State) : Host.Outcome State Fault Refusal :=
  if s.lap.off then
    ok (s.atTime (s.lap.offAt + nsUnits (1408000 + s.param 0xF80004 * 1000000)) (fun s =>
      ({ s with lap := { s.lap with off := false, txErr := 0, rxErr := 0, ownErrors := 0 } } : State).notice))
  else ok s

/-- LAP_TX_ABANDON (R515): a frame still unsent `F800:05` ms after it was queued goes, with the rest of its response. -/
def execLapTxAbandon (s : State) : Host.Outcome State Fault Refusal :=
  match s.lap.txq with
  | [] => ok s
  | x :: _ =>
    ok (s.atTime (x.at_ + nsUnits (s.param 0xF80005 * 1000000)) (fun s =>
      (({ s with lap := { s.lap with txq := s.lap.txq.filter (fun y => y.resp != x.resp) } } : State).lapCount 5).settleReset))

/-- The oldest frame that waits has been sent (R515). -/
def State.lapSent (s : State) : State :=
  match s.lap.txq with
  | [] => s
  | x :: rest => (({ s with lap := { s.lap with txq := rest } } : State).emit (.lap x.frame)).settleReset

/-- LAP_BIT_ERROR: what the controller saw on the bus, counted as ISO 11898-1 counts it (R514). Sixteen bit errors in a row in its own
frames are an address conflict (the table after R515). -/
def execLapBitError (e : BusError) (s : State) : Host.Outcome State Fault Refusal :=
  if !s.lapHears then ok s
  else
    let l := s.lap
    match e with
    | .txBit =>
      let s := ({ s with lap := { l with txErr := l.txErr + 8, ownErrors := l.ownErrors + 1 } } : State).lapCount 3
      ok (if s.lap.ownErrors = 16 then (s.lapCount 7).occur FaultCode.lapAddressConflict 0 0 else s)
    | .txOther => ok (({ s with lap := { l with txErr := l.txErr + 8 } } : State).lapCount 3)
    | .rx => ok (({ s with lap := { l with rxErr := l.rxErr + 1 } } : State).lapCount 3)
    | .txOk => ok ({ s with lap := { l with txErr := l.txErr - 1, ownErrors := 0 } } : State).lapSent
    | .rxOk =>
      let (n, s) := s.draw 9
      ok ({ s with lap := { l with rxErr := if 127 < l.rxErr then 119 + n else l.rxErr - 1 } } : State).lapGood

end Sys2Proof.Machine
end

