-- ==== Sys2Proof/Machine/Firmware.lean ====
section
/-!
DEFINITION. The Boot Channel (R126 to R128), firmware images (R521, R522), the administrative commands of the Ledger (R503, R504), and
the changeover up to its resumption (R523).
-/
namespace Sys2Proof.Machine

/-! ## Firmware images -/

/-- BOOT_RESULT of an image that has been read (R126, R521): 3 when the read failed, 2 when its header is not that of an image of its
length, 1 when its signature or a compatibility check fails, 0 otherwise. -/
def fwResult (d : Option Bytes) (signatureOk : Bool) : Nat :=
  match d with
  | none => 3
  | some d =>
    let h := leNat (d.take 0x1C)
    let len := bits h 8 0 32
    if bits h 0 0 32 ≠ 0x57465154 ∨ len ≠ d.length ∨ 134217728 < len ∨ len < 0x1C + 96 ∨ 2097152 < bits h 0x0C 0 32 then 2
    else if signatureOk && decide (bits h 0x10 0 32 ≤ Config.romVersion.toNat) && bits h 0x14 0 32 == Config.keyId.toNat &&
        bits h 0x18 0 16 == 1 then 0
    else 1

/-- FW_VERSION of an image (R521). -/
def fwVersion (d : Bytes) : Nat := bits (leNat (d.take 8)) 4 0 32

/-- The Ledger's code for a BOOT_RESULT (R497). -/
def ledgerOfBoot : Nat → Nat
  | 0 => Lres.ok
  | 1 => Lres.signature
  | 5 => Lres.state
  | _ => Lres.format

/-- The administrative result for a Ledger code (R504). -/
def adminOfLedger (c : Nat) : Nat := if c = Lres.access ∨ c = Lres.state then Res.notPermitted else Res.badState

/-! ## The Boot Channel -/

/-- A command finishes (R127). -/
def Boot.finish (b : Boot) (seq result cmd : Nat) : Boot := { b with doneSeq := seq, result := result, doneCmd := cmd }

/-- A command is submitted (R127): while another runs it finishes at once with result 4. -/
def State.bootSubmit (s : State) (p : HPort) (seq cmd : Nat) (go : State → State) : State :=
  if !s.reachableFn (portPf p) then s
  else
    let s := s.setBoot p (fun b => { b with seq := seq, cmd := cmd })
    if (s.boot p).running.isSome then s.setBoot p (fun b => b.finish seq 4 cmd) else go s

/-- BOOT_LEN lies in its range (R126). -/
def Boot.lenOk (b : Boot) : Bool := decide (1 ≤ b.len ∧ b.len ≤ 134217728)

/-- A command that reads an image (R126): in a state that allows it, of a length in range, while no other load runs, on a port that
may issue requests; `lifeOk` says whether the state allows it. -/
def State.bootLoad (s : State) (p : HPort) (seq cmd : Nat) (lifeOk : Bool) (begin_ : State → State) : State :=
  s.bootSubmit p seq cmd (fun s =>
    let bad (r : Nat) : State := s.setBoot p (fun b => b.finish seq r cmd)
    if !lifeOk then bad 5
    else if !(s.boot p).lenOk then bad 2
    else if s.loading then bad 4
    else if !s.awake (portPf p) then bad 3
    else begin_ ({ s.setBoot p (fun b => { b with running := some (cmd, seq) }) with clerk := { s.clerk with loader := some (.boot p) } }))

/-- LOAD_FIRMWARE (R126): in SEALED. -/
def execLoadFirmware (p : HPort) (seq : Nat) (s : State) : Host.Outcome State Fault Refusal :=
  ok (s.bootLoad p seq 1 (s.life == .sealed) id)

/-- STAGE_FIRMWARE (R126, R522): in SETUP and OPEN, and not while a switch is pending (the table after R524). -/
def execStageFirmware (p : HPort) (seq : Nat) (s : State) : Host.Outcome State Fault Refusal :=
  if s.stagingCode = Lres.busy then ok (s.bootSubmit p seq 2 (fun s => s.setBoot p (fun b => b.finish seq 4 2)))
  else ok (s.bootLoad p seq 2 (s.stagingCode == Lres.ok) (fun s => { s with clerk := { s.clerk with staged := 1 } }))

/-- READ_LOG (R126, R555): the fault log, oldest first, up to BOOT_LEN bytes. -/
def execReadLog (p : HPort) (seq : Nat) (s : State) : Host.Outcome State Fault Refusal :=
  ok (s.bootSubmit p seq 3 (fun s =>
    let b := s.boot p
    if !b.lenOk then s.setBoot p (fun b => b.finish seq 2 3)
    else if !s.awake (portPf p) then s.setBoot p (fun b => b.finish seq 3 3)
    else
      let d := (s.beadle.log.flatMap (leBytes 32)).take b.len
      let s := if d.isEmpty then s else s.hostWrite (portPf p) 0 0 .clerk b.addr d false none
      s.setBoot p (fun b => b.finish seq 0 3)))

/-- PING (R126). -/
def execPing (p : HPort) (seq : Nat) (s : State) : Host.Outcome State Fault Refusal :=
  ok (s.bootSubmit p seq 4 (fun s => s.setBoot p (fun b => b.finish seq 0 4)))

/-- BOOT_UNKNOWN_COMMAND (R127): result 6, and nothing else changes; while a command runs, result 4. -/
def execBootUnknownCommand (p : HPort) (seq cmd : Nat) (s : State) : Host.Outcome State Fault Refusal :=
  ok (s.bootSubmit p seq cmd (fun s => s.setBoot p (fun b => b.finish seq 6 cmd)))

/-! ## The end of a load -/

/-- What was loaded: the bulk buffer for a bulk action (R520), else what was read. -/
def State.loadedBytes (s : State) (r : FwRead) : Option Bytes :=
  match s.clerk.loader with
  | some (.bulk _) => some s.bulkImage
  | _ => r.header

/-- The load has ended with a BOOT_RESULT, and whoever asked for it is told (R126, R503, R520). -/
def State.endLoad (s : State) (result : Nat) : State :=
  let l := s.clerk.loader
  let s := { s with clerk := { s.clerk with loader := none } }
  match l with
  | none => s
  | some (.boot p) =>
    match (s.boot p).running with
    | some (cmd, seq) => s.setBoot p (fun b => { (b.finish seq result cmd) with running := none })
    | none => s
  | some (.bulk via) => s.endBulk via (ledgerOfBoot result)
  | some (.admin fn) =>
    match (s.fn fn).admCur with
    | some c => if Ent.opcode c.raw = 0x31 ∧ c.waiting = true then
        (if result = 0 then s.admOk fn 0 else s.admAbort fn (adminOfLedger (ledgerOfBoot result)))
      else s
    | none => s

/-- Every function's administrative path goes on. -/
def State.fetchAdmins (s : State) : State := (s.fnsOn .A ++ s.fnsOn .B).foldl (fun s fn => s.fetchAdmin fn) s

/-- FIRMWARE_LOADED (R126, R128, R521, R522, R526, R531): the load of LOAD_FIRMWARE or bulk action 2 ends, once package memory is
trained. A good image starts the Clerk and the device enters SETUP; otherwise it stays SEALED. -/
def execFirmwareLoaded (r : FwRead) (s : State) : Host.Outcome State Fault Refusal :=
  if s.loading = false ∨ s.clerk.pmemReady = false ∨ s.life = .setup ∨ s.life = .open_ then ok s
  else if s.life ≠ .sealed then ok (s.endLoad 5)
  else
    let d := s.loadedBytes r
    let c := fwResult d r.signatureOk
    if c ≠ 0 then ok (s.endLoad c)
    else
      let s := ({ s with clerk := { s.clerk with version := fwVersion (d.getD []) } } : State).enterLife .setup
      ok (s.applyGroups.endLoad 0).fetchAdmins

/-- STAGING_DONE (R128, R521, R522): the staged image is READY or FAILED. -/
def execStagingDone (r : FwRead) (s : State) : Host.Outcome State Fault Refusal :=
  if s.loading = false ∨ s.life = .sealed ∨ s.life = .dark then ok s
  else
    let d := s.loadedBytes r
    let c := if s.life = .setup ∨ s.life = .open_ then fwResult d r.signatureOk else 5
    let s := { s with clerk := { s.clerk with staged := if c = 0 then 2 else 3,
                                              stagedVersion := if c = 0 then fwVersion (d.getD []) else s.clerk.stagedVersion } }
    ok (s.endLoad c)

/-! ## Administrative commands (R503) -/

/-- ADDR of a Ledger command. -/
def Lcmd.addr (r : Nat) : Nat := bits r 0x40 0 64
/-- LEN. -/
def Lcmd.len (r : Nat) : Nat := bits r 0x48 0 32
/-- REPORT. -/
def Lcmd.report (r : Nat) : Nat := bits r 0x50 0 64

/-- The reserved fields of a Ledger command are zero. -/
def Lcmd.clean (r : Nat) : Bool := Ent.arg r == 0 && bits r 0x4C 0 32 == 0 && bits r 0x58 0 320 == 0

/-- The commands are for a PF only (R503). -/
def pfOnly (fn : Nat) : Nat := if fnIsPf fn then Res.done else Res.notPermitted

/-- An IMAGE_LOAD ends (R502, R504): its report is written, then its completion. -/
def State.finishImage (s : State) (fn : Nat) (d : Option Bytes) : State :=
  match (s.fn fn).admCur with
  | none => s
  | some c =>
    if Ent.opcode c.raw ≠ 0x30 then s
    else
      let img := match d with
        | some b => if b.length = Lcmd.len c.raw then b else []
        | none => []
      let (r, s) := s.loadImage img
      let s := s.hostWrite fn 0 0 .clerk (Lcmd.report c.raw) (leBytes 16 (place 0 0 32 r.off + place 4 0 8 r.code + place 8 0 64 r.bell))
        false none
      let s := if r.code = Lres.ok then s.admDone fn Status.ok 0 0 [.clerk]
        else s.admDone fn Status.aborted (adminOfLedger r.code) 0 [.clerk]
      s.afterAll (some (.entries fn)) r.after

/-- IMAGE_LOAD (R499 to R504): `image` is what the part read at ADDR, none where it could not; a changeover makes it wait (the table
after R524). -/
def execImageLoad (fn : Nat) (image : Option Bytes) (s : State) : Host.Outcome State Fault Refusal :=
  ok (s.admRun fn 0x30 (fun r => Lcmd.clean r && Lcmd.report r % 8 == 0) (fun _ => [pfOnly fn])
    (fun _ => (s.admWait fn 0).orQueue (.image fn image) (fun s => s.finishImage fn image)))

/-- FIRMWARE_STAGE (R503, R522): it completes when the staged image is READY or FAILED. -/
def execFirmwareStage (fn : Nat) (s : State) : Host.Outcome State Fault Refusal :=
  ok (s.admRun fn 0x31 (fun r => Lcmd.clean r && Lcmd.report r == 0)
    (fun _ => [pfOnly fn, if s.stagingCode = Lres.ok then Res.done else adminOfLedger s.stagingCode])
    (fun _ => ({ s with clerk := { s.clerk with loader := some (.admin fn), staged := 1 } } : State).admWait fn 0))

/-- FIRMWARE_SWITCH (R503, R523): it completes when the switch is pending. -/
def execFirmwareSwitch (fn : Nat) (s : State) : Host.Outcome State Fault Refusal :=
  ok (s.admRun fn 0x32 (fun r => Lcmd.clean r && Lcmd.report r == 0 && Lcmd.len r == 0)
    (fun r => [pfOnly fn, if s.switchCode (Lcmd.addr r) = Lres.ok then Res.done else adminOfLedger (s.switchCode (Lcmd.addr r))])
    (fun c => (s.perform 0x003004 (Lcmd.addr c.raw)).admOk fn 0))

/-! ## The changeover -/

/-- CHANGEOVER_START (R523, step 1): the bell of the switch has come; control work stops at task boundaries. -/
def execChangeoverStart (s : State) : Host.Outcome State Fault Refusal :=
  match s.clerk.switchBell with
  | some b =>
    ok (if b ≤ s.bell ∧ s.clerk.pausedAt = none then { s with clerk := { s.clerk with pausedAt := some s.ticks } } else s)
  | none => ok s

/-- CHANGEOVER_READY (R523, step 3): every core has reported ready before 3 bells have passed. The new image runs, and none is staged
any more. -/
def execChangeoverReady (s : State) : Host.Outcome State Fault Refusal :=
  match s.clerk.pausedAt with
  | some t =>
    ok (if s.clerk.switchBell.isSome ∧ s.ticks < t + 3 then
        { s with clerk := { s.clerk with version := s.clerk.stagedVersion, switchResult := 2, switchBell := none, staged := 0,
                                         switchCount := (s.clerk.switchCount + 1) % 2 ^ 32 } }
      else s)
  | none => ok s

/-- CHANGEOVER_FALLBACK (R523, step 3'; R545): at 3 bells no report has come; every core returns to the old image. -/
def execChangeoverFallback (s : State) : Host.Outcome State Fault Refusal :=
  match s.clerk.pausedAt with
  | some t =>
    ok (if s.clerk.switchBell.isSome ∧ t + 3 ≤ s.ticks then
        ({ s with clerk := { s.clerk with switchResult := 3, switchBell := none, staged := 3 } } : State).occur FaultCode.firmwareFallback 0 0
      else s)
  | none => ok s

end Sys2Proof.Machine
end

