-- ==== Sys2Proof/Machine/Window.lean ====
section
/-!
DEFINITION. What a host reaches through the BARs: the Device Store window (R36, R49, R50, R66, R67), the Manifest (R45), and the
registers of BAR0 (R47, R48, R51 to R55, R57, R114, R126, R505).
-/
namespace Sys2Proof.Machine

/-! ## The Device Store window -/

/-- The host port takes requests (R68, R73). -/
def State.portLive (s : State) (p : HPort) : Bool := s.life != .dark && (s.port p).state != .reset

/-- A range of the window reaches package memory (R36, R49): in a device that has been OPEN, on a port that is admitted. -/
def State.inStore (s : State) (p : HPort) (off len : Nat) : Bool := s.life.opened && s.storeAdmits p && decide (off + len ≤ s.storeSize)

/-- DEVICE_STORE_READ (R49, R66, R67): an uncorrectable error poisons the completion and is reported; the channel is a free value. -/
def execDeviceStoreRead (p : HPort) (off len : Nat) (eccAt : Option Nat) (s : State) : Host.Outcome State Fault Refusal :=
  if !s.portLive p then ok s
  else if !s.inStore p off len then ok (s.emit (.hostUr p))
  else
    let d := Cells.readBytes s.store off len
    match eccAt with
    | some a =>
      let (ch, s) := s.draw 16
      ok ((s.emit (.hostData p d true)).occur FaultCode.pmemUncorrectable ch a)
    | none => ok (s.emit (.hostData p d (s.linePoison off len)))

/-- DEVICE_STORE_WRITE (R37, R49, R67). -/
def execDeviceStoreWrite (p : HPort) (off : Nat) (data : Bytes) (poisoned : Bool) (s : State) : Host.Outcome State Fault Refusal :=
  if !s.portLive p then ok s
  else if s.inStore p off data.length then ok (s.storeWrite off data poisoned)
  else ok (s.emit (.aer p false))

/-- The value an AtomicOp leaves (00_scope.md, R206): 0 and 1 FetchAdd, 2 and 3 Swap, 4 and 5 CAS, on operands of `size` bytes. -/
def atomicValue (op size old operand compare : Nat) : Nat :=
  let m := 2 ^ (8 * size)
  if op ≤ 1 then (old + operand) % m else if op ≤ 3 then operand % m else if old = compare % m then operand % m else old

/-- DEVICE_STORE_ATOMIC (R49, R50): the completion returns the bytes as they were; outside the window, and in BAR0 and BAR2,
Unsupported Request. -/
def execDeviceStoreAtomic (p : HPort) (bar off op operand compare : Nat) (s : State) : Host.Outcome State Fault Refusal :=
  let size := atomicSize op
  if !s.portLive p then ok s
  else if bar ≠ 4 ∨ s.inStore p off size = false then ok (s.emit (.hostUr p))
  else
    let old := Cells.readBytes s.store off size
    let new := leBytes size (atomicValue op size (leNat old) operand compare)
    ok ((s.storeWrite off new false).emit (.hostData p old (s.linePoison off size)))

/-! ## What BAR0 reads as -/

/-- One byte of CRC-32 (IEEE 802.3), reflected. -/
def crc32Byte (c : Nat) (b : Byte) : Nat :=
  (List.range 8).foldl (fun c _ => if c % 2 = 1 then Nat.xor (c / 2) 0xEDB88320 else c / 2) (Nat.xor c b.toNat)

/-- CRC-32 (IEEE 802.3), for MAN_CRC (R45). -/
def crc32 (d : Bytes) : Nat := Nat.xor (d.foldl crc32Byte 0xFFFFFFFF) 0xFFFFFFFF

/-- Bytes 0x000 to 0x0FB of the Manifest (R45). -/
def manifestBody (p : HPort) : Nat :=
  place 0x000 0 32 0x464D5154 + place 0x004 0 16 1 + place 0x004 16 16 0x0100 + place 0x008 0 32 0x8800 +
  place 0x00C 0 8 Config.stepping.toNat + place 0x00C 8 1 (portNum p) + place 0x010 0 64 Config.serial.toNat +
  place 0x018 0 64 Config.dieId.toNat + place 0x020 0 32 Config.romVersion.toNat + place 0x024 0 16 0x1000 +
  place 0x024 16 16 0x2000 + place 0x028 0 16 0x3000 + place 0x028 16 16 0x4000 + place 0x02C 0 16 0x8000 +
  place 0x02C 16 16 0x9000 + place 0x030 0 16 256 + place 0x030 16 8 32 + place 0x030 24 8 127 + place 0x034 0 32 Config.keyId.toNat

/-- The Manifest (R45). -/
def manifest (p : HPort) : Nat := manifestBody p + place 0x0FC 0 32 (crc32 (leBytes 0xFC (manifestBody p)))

/-- HIF_PORT_STATE (R51). -/
def State.portState (s : State) (p : HPort) : Nat :=
  Life.code s.life + PortState.code (s.port p).state * 256 + PortState.code (s.port (otherPort p)).state * 65536 +
  s.clerk.version % 2 ^ 32 * 2 ^ 32

/-- HIF_LINK (R54). -/
def HostPort.linkReg (h : HostPort) : Nat := h.link.width % 32 + h.link.rate % 16 * 256 + (if h.link.flit then 4096 else 0)

/-- HIF_FN_STATUS (R55). -/
def State.fnStatus (s : State) (fn : Nat) : Nat :=
  let f := s.fn fn
  (if f.halted then 1 else 0) + (if f.flr then 2 else 0) + (if s.portFrozen (fnPort fn) then 4 else 0) + fn * 256

/-- QUE_ADM_CFG (R114). -/
def Fn.admCfgReg (f : Fn) : Nat := f.admSqLog2 + f.admCqLog2 * 256 + (if f.admOn && !f.admStop then 65536 else 0)

/-- The function registers, from 0x3000 (R55, R114). -/
def State.fnRegs (s : State) (fn : Nat) : Nat :=
  let f := s.fn fn
  place 0 0 32 (s.fnStatus fn) + place 8 0 64 (f.admSqBase * 4096) + place 0x10 0 64 (f.admCqBase * 4096) + place 0x18 0 32 f.admCfgReg

/-- The mailbox, from 0x1000 (R505). -/
def Mailbox.regs (m : Mailbox) : Nat :=
  place 0 0 24 m.addr + place 4 0 16 m.len + place 4 16 8 m.seq + place 4 24 8 m.op + place 8 0 16 m.doneLen +
  place 8 16 8 m.doneSeq + place 8 24 8 m.result + place 0x10 0 64 m.bell + place 0x800 0 16384 m.data

/-- The Boot Channel, from 0x2000 (R126). -/
def Boot.regs (b : Boot) : Nat :=
  place 0 0 64 b.addr + place 8 0 32 b.len + place 0x0C 0 8 b.cmd + place 0x0C 24 8 b.seq + place 0x10 0 8 b.doneCmd +
  place 0x10 8 8 b.result + place 0x10 24 8 b.doneSeq

/-- The port registers, from 0x4000 (R51 to R54): HIF_PORT_CTRL reads as zero. -/
def State.portRegs (s : State) (p : HPort) : Nat :=
  place 0 0 64 (s.portState p) + place 8 0 32 (s.port p).cause.toNat + place 0x18 0 32 (s.port p).linkReg

/-- The MSI-X table entry of a vector (R47, R57): masked and otherwise zero while not written. -/
def Fn.vector (f : Fn) (v : Nat) : Nat := Tab.getD f.vectors v (2 ^ 96)

/-- The pending-bit array (R47, R57). -/
def Fn.pbaReg (f : Fn) : Nat := f.pba.eraseDups.foldl (fun n v => n + 2 ^ v) 0

/-- One byte of an image. -/
def byteOf (img i : Nat) : Byte := BitVec.ofNat 8 (img / 2 ^ (8 * i))

/-- Offset of a function's MSI-X table (R47). -/
def msixBase (fn : Nat) : Nat := if fnIsPf fn then 0x8000 else 0x2000

/-- Offset of a function's pending-bit array (R47). -/
def pbaBase (fn : Nat) : Nat := if fnIsPf fn then 0x9000 else 0x2800

/-- One byte of BAR0 (R47, R48). -/
def State.bar0Byte (s : State) (fn off : Nat) : Byte :=
  let p := fnPort fn
  let f := s.fn fn
  if msixBase fn ≤ off ∧ off < msixBase fn + 16 * fnVectors fn then byteOf (f.vector ((off - msixBase fn) / 16)) ((off - msixBase fn) % 16)
  else if pbaBase fn ≤ off ∧ off < pbaBase fn + fnVectors fn / 8 then byteOf f.pbaReg (off - pbaBase fn)
  else if 0x1000 ≤ off ∧ off < 0x2000 then byteOf f.mailbox.regs (off - 0x1000)
  else if 0x3000 ≤ off ∧ off < 0x3100 then byteOf (s.fnRegs fn) (off - 0x3000)
  else if !fnIsPf fn then 0
  else if off < 0x1000 then byteOf (manifest p) off
  else if 0x2000 ≤ off ∧ off < 0x3000 then byteOf (s.boot p).regs (off - 0x2000)
  else if 0x4000 ≤ off ∧ off < 0x4100 then byteOf (s.portRegs p) (off - 0x4000)
  else 0

/-- A read of BAR0. It changes nothing. -/
def State.bar0Read (s : State) (fn off len : Nat) : Bytes := (List.range len).map (fun i => s.bar0Byte fn (off + i))

/-! ## Writes of BAR0 -/

/-- A write covers a byte. -/
def covers (off : Nat) (d : Bytes) (a : Nat) : Bool := decide (off ≤ a ∧ a < off + d.length)

/-- A register of `n` bytes at an offset, with the bytes that a write covers replaced. -/
def merged (off : Nat) (d : Bytes) (reg n old : Nat) : Nat :=
  leNat ((List.range n).map (fun i => if covers off d (reg + i) then d.getD (reg + i - off) 0 else byteOf old i))

/-- The bits that a write puts into a register of `n` bytes: those of the bytes it covers. -/
def written (off : Nat) (d : Bytes) (reg n : Nat) : Nat := merged off d reg n 0

/-- A write covers part of a register of `n` bytes. -/
def touches (off : Nat) (d : Bytes) (reg n : Nat) : Bool := decide (off < reg + n ∧ reg < off + d.length)

/-- The outcome of a meaning that goes on. -/
def State.andThen (s : State) (f : State → Host.Outcome State Fault Refusal) : State :=
  match f s with
  | .next t => t
  | _ => s

/-- The mailbox is written (R505, R506): the fields, and a submission where the write covers MBX_OP. -/
def State.writeMailbox (s : State) (fn off : Nat) (d : Bytes) : State :=
  let m := (s.fn fn).mailbox
  let len := if m.running then m.len else merged off d 0x1004 2 m.len
  let seq := merged off d 0x1006 1 m.seq
  let s := s.modMailbox fn (fun m =>
    let m := { m with seq := seq }
    if m.running then m
    else { m with addr := merged off d 0x1000 3 m.addr, len := len, data := merged off d 0x1800 2048 m.data })
  if covers off d 0x1007 then
    let op := merged off d 0x1007 1 0
    if op = 1 then s.andThen (execMailboxRead fn len seq)
    else if op = 2 then s.andThen (execMailboxWrite fn len seq)
    else s.andThen (execMailboxBadOp fn len seq op)
  else s

/-- The Boot Channel is written (R126, R127): the fields, and a command where the write covers BOOT_CMD. -/
def State.writeBoot (s : State) (p : HPort) (off : Nat) (d : Bytes) : State :=
  let b := s.boot p
  let seq := merged off d 0x200F 1 b.seq
  let s := s.setBoot p (fun b => { b with addr := merged off d 0x2000 8 b.addr, len := merged off d 0x2008 4 b.len, seq := seq })
  if covers off d 0x200C then
    match merged off d 0x200C 1 0 with
    | 1 => s.andThen (execLoadFirmware p seq)
    | 2 => s.andThen (execStageFirmware p seq)
    | 3 => s.andThen (execReadLog p seq)
    | 4 => s.andThen (execPing p seq)
    | c => s.andThen (execBootUnknownCommand p seq c)
  else s

/-- The administrative registers are written (R114 to R116): the bases only while the path is off, and not in SEALED. -/
def State.writeAdmin (s : State) (fn off : Nat) (d : Bytes) : State :=
  let f := s.fn fn
  let s := if s.life = .sealed ∨ f.admOn = true then s
    else s.setFn fn (fun f => { f with admSqBase := merged off d 0x3008 8 (f.admSqBase * 4096) / 4096,
                                       admCqBase := merged off d 0x3010 8 (f.admCqBase * 4096) / 4096 })
  if touches off d 0x3018 4 then s.admCfg fn (merged off d 0x3018 4 f.admCfgReg) else s

/-- The MSI-X table is written (R57): a vector whose mask bit is cleared is unmasked. -/
def State.writeVectors (s : State) (fn off : Nat) (d : Bytes) : State :=
  ((List.range (fnVectors fn)).filter (fun v => touches off d (msixBase fn + 16 * v) 16)).foldl (fun s v =>
    let old := (s.fn fn).vector v
    let new := merged off d (msixBase fn + 16 * v) 16 old
    let s := s.setFn fn (fun f => { f with vectors := Tab.put f.vectors v new })
    if bits new 12 0 1 = 0 ∧ bits old 12 0 1 = 1 then s.sendPending fn v else s) s

/-- The port registers are written (R52, R53): causes written 1 are cleared; FREEZE and THAW act. -/
def State.writePort (s : State) (p : HPort) (off : Nat) (d : Bytes) : State :=
  let c := written off d 0x4008 4
  let k := written off d 0x4010 4
  let s := if c = 0 then s else s.clearCause p (BitVec.ofNat 32 c)
  let s := if k % 2 = 1 then s.andThen (execFreeze p) else s
  if k / 2 % 2 = 1 then s.andThen (execThaw p) else s

/-- BAR0 is written: every register that the write covers takes it (R47, R48). -/
def State.writeBar0 (s : State) (fn off : Nat) (d : Bytes) : State :=
  let s := if touches off d 0x1000 0x1000 then s.writeMailbox fn off d else s
  let s := if touches off d 0x3008 0x14 then s.writeAdmin fn off d else s
  let s := if touches off d (msixBase fn) (16 * fnVectors fn) then s.writeVectors fn off d else s
  if !fnIsPf fn then s
  else
    let s := if touches off d 0x2000 0x10 then s.writeBoot (fnPort fn) off d else s
    if touches off d 0x4008 0x0C then s.writePort (fnPort fn) off d else s

/-- REGISTER_WRITE (R48, R63, R67, R68, R106): a write to BAR0, or to BAR2, where it is a doorbell; a poisoned one is discarded and
reported. -/
def execRegisterWrite (fn bar off : Nat) (data : Bytes) (poisoned : Bool) (s : State) : Host.Outcome State Fault Refusal :=
  if bar = 2 then
    ok (if s.life = .dark then s else s.doorbell ⟨fn, off / 64, off % 64, data.length, leNat data, poisoned⟩)
  else if !s.reachableFn fn then ok s
  else if poisoned then ok (s.emit (.aer (fnPort fn) true))
  else if bar = 0 then ok (s.writeBar0 fn off data)
  else ok s

end Sys2Proof.Machine
end

