-- ==== Sys2Proof/Machine/Bell.lean ====
section
/-!
DEFINITION. The Bell (R22 to R33): the boundary, the switch of rw-bell values, the bell tasks of the domains with what an overrun or a
changeover sets aside, and the end of a changeover (R523).
-/
namespace Sys2Proof.Machine

/-! ## Token buckets at a bell -/

/-- Rate and burst of a bucket as the parameters stand (R370, R374, R379). -/
def State.bucketSpec (s : State) (id : Nat) : Nat × Nat :=
  if id < 1024 then
    let base := (0x9100 + id / 8) * 256
    let cls := id % 8
    (s.param (base + (if cls = 4 then 9 else 1 + cls)), s.param (base + (if cls = 4 then 10 else 5 + cls)))
  else if id < 2048 then
    let r := s.injectShaper ((id - 1024) / 2) (id % 2)
    (r.1, r.2.1)
  else
    let base := if id < 4096 then (0x9300 + (id - 2048) / 4) * 256 else (0x9400 + (id - 4096) / 4) * 256
    let at_ := base + 2 + 4 * (id / 2 % 2)
    if id % 2 = 0 then (s.param at_, s.param (at_ + 1)) else (max (s.param (at_ + 2)) (s.param at_), s.param (at_ + 3))

/-- Every bucket is refilled and clipped (R371). One that has never been drawn on is full. -/
def State.refill (s : State) : State :=
  { s with buckets := Tab.map s.buckets (fun id (b : Bucket) => b.refill (s.bucketSpec id).2) }

/-- The buckets of a meter that a changed parameter belongs to; they start full (the table after R379). -/
def meterBuckets (addr : Nat) : List Nat :=
  let i := addr / 256
  let sub := addr % 256
  let tcs := if sub = 1 then [0, 1] else [(sub - 2) / 4]
  if 0x9300 ≤ i ∧ i < 0x9400 then tcs.flatMap (fun t => [fnMeterBucket (i - 0x9300) t 0, fnMeterBucket (i - 0x9300) t 1])
  else if i = 0x9400 ∨ i = 0x9401 then tcs.flatMap (fun t => [portMeterBucket (i - 0x9400) t 0, portMeterBucket (i - 0x9400) t 1])
  else []

/-- The bucket whose burst a parameter is. -/
def burstBucket (addr : Nat) : Option Nat :=
  let i := addr / 256
  let sub := addr % 256
  if 0x9100 ≤ i ∧ i < 0x9140 then
    if 5 ≤ sub ∧ sub ≤ 8 then some (portBucket (i - 0x9100) (sub - 5)) else if sub = 10 then some (portBucket (i - 0x9100) 4) else none
  else if 0x9200 ≤ i ∧ i < 0x9300 then
    if sub = 3 ∨ sub = 4 then some (injectBucket (i - 0x9200) (sub - 3)) else none
  else none

/-- A bucket after a switch of parameters (R371, R373): it goes when its rate has become zero, and its total is counted anew from a
change of rate. -/
def State.retuned (s : State) (id : Nat) (b : Bucket) : Option Bucket :=
  let r := (s.bucketSpec id).1
  if id < 2048 ∧ r = 0 then none else if r = b.rate then some b else some { b with refills := 0, rate := r }

/-- The buckets after a switch of parameters, given the state before it and the addresses that changed. A full bucket whose burst
rises keeps the level it had. -/
def State.retune (s was : State) (changed : List Nat) : State :=
  let kept := changed.foldl (fun t a => match burstBucket a with
    | some id =>
      if Tab.has t id || (was.bucketSpec id).1 == 0 then t
      else Tab.put t id { level := ((was.bucketSpec id).2 * 256 : Nat), refills := 0, rate := (was.bucketSpec id).1 }
    | none => t) s.buckets
  let fresh := changed.flatMap meterBuckets
  { s with buckets := kept.filterMap (fun e => if fresh.contains e.1 then none else (s.retuned e.1 e.2).map (fun b => (e.1, b))) }

/-- A class of an output that leaves a shaper hold starts at the output's virtual time (`shaper_release` of R368, R369). -/
def State.leaveHold (s was : State) : State :=
  let opened (n t : Nat) : Bool :=
    !(was.portShaperOpen n t && was.portShaperOpen n 4) && s.portShaperOpen n t && s.portShaperOpen n 4
  { s with sched := Tab.map s.sched (fun n (x : Sched) =>
      if n < 64 then
        { x with s := (List.range 4).map (fun t =>
            let v := nth x.s t
            if opened n t && decide ((x.v - v).toNat < 2 ^ 63) then x.v else v) }
      else x) }

/-! ## The switch of rw-bell values (R31 to R33) -/

/-- The staged writes whose bell has come take effect in acceptance order (R31, R467), with what follows from a changed value: groups
that start or fall silent (R421), ports that become usable or unusable (R342, R355), buckets (R373). -/
def State.switchBell (s : State) : State :=
  let due := s.staged.filter (fun (x : Staged) => decide (x.bell ≤ s.bell))
  if due.isEmpty then s
  else
    let was := s
    let s := due.foldl (fun s x => s.setParam x.addr x.value)
      { s with staged := s.staged.filter (fun (x : Staged) => !decide (x.bell ≤ s.bell)) }
    let changed := ((due.map Staged.addr).eraseDups).filter (fun a => was.param a != s.param a)
    let s := ((s.retune was changed).leaveHold was).portsChanged was.usablePorts
    if changed.any (fun a => a / 256 == 0xB003) then s.applyGroups else s

/-! ## Samples (R380 to R382) -/

/-- DELAY of what has waited since a clock, in ns (R380, R381). -/
def State.delayOf (s : State) (since : List Nat) : Nat := since.foldl (fun d t => max d (unitsNs (s.clock - t))) 0

/-- A sample with one pair (R381). -/
def State.pairSample (s : State) (depth delay : Nat) : Nat := place 0 0 64 s.bell + place 8 0 32 depth + place 12 0 32 delay

/-- The sample of an output (R380, R381). -/
def State.outputSample (s : State) (n : Nat) : Nat :=
  place 0 0 64 s.bell + (List.range 4).foldl (fun v t =>
    let waits := (s.inputs.filter (fun x => x.outs.contains n && x.pkt.tc == t)).map InPkt.clock
    v + place (8 + 8 * t) 0 32 (s.waitingBytes n (fun c => c == t)) + place (12 + 8 * t) 0 32 (s.delayOf waits)) 0

/-- The sample of a host request path (R380). -/
def State.pathSample (s : State) (p : HPort) : Nat :=
  s.pairSample (s.path p).length (s.delayOf ((s.path p).map HostUnit.since))

/-- The clock at which the oldest unstarted slot of a ring was announced (R380). -/
def announcedAt (l : List (BitVec 16 × Nat)) (first pi : BitVec 16) : List Nat :=
  ((l.find? (fun b => decide (0 < (b.1 - first).toNat ∧ (b.1 - first).toNat ≤ (pi - first).toNat))).map Prod.snd).toList

/-- The sample of a watched queue (R380, R382). -/
def State.watchSample (s : State) (sel : Nat) : Nat :=
  match Tab.look s.qps (sel % 2 ^ 24) with
  | none => s.pairSample 0 0
  | some q =>
    if bitAt sel 24 then
      match q.rq with
      | some r => s.pairSample (ringUsed r.pi r.unstarted) (s.delayOf (announcedAt r.bells r.unstarted r.pi))
      | none => s.pairSample 0 0
    else s.pairSample (ringUsed q.sq.pi q.sq.unstarted) (s.delayOf (announcedAt q.sq.bells q.sq.unstarted q.sq.pi))

/-- The samples are latched (R380); a selector that is not enabled watches nothing. -/
def State.latchSamples (s : State) : State :=
  let out := (List.range 68).map (fun n => (n, s.outputSample n))
  let watch := (List.range 64).filterMap (fun i =>
    let sel := s.param (0x950001 + i)
    if bitAt sel 31 then some (128 + i, s.watchSample sel) else none)
  { s with latch := out ++ [(68, s.pathSample .A), (69, s.pathSample .B)] ++ watch }

/-- The latched samples are recorded (R28, R380). -/
def State.recordSamples (s : State) : State :=
  { s with samples := s.latch.foldl (fun t e => Tab.put t e.1 e.2) s.samples, latch := [] }

/-! ## Other tasks -/

/-- Credit synchronisation is due on the ports whose turn the bell is (R408). -/
def State.creditSyncs (s : State) (bell : Nat) : State :=
  (List.range 64).foldl (fun (s : State) (q : Nat) =>
    if ((bell : Int) - (q : Int)) % (s.param 0xA01101 : Int) = 0 then s.control q 0x002 [] else s) s

/-- Every ACTIVE port sends a TIME_SYNC (R449), and the servo forms its error (R460). -/
def State.timeTask (s : State) : State := ((List.range 64).foldl (fun s q => s.control q 0x010 []) s).servo

/-- Every bound channel of the Porter is given its allowance and clipped to it (R484). -/
def State.porterRefill (s : State) : State :=
  { s with porter := Tab.map s.porter (fun ch (c : Channel) =>
      if c.state = ChState.unbound then c
      else { c with bucket := min (c.bucket + (s.allowance ch : Int)) (s.allowance ch : Int) }) }

/-- The power sample (R534), and how long the average has stood above the cap at level 12 (R535). -/
def State.powerSample (s : State) (mw : Nat) : State :=
  let s := { s with power := { s.power with samples := (mw :: s.power.samples).take 1024 } }
  let high := s.aboveCap && s.power.level == 12
  let s := { s with power := { s.power with capRun := if high then s.power.capRun + 1 else 0 } }
  let s := if 1024 ≤ s.power.capRun then s.occur FaultCode.powerCap 0 0 else s
  if 0 < s.power.level then s.count Event.throttled anyUnit 1 else s

/-- One scrub step (R553), once package memory has been trained (R531). -/
def State.scrubStep (s : State) : State :=
  if s.clerk.pmemReady then { s with scrub := (s.scrub + 4096) % 2 ^ 35 } else s

/-- The bell tasks of a domain, by its subindex in `1100` (R26), for a bell and with what was measured at its boundary. Timers of
domains 03, 04, 06 and 08, the fault scan and the dump are rows of their own, which wait while the domain's tasks are set aside. -/
def State.domainTask (s : State) (domain bell : Nat) (i : BellInputs) : State :=
  match domain with
  | 2 => s.scrubStep
  | 5 => { s with tlb := s.tlb.filter (fun e => !s.expired e) }
  | 7 => s.chainCheck
  | 9 => s.publishBoards bell
  | 10 => let t := (s.refill.leaveHold s).recordSamples
          t.releaseShaped t.shaped []
  | 11 => s.creditSyncs bell
  | 12 => (List.range 64).foldl State.portBell (s.adaptLanes i.foms)
  | 13 => s.timeTask
  | 14 => s.porterRefill
  | 15 => s.powerSample i.powerMw
  | _ => s

/-! ## Overruns (R27 to R30) -/

/-- A domain has overrun the bell (R30, R568): counted once for a bell, with the fault while its run exceeds `1101:01`. -/
def State.overran (s : State) (domain : Nat) : State :=
  if (Tab.getD s.deferred domain []).isEmpty || s.ticks < Tab.num s.tally.counted domain then s
  else
    let run := min (Tab.num s.tally.runs domain + 1) 4294967295
    let s := { s with tally := { s.tally with
      counted := Tab.put s.tally.counted domain (s.ticks + 1),
      overruns := Tab.put s.tally.overruns domain ((Tab.num s.tally.overruns domain + 1) % 2 ^ 64),
      runs := Tab.put s.tally.runs domain run } }
    if s.param 0x110101 < run then s.occur FaultCode.bellBudget domain 0 else s

/-- BELL_OVERRUN (R27, R30): the budget of a domain has passed with tasks unfinished. -/
def execBellOverrun (domain : Nat) (s : State) : Host.Outcome State Fault Refusal :=
  if (Tab.getD s.deferred domain []).isEmpty || decide (s.ticks < Tab.num s.tally.counted domain) then ok s
  else ok (s.atTime (s.ticks * 4096 + s.openParam (0x110000 + domain) * 16) (fun s => s.overran domain))

/-- What the bell that ends leaves unfinished is an overrun (R27, R30). -/
def State.endBell (s : State) : State := (List.range 16).foldl (fun s d => s.overran (d + 1)) s

/-- RW_BELL_APPLY (R31, R33): the boundary comes, and the values staged for it take effect as one switch, before any bell task. With
nothing staged for it there is nothing to apply, and the boundary is left to BELL_BOUNDARY. -/
def execRwBellApply (s : State) : Host.Outcome State Fault Refusal :=
  let t := s.endBell.nextBoundary
  if s.life = .dark || s.switched || !s.staged.any (fun (x : Staged) => decide (x.bell ≤ t.bell)) then ok s
  else ok ({ t with switched := true } : State).switchBell

/-- The work of a domain that was set aside is done, oldest first (R27, R28). -/
def State.resumeDomain (s : State) (domain : Nat) : State :=
  let work := Tab.getD s.deferred domain []
  work.foldl (fun s w => s.domainTask domain w.1 w.2) { s with deferred := Tab.del s.deferred domain }

/-- A changeover pauses control work, from the boundary of its bell (R523). -/
def State.paused (s : State) : Bool :=
  s.clerk.pausedAt.isSome || (match s.clerk.switchBell with
    | some b => decide (b ≤ s.bell)
    | none => false)

/-- The tasks of a domain at a boundary (R26 to R29): done after those set aside before, or set aside. A pause is not counted. -/
def State.domainBell (s : State) (i : BellInputs) (domain : Nat) : State :=
  let s' := { s with deferred := Tab.put s.deferred domain (Tab.getD s.deferred domain [] ++ [(s.bell, i)]) }
  if s.paused then { s' with tally := { s'.tally with counted := Tab.put s'.tally.counted domain (s.ticks + 1) } }
  else if bitAt i.finish (domain - 1) then
    { s' with tally := { s'.tally with runs := Tab.del s'.tally.runs domain } }.resumeDomain domain
  else s'

/-! ## What happens at the boundary itself -/

/-- Occupancy events and issue-slot classes (R560, R561). -/
def occupancyEvent (e : Nat) : Bool :=
  [0x3004, 0x4004, 0x5007, 0x6007, 0x8008, 0x9002].contains e || (0x50F0 ≤ e && e ≤ 0x50F6)

/-- Cycles of 1.6 GHz in a bell, rounded up (R557). -/
def bellCycles : Nat := 1526

/-- Counters of what the part does cycle by cycle have gone up by free amounts during the bell (R558, R561): the model has no cycles. -/
def State.cycleCounts (s : State) : State :=
  s.tallyActive.foldl (fun s n =>
    let w := s.tallyCfg n
    if bitAt w 29 && occupancyEvent (w % 65536) then
      let most := if 0x50F0 ≤ w % 65536 ∧ w % 65536 ≤ 0x50F6 then 64 * bellCycles
        else if w / 2 ^ 30 % 4 = 3 then 2 ^ 22 * bellCycles else bellCycles
      let (k, s) := s.draw (most + 1)
      s.tallyAdd n k
    else s) s

/-- Sensors and rails are read (R584, R585, R588). -/
def State.senseBell (s : State) (i : BellInputs) : State :=
  let p := { s.power with tempsMc := i.tempsMc, railsMv := i.railsMv }
  let peak := match p.hottest, p.peakMc with
    | some a, some b => some (max a b)
    | some a, none => some a
    | none, b => b
  { s with power := { p with peakMc := peak, hotRun := if p.above 112999 then p.hotRun + 1 else 0 } }

/-- Held sources whose cause lasts make one more occurrence (R546): a port FROZEN or THAWING, the reference lost, a junction that was
too hot and still is. TIME_AHEAD and POWER_CAP recur with the update and the sample that find them. -/
def State.heldFaults (s : State) (wasHot : Bool) : State :=
  let s := if s.portFrozen .A then s.occur FaultCode.hostFreeze 0 0 else s
  let s := if s.portFrozen .B then s.occur FaultCode.hostFreeze 1 0 else s
  let s := s.referenceHeld
  if wasHot && s.tooHot then s.occur FaultCode.thermal 0 0 else s

/-- ECC errors found in the bell (R551, R552). -/
def State.eccBell (s : State) (i : BellInputs) : State :=
  let s := i.corrected.foldl (fun s e => s.correctedAt e.1 e.2) s.eccWindow
  i.uncorrectable.foldl (fun s e => s.uncorrectableAt e.1 e.2.1 e.2.2) s

/-- Received packets that no ACK has answered are acknowledged (R188). -/
def State.bellAcks (s : State) : State :=
  s.ctxs.foldl (fun s e =>
    match e.2.ackTo with
    | some p => if 0 < e.2.unackedRx then s.sendSack e.1 p 0 0 0 else s
    | none => s) s

/-- The bell since which a peer has had no valid path is noted (R203). -/
def State.pathCheck (s : State) : State :=
  { s with ctxs := Tab.map s.ctxs (fun _ (c : Ctx) =>
      if c.kind = Kind.ct ∨ c.kind = Kind.st then
        if s.reachable c.peer then { c with noPath := none }
        else { c with noPath := match c.noPath with
            | some t => some t
            | none => some s.ticks }
      else c) }

/-- Entries that wait for room in a Match Store or a CQ are tried again, and contexts that want a Shelf slot. -/
def State.bellRetries (s : State) : State := ((Tab.keys s.srqs).foldl State.retryPost s).sweepContexts

/-- The boundary of a bell (R22, R26): the bell that ends is settled, the clock moves on and the rw-bell values switch, unless
RW_BELL_APPLY has done so; the counters are latched, and every domain starts its tasks. -/
def State.boundary (s : State) (i : BellInputs) : State :=
  let wasHot := s.tooHot
  let s := if s.switched then { s with switched := false }
    else s.endBell.nextBoundary.switchBell
  let s := ((s.cycleCounts.tallyLatch).latchSamples).dumpDue
  let s := ((s.senseBell i).heldFaults wasHot).eccBell i
  let s := (s.bellAcks.pathCheck)
  let s := (List.range 16).foldl (fun s d => s.domainBell i (d + 1)) s
  s.bellRetries.settleReset

/-- BELL_BOUNDARY (R22, R26). A device that is DARK has no bells. -/
def execBellBoundary (i : BellInputs) (s : State) : Host.Outcome State Fault Refusal :=
  ok (if s.life = .dark then s else s.boundary i)

/-! ## The end of a changeover -/

/-- Work of the Clerk that was queued is done (R523). -/
def State.performQueued (s : State) : Queued → State
  | .access via write addr data => if write then s.doWrite via addr data else s.doRead via addr
  | .block (.lap src tid) off data =>
    let (c, s) := s.putBlock off data
    s.lapAnswer src tid [s.lapPlain 3 src tid data.length c]
  | .block _ _ _ => s
  | .request port p => s.doRequest port p
  | .image fn d => s.finishImage fn d

/-- CHANGEOVER_RESUME (R523, step 4): at 4 bells control work resumes, the work set aside first, then the queued accesses in the order
in which they were accepted. -/
def execChangeoverResume (s : State) : Host.Outcome State Fault Refusal :=
  match s.clerk.pausedAt with
  | some t =>
    if t + 4 ≤ s.ticks ∧ s.clerk.switchBell = none then
      let l := s.clerk.queue
      let s := { s with clerk := { s.clerk with pausedAt := none, queue := [] } }
      ok (l.foldl State.performQueued ((List.range 16).foldl (fun s d => s.resumeDomain (d + 1)) s))
    else ok s
  | none => ok s

end Sys2Proof.Machine
end

