-- ==== Sys2Proof/Machine/Dispatch.lean ====
section
/-!
DEFINITION. What each command does: one arm per constructor of `Instr`, each a call of its meaning.
-/
namespace Sys2Proof.Machine

/-- The effect of a command on everything but the queue (R22 and the rules of each chapter). -/
def exec (i : Instr) (s : State) : Host.Outcome State Fault Refusal :=
  match i with
  | .bellBoundary at_ => Sys2Proof.Machine.execBellBoundary at_ s
  | .bellOverrun domain => Sys2Proof.Machine.execBellOverrun domain s
  | .rwBellApply => Sys2Proof.Machine.execRwBellApply s
  | .quietPeriodExit source => Sys2Proof.Machine.execQuietPeriodExit source s
  | .throttleChange => Sys2Proof.Machine.execThrottleChange s
  | .thermalHold => Sys2Proof.Machine.execThermalHold s
  | .thermalRelease => Sys2Proof.Machine.execThermalRelease s
  | .perstDeassert p link => Sys2Proof.Machine.execPerstDeassert p link s
  | .portReset p why => Sys2Proof.Machine.execPortReset p why s
  | .surpriseDown p => Sys2Proof.Machine.execSurpriseDown p s
  | .fatalError p => Sys2Proof.Machine.execFatalError p s
  | .freeze p => Sys2Proof.Machine.execFreeze p s
  | .thaw p => Sys2Proof.Machine.execThaw p s
  | .freezeCauseClear p mask => Sys2Proof.Machine.execFreezeCauseClear p mask s
  | .freezeRequest via p data => Sys2Proof.Machine.execFreezeRequest via p data s
  | .autoThaw p => Sys2Proof.Machine.execAutoThaw p s
  | .thawComplete p => Sys2Proof.Machine.execThawComplete p s
  | .flr fn => Sys2Proof.Machine.execFlr fn s
  | .flrComplete fn => Sys2Proof.Machine.execFlrComplete fn s
  | .numvfsWrite p n => Sys2Proof.Machine.execNumvfsWrite p n s
  | .powerStateWrite fn d3hot pmeEn => Sys2Proof.Machine.execPowerStateWrite fn d3hot pmeEn s
  | .msixUnmask fn vector => Sys2Proof.Machine.execMsixUnmask fn vector s
  | .l1Idle p => Sys2Proof.Machine.execL1Idle p s
  | .deviceStoreRead p off len eccAt => Sys2Proof.Machine.execDeviceStoreRead p off len eccAt s
  | .deviceStoreWrite p off data poisoned => Sys2Proof.Machine.execDeviceStoreWrite p off data poisoned s
  | .deviceStoreAtomic p bar off op operand compare => Sys2Proof.Machine.execDeviceStoreAtomic p bar off op operand compare s
  | .registerWrite fn bar off data poisoned => Sys2Proof.Machine.execRegisterWrite fn bar off data poisoned s
  | .completionTimeout tag => Sys2Proof.Machine.execCompletionTimeout tag s
  | .hostReadComplete tag data poisoned => Sys2Proof.Machine.execHostReadComplete tag data poisoned s
  | .hostReadError tag => Sys2Proof.Machine.execHostReadError tag s
  | .sqDoorbell d => Sys2Proof.Machine.execSqDoorbell d s
  | .rqDoorbell d => Sys2Proof.Machine.execRqDoorbell d s
  | .srqDoorbell d => Sys2Proof.Machine.execSrqDoorbell d s
  | .cqDoorbell d => Sys2Proof.Machine.execCqDoorbell d s
  | .cqArm d => Sys2Proof.Machine.execCqArm d s
  | .cqArmSolicited d => Sys2Proof.Machine.execCqArmSolicited d s
  | .eqDoorbell d => Sys2Proof.Machine.execEqDoorbell d s
  | .adminSqDoorbell d => Sys2Proof.Machine.execAdminSqDoorbell d s
  | .adminCqDoorbell d => Sys2Proof.Machine.execAdminCqDoorbell d s
  | .cqReservationGrant fn cq => Sys2Proof.Machine.execCqReservationGrant fn cq s
  | .eqModerationExpiry fn eq => Sys2Proof.Machine.execEqModerationExpiry fn eq s
  | .adminEnable fn cfg => Sys2Proof.Machine.execAdminEnable fn cfg s
  | .adminDisable fn cfg => Sys2Proof.Machine.execAdminDisable fn cfg s
  | .createCq fn => Sys2Proof.Machine.execCreateCq fn s
  | .destroyCq fn => Sys2Proof.Machine.execDestroyCq fn s
  | .createEq fn => Sys2Proof.Machine.execCreateEq fn s
  | .destroyEq fn => Sys2Proof.Machine.execDestroyEq fn s
  | .bindAdminCq fn => Sys2Proof.Machine.execBindAdminCq fn s
  | .createQp fn => Sys2Proof.Machine.execCreateQp fn s
  | .modifyQp fn => Sys2Proof.Machine.execModifyQp fn s
  | .destroyQp fn => Sys2Proof.Machine.execDestroyQp fn s
  | .createSrq fn => Sys2Proof.Machine.execCreateSrq fn s
  | .destroySrq fn => Sys2Proof.Machine.execDestroySrq fn s
  | .recallQueue fn => Sys2Proof.Machine.execRecall fn s
  | .queueAbort fn => Sys2Proof.Machine.execQueueAbort fn s
  | .queryQueue fn => Sys2Proof.Machine.execQueryQueue fn s
  | .createPd fn => Sys2Proof.Machine.execCreatePd fn s
  | .destroyPd fn => Sys2Proof.Machine.execDestroyPd fn s
  | .registerRegion fn => Sys2Proof.Machine.execRegisterRegion fn s
  | .pageListReadComplete tag answer => Sys2Proof.Machine.execPageListReadComplete tag answer s
  | .createAsk fn => Sys2Proof.Machine.execCreateAsk fn s
  | .destroyKey fn => Sys2Proof.Machine.execDestroyKey fn s
  | .destroyKeyComplete fn => Sys2Proof.Machine.execDestroyKeyComplete fn s
  | .invalidate fn => Sys2Proof.Machine.execInvalidate fn s
  | .invalidateComplete fn => Sys2Proof.Machine.execInvalidateComplete fn s
  | .createMissQueue fn => Sys2Proof.Machine.execCreateMissQueue fn s
  | .destroyMissQueue fn => Sys2Proof.Machine.execDestroyMissQueue fn s
  | .createTree fn => Sys2Proof.Machine.execCreateTree fn s
  | .destroyTree fn => Sys2Proof.Machine.execDestroyTree fn s
  | .replaceTree fn => Sys2Proof.Machine.execReplaceTree fn s
  | .porterBind fn => Sys2Proof.Machine.execPorterBind fn s
  | .porterUnbind fn => Sys2Proof.Machine.execPorterUnbind fn s
  | .porterPause fn => Sys2Proof.Machine.execPorterPause fn s
  | .porterDrain fn => Sys2Proof.Machine.execPorterDrain fn s
  | .porterResume fn => Sys2Proof.Machine.execPorterResume fn s
  | .porterAbort fn => Sys2Proof.Machine.execPorterAbort fn s
  | .imageLoad fn image => Sys2Proof.Machine.execImageLoad fn image s
  | .firmwareStage fn => Sys2Proof.Machine.execFirmwareStage fn s
  | .firmwareSwitch fn => Sys2Proof.Machine.execFirmwareSwitch fn s
  | .loadFirmware p seq => Sys2Proof.Machine.execLoadFirmware p seq s
  | .stageFirmware p seq => Sys2Proof.Machine.execStageFirmware p seq s
  | .readLog p seq => Sys2Proof.Machine.execReadLog p seq s
  | .ping p seq => Sys2Proof.Machine.execPing p seq s
  | .bootUnknownCommand p seq cmd => Sys2Proof.Machine.execBootUnknownCommand p seq cmd s
  | .firmwareLoaded r => Sys2Proof.Machine.execFirmwareLoaded r s
  | .stagingDone r => Sys2Proof.Machine.execStagingDone r s
  | .walkReadComplete tag answer => Sys2Proof.Machine.execWalkReadComplete tag answer s
  | .walkCasComplete tag answer => Sys2Proof.Machine.execWalkCasComplete tag answer s
  | .missTimeout miss => Sys2Proof.Machine.execMissTimeout miss s
  | .missRingDoorbell d => Sys2Proof.Machine.execMissRingDoorbell d s
  | .fillRingDoorbell d => Sys2Proof.Machine.execFillRingDoorbell d s
  | .fill fn => Sys2Proof.Machine.execFill fn s
  | .fault fn => Sys2Proof.Machine.execFault fn s
  | .send qpn => Sys2Proof.Machine.execSend qpn s
  | .put qpn => Sys2Proof.Machine.execPut qpn s
  | .putFlag qpn => Sys2Proof.Machine.execPutFlag qpn s
  | .get qpn => Sys2Proof.Machine.execGet qpn s
  | .atomic qpn => Sys2Proof.Machine.execAtomic qpn s
  | .durablePut qpn => Sys2Proof.Machine.execDurablePut qpn s
  | .replDurablePut qpn => Sys2Proof.Machine.execReplDurablePut qpn s
  | .mcastPut qpn => Sys2Proof.Machine.execMcastPut qpn s
  | .sendAtTimeRelease qpn => Sys2Proof.Machine.execSendAtTimeRelease qpn s
  | .tsend qpn => Sys2Proof.Machine.execTsend qpn s
  | .trecv fn srq => Sys2Proof.Machine.execTrecv fn srq s
  | .tbuf fn srq => Sys2Proof.Machine.execTbuf fn srq s
  | .tcancel fn srq => Sys2Proof.Machine.execTcancel fn srq s
  | .barrier qpn => Sys2Proof.Machine.execBarrier qpn s
  | .bcast qpn => Sys2Proof.Machine.execBcast qpn s
  | .reduce qpn => Sys2Proof.Machine.execReduce qpn s
  | .allreduce qpn => Sys2Proof.Machine.execAllreduce qpn s
  | .vote qpn => Sys2Proof.Machine.execVote qpn s
  | .sendPacket p => Sys2Proof.Machine.execSendPacket p s
  | .putPacket p => Sys2Proof.Machine.execPutPacket p s
  | .putFlagData p => Sys2Proof.Machine.execPutFlagData p s
  | .getReq p => Sys2Proof.Machine.execGetReq p s
  | .atomicReq p => Sys2Proof.Machine.execAtomicReq p s
  | .durablePutPacket p => Sys2Proof.Machine.execDurablePutPacket p s
  | .replDurablePutPacket p => Sys2Proof.Machine.execReplDurablePutPacket p s
  | .mcastPutPacket p => Sys2Proof.Machine.execMcastPutPacket p s
  | .getResp p => Sys2Proof.Machine.execGetResp p s
  | .atomicResp p => Sys2Proof.Machine.execAtomicResp p s
  | .flag p => Sys2Proof.Machine.execFlag p s
  | .durableConf p => Sys2Proof.Machine.execDurableConf p s
  | .memberReply p => Sys2Proof.Machine.execMemberReply p s
  | .tsendEager p => Sys2Proof.Machine.execTsendEager p s
  | .tsendRts p => Sys2Proof.Machine.execTsendRts p s
  | .cts p => Sys2Proof.Machine.execCts p s
  | .rndvData p => Sys2Proof.Machine.execRndvData p s
  | .collSeg p => Sys2Proof.Machine.execCollSeg p s
  | .collHeartbeat p => Sys2Proof.Machine.execCollHeartbeat p s
  | .collBreak p => Sys2Proof.Machine.execCollBreak p s
  | .ack p => Sys2Proof.Machine.execAck p s
  | .nak p => Sys2Proof.Machine.execNak p s
  | .refuse p => Sys2Proof.Machine.execRefuse p s
  | .spillWritesIssued ctx => Sys2Proof.Machine.execSpillWritesIssued ctx s
  | .contextFetchComplete tag answer => Sys2Proof.Machine.execContextFetchComplete tag answer s
  | .retransmitTimerExpiry ctx => Sys2Proof.Machine.execRetransmitTimerExpiry ctx s
  | .refusalBackoffExpiry ctx psn => Sys2Proof.Machine.execRefusalBackoffExpiry ctx psn s
  | .durableConfTimeout ctx num => Sys2Proof.Machine.execDurableConfTimeout ctx num s
  | .peerGoneExpiry ctx => Sys2Proof.Machine.execPeerGoneExpiry ctx s
  | .flushReadComplete tag answer => Sys2Proof.Machine.execFlushReadComplete tag answer s
  | .targetAtomicComplete tag answer => Sys2Proof.Machine.execTargetAtomicComplete tag answer s
  | .groupDeadlineExpiry qpn => Sys2Proof.Machine.execGroupDeadlineExpiry qpn s
  | .msnHoldExpiry fn srq stream => Sys2Proof.Machine.execMsnHoldExpiry fn srq stream s
  | .ctsWaitExpiry qpn => Sys2Proof.Machine.execCtsWaitExpiry qpn s
  | .heartbeatDue tree dev => Sys2Proof.Machine.execHeartbeatDue tree dev s
  | .edgeDead tree dev => Sys2Proof.Machine.execEdgeDead tree dev s
  | .treeWrite via data => Sys2Proof.Machine.execTreeWrite via data s
  | .treeDestroy via data => Sys2Proof.Machine.execTreeDestroy via data s
  | .transitPacket inp vc => Sys2Proof.Machine.execTransitPacket inp vc s
  | .priceBoard port f => Sys2Proof.Machine.execPriceBoard port f s
  | .tc3StaleDiscard inp => Sys2Proof.Machine.execTc3StaleDiscard inp s
  | .routingStall inp vc => Sys2Proof.Machine.execRoutingStall inp vc s
  | .mcastWrite via data => Sys2Proof.Machine.execMcastWrite via data s
  | .auctionCall site => Sys2Proof.Machine.execAuctionCall site s
  | .dataFlit port f => Sys2Proof.Machine.execDataFlit port f s
  | .idleFlit port f => Sys2Proof.Machine.execIdleFlit port f s
  | .flitCrcFailure port => Sys2Proof.Machine.execFlitCrcFailure port s
  | .creditSync port f => Sys2Proof.Machine.execCreditSync port f s
  | .undefinedControlFlit port f => Sys2Proof.Machine.execUndefinedControlFlit port f s
  | .replayTimeout port => Sys2Proof.Machine.execReplayTimeout port s
  | .symbolLockLost lane => Sys2Proof.Machine.execSymbolLockLost lane s
  | .symbolLockRegained lane => Sys2Proof.Machine.execSymbolLockRegained lane s
  | .lockLossExpiry lane => Sys2Proof.Machine.execLockLossExpiry lane s
  | .receiverDetect port lanes => Sys2Proof.Machine.execReceiverDetect port lanes s
  | .signonSymbols port lanes => Sys2Proof.Machine.execSignonSymbols port lanes s
  | .commaLock lane inverted => Sys2Proof.Machine.execCommaLock lane inverted s
  | .capabilityFrame lane record => Sys2Proof.Machine.execCapabilityFrame lane record s
  | .rateSwitch port => Sys2Proof.Machine.execRateSwitch port s
  | .rateLock port lanes => Sys2Proof.Machine.execRateLock port lanes s
  | .eqStep lane step => Sys2Proof.Machine.execEqStep lane step s
  | .equaliseComplete port peerDone => Sys2Proof.Machine.execEqualiseComplete port peerDone s
  | .trainingStageTimeout port => Sys2Proof.Machine.execTrainingStageTimeout port s
  | .portRetrain via port data => Sys2Proof.Machine.execPortRetrain via port data s
  | .laneRequest port f => Sys2Proof.Machine.execLaneRequest port f s
  | .laneOrder port f => Sys2Proof.Machine.execLaneOrder port f s
  | .laneDone port f => Sys2Proof.Machine.execLaneDone port f s
  | .switchMarker port lanes => Sys2Proof.Machine.execSwitchMarker port lanes s
  | .laneRetrained lane fom => Sys2Proof.Machine.execLaneRetrained lane fom s
  | .laneDegrade lane => Sys2Proof.Machine.execLaneDegrade lane s
  | .widthRestore port tx => Sys2Proof.Machine.execWidthRestore port tx s
  | .p1Idle port => Sys2Proof.Machine.execP1Idle port s
  | .p1Wake port => Sys2Proof.Machine.execP1Wake port s
  | .timeSync port f arrival => Sys2Proof.Machine.execTimeSync port f arrival s
  | .upstreamSilent => Sys2Proof.Machine.execUpstreamSilent s
  | .timeLock => Sys2Proof.Machine.execTimeLock s
  | .timeUnlock => Sys2Proof.Machine.execTimeUnlock s
  | .ppsInEdge stamp localStamp => Sys2Proof.Machine.execPpsInEdge stamp localStamp s
  | .referenceLost => Sys2Proof.Machine.execReferenceLost s
  | .refSecondsWrite via data => Sys2Proof.Machine.execRefSecondsWrite via data s
  | .ppsOutPulse => Sys2Proof.Machine.execPpsOutPulse s
  | .ppsOutEnd => Sys2Proof.Machine.execPpsOutEnd s
  | .porterDoorbell d => Sys2Proof.Machine.execPorterDoorbell d s
  | .descriptorStart ch => Sys2Proof.Machine.execDescriptorStart ch s
  | .pieceIssue ch => Sys2Proof.Machine.execPieceIssue ch s
  | .descriptorWriteBack ch => Sys2Proof.Machine.execDescriptorWriteBack ch s
  | .porterPaused ch => Sys2Proof.Machine.execPorterPaused ch s
  | .mailboxRead fn len seq => Sys2Proof.Machine.execMailboxRead fn len seq s
  | .mailboxWrite fn len seq => Sys2Proof.Machine.execMailboxWrite fn len seq s
  | .mailboxBadOp fn len seq op => Sys2Proof.Machine.execMailboxBadOp fn len seq op s
  | .lapRead f => Sys2Proof.Machine.execLapRead f s
  | .lapWrite f => Sys2Proof.Machine.execLapWrite f s
  | .lapBlock f => Sys2Proof.Machine.execLapBlock f s
  | .lapRate f => Sys2Proof.Machine.execLapRate f s
  | .lapPing f => Sys2Proof.Machine.execLapPing f s
  | .lapForeignFrame f => Sys2Proof.Machine.execLapForeignFrame f s
  | .lapRateSwitch => Sys2Proof.Machine.execLapRateSwitch s
  | .lapRateFallback => Sys2Proof.Machine.execLapRateFallback s
  | .busOff => Sys2Proof.Machine.execBusOff s
  | .busOffRecovered => Sys2Proof.Machine.execBusOffRecovered s
  | .lapTxAbandon => Sys2Proof.Machine.execLapTxAbandon s
  | .mgmtReq port p => Sys2Proof.Machine.execMgmtReq port p s
  | .mgmtResp port p => Sys2Proof.Machine.execMgmtResp port p s
  | .directorySelect via data => Sys2Proof.Machine.execDirectorySelect via data s
  | .mgmtKeyWrite via data => Sys2Proof.Machine.execMgmtKeyWrite via data s
  | .bulkLoadImage via => Sys2Proof.Machine.execBulkLoadImage via s
  | .bulkLoadFirmware via => Sys2Proof.Machine.execBulkLoadFirmware via s
  | .bulkStageFirmware via => Sys2Proof.Machine.execBulkStageFirmware via s
  | .switchBellWrite via data => Sys2Proof.Machine.execSwitchBellWrite via data s
  | .changeoverStart => Sys2Proof.Machine.execChangeoverStart s
  | .changeoverReady => Sys2Proof.Machine.execChangeoverReady s
  | .changeoverFallback => Sys2Proof.Machine.execChangeoverFallback s
  | .changeoverResume => Sys2Proof.Machine.execChangeoverResume s
  | .resetRelease maddr testMode => Sys2Proof.Machine.execResetRelease maddr testMode s
  | .orderViolation => Sys2Proof.Machine.execOrderViolation s
  | .railOutOfRange => Sys2Proof.Machine.execRailOutOfRange s
  | .refclkStop => Sys2Proof.Machine.execRefclkStop s
  | .pmemReady => Sys2Proof.Machine.execPmemReady s
  | .agentsReady => Sys2Proof.Machine.execAgentsReady s
  | .requestOpen via data => Sys2Proof.Machine.execRequestOpen via data s
  | .enterOpen => Sys2Proof.Machine.execEnterOpen s
  | .deviceReset via data => Sys2Proof.Machine.execDeviceReset via data s
  | .pwrfailNFall => Sys2Proof.Machine.execPwrfailNFall s
  | .pwrfailLow => Sys2Proof.Machine.execPwrfailLow s
  | .pwrfailNRise => Sys2Proof.Machine.execPwrfailNRise s
  | .drainDone => Sys2Proof.Machine.execDrainDone s
  | .drainLimit => Sys2Proof.Machine.execDrainLimit s
  | .autoRestart => Sys2Proof.Machine.execAutoRestart s
  | .beadleSelect via data => Sys2Proof.Machine.execBeadleSelect via data s
  | .beadleClear via data => Sys2Proof.Machine.execBeadleClear via data s
  | .tallyDump => Sys2Proof.Machine.execTallyDump s
  | .tallyCountWrite via counter data => Sys2Proof.Machine.execTallyCountWrite via counter data s
  | .tallyDumpEnable via data => Sys2Proof.Machine.execTallyDumpEnable via data s
  | .tallyDumpCi via data => Sys2Proof.Machine.execTallyDumpCi via data s
  | .dataLinkUp p link => Sys2Proof.Machine.execDataLinkUp p link s
  | .flitTime port => Sys2Proof.Machine.execFlitTime port s
  | .lapBitError e => Sys2Proof.Machine.execLapBitError e s
  | .thermalLimitExceeded => Sys2Proof.Machine.execThermalLimitExceeded s
  | .pmPmeRepeat fn => Sys2Proof.Machine.execPmPmeRepeat fn s
  | .pmeStatusClear fn => Sys2Proof.Machine.execPmeStatusClear fn s

end Sys2Proof.Machine
end

