-- ==== Sys2Proof/WellFormed.lean ====
section
/-!
DEFINITION. Which commands are well formed: every operand lies in the range that the row's step can take.
`Instr.wf` is a Bool, so that a command can be checked; an ill-formed term names no command of the part.
-/
namespace Sys2Proof

/-- A device function number (R43): 8 bits. -/
def WellFormed.fn (n : Nat) : Bool := n < 256

/-- A logical port (00_scope.md, Numbering): 0 to 63. -/
def WellFormed.port (n : Nat) : Bool := n < 64

/-- A lane (R416): 0 to 127. -/
def WellFormed.lane (n : Nat) : Bool := n < 128

/-- A Porter channel (R472): 0 to 15. -/
def WellFormed.channel (n : Nat) : Bool := n < 16

/-- A queue-pair number (R83): 24 bits. -/
def WellFormed.qpn (n : Nat) : Bool := n < 16777216

/-- A queue handle (R82): 16 bits. -/
def WellFormed.handle (n : Nat) : Bool := n < 65536

/-- A packet whose fields fit the header and the trailer (R312, R320). -/
def WellFormed.packet (p : Packet) : Bool :=
  p.ptype < 256 && p.tc < 4 && p.esc < 4 && p.mode < 4 && p.tenant < 65536 && p.destDev < 262144 && p.destFn < 256 &&
  p.hops < 64 && p.srcDev < 262144 && p.srcFn < 256 && p.flow < 65536 && p.qpn < 16777216 && p.inc < 4294967296 &&
  p.via < 1024 && p.destQueue < 65536 && p.ts < 18446744073709551616 && p.ext < 2 ^ 192 &&
  p.payload.length ≤ 4096 && p.byteCount < 8192 && p.crc < 4294967296

/-- A packet of one type (R314): the type names the row. -/
def WellFormed.packetOf (ptype : Nat) (p : Packet) : Bool := WellFormed.packet p && p.ptype == ptype

/-- A SACK packet of one kind (R189): 0 ACK, 1 NAK, 2 REFUSE. -/
def WellFormed.sack (kind : Nat) (p : Packet) : Bool :=
  WellFormed.packetOf 0x30 p && leNat (p.payload.take 8) / 2 ^ 32 % 4 == kind

/-- A flit whose fields fit the flit header (R384) and whose body has 240 bytes. -/
def WellFormed.flit (f : Flit) : Bool :=
  f.kind < 4 && f.start < 256 && f.fillAt < 256 && f.pool < 16 && f.crVc < 16 && f.crPool < 2 && f.crCount < 128 &&
  f.body.length == 240

/-- A CONTROL flit with the given CTYPE (R410). -/
def WellFormed.control (ctype : Nat) (f : Flit) : Bool := WellFormed.flit f && f.kind == 2 && f.seq.toNat == ctype

/-- A doorbell write (R106): one function, a byte inside a slot, a size a write can have. -/
def WellFormed.doorbell (d : Doorbell) : Bool :=
  WellFormed.fn d.fn && d.slot < 65536 && d.byteAt < 64 && d.size ≤ 64 && d.value < 2 ^ (8 * d.size)

/-- A path of a Ledger access (R20). -/
def WellFormed.via : Via → Bool
  | .mailbox fn seq => WellFormed.fn fn && seq < 256
  | .lap src tid => src < 128 && tid < 256
  | .inband dev req => dev < 262144 && req < 65536

/-- The instance of an ECC source (R545): a channel for the codes of package memory, a block for those of on-die arrays. -/
def WellFormed.ecc (pmem sram code inst : Nat) : Bool := (code == pmem && inst < 16) || (code == sram && inst < 18)

/-- What a bell boundary brings: a mask of sixteen domains, sixteen sensors, eight rails, lanes and ECC instances that exist. -/
def WellFormed.bell (i : BellInputs) : Bool :=
  i.finish < 65536 && i.tempsMc.length == 16 && i.railsMv.length == 8 && i.foms.all (fun x => x.1 < 128 && x.2 ≤ 400) &&
  i.corrected.all (fun x => WellFormed.ecc 2 4 x.1 x.2) && i.uncorrectable.all (fun x => WellFormed.ecc 1 3 x.1 x.2.1)

/-- A LAP frame is an FD frame with an 11-bit identifier and at most 64 bytes (R509, R510). -/
def WellFormed.frame (f : LapFrame) : Bool := f.ident < 2048 && f.data.length ≤ 64

/-- The resource an Auctioneer serves (R361): 68 outputs, two host paths, sixteen channels. -/
def WellFormed.site : AuctionSite → Bool
  | .output n => n < 68
  | .host _ => true
  | .pmem ch bids => ch < 16 && bids.all (fun b => b.cls < 7 && b.bursts.all (fun x => 1 ≤ x && x ≤ 8))

/-- Well-formed commands. -/
def Instr.wf : Instr → Bool
  | .bellBoundary i => WellFormed.bell i
  | .bellOverrun d => 1 ≤ d && d ≤ 16
  | .rwBellApply => true
  | .quietPeriodExit src => src < 65536
  | .throttleChange | .thermalHold | .thermalRelease => true
  | .perstDeassert _ _ | .portReset _ _ | .surpriseDown _ | .fatalError _ | .freeze _ | .thaw _ => true
  | .freezeCauseClear _ _ => true
  | .freezeRequest v _ d => WellFormed.via v && d.length ≤ 2048
  | .autoThaw _ | .thawComplete _ => true
  | .flr fn | .flrComplete fn => WellFormed.fn fn
  | .numvfsWrite _ n => n ≤ 127
  | .powerStateWrite fn _ _ => WellFormed.fn fn
  | .msixUnmask fn v => WellFormed.fn fn && (v.getD 0 < 256)
  | .l1Idle _ => true
  | .deviceStoreRead _ off len _ => off + len ≤ 34359738368
  | .deviceStoreWrite _ off data _ => off + data.length ≤ 34359738368
  | .deviceStoreAtomic _ bar off op operand compare =>
    (bar == 0 || bar == 2 || bar == 4) && off < 34359738368 && op < 6 && off % (if op == 0 || op == 2 then 4 else if op == 5 then 16 else 8) == 0 &&
    operand < 2 ^ 128 && compare < 2 ^ 128
  | .registerWrite fn bar off data _ =>
    WellFormed.fn fn && ((bar == 0 && off + data.length ≤ 65536) || (bar == 2 && off + data.length ≤ 4194304))
  | .completionTimeout _ | .hostReadComplete _ _ _ | .hostReadError _ => true
  | .sqDoorbell d | .rqDoorbell d | .srqDoorbell d | .cqDoorbell d | .cqArm d | .cqArmSolicited d | .eqDoorbell d
  | .adminSqDoorbell d | .adminCqDoorbell d | .missRingDoorbell d | .fillRingDoorbell d | .porterDoorbell d =>
    WellFormed.doorbell d
  | .cqReservationGrant fn h | .eqModerationExpiry fn h => WellFormed.fn fn && WellFormed.handle h
  | .adminEnable fn _ | .adminDisable fn _ => WellFormed.fn fn
  | .createCq fn | .destroyCq fn | .createEq fn | .destroyEq fn | .bindAdminCq fn | .createQp fn | .modifyQp fn
  | .destroyQp fn | .createSrq fn | .destroySrq fn | .recallQueue fn | .queueAbort fn | .queryQueue fn | .createPd fn
  | .destroyPd fn | .registerRegion fn | .createAsk fn | .destroyKey fn | .destroyKeyComplete fn | .invalidate fn
  | .invalidateComplete fn | .createMissQueue fn | .destroyMissQueue fn | .createTree fn | .destroyTree fn
  | .replaceTree fn | .porterBind fn | .porterUnbind fn | .porterPause fn | .porterDrain fn | .porterResume fn
  | .porterAbort fn | .firmwareStage fn | .firmwareSwitch fn | .fill fn | .fault fn => WellFormed.fn fn
  | .pageListReadComplete _ _ => true
  | .imageLoad fn _ => WellFormed.fn fn
  | .loadFirmware _ seq | .stageFirmware _ seq | .readLog _ seq | .ping _ seq => seq < 256
  | .bootUnknownCommand _ seq cmd => seq < 256 && cmd < 256 && (cmd == 0 || 4 < cmd)
  | .firmwareLoaded _ | .stagingDone _ => true
  | .walkReadComplete _ _ | .walkCasComplete _ _ | .missTimeout _ => true
  | .send q | .put q | .putFlag q | .get q | .atomic q | .durablePut q | .replDurablePut q | .mcastPut q
  | .sendAtTimeRelease q | .tsend q | .barrier q | .bcast q | .reduce q | .allreduce q | .vote q
  | .groupDeadlineExpiry q | .ctsWaitExpiry q => WellFormed.qpn q
  | .trecv fn h | .tbuf fn h | .tcancel fn h => WellFormed.fn fn && WellFormed.handle h
  | .sendPacket p => WellFormed.packetOf 0x01 p
  | .putPacket p => WellFormed.packetOf 0x02 p
  | .putFlagData p => WellFormed.packetOf 0x03 p
  | .getReq p => WellFormed.packetOf 0x04 p
  | .atomicReq p => WellFormed.packetOf 0x05 p
  | .durablePutPacket p => WellFormed.packetOf 0x06 p
  | .replDurablePutPacket p => WellFormed.packetOf 0x07 p
  | .mcastPutPacket p => WellFormed.packetOf 0x08 p
  | .getResp p => WellFormed.packetOf 0x09 p
  | .atomicResp p => WellFormed.packetOf 0x0A p
  | .flag p => WellFormed.packetOf 0x0B p
  | .durableConf p => WellFormed.packetOf 0x0C p
  | .memberReply p => WellFormed.packetOf 0x0D p
  | .tsendEager p => WellFormed.packetOf 0x10 p
  | .tsendRts p => WellFormed.packetOf 0x11 p
  | .cts p => WellFormed.packetOf 0x12 p
  | .rndvData p => WellFormed.packetOf 0x13 p
  | .collSeg p => WellFormed.packetOf 0x20 p
  | .collHeartbeat p => WellFormed.packetOf 0x21 p
  | .collBreak p => WellFormed.packetOf 0x22 p
  | .ack p => WellFormed.sack 0 p
  | .nak p => WellFormed.sack 1 p
  | .refuse p => WellFormed.sack 2 p
  | .spillWritesIssued _ | .contextFetchComplete _ _ | .retransmitTimerExpiry _ | .refusalBackoffExpiry _ _
  | .durableConfTimeout _ _ | .peerGoneExpiry _ | .flushReadComplete _ _ | .targetAtomicComplete _ _ => true
  | .msnHoldExpiry fn h _ => WellFormed.fn fn && WellFormed.handle h
  | .heartbeatDue t d | .edgeDead t d => t < 65536 && d < 262144
  | .treeWrite v d | .treeDestroy v d | .mcastWrite v d | .refSecondsWrite v d | .directorySelect v d
  | .mgmtKeyWrite v d | .switchBellWrite v d | .requestOpen v d | .deviceReset v d | .beadleSelect v d
  | .beadleClear v d | .tallyDumpEnable v d | .tallyDumpCi v d => WellFormed.via v && d.length ≤ 2048
  | .transitPacket inp vc | .routingStall inp vc => inp ≤ 64 && vc < 16
  | .tc3StaleDiscard inp => inp ≤ 64
  | .priceBoard p f => WellFormed.port p && WellFormed.control 0x001 f
  | .auctionCall site => WellFormed.site site
  | .dataFlit p f => WellFormed.port p && WellFormed.flit f && f.kind != 1 && f.kind != 2
  | .idleFlit p f => WellFormed.port p && WellFormed.flit f && f.kind == 1
  | .flitCrcFailure p | .replayTimeout p | .flitTime p => WellFormed.port p
  | .creditSync p f => WellFormed.port p && WellFormed.control 0x002 f
  | .undefinedControlFlit p f => WellFormed.port p && WellFormed.flit f && f.kind == 2 &&
    !([0x001, 0x002, 0x010, 0x020, 0x021, 0x022].contains f.seq.toNat)
  | .symbolLockLost l | .symbolLockRegained l | .lockLossExpiry l | .laneDegrade l => WellFormed.lane l
  | .receiverDetect p m | .signonSymbols p m | .rateLock p m | .switchMarker p m => WellFormed.port p && m < 16
  | .commaLock l _ => WellFormed.lane l
  | .capabilityFrame l r => WellFormed.lane l && r.length == 32
  | .rateSwitch p | .trainingStageTimeout p | .p1Idle p | .p1Wake p => WellFormed.port p
  | .eqStep l e => WellFormed.lane l && e.fomBefore ≤ 400 && e.fomAfter ≤ 400
  | .equaliseComplete p m => WellFormed.port p && m < 16
  | .portRetrain v p d => WellFormed.via v && WellFormed.port p && d.length ≤ 2048
  | .laneRequest p f => WellFormed.port p && WellFormed.control 0x020 f
  | .laneOrder p f => WellFormed.port p && WellFormed.control 0x021 f
  | .laneDone p f => WellFormed.port p && WellFormed.control 0x022 f
  | .laneRetrained l fom => WellFormed.lane l && fom ≤ 400
  | .widthRestore p _ => WellFormed.port p
  | .timeSync p f t => WellFormed.port p && WellFormed.control 0x010 f && t < 2 ^ 96
  | .upstreamSilent | .timeLock | .timeUnlock | .referenceLost | .ppsOutPulse | .ppsOutEnd => true
  | .ppsInEdge t u => t < 2 ^ 96 && u < 2 ^ 96
  | .descriptorStart c | .pieceIssue c | .descriptorWriteBack c | .porterPaused c => WellFormed.channel c
  | .mailboxRead fn len seq | .mailboxWrite fn len seq => WellFormed.fn fn && len < 65536 && seq < 256
  | .mailboxBadOp fn len seq op =>
    WellFormed.fn fn && len < 65536 && seq < 256 && op < 256 && op != 1 && op != 2
  | .lapRead f | .lapWrite f | .lapBlock f | .lapRate f | .lapPing f | .lapForeignFrame f => WellFormed.frame f
  | .lapRateSwitch | .lapRateFallback | .busOff | .busOffRecovered | .lapTxAbandon | .lapBitError _ => true
  | .mgmtReq port p => port < 64 && WellFormed.packetOf 0x40 p
  | .mgmtResp port p => port < 64 && WellFormed.packetOf 0x41 p
  | .bulkLoadImage v | .bulkLoadFirmware v | .bulkStageFirmware v => WellFormed.via v
  | .changeoverStart | .changeoverReady | .changeoverFallback | .changeoverResume => true
  | .resetRelease m _ => m < 128
  | .orderViolation | .railOutOfRange | .refclkStop | .pmemReady | .agentsReady | .enterOpen => true
  | .pwrfailNFall | .pwrfailLow | .pwrfailNRise | .drainDone | .drainLimit | .autoRestart => true
  | .tallyDump => true
  | .tallyCountWrite v n d => WellFormed.via v && n < 512 && d.length ≤ 2048
  | .dataLinkUp _ _ | .thermalLimitExceeded => true
  | .pmPmeRepeat fn | .pmeStatusClear fn => WellFormed.fn fn

end Sys2Proof
end

