-- ==== Sys2Proof/Safety.lean ====
section
/-!
DEFINITION. The terms in which the statements speak: what a safe state is, when a command completes, and the instant at
which a time limit runs out.
-/
namespace Sys2Proof

/-- The index that a doorbell brings (R107, R109): the low 16 bits of its value. -/
def Doorbell.index (d : Doorbell) : BitVec 16 := BitVec.ofNat 16 d.value

/-- The command belongs to none of the rows by which the lifecycle, time, the host port state machine, the memories, the Ledger's values,
the keys, Multicast groups or the power controls change: it leaves them as they are. -/
def Instr.leavesCore : Instr → Bool
  | .bellBoundary .. | .rwBellApply .. | .throttleChange .. | .thermalHold .. | .thermalRelease .. | .perstDeassert ..
  | .portReset .. | .surpriseDown .. | .fatalError .. | .freeze .. | .thaw .. | .freezeCauseClear .. | .freezeRequest ..
  | .autoThaw .. | .thawComplete .. | .flr .. | .numvfsWrite .. | .deviceStoreWrite .. | .deviceStoreAtomic ..
  | .registerWrite .. | .completionTimeout .. | .hostReadComplete .. | .hostReadError .. | .registerRegion ..
  | .pageListReadComplete .. | .createAsk .. | .destroyKeyComplete .. | .invalidate .. | .porterBind .. | .imageLoad ..
  | .firmwareSwitch .. | .firmwareLoaded .. | .stagingDone .. | .walkReadComplete .. | .walkCasComplete ..
  | .missTimeout .. | .fill .. | .fault .. | .contextFetchComplete .. | .flushReadComplete .. | .targetAtomicComplete ..
  | .treeWrite .. | .treeDestroy .. | .mcastWrite .. | .portRetrain .. | .timeSync .. | .upstreamSilent .. | .timeLock ..
  | .timeUnlock .. | .ppsInEdge .. | .referenceLost .. | .refSecondsWrite .. | .pieceIssue .. | .mailboxRead ..
  | .mailboxWrite .. | .lapRead .. | .lapWrite .. | .lapBlock .. | .lapTxAbandon .. | .mgmtReq .. | .directorySelect ..
  | .mgmtKeyWrite .. | .bulkLoadImage .. | .bulkLoadFirmware .. | .bulkStageFirmware .. | .switchBellWrite ..
  | .changeoverResume .. | .resetRelease .. | .orderViolation .. | .railOutOfRange .. | .refclkStop .. | .requestOpen ..
  | .enterOpen .. | .deviceReset .. | .pwrfailNFall .. | .pwrfailLow .. | .pwrfailNRise .. | .drainDone .. | .drainLimit ..
  | .autoRestart .. | .beadleSelect .. | .beadleClear .. | .tallyCountWrite .. | .tallyDumpEnable .. | .tallyDumpCi ..
  | .dataLinkUp .. | .lapBitError .. => false
  | _ => true

end Sys2Proof

namespace Sys2Proof.Machine

/-- The byte memories of the part have their canonical form (R36, R520). -/
def State.memoryOk (s : State) : Bool := Cells.wf s.store && Cells.wf s.bulk

/-- A safe state: both byte memories in canonical form, and only well-formed commands in the queue. -/
def State.safe (s : State) : Bool := s.memoryOk && s.pending.all Instr.wf

/-- The command answers a next state, of which `P` holds. -/
def Completes (c : Instr) (s : State) (P : State → Prop) : Prop :=
  ∃ t, exec c s = .next t ∧ P t

/-- A clock value has been reached, or is reached inside the current bell. -/
def State.comes (s : State) (t : Nat) : Bool := decide (t < (s.ticks + 1) * 4096)

/-- The state once the clock has reached a value that comes: time moves on inside the bell, and nothing else. -/
def State.movedTo (s : State) (t : Nat) : State :=
  if t ≤ s.clock then s else { s with sub := t - s.ticks * 4096 }

/-- A doorbell reaches a ring and is taken (R68, R106, R107, R109, R110, R538, the table after R113). -/
def State.takesBell (s : State) (d : Doorbell) (r : Ring) : Prop :=
  s.fnExists d.fn = true ∧ d.slot < fnSlots d.fn ∧ ((s.port (fnPort d.fn)).state = .up ∨ (s.port (fnPort d.fn)).state = .thawing) ∧
  d.poisoned = false ∧ s.doorbellForm d = true ∧ s.life ≠ .shutter ∧ s.life ≠ .shut ∧ s.ringOf d = some r ∧
  doorbellRsv (s.isIndexed d.fn d.slot) r d.value = true ∧ s.indexFits d.fn r (BitVec.ofNat 16 d.value) = true ∧
  s.ringTakes r = true ∧ s.recalling d.fn r = false

/-- The command in progress of a function has an opcode and has not been taken up, and the function's port is UP (R117). -/
def State.adminHas (s : State) (fn op : Nat) (c : AdminCmd) : Prop :=
  (s.fn fn).admCur = some c ∧ Ent.opcode c.raw = op ∧ c.waiting = false ∧ s.portUp (fnPort fn) = true

/-- The state once a packet has been taken from those that have come for the device. -/
def State.without (s : State) (p : Packet) : State := { s with arrived := s.arrived.erase p }

/-- A packet of a transport context passes every test before its delivery (R187, R189, R199, R311, R323, R375): the device is OPEN, the packet
well formed, its context resident and of its incarnation, the function live and awake, the PSN new, and no meter set on it. -/
def State.takesPacket (s : State) (p : Packet) (c : Ctx) : Prop :=
  s.life = .open_ ∧ Packet.arrivalCheck p = 0 ∧ groupType p.ptype = false ∧ Tab.look s.ctxs (rxKey p) = some c ∧
  s.resident (rxKey p) = true ∧ (s.port (fnPort p.destFn)).state = .up ∧ s.fnExists p.destFn = true ∧ (s.fn p.destFn).flr = false ∧
  s.asleep p.destFn = false ∧
  (p.st = true ∧ c.rcvFresh = false ∧ c.rcvInc = BitVec.ofNat 32 p.inc ∨ p.st = false ∧ s.ctServes p = true) ∧
  s.psnPlace (rxKey p) c p.psn = .fresh ∧
  (policedType p.ptype = false ∨ 2 ≤ p.tc ∨ s.flag ((0x9300 + p.destFn) * 256 + 1) = false ∧
    s.param ((0x9400 + portNum (fnPort p.destFn)) * 256 + 1) = 0)

/-- What follows a delivery (R187 to R189, R227): the packet is acknowledged, refused or waits by its verdict, and the context goes on. -/
def State.afterDelivery (s : State) (p : Packet) (before : Nat) (v : Verdict) : State :=
  (s.settleVerdict (rxKey p) p before v).afterReceived (rxKey p)

end Sys2Proof.Machine
end

