-- ==== Sys2Proof/Certificates/Slice0/Obligations.lean ====
section
/-!
DEFINITION. The statements about the model, for its provers.
-/
section Statements
open Sys2Proof Sys2Proof.Machine

/-- A step takes the command at the front of the queue and runs it on the state with the queue's rest; on an empty queue the
block idles (the model's choice, notes/assumptions/1.md). -/
def Obligations.StepRunsFrontCommand : Prop :=
  (∀ (s : State) (c : Instr), step { s with pending := c :: s.pending } = exec c s) ∧
  (∀ (s : State) (c : Instr) (rest : List Instr), s.pending = c :: rest → step s = exec c { s with pending := rest }) ∧
  (∀ s : State, s.pending = [] → step s = .next s)

/-- Every command answers a next state, and takes nothing from the queue that waits: no fault and no refusal. -/
def Obligations.EveryCommandCompletes : Prop :=
  ∀ (c : Instr) (s : State), ∃ t, exec c s = .next t ∧ t.pending = s.pending

/-- What reset leaves: SEALED, both host ports in RESET with no cause, time 0 in FREE, every parameter at its power-up value,
both memories zero, no object, no fault, an empty queue. -/
def Obligations.ResetLeaves : Prop :=
  State.reset.life = .sealed ∧ State.reset.pending = [] ∧ (∀ p, (State.reset.port p).state = .reset ∧ (State.reset.port p).cause = 0 ∧
    (State.reset.port p).numVfs = 0) ∧ State.reset.time.now = 0 ∧ State.reset.time.state = .free ∧ State.reset.bell = 0 ∧
  (∀ a, State.reset.param a = Param.powerUp a) ∧ (∀ a, Cells.read State.reset.store a = 0 ∧ Cells.read State.reset.bulk a = 0) ∧
  (∀ fn, State.reset.fn fn = Fn.fresh) ∧ State.reset.keys = [] ∧ State.reset.tlb = [] ∧ State.reset.qps = [] ∧ State.reset.ctxs = [] ∧
  State.reset.beadle.log = [] ∧ State.reset.beadle.sources = [] ∧ State.reset.beadle.faultN = true ∧ State.reset.out = []

/-- The state after reset is safe. -/
def Obligations.ResetIsSafe : Prop :=
  State.reset.safe = true

/-- Every step keeps a safe state safe: both byte memories stay in canonical form, and only well-formed commands wait. -/
def Obligations.StepKeepsSafe : Prop :=
  ∀ s t : State, s.safe = true → step s = .next t → t.safe = true

/-- The frame of the commands that are no rows of the lifecycle, the host port state machine, the memories, the Ledger's values,
the keys, Multicast or the time state: none of these changes. -/
def Obligations.CoreFrame : Prop :=
  ∀ (c : Instr) (s t : State), c.leavesCore = true → exec c s = .next t →
    t.life = s.life ∧ t.ticks = s.ticks ∧ t.power = s.power ∧ t.ledger = s.ledger ∧ t.keys = s.keys ∧ t.clerk.key = s.clerk.key ∧
    t.mcast = s.mcast ∧ t.time.now = s.time.now ∧ t.time.state = s.time.state ∧ t.pending = s.pending ∧
    (∀ a, Cells.read t.store a = Cells.read s.store a ∧ Cells.read t.bulk a = Cells.read s.bulk a) ∧
    (∀ p, (t.port p).state = (s.port p).state ∧ (t.port p).cause = (s.port p).cause ∧ (t.port p).numVfs = (s.port p).numVfs)

/-- R22, R31, R460: a boundary adds one to the bells since reset, unless RW_BELL_APPLY has already done so; it leaves the
lifecycle. A device that is DARK has no bells. R31, R32: at a switch of rw-bell values every staged write whose bell has
come takes effect, in the order of acceptance, and no other parameter changes; the writes for later bells stay. -/
def Obligations.BellBoundaries : Prop :=
  (∀ (s : State) (i : BellInputs),
     (s.life ≠ .dark → s.switched = false → s.power.resetAfter = none → Completes (.bellBoundary i) s fun t =>
       t.ticks = s.ticks + 1 ∧ t.life = s.life ∧ t.switched = false) ∧
     (s.life ≠ .dark → s.switched = true → s.power.resetAfter = none → Completes (.bellBoundary i) s fun t =>
       t.ticks = s.ticks ∧ t.life = s.life ∧ t.switched = false) ∧
     (s.life = .dark → exec (.bellBoundary i) s = .next s)) ∧
  (∀ s : State, s.life ≠ .dark → s.switched = false → (∃ x ∈ s.staged, x.bell ≤ s.endBell.nextBoundary.bell) →
     Completes .rwBellApply s fun t =>
       t.switched = true ∧ t.ticks = s.ticks + 1 ∧ t.life = s.life ∧
       t.staged = s.staged.filter (fun (x : Staged) => !decide (x.bell ≤ s.endBell.nextBoundary.bell)) ∧
       t.ledger = (s.staged.foldl (fun u (x : Staged) =>
         if x.bell ≤ s.endBell.nextBoundary.bell then State.setParam u x.addr x.value else u) s).ledger)

/-- R27, R30, R568: a domain whose tasks are unfinished when its budget has passed overruns the bell, once; beyond the limit a
fault is raised. R27, R28, R29: the tasks of a domain at a bell are done after those set aside, or set aside behind them;
what is set aside keeps its bell and inputs. -/
def Obligations.BellTasks : Prop :=
  (∀ (s : State) (d : Nat), Tab.getD s.deferred d [] ≠ [] → Tab.num s.tally.counted d ≤ s.ticks →
     s.comes (s.ticks * 4096 + s.openParam (0x110000 + d) * 16) = true → Completes (.bellOverrun d) s fun t =>
       Tab.num t.tally.overruns d = (Tab.num s.tally.overruns d + 1) % 2 ^ 64 ∧
       Tab.num t.tally.runs d = min (Tab.num s.tally.runs d + 1) 4294967295 ∧
       t.beadle = (if s.param 0x110101 < min (Tab.num s.tally.runs d + 1) 4294967295
         then s.beadle.occur FaultCode.bellBudget d 0 s.bell s.ticks else s.beadle) ∧
       t.deferred = s.deferred ∧ t.ticks = s.ticks ∧ s.clock ≤ t.clock) ∧
  (∀ (s : State) (i : BellInputs) (d : Nat),
     (s.paused = false → bitAt i.finish (d - 1) = false →
       s.domainBell i d = { s with deferred := Tab.put s.deferred d (Tab.getD s.deferred d [] ++ [(s.bell, i)]) }) ∧
     (s.paused = false → bitAt i.finish (d - 1) = true → s.deferred = [] →
       s.domainBell i d = ({ s with tally := { s.tally with runs := Tab.del s.tally.runs d } } : State).domainTask d s.bell i) ∧
     (s.paused = true → Tab.getD (s.domainBell i d).deferred d [] = Tab.getD s.deferred d [] ++ [(s.bell, i)]))

/-- R526, R527, R531, R536, R541, R542, R578: what each lifecycle command does, where its row of the table applies. -/
def Obligations.LifecycleCommands : Prop :=
  ∀ s : State,
    (∀ a, s.life = .dark → s.power.violation = false → Completes (.resetRelease a false) s fun t =>
      t.life = (if s.power.pwrfail then .shut else .sealed) ∧ t.ledger = [] ∧ t.keys = [] ∧ t.qps = [] ∧ t.store = [] ∧
      t.hostA.state = .reset ∧ t.hostB.state = .reset ∧ t.time.now = 0 ∧ t.time.state = .free ∧ t.lap.addr = a) ∧
    (s.life = .dark → exec .orderViolation s = .next { s with power := { s.power with violation := true } }) ∧
    (∀ c, c = .railOutOfRange ∨ c = .refclkStop → Completes c s fun t =>
      t.life = .dark ∧ t.ledger = [] ∧ t.keys = [] ∧ t.qps = [] ∧ t.ctxs = [] ∧ t.store = [] ∧ t.bulk = [] ∧ t.beadle = Beadle.fresh) ∧
    (s.life ≠ .dark → exec .pmemReady s = .next { s with clerk := { s.clerk with pmemReady := true } }) ∧
    (s.life ≠ .dark → s.life ≠ .sealed → exec .agentsReady s = .next { s with clerk := { s.clerk with agentsReady := true } }) ∧
    (s.life = .setup → s.power.openPending = true → (s.param 0xE00002 = 0 ∨ s.time.state = .locked) → s.sub = 0 →
      Completes .enterOpen s fun t =>
        t.life = .open_ ∧ t.power = { s.power with entered := true, openPending := false } ∧ t.store = [] ∧
        t.bulk = s.bulk ∧ t.ledger = s.ledger ∧ t.keys = s.keys ∧ t.mcast = s.mcast ∧ t.ticks = s.ticks) ∧
    (s.power.pwrfailN = false → Completes .pwrfailNFall s fun t =>
      t.power = { s.power with pwrfailN := true, fallAt := t.clock } ∧ s.clock ≤ t.clock ∧ t.ticks = s.ticks ∧ t.life = s.life) ∧
    (s.power.pwrfailN = true → s.power.pwrfail = false → s.comes (s.power.fallAt + nsUnits 2000) = true →
      Completes .pwrfailLow s fun t =>
        t.life = (match s.life with | .sealed | .setup => .shut | .open_ => .shutter | l => l) ∧ t.power.pwrfail = true ∧
        ((s.life = .sealed ∨ s.life = .setup) → t.power.shutDone = true) ∧ t.ledger = s.ledger ∧ t.keys = s.keys ∧ t.store = s.store) ∧
    (s.power.pwrfailN = true → s.power.pwrfail = false → s.life ≠ .dark → Completes .pwrfailNRise s fun t =>
      t.power = { s.power with pwrfailN := false, glitches := s.power.glitches + 1 } ∧ t.life = s.life) ∧
    (s.power.pwrfailN = true → s.power.pwrfail = true → Completes .pwrfailNRise s fun t =>
      t.power = { s.power with pwrfailN := false, pwrfail := false, riseAt := t.clock } ∧ t.life = s.life) ∧
    (s.life = .shutter → s.durableLeft = false → s.power.flushed = true →
      (∀ r ∈ s.reads, ∀ p, r.2.for_ ≠ .drain p) → Completes .drainDone s fun t =>
        t.life = .shut ∧ t.power.shutDone = true ∧ t.reads = [] ∧ t.store = s.store) ∧
    (s.life = .shutter → s.durableLeft = false → s.power.flushed = false → s.hostA.dirty = none → s.hostB.dirty = none →
      (∀ r ∈ s.reads, ∀ p, r.2.for_ ≠ .drain p) → Completes .drainDone s fun t =>
        t.life = .shut ∧ t.power.shutDone = true) ∧
    (s.life = .shutter → s.comes (s.power.fallAt + nsUnits (s.openParam 0xE02003 * 1000)) = true →
      Completes .drainLimit s fun t =>
        t.life = .shut ∧ t.power.shutDone = true ∧ t.reads = [] ∧
        t.power.abandoned = s.power.abandoned + s.qps.foldl (fun n e => n + countP Wqe.durable e.2.sq.ents) 0) ∧
    (s.life = .shut → s.power.pwrfailN = false → s.power.pwrfail = false → s.flag 0xE02004 = true →
      s.comes (s.power.riseAt + nsUnits (s.param 0xE02005 * 1000000)) = true → Completes .autoRestart s fun t =>
        t.life = .sealed ∧ t.ledger = [] ∧ t.power.shutDone = false ∧ t.hostA.state = .reset ∧ t.hostB.state = .reset)

/-- R52, R73: what the events of the host port state machine do, where their row of the table applies. R72: a THAW is ignored
while the link is down, a cause is still set, or the hold has not passed. -/
def Obligations.HostPortStateMachine : Prop :=
  (∀ (s : State) (p : HPort),
     (∀ l, (s.port p).state = .reset → Completes (.perstDeassert p (some l)) s fun t =>
       (t.port p).state = .up ∧ (t.port p).perst = false ∧ (t.port p).linkUp = true ∧ (t.port p).link = l ∧ (t.port p).wake = []) ∧
     (Completes (.perstDeassert p none) s fun t =>
       (t.port p).state = (s.port p).state ∧ (t.port p).perst = false ∧ (t.port p).linkUp = (s.port p).linkUp) ∧
     (∀ l, (s.port p).perst = false → Completes (.dataLinkUp p l) s fun t =>
       (t.port p).state = (if (s.port p).state = .reset then .up else (s.port p).state) ∧ (t.port p).linkUp = true ∧
       (t.port p).link = l ∧ (t.port p).cause = (s.port p).cause ∧ t.port (otherPort p) = s.port (otherPort p)) ∧
     (∀ why, Completes (.portReset p why) s fun t =>
       (t.port p).state = .reset ∧ (t.port p).cause = 0 ∧ (t.port p).timeouts = 0 ∧ (t.port p).poisons = 0 ∧ (t.port p).held = [] ∧
       (t.port p).numVfs = 0 ∧ (t.port p).linkUp = false ∧ t.boot p = Boot.fresh ∧ (∀ fn, fnPort fn = p → t.fn fn = Fn.fresh)) ∧
     (∀ c bit, (c = .freeze p ∧ bit = 16 ∨ c = .fatalError p ∧ bit = 2 ∨
         c = .surpriseDown p ∧ (s.port p).linkUp = true ∧ bit = 8) →
       ((s.port p).state = .up → Completes c s fun t => (t.port p).state = .frozen ∧ (t.port p).cause = (s.port p).cause ||| bit) ∧
       ((s.port p).state = .frozen → Completes c s fun t =>
         (t.port p).state = .frozen ∧ (t.port p).cause = (s.port p).cause ||| bit ∧ (t.port p).frozenAt = s.nextBell ∧
         (t.port p).timeouts = 0 ∧ (t.port p).poisons = 0)) ∧
     ((s.port p).state = .frozen → (s.port p).linkUp = true → (s.port p).cause = 0 → (s.port p).holdOver s.ticks = true →
       Completes (.thaw p) s fun t => (t.port p).state = .thawing) ∧
     ((s.port p).state = .frozen → (s.port p).linkUp = true → (s.port p).holdOver s.ticks = true → s.param 0x203004 ≠ 0 →
       s.onTime 3 = true → Completes (.autoThaw p) s fun t => (t.port p).state = .thawing ∧ (t.port p).cause = (s.port p).cause) ∧
     ((s.port p).state = .thawing → s.thawed p = true → Completes (.thawComplete p) s fun t => (t.port p).state = .up) ∧
     (∀ mask, exec (.freezeCauseClear p mask) s =
       .next (s.setPort p (fun q => { q with cause := q.cause &&& ~~~(mask.setWidth 6) }))) ∧
     (s.param 0x205001 ≠ 0 → (s.port p).state = .up → (s.port p).l1 = false → s.path p = [] → (∀ r ∈ s.reads, r.2.port ≠ p) →
       exec (.l1Idle p) s = .next ((s.tunePort p (fun q => { q with l1 := true })).emit (.l1 p)))) ∧
  (∀ (s : State) (p : HPort),
     ((s.port p).state ≠ .frozen ∨ (s.port p).linkUp = false ∨ (s.port p).cause ≠ 0 ∨ s.ticks < (s.port p).frozenAt + (s.port p).hold) →
     exec (.thaw p) s = .next s)

/-- R68, R71, R73: while a port is FROZEN, a completion, an event or an interrupt message is held and any other request is not
issued; in RESET nothing is issued; otherwise the unit joins the end of the port's path. -/
def Obligations.RequestsFollowPortState : Prop :=
  ∀ (s : State) (u : HostUnit),
    ((s.port (fnPort u.fn)).state = .up ∨ (s.port (fnPort u.fn)).state = .thawing →
      (s.request u).path (fnPort u.fn) = s.path (fnPort u.fn) ++ [{ u with since := s.clock }] ∧
      (s.request u).port (fnPort u.fn) = s.port (fnPort u.fn)) ∧
    ((s.port (fnPort u.fn)).state = .frozen → u.op.held = true →
      (s.request u).path (fnPort u.fn) = s.path (fnPort u.fn) ∧
      ((s.request u).port (fnPort u.fn)).held = (s.port (fnPort u.fn)).held ++ [{ u with since := s.clock }]) ∧
    ((s.port (fnPort u.fn)).state = .frozen → u.op.held = false → s.request u = s) ∧
    ((s.port (fnPort u.fn)).state = .reset → s.request u = s)

/-- R42, R44, R55, R57, R73, R77, R79: what the commands that act on one function do to it. -/
def Obligations.FunctionCommands : Prop :=
  ∀ (s : State) (fn : Nat),
    (s.fnExists fn = true → (s.port (fnPort fn)).state ≠ .reset → Completes (.flr fn) s fun t =>
      t.fn fn = { Fn.fresh with flr := true } ∧ (∀ e ∈ t.keys, e.2.fn ≠ fn)) ∧
    ((s.fn fn).flr = true → Completes (.flrComplete fn) s fun t => (t.fn fn).flr = false ∧
      (((s.fn fn).msixOn = false ∨ (s.fn fn).masked 0 = true ∨ s.asleep fn = true) → 0 ∈ (t.fn fn).pba)) ∧
    (∀ p n, n ≤ 127 → (s.port p).state ≠ .reset → Completes (.numvfsWrite p n) s fun t =>
      (t.port p).numVfs = n ∧ (∀ f, fnPort f = p → n < f % 128 → t.fn f = Fn.fresh) ∧
      (∀ e ∈ t.keys, ¬(fnPort e.2.fn = p ∧ n < e.2.fn % 128))) ∧
    (∀ pme, s.fnExists fn = true → (s.port (fnPort fn)).state ≠ .reset →
      exec (.powerStateWrite fn true pme) s = .next (s.setFn fn (fun f => { f with d3hot := true, pmeEn := pme }))) ∧
    (∀ pme, s.fnExists fn = true → (s.port (fnPort fn)).state ≠ .reset → fnIsPf fn = false → (s.fn (portPf (fnPort fn))).d3hot = false →
      (∀ f ∈ (s.port (fnPort fn)).wake, f = fn) → exec (.powerStateWrite fn false pme) s =
        .next ((((s.setFn fn (fun f => { f with d3hot := false, pmeEn := pme })).endWake (fnPort fn)).sendAllPending fn).resumeFn fn)) ∧
    (∀ v, s.fnExists fn = true → v < fnVectors fn → v ∈ (s.fn fn).pba → (s.fn fn).msixOn = true → s.awake fn = true →
      Completes (.msixUnmask fn (some v)) s fun t =>
        (t.fn fn).masked v = false ∧ v ∉ (t.fn fn).pba ∧
        t.path (fnPort fn) = s.path (fnPort fn) ++ [{ queueUnit fn (.msix fn) [] (.msix fn v) with since := s.clock }]) ∧
    (s.fnExists fn = true → (s.fn fn).pba = [] →
      Completes (.msixUnmask fn none) s fun t => (t.fn fn).msixOn = true ∧ t.path (fnPort fn) = s.path (fnPort fn)) ∧
    ((s.fn fn).pmeStatus = true → (s.fn fn).d3hot = true → (s.port (fnPort fn)).state ≠ .reset →
      exec (.pmPmeRepeat fn) s = .next (s.emit (.pmPme fn))) ∧
    (s.fnExists fn = true → exec (.pmeStatusClear fn) s = .next (s.setFn fn (fun f => { f with pmeStatus := false })))

/-- R36, R37, R49, R50, R66, R67: the Device Store window. A read returns the bytes and a mark where a line is poisoned; a write
changes the bytes written and no others; an AtomicOp returns the old bytes and writes the new value; a request that reaches
no store is answered Unsupported Request, or reported, and leaves memory alone. -/
def Obligations.DeviceStoreWindow : Prop :=
  ∀ (s : State) (p : HPort) (off : Nat), s.portLive p = true →
    (∀ len, s.inStore p off len = true → exec (.deviceStoreRead p off len none) s =
      .next (s.emit (.hostData p (Cells.readBytes s.store off len) (s.linePoison off len)))) ∧
    (∀ len a, s.inStore p off len = true → Completes (.deviceStoreRead p off len (some a)) s fun t =>
      t.store = s.store ∧ t.out = s.out ++ [.hostData p (Cells.readBytes s.store off len) true] ∧
      ∃ ch, ch < 16 ∧ t.beadle = s.beadle.occur FaultCode.pmemUncorrectable ch a s.bell s.ticks) ∧
    (∀ len e, s.inStore p off len = false → exec (.deviceStoreRead p off len e) s = .next (s.emit (.hostUr p))) ∧
    (∀ data bad, s.inStore p off data.length = true → Cells.wf s.store = true → Completes (.deviceStoreWrite p off data bad) s fun t =>
      Cells.readBytes t.store off data.length = data ∧
      (∀ a, a < off ∨ off + data.length ≤ a → Cells.read t.store a = Cells.read s.store a) ∧
      t.bulk = s.bulk ∧ t.out = s.out ∧ t.ledger = s.ledger) ∧
    (∀ data bad, s.inStore p off data.length = false →
      exec (.deviceStoreWrite p off data bad) s = .next (s.emit (.aer p false))) ∧
    (∀ op x c, s.inStore p off (atomicSize op) = true → Cells.wf s.store = true → Completes (.deviceStoreAtomic p 4 off op x c) s fun t =>
      Cells.readBytes t.store off (atomicSize op) =
        leBytes (atomicSize op) (atomicValue op (atomicSize op) (leNat (Cells.readBytes s.store off (atomicSize op))) x c) ∧
      (∀ a, a < off ∨ off + atomicSize op ≤ a → Cells.read t.store a = Cells.read s.store a) ∧
      t.out = s.out ++ [.hostData p (Cells.readBytes s.store off (atomicSize op)) (s.linePoison off (atomicSize op))]) ∧
    (∀ bar op x c, bar ≠ 4 ∨ s.inStore p off (atomicSize op) = false →
      exec (.deviceStoreAtomic p bar off op x c) s = .next (s.emit (.hostUr p)))

/-- R48, R52, R63, R67, R106: a register write to BAR2 is a doorbell, a poisoned one to BAR0 is discarded and reported, one to a
function that does not answer is dropped, and the administrative bases and the freeze causes take what BAR0 brings. -/
def Obligations.RegisterWrites : Prop :=
  ∀ (s : State) (fn off : Nat) (data : Bytes),
    (∀ bad, s.life ≠ .dark → exec (.registerWrite fn 2 off data bad) s =
      .next (s.doorbell ⟨fn, off / 64, off % 64, data.length, leNat data, bad⟩)) ∧
    (∀ bad, s.reachableFn fn = false → exec (.registerWrite fn 0 off data bad) s = .next s) ∧
    (s.reachableFn fn = true → exec (.registerWrite fn 0 off data true) s = .next (s.emit (.aer (fnPort fn) true))) ∧
    (∀ m : BitVec 32, s.reachableFn fn = true → fnIsPf fn = true → Completes (.registerWrite fn 0 0x4008 (leBytes 4 m.toNat) false) s fun t =>
      (t.port (fnPort fn)).cause = (s.port (fnPort fn)).cause &&& ~~~(m.setWidth 6) ∧
      (t.port (fnPort fn)).state = (s.port (fnPort fn)).state) ∧
    (∀ b, b < 2 ^ 52 → s.reachableFn fn = true → s.life ≠ .sealed → (s.fn fn).admOn = false → (s.fn fn).admCqBase < 2 ^ 52 →
      Completes (.registerWrite fn 0 0x3008 (leBytes 8 (b * 4096)) false) s fun t =>
        (t.fn fn).admSqBase = b ∧ (t.fn fn).admCqBase = (s.fn fn).admCqBase ∧ (t.fn fn).mailbox = (s.fn fn).mailbox)

/-- R546, R547, R548, R554, R555: an occurrence makes the source active, counts up to saturation, keeps the first bell while it
stays active, drives FAULT_N low, and enters the log when the source was not active. R549, R550, R548, R555: the exit of an
active source is logged and counted, and FAULT_N is released only when no source is active. R555: the fault log holds the
last 1,024 records, the newest at its end. -/
def Obligations.FaultRecords : Prop :=
  (∀ (b : Beadle) (code inst detail bell ticks : Nat),
     (∃ r, Tab.look (b.occur code inst detail bell ticks).sources (code * 256 + inst) = some r ∧ r.active = true ∧ r.last = bell ∧
       r.lastTick = ticks ∧ r.detail = detail ∧
       r.occurrences = min ((Tab.getD b.sources (code * 256 + inst) FaultRec.fresh).occurrences + 1) 4294967295 ∧
       r.exits = (Tab.getD b.sources (code * 256 + inst) FaultRec.fresh).exits ∧
       r.first = (if (Tab.getD b.sources (code * 256 + inst) FaultRec.fresh).active = true
         then (Tab.getD b.sources (code * 256 + inst) FaultRec.fresh).first else bell) ∧
       (b.occur code inst detail bell ticks).log = (if (Tab.getD b.sources (code * 256 + inst) FaultRec.fresh).active = true
         then b.log else logAppend b.log (recordImage code inst r))) ∧
     (b.occur code inst detail bell ticks).faultN = false ∧
     (∀ k, k ≠ code * 256 + inst → Tab.look (b.occur code inst detail bell ticks).sources k = Tab.look b.sources k) ∧
     (b.occur code inst detail bell ticks).recoveries = b.recoveries) ∧
  (∀ (b : Beadle) (k : Nat) (r : FaultRec), Tab.look b.sources k = some r → r.active = true →
     Tab.look (b.exit k).sources k = some { r with active := false, exits := (r.exits + 1) % 2 ^ 32 } ∧
     (∀ j, j ≠ k → Tab.look (b.exit k).sources j = Tab.look b.sources j) ∧
     (b.exit k).recoveries = b.recoveries + 1 ∧
     ((b.exit k).faultN = true ↔ ∀ e ∈ (b.exit k).sources, e.2.active = false) ∧
     (b.exit k).log = logAppend b.log (recordImage (k / 256) (k % 256) { r with active := false, exits := (r.exits + 1) % 2 ^ 32 })) ∧
  (∀ (l : List Nat) (r : Nat), l.length ≤ 1024 →
     (logAppend l r).length = min (l.length + 1) 1024 ∧ (logAppend l r).getLast? = some r ∧
     (∀ i, i < l.length → (l.length < 1024 → (logAppend l r)[i]? = l[i]?) ∧ (l.length = 1024 → i < 1023 → (logAppend l r)[i]? = l[i + 1]?)))

/-- R534, R535, R546, R549, R584, R585: what the commands of faults, power and temperature do where their row applies. -/
def Obligations.FaultAndPowerCommands : Prop :=
  ∀ s : State,
    (∀ k r, Tab.look s.beadle.sources k = some r → r.active = true → r.lastTick + s.param 0xE10001 < s.ticks → s.onTime 15 = true →
      exec (.quietPeriodExit k) s = .next { s with beadle := s.beadle.exit k }) ∧
    (∀ k r, Tab.look s.beadle.sources k = some r → s.ticks ≤ r.lastTick + s.param 0xE10001 → exec (.quietPeriodExit k) s = .next s) ∧
    ((∀ t, s.power.throttleAt = some t → t + 1024 ≤ s.ticks) → s.onTime 15 = true →
      (s.aboveCap = true → s.power.throttle < 12 → exec .throttleChange s =
        .next { s with power := { s.power with throttle := s.power.throttle + 1, throttleAt := some s.ticks } }) ∧
      (s.belowCap = true → s.aboveCap = false → 0 < s.power.throttle → exec .throttleChange s =
        .next { s with power := { s.power with throttle := s.power.throttle - 1, throttleAt := some s.ticks } })) ∧
    (∀ t, s.power.throttleAt = some t → s.ticks < t + 1024 → exec .throttleChange s = .next s) ∧
    (8 ≤ s.power.hotRun → exec .thermalHold s = .next { s with power := { s.power with hold := true } }) ∧
    ((∀ x ∈ s.power.tempsMc, x ≤ 108000) → exec .thermalRelease s = .next { s with power := { s.power with hold := false } }) ∧
    ((∃ x ∈ s.power.tempsMc, 108000 < x) → exec .thermalRelease s = .next s) ∧
    (s.tooHot = true → (Tab.getD s.beadle.sources (FaultCode.thermal * 256) FaultRec.fresh).active = false →
      exec .thermalLimitExceeded s = .next { s with beadle := s.beadle.occur FaultCode.thermal 0 0 s.bell s.ticks }) ∧
    (∀ i, (s.senseBell i).power.tempsMc = i.tempsMc ∧ (s.senseBell i).power.railsMv = i.railsMv ∧
      (s.senseBell i).power.hotRun = (if ∃ x ∈ i.tempsMc, (112999 : Int) < x then s.power.hotRun + 1 else 0))

/-- R62, R74, R75: an answer ends the read; a good one clears both counts of the port, a poisoned one raises the poison count, a
timeout the timeout count, an error neither. R62, R64, R74, R75, R147, R150, R180, R222, R225, R231, R589, R593: the answer
to an outstanding read is noted and what the read served goes on with it; the part's freeze follows where a count has
reached its limit. R74, R75: once the consecutive count has reached its limit, the port freezes, with the cause of the
count. -/
def Obligations.HostAnswers : Prop :=
  (∀ (s : State) (tag : Nat) (r : HostRead),
     (∀ a, (s.noteAnswer tag r a).reads = Tab.del s.reads tag ∧ (s.noteAnswer tag r a).ledger = s.ledger ∧
       (s.noteAnswer tag r a).store = s.store ∧ (s.noteAnswer tag r a).ctxs = s.ctxs ∧ (s.noteAnswer tag r a).qps = s.qps) ∧
     (∀ d, ((s.noteAnswer tag r (.data d)).port r.port).timeouts = 0 ∧ ((s.noteAnswer tag r (.data d)).port r.port).poisons = 0) ∧
     (∀ d, ((s.noteAnswer tag r (.poisoned d)).port r.port).timeouts = 0 ∧
       ((s.noteAnswer tag r (.poisoned d)).port r.port).poisons = (s.port r.port).poisons + 1) ∧
     (((s.noteAnswer tag r .error).port r.port).timeouts = (s.port r.port).timeouts ∧
       ((s.noteAnswer tag r .error).port r.port).poisons = (s.port r.port).poisons) ∧
     (((s.noteAnswer tag r .timeout).port r.port).timeouts = (s.port r.port).timeouts + 1 ∧
       ((s.noteAnswer tag r .timeout).port r.port).poisons = (s.port r.port).poisons)) ∧
  (∀ (s : State) (tag : Nat) (r : HostRead), Tab.look s.reads tag = some r →
     (∀ d, s.answers r (.data d) = true → exec (.hostReadComplete tag d false) s = .next ((s.noteAnswer tag r (.data d)).serve r (.data d))) ∧
     (∀ d, s.answers r (.poisoned d) = true → exec (.hostReadComplete tag d true) s =
       .next (((s.noteAnswer tag r (.poisoned d)).serve r (.poisoned d)).freezeRun r.port (.poisoned d))) ∧
     (s.answers r .error = true → exec (.hostReadError tag) s = .next ((s.noteAnswer tag r .error).serve r .error)) ∧
     (s.answers r .timeout = true → s.onTime 3 = true → exec (.completionTimeout tag) s =
       .next (((s.noteAnswer tag r .timeout).serve r .timeout).freezeRun r.port .timeout)) ∧
     (∀ fn d, r.for_ = .pageList fn → s.answers r (.data d) = true →
       exec (.pageListReadComplete tag (.data d)) s = .next ((s.noteAnswer tag r (.data d)).takePageList fn d)) ∧
     (∀ m d, r.for_ = .walk m → s.answers r (.data d) = true →
       exec (.walkReadComplete tag (.data d)) s = .next ((s.noteAnswer tag r (.data d)).walkBack m (.data d))) ∧
     (∀ m d, r.for_ = .cas m → s.answers r (.data d) = true →
       exec (.walkCasComplete tag (.data d)) s = .next ((s.noteAnswer tag r (.data d)).casBack m (.data d))) ∧
     (∀ k d, r.for_ = .context k → s.answers r (.data d) = true →
       exec (.contextFetchComplete tag (.data d)) s = .next ((s.noteAnswer tag r (.data d)).contextBack k (.data d))) ∧
     (∀ k n d, r.for_ = .flush k n → s.answers r (.data d) = true →
       exec (.flushReadComplete tag (.data d)) s = .next ((s.noteAnswer tag r (.data d)).flushBack k n (.data d))) ∧
     (∀ g d, r.for_ = .groupFlush g → s.answers r (.data d) = true →
       exec (.flushReadComplete tag (.data d)) s = .next ((s.noteAnswer tag r (.data d)).groupFlushBack g (.data d))) ∧
     (∀ p d, r.for_ = .drain p → s.answers r (.data d) = true →
       exec (.flushReadComplete tag (.data d)) s = .next (s.noteAnswer tag r (.data d))) ∧
     (∀ k n z d, r.for_ = .atomic k n z → s.answers r (.data d) = true →
       exec (.targetAtomicComplete tag (.data d)) s = .next ((s.noteAnswer tag r (.data d)).atomicBack k n z (.data d)))) ∧
  (∀ (s : State) (p : HPort), (s.port p).state = .up →
     (s.param 0x203002 ≤ (s.port p).timeouts → ((s.freezeRun p .timeout).port p).state = .frozen ∧
       ((s.freezeRun p .timeout).port p).cause = (s.port p).cause ||| 4) ∧
     (∀ d, s.param 0x203005 ≤ (s.port p).poisons → ((s.freezeRun p (.poisoned d)).port p).state = .frozen ∧
       ((s.freezeRun p (.poisoned d)).port p).cause = (s.port p).cause ||| 1) ∧
     ((s.port p).timeouts < s.param 0x203002 → s.freezeRun p .timeout = s))

/-- R86, R94, R102, R107, R120, R163, R474: a doorbell that is taken leaves the index it brings in its ring, and what the new
index allows goes on. R68, R106, R107, R109, R110, R538: a doorbell on a ring that refuses it is discarded and counted; one
to a function that does not exist or a slot beyond its slots, of a wrong form, or in SHUTTER or SHUT, changes nothing. -/
def Obligations.Doorbells : Prop :=
  (∀ (s : State) (d : Doorbell), WellFormed.doorbell d = true →
     (∀ n, s.takesBell d (.sq n) → exec (.sqDoorbell d) s = .next ((s.modSq n (fun q =>
       if q.pi = d.index then q
       else { q with pi := d.index, short := false, recalled := false,
                     bells := noteBell q.bells q.unstarted q.pi d.index s.clock })).advanceQp n)) ∧
     (∀ n, s.takesBell d (.rq n) → exec (.rqDoorbell d) s = .next ((s.modRq n (fun q =>
       if q.pi = d.index then q
       else { q with pi := d.index, short := false, recalled := false,
                     bells := noteBell q.bells q.unstarted q.pi d.index s.clock })).advanceQp n)) ∧
     (∀ h, s.takesBell d (.srq h) → exec (.srqDoorbell d) s = .next (((s.modSrq (qkey d.fn h) (fun q =>
       if q.pi = d.index then q else { q with pi := d.index, short := false })).srqLow (qkey d.fn h)).fetchSrq (qkey d.fn h))) ∧
     (∀ h q, s.takesBell d (.cq h) → h ≠ 1 → bits d.value 2 0 2 = 0 → Tab.look s.cqs (qkey d.fn h) = some q →
       exec (.cqDoorbell d) s = .next (({ s with cqs := Tab.put s.cqs (qkey d.fn h) { q with ci := d.index, solicited := q.solicited.filter (fun i => decide ((i - d.index).toNat < (q.pi - d.index).toNat)) } } : State).cqRoom d.fn h)) ∧
     (∀ h q, s.takesBell d (.cq h) → bits d.value 2 0 2 = 1 → Tab.look s.cqs (qkey d.fn h) = some q → q.pi = d.index →
       exec (.cqArm d) s = .next (({ s with cqs := Tab.put s.cqs (qkey d.fn h) { q with ci := d.index, solicited := [], armed := true } } : State).cqRoom d.fn h)) ∧
     (∀ h q, s.takesBell d (.cq h) → bits d.value 2 0 2 = 2 → Tab.look s.cqs (qkey d.fn h) = some q → q.pi = d.index →
       exec (.cqArmSolicited d) s = .next (({ s with cqs := Tab.put s.cqs (qkey d.fn h) { q with ci := d.index, solicited := [], armedSol := true } } : State).cqRoom d.fn h)) ∧
     (∀ h q, s.takesBell d (.cq h) → bits d.value 2 0 2 = 1 → Tab.look s.cqs (qkey d.fn h) = some q → q.pi ≠ d.index →
       exec (.cqArm d) s = .next ((({ s with cqs := Tab.put s.cqs (qkey d.fn h) { q with ci := d.index, solicited := q.solicited.filter (fun i => decide ((i - d.index).toNat < (q.pi - d.index).toNat)), armed := true } } : State).cqNotify d.fn h).cqRoom d.fn h)) ∧
     (∀ h q, s.takesBell d (.eq h) → Tab.look s.eqs (qkey d.fn h) = some q →
       exec (.eqDoorbell d) s = .next (({ s with eqs := Tab.put s.eqs (qkey d.fn h) { q with ci := d.index } } : State).drainMarks
         d.fn h q.marks.length)) ∧
     (s.takesBell d .adminSq → d.slot = 0 →
       exec (.adminSqDoorbell d) s = .next ((s.setFn d.fn (fun f => { f with admPi := d.index })).fetchAdmin d.fn)) ∧
     (∀ q, s.takesBell d (.cq 1) → d.slot = 1 → bits d.value 2 0 2 = 0 → Tab.look s.cqs (qkey d.fn 1) = some q →
       exec (.adminCqDoorbell d) s = .next (({ s with cqs := Tab.put s.cqs (qkey d.fn 1) { q with ci := d.index, solicited := q.solicited.filter (fun i => decide ((i - d.index).toNat < (q.pi - d.index).toNat)) } } : State).cqRoom d.fn 1)) ∧
     (s.takesBell d .missRing → exec (.missRingDoorbell d) s = .next ((s.setFn d.fn (fun f =>
       { f with missq := f.missq.map (fun q => { q with missCi := d.index, eventOut := false }) })).writeMisses d.fn)) ∧
     (s.takesBell d .fillRing → exec (.fillRingDoorbell d) s = .next ((s.setFn d.fn (fun f =>
       { f with missq := f.missq.map (fun q => { q with fillPi := d.index }) })).fetchFill d.fn)) ∧
     (∀ ch, s.takesBell d (.porter ch) → exec (.porterDoorbell d) s = .next ((s.modChan ch (fun c =>
       { c with pi := d.index, ownZero := false })).fetchDesc ch))) ∧
  (∀ (s : State) (d : Doorbell),
     ((s.fnExists d.fn = false ∨ fnSlots d.fn ≤ d.slot ∨ (s.port (fnPort d.fn)).state = .reset) → s.doorbell d = s) ∧
     (d.poisoned = false → (s.doorbellForm d = false ∨ s.life = .shutter ∨ s.life = .shut) → s.doorbell d = s) ∧
     (∀ r, WellFormed.doorbell d = true → s.fnExists d.fn = true → d.slot < fnSlots d.fn → (s.port (fnPort d.fn)).state ≠ .reset →
       d.poisoned = false → s.doorbellForm d = true → s.life ≠ .shutter → s.life ≠ .shut → s.ringOf d = some r →
       ((s.port (fnPort d.fn)).state = .frozen ∨ doorbellRsv (s.isIndexed d.fn d.slot) r d.value = false ∨
         s.indexFits d.fn r d.index = false ∨ s.ringTakes r = false) →
       s.doorbell d = s.count Event.doorbellDiscard d.fn 1))

/-- R99, R100, R105, R114, R115, R116: a grant gives the first waiter its reservation; a due event queue sends its message;
enabling the administrative path starts it with both indices 0 and a fresh completion queue; disabling it while idle ends
it. -/
def Obligations.QueueService : Prop :=
  ∀ (s : State) (fn : Nat),
    (∀ h c n rest x w, Tab.look s.cqs (qkey fn h) = some c → c.room = true → c.waiters = .sq n :: rest →
      Tab.look s.qps n = some x → x.sq.firstWaiting = some w →
      exec (.cqReservationGrant fn h) s = .next ((({ s with cqs := Tab.put s.cqs (qkey fn h) { c with waiters := rest, reserved := c.reserved + 1 } } : State).modSq n (fun y =>
        { (Sq.modEnt y w.idx (fun w => { w with reserved := true })) with waiting := false })).advanceQp n)) ∧
    (∀ h c, Tab.look s.cqs (qkey fn h) = some c → c.room = false → exec (.cqReservationGrant fn h) s = .next s) ∧
    (∀ h e, Tab.look s.eqs (qkey fn h) = some e → e.owed = true → s.onTime 4 = true → (∀ t, e.lastMsg = some t → t + e.mod ≤ s.ticks) →
      exec (.eqModerationExpiry fn h) s = .next (({ s with eqs := Tab.put s.eqs (qkey fn h) { e with lastMsg := some s.ticks, owed := false } } : State).msix fn e.vector [.eq (qkey fn h)])) ∧
    (∀ cfg : BitVec 32, s.fnExists fn = true → (s.port (fnPort fn)).state ≠ .reset → s.life ≠ .sealed → (s.fn fn).admOn = false →
      bits cfg.toNat 0 16 1 = 1 → Completes (.adminEnable fn cfg) s fun t =>
        (t.fn fn).admOn = true ∧ (t.fn fn).admPi = 0 ∧ (t.fn fn).admCi = 0 ∧
        (t.fn fn).admSqLog2 = clampNat 4 12 (bits cfg.toNat 0 0 4) ∧ (t.fn fn).admCqLog2 = clampNat 4 12 (bits cfg.toNat 0 8 4) ∧
        Tab.look t.cqs (qkey fn 1) = some (Cq.fresh ((s.fn fn).admCqBase * 4096) (clampNat 4 12 (bits cfg.toNat 0 8 4)) none)) ∧
    (∀ cfg : BitVec 32, s.life = .sealed → exec (.adminEnable fn cfg) s = .next s ∧ exec (.adminDisable fn cfg) s = .next s) ∧
    (∀ cfg : BitVec 32, s.fnExists fn = true → (s.port (fnPort fn)).state ≠ .reset → s.life ≠ .sealed → (s.fn fn).admOn = true →
      bits cfg.toNat 0 16 1 = 0 → (s.fn fn).admCur = none → Completes (.adminDisable fn cfg) s fun t =>
        (t.fn fn).admOn = false ∧ (t.fn fn).admPi = 0 ∧ (t.fn fn).admCi = 0 ∧ t.cqs = Tab.del s.cqs (qkey fn 1)) ∧
    (∀ (cfg : BitVec 32) c, s.fnExists fn = true → (s.port (fnPort fn)).state ≠ .reset → s.life ≠ .sealed → (s.fn fn).admOn = true →
      bits cfg.toNat 0 16 1 = 0 → (s.fn fn).admCur = some c →
      exec (.adminDisable fn cfg) s = .next (s.setFn fn (fun f => { f with admStop := true })))

/-- R92, R117, R118, R124, R590: an administrative row acts on the command in progress of its opcode: a malformed one completes
MALFORMED and halts the path; the first result other than DONE ends it ABORTED with that result; only a command of the row's
opcode that has not been taken up, on a port that is UP, is acted on. R95, R96, R97, R117, R118: completing the command in
progress frees its slots, and puts one completion entry with its status and its value, under the phase of the ring position,
on the way to the administrative CQ. -/
def Obligations.AdminCommands : Prop :=
  (∀ (s : State) (fn op : Nat) (form : Nat → Bool) (results : Nat → List Nat) (go : AdminCmd → State),
     (∀ c, s.adminHas fn op c → form c.raw = false → s.admRun fn op form results go = s.admMalformed fn) ∧
     (∀ c l r l', s.adminHas fn op c → form c.raw = true → results c.raw = l ++ r :: l' → (∀ x ∈ l, x = Res.done) → r ≠ Res.done →
       s.admRun fn op form results go = s.admAbort fn r) ∧
     (∀ c, s.adminHas fn op c → form c.raw = true → (∀ x ∈ results c.raw, x = Res.done) → s.admRun fn op form results go = go c) ∧
     ((∀ c, ¬ s.adminHas fn op c) → s.admRun fn op form results go = s)) ∧
  (∀ (s : State) (fn status aux qpn : Nat) (after : List Source) (c : AdminCmd) (q : Cq),
     (s.fn fn).admCur = some c → (s.fn fn).admStop = false → Tab.look s.cqs (qkey fn 1) = some q → q.eq = none →
     (s.port (fnPort fn)).state = .up →
     ((s.admDone fn status aux qpn after).fn fn).admCur = none ∧
     ((s.admDone fn status aux qpn after).fn fn).admCi = c.idx + BitVec.ofNat 16 c.slots ∧
     ((s.admDone fn status aux qpn after).fn fn).halted = (s.fn fn).halted ∧
     ∃ ts, { queueUnit fn (.cq (qkey fn 1)) after (.entry (q.base + q.pi.toNat % 2 ^ q.log2 * 32)
         (entryImage (Ent.wrId c.raw) ts 0 qpn status c.idx.toNat (Ent.opcode c.raw) 0 aux + place 0x1C 31 1 (phaseOf q.pi q.log2)))
       with since := s.later.clock } ∈ (s.admDone fn status aux qpn after).path (fnPort fn))

/-- R83, R103, R104, R107, R108, R118, R119, R120, R172, R201: the commands that make and unmake queues and queue pairs, each
where the command in progress is well formed and every lookup answers DONE. -/
def Obligations.QueueObjectCommands : Prop :=
  ∀ (s : State) (fn : Nat) (c : AdminCmd),
    (∀ h s', s.freshHandle fn 1 = (some h, s') → s.adminHas fn 0x01 c → Ent.arg c.raw = 0 → Cmd.ringOnly c.raw = true →
        Cmd.ring2Base c.raw = 0 → Cmd.vector c.raw = 0 →
      Cmd.mod c.raw = 0 → Cmd.bind2 c.raw = 0 → Cmd.eventEq c.raw = 0 → s.lookupOpt fn (Cmd.bind c.raw) .eq = Res.done →
      s.eqFull fn (Cmd.bind c.raw) = Res.done →
      exec (.createCq fn) s = .next (({ s' with cqs := Tab.put s'.cqs (qkey fn h) (Cq.fresh (Cmd.ringBase c.raw) (Cmd.log2 c.raw) (handleOpt (Cmd.bind c.raw))) } : State).admOk fn h)) ∧
    (s.adminHas fn 0x02 c → Cmd.argOk c.raw false = true → s.objNamed fn c.raw = some .cq → s.cqBound fn (bits c.raw 4 0 16) = false →
      exec (.destroyCq fn) s = .next (({ s with cqs := Tab.del s.cqs (qkey fn (bits c.raw 4 0 16)) } : State).admOk fn 0)) ∧
    (∀ h s', s.freshHandle fn 1 = (some h, s') → s.adminHas fn 0x03 c → Ent.arg c.raw = 0 → Cmd.ringOnly c.raw = true →
        Cmd.ring2Base c.raw = 0 → 1 ≤ Cmd.vector c.raw →
      Cmd.vector c.raw < fnVectors fn → Cmd.bind c.raw = 0 → Cmd.bind2 c.raw = 0 → Cmd.eventEq c.raw = 0 →
      s.param 0x303001 ≤ Cmd.mod c.raw →
      exec (.createEq fn) s = .next (({ s' with eqs := Tab.put s'.eqs (qkey fn h) ⟨Cmd.ringBase c.raw, Cmd.log2 c.raw, 0, 0, Cmd.vector c.raw, Cmd.mod c.raw, none, false, []⟩ } : State).admOk fn h)) ∧
    (s.adminHas fn 0x04 c → Cmd.argOk c.raw false = true → s.objNamed fn c.raw = some .eq → s.eqBound fn (bits c.raw 4 0 16) = false →
      exec (.destroyEq fn) s = .next (({ s with eqs := Tab.del s.eqs (qkey fn (bits c.raw 4 0 16)) } : State).admOk fn 0)) ∧
    (s.adminHas fn 0x05 c → bits c.raw 4 16 16 = 0 → s.lookupOpt fn (bits c.raw 4 0 16) .eq = Res.done →
      s.eqFull fn (bits c.raw 4 0 16) = Res.done →
      exec (.bindAdminCq fn) s = .next (({ s with
        cqs := Tab.mod s.cqs (qkey fn 1) (fun q => { q with eq := handleOpt (bits c.raw 4 0 16) }) } : State).admOk fn 0)) ∧
    (∀ qpn s', s.adminHas fn 0x06 c → Cmd.createQpOk fn c.raw = true → s.lookup fn (Cmd.bind c.raw) .cq = Res.done →
      s.lookup fn (Cmd.bind2 c.raw) (if Cmd.usesSrq c.raw then .srq else .cq) = Res.done →
      s.lookupOpt fn (Cmd.eventEq c.raw) .eq = Res.done → Tb.pd c.raw 0x80 ∈ (s.fn fn).pds → s.slotsFree fn c.raw = Res.done →
      Tb.transport c.raw 0x80 = 1 → s.freshQpn fn true = (some qpn, s') →
      exec (.createQp fn) s = .next (({ s' with qps := Tab.put s'.qps qpn (Qp.fresh fn c.raw) } : State).admDone fn Status.ok 0 qpn [])) ∧
    (∀ qpn s', s.adminHas fn 0x06 c → Cmd.createQpOk fn c.raw = true → s.lookup fn (Cmd.bind c.raw) .cq = Res.done →
      s.lookup fn (Cmd.bind2 c.raw) (if Cmd.usesSrq c.raw then .srq else .cq) = Res.done →
      s.lookupOpt fn (Cmd.eventEq c.raw) .eq = Res.done → Tb.pd c.raw 0x80 ∈ (s.fn fn).pds → s.slotsFree fn c.raw = Res.done →
      Tb.transport c.raw 0x80 = 0 → s.freshQpn fn false = (some qpn, s') →
      exec (.createQp fn) s = .next ((({ s' with qps := Tab.put s'.qps qpn (Qp.fresh fn c.raw) } : State).makeCtx (ctKey qpn)
        (({ s' with qps := Tab.put s'.qps qpn (Qp.fresh fn c.raw) } : State).freshCtx Kind.ct (fnPort fn)
          (Tb.peerDev c.raw 0x80) (Tb.tc c.raw 0x80))).admDone fn Status.ok 0 qpn [])) ∧
    (∀ h s', s.freshHandle fn 1 = (some h, s') → s.adminHas fn 0x09 c → bits c.raw 4 16 16 = 0 → Cmd.ringOnly c.raw = true →
        Cmd.ring2Base c.raw % 8 = 0 →
      Cmd.vector c.raw = 0 → Cmd.mod c.raw = 0 → s.lookup fn (Cmd.bind2 c.raw) .cq = Res.done →
      s.lookupOpt fn (Cmd.eventEq c.raw) .eq = Res.done → bits c.raw 4 0 16 ∈ (s.fn fn).pds →
      exec (.createSrq fn) s = .next (({ s' with srqs := Tab.put s'.srqs (qkey fn h) ⟨Cmd.ringBase c.raw, Cmd.log2 c.raw, 0, 0, false, false, Cmd.ring2Base c.raw, Cmd.bind2 c.raw, bits c.raw 4 0 16, Cmd.bind c.raw, handleOpt (Cmd.eventEq c.raw), false, [], 0, none, false, [], [], [], [], [], 0, 0, 0⟩ } : State).admOk fn h)) ∧
    (s.adminHas fn 0x0A c → Cmd.argOk c.raw false = true → s.objNamed fn c.raw = some .srq → s.srqBound fn (bits c.raw 4 0 16) = false →
      exec (.destroySrq fn) s = .next (({ (s.clearMatching (qkey fn (bits c.raw 4 0 16))).dropReads (fun r => match r.for_ with
          | .srq k => k == qkey fn (bits c.raw 4 0 16)
          | .copy k _ _ => k == qkey fn (bits c.raw 4 0 16)
          | _ => false)
        with srqs := Tab.del ((s.clearMatching (qkey fn (bits c.raw 4 0 16))).dropReads (fun r => match r.for_ with
          | .srq k => k == qkey fn (bits c.raw 4 0 16)
          | .copy k _ _ => k == qkey fn (bits c.raw 4 0 16)
          | _ => false)).srqs (qkey fn (bits c.raw 4 0 16)) } : State).admOk fn 0)) ∧
    (∀ n q, s.adminHas fn 0x0D c → Cmd.argOk c.raw true = true → bits c.raw 0x40 0 6 = 0 → bits c.raw 0x48 0 448 = 0 →
      s.objNamed fn c.raw = some (.qp n) → bits c.raw 4 30 1 = 0 → Tab.look s.qps n = some q →
      exec (.queryQueue fn) s = .next ((s.admWrite fn (bits c.raw 0x40 0 64) (leBytes 64 (s.sqRecord n q))).admOk fn 0))

/-- R113, R119, R122, R191, R202, R239: the commands on one queue pair, each where the command in progress is well formed and
names a queue pair of the function in a state that the command may meet. R113: a recalled send queue keeps exactly the
entries that have started, and its PI returns to the first entry that has not. -/
def Obligations.QueuePairCommands : Prop :=
  (∀ (s : State) (fn : Nat) (c : AdminCmd) (n : Nat) (q : Qp), Tab.look s.qps n = some q → q.fn = fn →
     (s.adminHas fn 0x07 c → bits c.raw 4 24 8 = 0 → bits c.raw 4 0 24 = n → Tb.ok c.raw 0x40 q.st = true →
       (Tb.target c.raw 0x40 = 0 → q.state = .ready → q.sameAs c.raw = true →
         exec (.modifyQp fn) s = .next (((s.modQp n (fun q => { q with unlimited := Tb.unlimited c.raw 0x40 == 1, retryLimit := Tb.retryLimit c.raw 0x40 })).admOk fn 0).advanceQp n)) ∧
       (Tb.target c.raw 0x40 = 1 → q.state = .idle →
         exec (.modifyQp fn) s = .next ((((s.modQp n (fun q => { q.limits c.raw with state := .ready, tc := Tb.tc c.raw 0x40, peerDev := Tb.peerDev c.raw 0x40, peerFn := Tb.peerFn c.raw 0x40, peerQpn := Tb.peerQpn c.raw 0x40 })).loadCt n
           { q.limits c.raw with state := .ready, tc := Tb.tc c.raw 0x40, peerDev := Tb.peerDev c.raw 0x40, peerFn := Tb.peerFn c.raw 0x40, peerQpn := Tb.peerQpn c.raw 0x40 }
           (BitVec.ofNat 32 (Tb.sendPsn c.raw 0x40)) (BitVec.ofNat 32 (Tb.recvPsn c.raw 0x40))).admOk fn 0).advanceQp n)) ∧
       (Tb.target c.raw 0x40 = 2 → q.state = .ready →
         exec (.modifyQp fn) s = .next (((s.qpError n Status.cancelled).admOk fn 0).advanceQp n)) ∧
       (Tb.target c.raw 0x40 = 3 → q.state = .flushed →
         exec (.modifyQp fn) s = .next ((((s.modQp n (fun q => { q with state := .idle, cause := 0 })).loadCt n
           { q with state := .idle, cause := 0 } 0 0).admOk fn 0).advanceQp n)) ∧
       ((Tb.target c.raw 0x40 = 1 ∧ q.state ≠ .idle ∨ Tb.target c.raw 0x40 = 2 ∧ q.state ≠ .ready ∨
           Tb.target c.raw 0x40 = 3 ∧ q.state ≠ .flushed) →
         exec (.modifyQp fn) s = .next (s.admAbort fn Res.badState))) ∧
     (s.adminHas fn 0x08 c → Cmd.argOk c.raw false = true → Cmd.qpn c.raw = some n → exec (.destroyQp fn) s =
       .next (if q.state = .ready then (s.admWait fn 0).qpError n Status.flushed else (s.admWait fn 0).advanceQp n)) ∧
     (s.adminHas fn 0x0B c → Cmd.argOk c.raw true = true → Cmd.qpn c.raw = some n → bits c.raw 4 30 1 = 0 →
       q.state = .ready ∨ q.state = .idle → exec (.recallQueue fn) s = .next (s.recallSq n q)) ∧
     (∀ r, s.adminHas fn 0x0B c → Cmd.argOk c.raw true = true → Cmd.qpn c.raw = some n → bits c.raw 4 30 1 = 1 →
       q.state = .ready ∨ q.state = .idle → q.rq = some r → exec (.recallQueue fn) s = .next (s.recallRq n q r)) ∧
     (s.adminHas fn 0x0C c → Cmd.argOk c.raw false = true → Cmd.qpn c.raw = some n →
       exec (.queueAbort fn) s = .next ((s.admWait fn q.sq.pi).advanceQp n))) ∧
  (∀ q : Sq,
     (∀ w ∈ q.recall.ents, w.stage = .started ∨ w.stage = .done) ∧
     (∃ rest, q.ents = q.recall.ents ++ rest ∧ (∀ w l, rest = w :: l → w.stage = .fetched ∨ w.stage = .waitTime)) ∧
     q.recall.pi = q.recallIndex ∧ q.recall.recalled = true ∧ q.recall.base = q.base ∧ q.recall.ci = q.ci)

/-- R134, R135, R136: a new key takes a free INDEX and a VARIANT not among those issued for it, keeps every attribute asked for,
and no other key changes; a refused creation means that the table or the variants are used up. -/
def Obligations.NewKeysAreFresh : Prop :=
  ∀ (s s' : State) (k : Key) (idx : Nat), s.newKey k = some (idx, s') →
    idx < 1048576 ∧ Tab.look s.keys idx = none ∧
    (∃ v, v < 256 ∧ v ∉ s.usedVariants idx ∧ Tab.look s'.keys idx = some { k with variant := v } ∧
      Tab.getD s'.variants idx [] = s.usedVariants idx ++ [v]) ∧
    (∀ j, j ≠ idx → Tab.look s'.keys j = Tab.look s.keys j ∧ Tab.look s'.variants j = Tab.look s.variants j) ∧
    s'.tlb = s.tlb ∧ s'.fns = s.fns ∧ s'.ledger = s.ledger ∧ s'.store = s.store

/-- R131, R133, R143, R154, R159, R166: the commands of protection and translation, each where the command in progress is well
formed and every lookup answers DONE. R166: after an INVALIDATE the part holds no translation of the key that overlaps the
range, and every other translation stays. -/
def Obligations.ProtectionCommands : Prop :=
  (∀ (s : State) (fn : Nat) (c : AdminCmd),
     (∀ k s', s.adminHas fn 0x10 c → Ent.arg c.raw = 0 → s.pdCount < 65536 →
       s.choose (fun k => (s.fn fn).pds.contains k) 0 65536 = (some k, s') →
       exec (.createPd fn) s = .next ((s'.setFn fn (fun f => { f with pds := f.pds ++ [k] })).admOk fn k)) ∧
     (s.adminHas fn 0x10 c → Ent.arg c.raw = 0 → 65536 ≤ s.pdCount → exec (.createPd fn) s = .next (s.admAbort fn Res.noResource)) ∧
     (s.adminHas fn 0x11 c → bits c.raw 4 16 16 = 0 → bits c.raw 4 0 16 ∈ (s.fn fn).pds → s.pdInUse fn (bits c.raw 4 0 16) = false →
       exec (.destroyPd fn) s = .next ((s.setFn fn (fun f => { f with pds := f.pds.filter (fun k => k != bits c.raw 4 0 16) })).admOk fn 0)) ∧
     (s.adminHas fn 0x11 c → bits c.raw 4 16 16 = 0 → bits c.raw 4 0 16 ∈ (s.fn fn).pds → s.pdInUse fn (bits c.raw 4 0 16) = true →
       exec (.destroyPd fn) s = .next (s.admAbort fn Res.badState)) ∧
     (∀ idx k s', s.adminHas fn 0x12 c → Prot.keyOk c.raw = true → Prot.auxBase c.raw = 0 → Prot.limit c.raw = 0 → Prot.handler c.raw = 0 →
       Prot.len c.raw = 0 → Prot.pd c.raw ∈ (s.fn fn).pds → s.keys.length < 1048576 →
       s.newKey (s.keyFrom fn c.raw false) = some (idx, s') → Tab.look s'.keys idx = some k →
       exec (.registerRegion fn) s = .next ((s'.admWrite fn (Prot.result c.raw) (leBytes 4 (Key.value k idx))).admOk fn 0)) ∧
     (s.adminHas fn 0x12 c → Prot.keyOk c.raw = true → Prot.auxBase c.raw = 0 → Prot.limit c.raw = 0 → Prot.handler c.raw = 0 →
       Prot.len c.raw ≠ 0 → Prot.table c.raw % 8 = 0 → Prot.pd c.raw ∈ (s.fn fn).pds → s.keys.length < 1048576 →
       exec (.registerRegion fn) s = .next ((s.admWait fn 0).hostRead fn 0 0 .clerk (Prot.table c.raw)
         (regionPages (Prot.va c.raw) (Prot.len c.raw) * 8) (.pageList fn) none)) ∧
     (∀ d l idx k s', (s.fn fn).admCur = some c → c.waiting = true → Ent.opcode c.raw = 0x12 →
       l = pagesOf (Prot.va c.raw / 4096) (listEntries d (regionPages (Prot.va c.raw) (Prot.len c.raw))) →
       (∀ x ∈ l, Pte.leafOk x.2 = true ∧ s.leafClear x.2 x.1 = true) → s.keys.length < 1048576 →
       s.pinned + (pinnedGroups l []).length ≤ s.openParam 0x402003 → s.newKey (s.keyFrom fn c.raw false) = some (idx, s') →
       Tab.look s'.keys idx = some k → s.takePageList fn d =
         ((l.foldl (fun s x => s.loadTlb (s.leafEntry idx x.1 x.2 true true)) s').admWrite fn (Prot.result c.raw) (leBytes 4 (Key.value k idx))).admOk fn 0) ∧
     (∀ idx k s', s.adminHas fn 0x13 c → Prot.keyOk c.raw = true → Prot.table c.raw % 4096 = 0 → Prot.pd c.raw ∈ (s.fn fn).pds →
       (Prot.handler c.raw = 1 → (s.fn fn).missq ≠ none) → s.keys.length < 1048576 →
       s.newKey (s.keyFrom fn c.raw true) = some (idx, s') → Tab.look s'.keys idx = some k →
       exec (.createAsk fn) s = .next ((s'.admWrite fn (Prot.result c.raw) (leBytes 4 (Key.value k idx))).admOk fn 0)) ∧
     (∀ k, s.adminHas fn 0x14 c → s.keyOf (Ent.arg c.raw) = some k → k.fn = fn →
       Completes (.destroyKey fn) s fun t => t.keyOf (Ent.arg c.raw) = none ∧ t.keys = s.keys ∧ t.reads = s.reads ∧
         (t.fn fn).admCur = some { c with waiting := true, mark := 0 }) ∧
     ((s.fn fn).admCur = some c → c.waiting = true → Ent.opcode c.raw = 0x14 → s.keyBusy (Ent.arg c.raw) = false →
       exec (.destroyKeyComplete fn) s = .next (({ s with
         keys := Tab.del s.keys (keyIndex (Ent.arg c.raw)), tlb := s.tlb.filter (fun e => e.index != keyIndex (Ent.arg c.raw)), dying := s.dying.filter (fun d => !(d.1 == fn && d.2 == Ent.arg c.raw)) } : State).admOk fn 0)) ∧
     ((s.fn fn).admCur = some c → c.waiting = true → Ent.opcode c.raw = 0x14 → s.keyBusy (Ent.arg c.raw) = true →
       exec (.destroyKeyComplete fn) s = .next s) ∧
     (∀ k, s.adminHas fn 0x15 c → Prot.table c.raw = 0 → Prot.auxBase c.raw = 0 → Prot.limit c.raw = 0 → Prot.result c.raw = 0 →
       bits c.raw 0x70 0 128 = 0 → s.keyOf (Ent.arg c.raw) = some k → k.fn = fn → k.ask = true →
       exec (.invalidate fn) s = .next ((s.admWait fn 0).invalidateRange (Ent.arg c.raw) c.raw)) ∧
     ((s.fn fn).admCur = some c → c.waiting = true → Ent.opcode c.raw = 0x15 → s.accessing (fun a => a.1 == Ent.arg c.raw) = false →
       exec (.invalidateComplete fn) s = .next (s.admOk fn 0)) ∧
     (∀ h s', s.adminHas fn 0x16 c → Ent.arg c.raw = 0 → Prot.va c.raw = 0 → Prot.len c.raw = 0 → Prot.limit c.raw = 0 → Prot.result c.raw = 0 →
       bits c.raw 0x70 0 24 = 0 → Prot.tail c.raw = 0 → ringOk (Prot.table c.raw) (Prot.log2 c.raw) = true →
       ringOk (Prot.auxBase c.raw) (Prot.log2b c.raw) = true → s.lookup fn (Prot.eq c.raw) .eq = Res.done → (s.fn fn).missq = none →
       s.freshHandle fn 2 = (some h, s') → exec (.createMissQueue fn) s = .next ((s'.setFn fn (fun f => { f with
         missq := some ⟨h, Prot.table c.raw, Prot.log2 c.raw, 0, 0, Prot.auxBase c.raw, Prot.log2b c.raw, 0, 0, false, [], Prot.eq c.raw, false⟩ })).admOk fn h)) ∧
     (s.adminHas fn 0x17 c → bits c.raw 4 16 16 = 0 → s.lookupMiss fn (bits c.raw 4 0 16) = Res.done →
       (∀ e ∈ s.keys, e.2.fn = fn → e.2.handler = false) → exec (.destroyMissQueue fn) s =
         .next (((s.setFn fn (fun f => { f with missq := none })).dropReads (fun r => r.for_ == .fill fn)).admOk fn 0))) ∧
  (∀ (s : State) (v r : Nat), s.misses = [] →
     (∀ e ∈ (s.invalidateRange v r).tlb, e.index = keyIndex v →
       Prot.len r ≠ 0 ∧ ((e.page + e.pages) * 4096 ≤ Prot.va r ∨ Prot.va r + Prot.len r ≤ e.page * 4096)) ∧
     (∀ e ∈ s.tlb, e.index ≠ keyIndex v ∨ Prot.len r ≠ 0 ∧ ((e.page + e.pages) * 4096 ≤ Prot.va r ∨ Prot.va r + Prot.len r ≤ e.page * 4096) →
       e ∈ (s.invalidateRange v r).tlb))

/-- R277, R280, R283: the commands of tree nodes, from a function and from the Ledger port's own installer, each where the node
record is well formed and every lookup answers DONE. R280, R283: an installed node is not BROKEN, has no operation in
progress and the START_OSN of its record for every member, hears each of its edges anew, and no other tree changes; a
removed node is gone. -/
def Obligations.TreeCommands : Prop :=
  (∀ (s : State) (fn : Nat) (c : AdminCmd),
     (s.adminHas fn 0x20 c → Ent.arg c.raw = 0 → s.nodeOk (Cmd.node c.raw) = true → s.membersOk fn (Cmd.node c.raw) = Res.done →
       Tab.look s.trees (Node.tree (Cmd.node c.raw)) = none → s.trees.length < 4096 → s.stagingFits (Cmd.node c.raw) = Res.done →
       exec (.createTree fn) s = .next ((s.installTree (Cmd.node c.raw) (some fn)).admOk fn 0)) ∧
     (∀ t, s.adminHas fn 0x20 c → Ent.arg c.raw = 0 → s.nodeOk (Cmd.node c.raw) = true → s.membersOk fn (Cmd.node c.raw) = Res.done →
       Tab.look s.trees (Node.tree (Cmd.node c.raw)) = some t → exec (.createTree fn) s = .next (s.admAbort fn Res.badState)) ∧
     (∀ t, s.adminHas fn 0x21 c → bits c.raw 4 16 16 = 0 → Tab.look s.trees (bits c.raw 4 0 16) = some t → t.owner = some fn →
       exec (.destroyTree fn) s = .next ((s.removeTree (bits c.raw 4 0 16)).admOk fn 0)) ∧
     (∀ t, s.adminHas fn 0x21 c → bits c.raw 4 16 16 = 0 → Tab.look s.trees (bits c.raw 4 0 16) = some t → t.owner ≠ some fn →
       exec (.destroyTree fn) s = .next (s.admAbort fn Res.notOwned)) ∧
     (∀ t, s.adminHas fn 0x22 c → Ent.arg c.raw = 0 → s.nodeOk (Cmd.node c.raw) = true → s.membersOk fn (Cmd.node c.raw) = Res.done →
       Tab.look s.trees (Node.tree (Cmd.node c.raw)) = some t → t.owner = some fn → t.broken = true →
       Node.epoch t.raw ≠ Node.epoch (Cmd.node c.raw) → s.stagingFits (Cmd.node c.raw) = Res.done →
       exec (.replaceTree fn) s = .next ((s.installTree (Cmd.node c.raw) (some fn)).admOk fn 0))) ∧
  (∀ (s : State) (r : Nat) (owner : Option Nat),
     (∃ t, Tab.look (s.installTree r owner).trees (Node.tree r) = some t ∧ t.raw = r ∧ t.owner = owner ∧ t.broken = false ∧ t.ops = [] ∧
       t.next = List.replicate (Node.locals r) (Node.start r) ∧ t.oldest = Node.start r) ∧
     (∀ dev ∈ Node.edges r, ∃ c, Tab.look (s.installTree r owner).ctxs (edgeKey (Node.tree r) dev) = some c ∧
       c.inc = BitVec.ofNat 32 (Node.epoch r) ∧ c.sndNxt = 0 ∧ c.rcvNxt = 0 ∧ c.sent = [] ∧ c.msgs = []) ∧
     (∀ k, k ≠ Node.tree r → Tab.look (s.installTree r owner).trees k = Tab.look s.trees k) ∧
     (s.installTree r owner).ticks = s.ticks ∧ (s.installTree r owner).ledger = s.ledger)

/-- R472, R473, R485, R486: the commands of Porter channels, each where the command in progress is well formed and the function
owns the channel. -/
def Obligations.PorterChannelCommands : Prop :=
  ∀ (s : State) (fn : Nat) (c : AdminCmd),
    (∀ ch s', s.adminHas fn 0x28 c → Bind.ok fn c.raw = true → Bind.pd c.raw ∈ (s.fn fn).pds → s.lookupOpt fn (Bind.eq c.raw) .eq = Res.done →
      s.slotInUse fn (Bind.slot c.raw) = false → s.choose (fun ch => (s.chan ch).state != .unbound) 0 16 = (some ch, s') →
      exec (.porterBind fn) s = .next (((((s'.setParam (0xD10001 + ch) (Bind.share c.raw)).modChan ch (fun _ =>
        { Channel.fresh with state := .active, fn := fn, base := Bind.base c.raw, log2 := Bind.log2 c.raw, onError := Bind.onError c.raw, pd := Bind.pd c.raw, eq := handleOpt (Bind.eq c.raw), slot := Bind.slot c.raw }))).modChan ch
        (fun x => { x with bucket := ((((s'.setParam (0xD10001 + ch) (Bind.share c.raw)).modChan ch (fun _ => { Channel.fresh with state := .active, fn := fn, base := Bind.base c.raw, log2 := Bind.log2 c.raw, onError := Bind.onError c.raw, pd := Bind.pd c.raw, eq := handleOpt (Bind.eq c.raw), slot := Bind.slot c.raw })).allowance ch : Nat) : Int) })).admOk fn ch)) ∧
    (∀ ch, bits c.raw 4 0 4 = ch → bits c.raw 4 4 28 = 0 → (s.chan ch).state ≠ .unbound → (s.chan ch).fn = fn →
      (s.adminHas fn 0x29 c → (s.chan ch).idle = true →
        exec (.porterUnbind fn) s = .next ((({ s with porter := Tab.del s.porter ch } : State).dropReads (readsChan ch)).admOk fn 0)) ∧
      (s.adminHas fn 0x29 c → (s.chan ch).idle = false → exec (.porterUnbind fn) s = .next (s.admAbort fn Res.badState)) ∧
      (s.adminHas fn 0x2A c → (s.chan ch).halted = true → exec (.porterPause fn) s = .next (s.admOk fn 0)) ∧
      (s.adminHas fn 0x2A c → (s.chan ch).halted = false → exec (.porterPause fn) s = .next ((((s.admWait fn 0).modChan ch (fun x =>
        { x with state := .pausing, waiter := some (fn, false), fetching := false, missed := false })).dropReads
          (fun r => r.for_ == .descriptor ch)).settlePause ch)) ∧
      (s.adminHas fn 0x2B c → (s.chan ch).halted = true → exec (.porterDrain fn) s = .next (s.admOk fn 0)) ∧
      (s.adminHas fn 0x2B c → (s.chan ch).halted = false → exec (.porterDrain fn) s = .next (((s.admWait fn 0).modChan ch (fun x =>
        { x with state := .draining, drainAt := x.pi, waiter := some (fn, false) })).settleDrain ch)) ∧
      (s.adminHas fn 0x2C c → (s.chan ch).halted = true → exec (.porterResume fn) s = .next (((s.modChan ch (fun x =>
        { x with state := .active, ahead := [], ownZero := false })).fetchDesc ch).admOk fn 0)) ∧
      (s.adminHas fn 0x2C c → (s.chan ch).halted = false → exec (.porterResume fn) s = .next (s.admAbort fn Res.badState)) ∧
      (s.adminHas fn 0x2D c → (s.chan ch).halted = true → exec (.porterAbort fn) s = .next (((s.admWait fn 0).modChan ch (fun x =>
        { x with waiter := some (fn, true) })).abortChan ch)) ∧
      (s.adminHas fn 0x2D c → (s.chan ch).halted = false → exec (.porterAbort fn) s = .next ((((s.admWait fn 0).modChan ch (fun x =>
        { x with state := .pausing, waiter := some (fn, true), fetching := false, missed := false })).dropReads
          (fun r => r.for_ == .descriptor ch)).settlePause ch)))

/-- R126, R127: a command of the Boot Channel finishes at once, or starts its load, with the result that the state gives it;
while another runs it finishes with result 4. -/
def Obligations.BootChannelCommands : Prop :=
  ∀ (s : State) (p : HPort) (seq : Nat), s.reachableFn (portPf p) = true →
    (∀ c n, c = .loadFirmware p seq ∧ n = 1 ∨ c = .stageFirmware p seq ∧ n = 2 ∨ c = .readLog p seq ∧ n = 3 ∨ c = .ping p seq ∧ n = 4 ∨
        c = .bootUnknownCommand p seq n → (s.boot p).running ≠ none → Completes c s fun t =>
      t.boot p = { s.boot p with seq := seq, cmd := n, doneSeq := seq, result := 4, doneCmd := n } ∧ t.life = s.life ∧ t.clerk = s.clerk) ∧
    ((s.boot p).running = none → Completes (.ping p seq) s fun t =>
      t.boot p = { s.boot p with seq := seq, cmd := 4, doneSeq := seq, result := 0, doneCmd := 4 } ∧ t.clerk = s.clerk ∧ t.fns = s.fns) ∧
    (∀ n, (s.boot p).running = none → Completes (.bootUnknownCommand p seq n) s fun t =>
      t.boot p = { s.boot p with seq := seq, cmd := n, doneSeq := seq, result := 6, doneCmd := n } ∧ t.clerk = s.clerk ∧ t.fns = s.fns) ∧
    ((s.boot p).running = none → s.life = .sealed → (s.boot p).lenOk = true → s.clerk.loader = none → s.awake (portPf p) = true →
      Completes (.loadFirmware p seq) s fun t =>
        t.boot p = { s.boot p with seq := seq, cmd := 1, running := some (1, seq) } ∧ t.clerk = { s.clerk with loader := some (.boot p) } ∧
        t.life = .sealed) ∧
    ((s.boot p).running = none → s.life ≠ .sealed → Completes (.loadFirmware p seq) s fun t =>
      t.boot p = { s.boot p with seq := seq, cmd := 1, doneSeq := seq, result := 5, doneCmd := 1 } ∧ t.clerk = s.clerk) ∧
    ((s.boot p).running = none → s.stagingCode = Lres.ok → (s.boot p).lenOk = true → s.awake (portPf p) = true →
      Completes (.stageFirmware p seq) s fun t =>
        t.boot p = { s.boot p with seq := seq, cmd := 2, running := some (2, seq) } ∧
        t.clerk = { s.clerk with loader := some (.boot p), staged := 1 } ∧ t.life = s.life) ∧
    ((s.boot p).running = none → (s.boot p).lenOk = true → s.awake (portPf p) = true → s.beadle.log ≠ [] →
      exec (.readLog p seq) s = .next (((s.setBoot p (fun b => { b with seq := seq, cmd := 3 })).hostWrite (portPf p) 0 0 .clerk (s.boot p).addr
        ((s.beadle.log.flatMap (leBytes 32)).take (s.boot p).len) false none).setBoot p
        (fun b => { b with doneSeq := seq, result := 0, doneCmd := 3 }))) ∧
    ((s.boot p).running = none → (s.boot p).lenOk = false → Completes (.readLog p seq) s fun t =>
      t.boot p = { s.boot p with seq := seq, cmd := 3, doneSeq := seq, result := 2, doneCmd := 3 } ∧ t.pathA = s.pathA ∧ t.pathB = s.pathB)

/-- R126, R128, R521, R522, R526: the end of a firmware load. A good image takes a SEALED device to SETUP, a bad one leaves it
SEALED; the end of a staging makes the image READY (2) or FAILED (3). R523, R545: a changeover pauses control work at its
bell, ends in the new image when every core has reported before 3 bells, in the old one otherwise, and control work resumes
at 4 bells. -/
def Obligations.FirmwareLoadsAndChangeover : Prop :=
  (∀ (s : State) (r : FwRead),
     (s.loading = true → s.clerk.pmemReady = true → s.life = .sealed → fwResult (s.loadedBytes r) r.signatureOk = 0 →
       Completes (.firmwareLoaded r) s fun t => t.life = .setup ∧ t.clerk.version = fwVersion ((s.loadedBytes r).getD [])) ∧
     (s.loading = true → s.clerk.pmemReady = true → s.life = .sealed → fwResult (s.loadedBytes r) r.signatureOk ≠ 0 →
       exec (.firmwareLoaded r) s = .next (s.endLoad (fwResult (s.loadedBytes r) r.signatureOk))) ∧
     (s.loading = true → s.life = .setup ∨ s.life = .open_ → exec (.stagingDone r) s = .next (({ s with clerk := { s.clerk with
         staged := if fwResult (s.loadedBytes r) r.signatureOk = 0 then 2 else 3,
         stagedVersion := if fwResult (s.loadedBytes r) r.signatureOk = 0 then fwVersion ((s.loadedBytes r).getD []) else s.clerk.stagedVersion } } : State).endLoad
       (fwResult (s.loadedBytes r) r.signatureOk))) ∧
     (∀ p n cmd seq, s.clerk.loader = some (.boot p) → (s.boot p).running = some (cmd, seq) →
       (s.endLoad n).boot p = { s.boot p with doneSeq := seq, result := n, doneCmd := cmd, running := none } ∧
       (s.endLoad n).clerk = { s.clerk with loader := none } ∧ (s.endLoad n).life = s.life) ∧
     (∀ d ok_, fwResult (some d) ok_ = 0 → ok_ = true ∧ d.length = bits (leNat (d.take 0x1C)) 8 0 32 ∧
       bits (leNat (d.take 0x1C)) 0 0 32 = 0x57465154 ∧ bits (leNat (d.take 0x1C)) 0x14 0 32 = Config.keyId.toNat)) ∧
  (∀ s : State,
     (∀ b, s.clerk.switchBell = some b → b ≤ s.bell → s.clerk.pausedAt = none →
       exec .changeoverStart s = .next { s with clerk := { s.clerk with pausedAt := some s.ticks } }) ∧
     (∀ b, s.clerk.switchBell = some b → s.bell < b → exec .changeoverStart s = .next s) ∧
     (∀ t, s.clerk.pausedAt = some t → s.clerk.switchBell ≠ none → s.ticks < t + 3 → exec .changeoverReady s = .next { s with
       clerk := { s.clerk with version := s.clerk.stagedVersion, switchResult := 2, switchBell := none, staged := 0, switchCount := (s.clerk.switchCount + 1) % 2 ^ 32 } }) ∧
     (∀ t, s.clerk.pausedAt = some t → s.clerk.switchBell ≠ none → t + 3 ≤ s.ticks → exec .changeoverFallback s = .next { s with
       clerk := { s.clerk with switchResult := 3, switchBell := none, staged := 3 }, beadle := s.beadle.occur FaultCode.firmwareFallback 0 0 s.bell s.ticks }) ∧
     (∀ t, s.clerk.pausedAt = some t → t + 4 ≤ s.ticks → s.clerk.switchBell = none → s.clerk.queue = [] → s.deferred = [] →
       exec .changeoverResume s = .next { s with clerk := { s.clerk with pausedAt := none, queue := [] } }) ∧
     (∀ t, s.clerk.pausedAt = some t → s.ticks < t + 4 → exec .changeoverResume s = .next s))

/-- R503, R504, R523: the administrative commands of the Ledger, each for a PF and well formed. -/
def Obligations.LedgerAdminCommands : Prop :=
  ∀ (s : State) (fn : Nat) (c : AdminCmd), fnIsPf fn = true → Lcmd.clean c.raw = true →
    (∀ image, s.adminHas fn 0x30 c → Lcmd.report c.raw % 8 = 0 → s.clerk.pausedAt = none →
      exec (.imageLoad fn image) s = .next ((s.admWait fn 0).finishImage fn image)) ∧
    (∀ image t, s.adminHas fn 0x30 c → Lcmd.report c.raw % 8 = 0 → s.clerk.pausedAt = some t → Completes (.imageLoad fn image) s fun u =>
      u.clerk = { s.clerk with queue := s.clerk.queue ++ [.image fn image] } ∧ u.ledger = s.ledger) ∧
    (s.adminHas fn 0x31 c → Lcmd.report c.raw = 0 → s.stagingCode = Lres.ok →
      exec (.firmwareStage fn) s = .next (({ s with clerk := { s.clerk with loader := some (.admin fn), staged := 1 } } : State).admWait fn 0)) ∧
    (s.adminHas fn 0x31 c → Lcmd.report c.raw = 0 → s.life ≠ .setup → s.life ≠ .open_ →
      exec (.firmwareStage fn) s = .next (s.admAbort fn Res.notPermitted)) ∧
    (s.adminHas fn 0x32 c → Lcmd.report c.raw = 0 → Lcmd.len c.raw = 0 → s.clerk.staged = 2 → s.life = .setup ∨ s.life = .open_ →
      s.clerk.switchBell = none → s.bell + 16 ≤ Lcmd.addr c.raw → exec (.firmwareSwitch fn) s =
        .next (({ s with clerk := { s.clerk with switchBell := some (Lcmd.addr c.raw), switchResult := 1 } } : State).admOk fn 0)) ∧
    (s.adminHas fn 0x32 c → Lcmd.report c.raw = 0 → Lcmd.len c.raw = 0 → s.clerk.staged = 2 → s.life = .setup ∨ s.life = .open_ →
      s.clerk.switchBell = none → Lcmd.addr c.raw < s.bell + 16 → exec (.firmwareSwitch fn) s = .next (s.admAbort fn Res.badState))

/-- R147, R158, R159, R163, R164, R165: a miss that stands too long fails; a FILL loads its leaf and lets the accesses go on, a
FAULT fails them, and one that names no ASK of the function is discarded and counted. R145, R153, R156: a loaded translation
is held, no other translation of its key overlaps it any more, and every other one was held before. -/
def Obligations.TranslationMisses : Prop :=
  (∀ (s : State) (fn : Nat),
     (∀ id m, Tab.look s.misses id = some m → m.raised + m.limit * 4096 ≤ s.ticks * 4096 →
       exec (.missTimeout id) s = .next (s.endMiss id false)) ∧
     (∀ id m, Tab.look s.misses id = some m → s.ticks * 4096 < m.raised + m.limit * 4096 → exec (.missTimeout id) s = .next s) ∧
     (∀ q r rest k, (s.fn fn).missq = some q → q.fills = r :: rest → Fill.opcode r = 1 → s.keyOf (Fill.key r) = some k →
       k.ask = true → k.handler = true → k.fn = fn → Pte.leafOk (Fill.leaf r) = true →
       s.leafClear (Fill.leaf r) (Fill.va r / 4096) = true → Fill.va r / 4096 < 2 ^ 36 → Fill.miss r ∉ Tab.keys s.misses →
       exec (.fill fn) s = .next ((s.setFn fn (fun f => { f with missq := some { q with fills := rest } })).loadTlb
         (s.leafEntry (keyIndex (Fill.key r)) (Fill.va r / 4096) (Fill.leaf r) (Pte.d (Fill.leaf r)) false))) ∧
     (∀ q r rest k m, (s.fn fn).missq = some q → q.fills = r :: rest → Fill.opcode r = 1 → s.keyOf (Fill.key r) = some k →
       k.ask = true → k.handler = true → k.fn = fn → Pte.leafOk (Fill.leaf r) = true →
       s.leafClear (Fill.leaf r) (Fill.va r / 4096) = true → Fill.va r / 4096 < 2 ^ 36 →
       Tab.look s.misses (Fill.miss r) = some m → m.key = keyIndex (Fill.key r) →
       exec (.fill fn) s = .next (((s.setFn fn (fun f => { f with missq := some { q with fills := rest } })).loadTlb
         (s.leafEntry (keyIndex (Fill.key r)) (Fill.va r / 4096) (Fill.leaf r) (Pte.d (Fill.leaf r)) false)).endMiss (Fill.miss r)
         (m.access == 0 || (Pte.w (Fill.leaf r) && Pte.d (Fill.leaf r))))) ∧
     (∀ q r rest k m, (s.fn fn).missq = some q → q.fills = r :: rest → Fill.opcode r = 2 → s.keyOf (Fill.key r) = some k →
       k.ask = true → k.handler = true → k.fn = fn → Tab.look s.misses (Fill.miss r) = some m → m.key = keyIndex (Fill.key r) →
       exec (.fault fn) s = .next ((s.setFn fn (fun f => { f with missq := some { q with fills := rest } })).endMiss (Fill.miss r) false)) ∧
     (∀ c q r rest, (c = .fill fn ∧ Fill.opcode r = 1 ∨ c = .fault fn ∧ Fill.opcode r = 2) → (s.fn fn).missq = some q →
       q.fills = r :: rest → s.keyOf (Fill.key r) = none →
       exec c s = .next ((s.setFn fn (fun f => { f with missq := some { q with fills := rest } })).count Event.fillDiscard anyUnit 1))) ∧
  (∀ (s : State) (e : Tlb),
     (s.tlb.length < 2097152 → ∃ x ∈ (s.loadTlb e).tlb, x = { e with l1 := x.l1 }) ∧
     (∀ x ∈ (s.loadTlb e).tlb, x = { e with l1 := x.l1 } ∨
       (∃ y ∈ s.tlb, x = { y with l1 := x.l1 }) ∧ (x.index = e.index → e.page + e.pages ≤ x.page ∨ x.page + x.pages ≤ e.page)) ∧
     (s.loadTlb e).keys = s.keys ∧ (s.loadTlb e).misses = s.misses ∧ (s.loadTlb e).store = s.store)

/-- R98, R123, R139, R173, R205, R237, R261: a send-queue entry that is next, without AT_TIME, whose local buffer passes and
whose context is resident, starts: its message is handed to the context, which sends what it can. One whose local buffer
fails completes with that status. R205, R206, R220, R222, R225, R261, R262: the message of an entry carries the packet type
of its opcode, belongs to the entry, goes to the device and function that the transport names. -/
def Obligations.EntriesStart : Prop :=
  (∀ (s : State) (n : Nat) (q : Qp) (w : Wqe) (c : Instr),
     (c = .send n ∧ Ent.opcode w.raw = 0x01 ∨ c = .put n ∧ Ent.opcode w.raw = 0x02 ∨ c = .putFlag n ∧ Ent.opcode w.raw = 0x03 ∨
       c = .get n ∧ Ent.opcode w.raw = 0x04 ∨ c = .atomic n ∧ Ent.opcode w.raw = 0x05 ∨ c = .tsend n ∧ Ent.opcode w.raw = 0x10 ∨
       c = .durablePut n ∧ Ent.opcode w.raw = 0x06 ∧ s.durableInit + Ent.len w.raw ≤ s.openParam 0xE02001) →
     s.ripe n .fetched = some (q, w) → Ent.atTime w.raw = 0 →
     (s.localOk q w = Status.ok → q.st = false → s.resident (ctKey n) = true →
       exec c s = .next (((s.startWqe n q w).addMsg (ctKey n) (s.entryMsg n q w)).pump (ctKey n) pumpFuel)) ∧
     (∀ u, s.localOk q w = Status.ok → q.st = true → s.needSt (fnPort q.fn) (Ent.destDev w.raw) q.tc = some u →
       u.resident (stKey (fnPort q.fn) (Ent.destDev w.raw) q.tc) = true →
       exec c s = .next (((u.startWqe n q w).addMsg (stKey (fnPort q.fn) (Ent.destDev w.raw) q.tc) (u.entryMsg n q w)).pump
         (stKey (fnPort q.fn) (Ent.destDev w.raw) q.tc) pumpFuel)) ∧
     (s.localOk q w ≠ Status.ok → exec c s = .next (s.finishWqe n w.idx (s.localOk q w) 0 0 []))) ∧
  (∀ (s : State) (n : Nat) (q : Qp) (w : Wqe),
     ((s.entryMsg n q w).owner = some (n, w.idx) ∧ (s.entryMsg n q w).fn = q.fn ∧ (s.entryMsg n q w).pd = some q.pd ∧
       (s.entryMsg n q w).proto.srcFn = q.fn ∧ (s.entryMsg n q w).proto.srcDev = s.deviceId ∧ (s.entryMsg n q w).proto.tc = q.tc ∧
       (s.entryMsg n q w).proto.st = q.st ∧ (s.entryMsg n q w).proto.tenant = s.tenantOf q.fn) ∧
     (q.st = false → (s.entryMsg n q w).proto.destDev = q.peerDev ∧ (s.entryMsg n q w).proto.destFn = q.peerFn ∧
       (s.entryMsg n q w).proto.qpn = q.peerQpn) ∧
     (q.st = true → (s.entryMsg n q w).proto.destDev = Ent.destDev w.raw ∧ (s.entryMsg n q w).proto.destFn = Ent.destFn w.raw) ∧
     (∀ t, (t = 0x01 ∨ t = 0x02 ∨ t = 0x03 ∨ t = 0x04 ∨ t = 0x05 ∨ t = 0x06) → Ent.opcode w.raw = t → (s.entryMsg n q w).ptype = t) ∧
     (Ent.opcode w.raw = 0x10 → (s.entryMsg n q w).ptype = (if s.eager w.raw = true then 0x10 else 0x11)) ∧
     (∀ t, (t = 0x01 ∨ t = 0x02 ∨ t = 0x06) → Ent.opcode w.raw = t → (s.entryMsg n q w).len = Ent.len w.raw ∧
       (Ent.inline w.raw = 1 → (s.entryMsg n q w).src = none ∧ (s.entryMsg n q w).todo = []) ∧
       (Ent.inline w.raw ≠ 1 → (s.entryMsg n q w).src = some (Ent.lkey w.raw, Ent.laddr w.raw))))

/-- R318, R323: the packets of a message carry its bytes in ascending contiguous ranges of at most 4,096 bytes, break where R318
says, and pass the range check of their receiver. -/
def Obligations.PacketsCoverTheMessage : Prop :=
  ∀ (t raddr len : Nat),
    ((cutMessage t raddr len).map (fun x => x.2)).sum = len ∧ ((cutMessage t raddr len).head?.map (fun x => x.1)) = some 0 ∧
    (∀ x ∈ cutMessage t raddr len, x.2 ≤ 4096 ∧ (len ≠ 0 → 0 < x.2) ∧
      (x.1 = 0 ∨ (if breaksByAddress t then (raddr + x.1) % 4096 = 0 else x.1 % 4096 = 0))) ∧
    (∀ i x y, (cutMessage t raddr len)[i]? = some x → (cutMessage t raddr len)[i + 1]? = some y → y.1 = x.1 + x.2) ∧
    (∀ p : Packet, rangeType t = true → p.ptype = t → Packet.raddr p = raddr → Packet.msgLen p = len →
      (Packet.offset p, p.payload.length) ∈ cutMessage t raddr len → Packet.rangeOk p = true)

/-- R231, R234, R236, R537: a group entry whose group has an entry here, with K at most the members, starts: one message to the
group under the next number. One without a group, or with K above the members, completes ABORTED. R287, R288, R289, R305: a
collective entry of a member of the node, under the next OSN inside the window, with local buffers that pass, joins its
operation; on a tree without a node here it completes ABORTED, as another function's member PROT_FAULT, on a BROKEN node
PEER_GONE, under another OSN MALFORMED. R237, R238: an entry with AT_TIME waits while its time lies ahead by at most 2^32 -
1 units, and starts at once otherwise; the release starts it when fabric time has reached its value, or reaches it in this
bell. -/
def Obligations.OtherEntriesStart : Prop :=
  (∀ (s : State) (n : Nat) (q : Qp) (w : Wqe) (c : Instr) (t : Nat),
     (c = .replDurablePut n ∧ Ent.opcode w.raw = 0x07 ∧ t = 7 ∧ Ent.k w.raw ≤ Mcast.count (Tab.num s.mcast (Ent.destQueue w.raw)) ∧
         s.durableInit + Ent.len w.raw ≤ s.openParam 0xE02001 ∨
       c = .mcastPut n ∧ Ent.opcode w.raw = 0x08 ∧ t = 8) →
     s.ripe n .fetched = some (q, w) → Ent.atTime w.raw = 0 →
     (Mcast.valid (Tab.num s.mcast (Ent.destQueue w.raw)) = true → s.localOk q w = Status.ok → Tab.has s.ctxs (groupKey n) = true →
       exec c s = .next ((((((s.startWqe n q w).modQp n (fun x => { x with groupNum := x.groupNum + 1 })).addMsg (groupKey n)
         { s.payloadMsg n q w t (extAt 0x2C 0 32 (Ent.len w.raw) + extAt 0x30 0 24 n + extAt 0x38 0 64 (Ent.raddr w.raw)) 0 with
           count := Mcast.count (Tab.num s.mcast (Ent.destQueue w.raw)), proto := { (s.payloadMsg n q w t (extAt 0x2C 0 32 (Ent.len w.raw) + extAt 0x30 0 24 n + extAt 0x38 0 64 (Ent.raddr w.raw)) 0).proto with
             tc := 2, mode := 2, destDev := 0, destFn := 0, qpn := 0, st := false, inc := 0, destQueue := Ent.destQueue w.raw } }).pump
         (groupKey n) pumpFuel)).decideGroup n)) ∧
     (Mcast.valid (Tab.num s.mcast (Ent.destQueue w.raw)) = false → exec c s = .next (s.finishWqe n w.idx Status.aborted 0 0 []))) ∧
  (∀ (s : State) (n : Nat) (q : Qp) (w : Wqe) (c : Instr),
     (c = .barrier n ∧ Ent.opcode w.raw = 0x20 ∨ c = .bcast n ∧ Ent.opcode w.raw = 0x21 ∨ c = .reduce n ∧ Ent.opcode w.raw = 0x22 ∨
       c = .allreduce n ∧ Ent.opcode w.raw = 0x23 ∨ c = .vote n ∧ Ent.opcode w.raw = 0x24) →
     s.ripe n .fetched = some (q, w) → Ent.atTime w.raw = 0 →
     (Tab.look s.trees (Coll.tree w.raw) = none → exec c s = .next (s.finishWqe n w.idx Status.aborted 0 0 [])) ∧
     (∀ t, Tab.look s.trees (Coll.tree w.raw) = some t →
       (Node.locals t.raw ≤ Coll.member w.raw ∨ Node.fn t.raw (Coll.member w.raw) ≠ q.fn ∨ Node.pd t.raw (Coll.member w.raw) ≠ q.pd →
         exec c s = .next (s.finishWqe n w.idx Status.protFault 0 0 [])) ∧
       (Coll.member w.raw < Node.locals t.raw → Node.fn t.raw (Coll.member w.raw) = q.fn → Node.pd t.raw (Coll.member w.raw) = q.pd →
         (t.broken = true → exec c s = .next (s.finishWqe n w.idx Status.peerGone 0 0 [])) ∧
         (t.broken = false → BitVec.ofNat 32 (Coll.osn w.raw) ≠ nth t.next (Coll.member w.raw) →
           exec c s = .next (s.finishWqe n w.idx Status.malformed 0 0 [])) ∧
         (t.broken = false → BitVec.ofNat 32 (Coll.osn w.raw) = nth t.next (Coll.member w.raw) →
           4 ≤ (BitVec.ofNat 32 (Coll.osn w.raw) - t.oldest).toNat → exec c s = .next s) ∧
         (t.broken = false → BitVec.ofNat 32 (Coll.osn w.raw) = nth t.next (Coll.member w.raw) →
           (BitVec.ofNat 32 (Coll.osn w.raw) - t.oldest).toNat < 4 →
           s.localCheck q.pd q.fn (Ent.lkey w.raw) (Ent.laddr w.raw)
             (if (newMember (Coll.member w.raw) n w.idx w.raw).gives t.raw && Ent.opcode w.raw != 0x24 then Ent.len w.raw else 0) false = Status.ok →
           s.localCheck q.pd q.fn (Coll.resKey w.raw) (Coll.resAddr w.raw)
             (if (newMember (Coll.member w.raw) n w.idx w.raw).receives t.raw then (if Ent.opcode w.raw = 0x24 then 8 else Ent.len w.raw) else 0) true = Status.ok →
           exec c s = .next ((s.startWqe n q w).joinOp (Coll.tree w.raw) n w.idx w.raw))))) ∧
  (∀ (s : State) (n : Nat) (q : Qp) (w : Wqe),
     (∀ c, c = .send n ∧ Ent.opcode w.raw = 0x01 ∨ c = .put n ∧ Ent.opcode w.raw = 0x02 → s.ripe n .fetched = some (q, w) →
       Ent.atTime w.raw = 1 → 0 < atAhead w.raw s.later.shortTime → atAhead w.raw s.later.shortTime ≤ 2 ^ 32 - 1 → s.later.localOk q w = Status.ok →
       exec c s = .next (s.later.modSq n (fun x => Sq.modEnt x w.idx (fun w => { w with stage := .waitTime })))) ∧
     (∀ c, c = .send n ∧ Ent.opcode w.raw = 0x01 ∨ c = .put n ∧ Ent.opcode w.raw = 0x02 → s.ripe n .fetched = some (q, w) →
       Ent.atTime w.raw = 1 → atAhead w.raw s.later.shortTime ≤ 0 → exec c s = .next (s.later.startOp n q w)) ∧
     (s.ripe n .waitTime = some (q, w) → atAhead w.raw s.shortTime ≤ 0 → exec (.sendAtTimeRelease n) s = .next (s.startOp n q w)) ∧
     (s.ripe n .waitTime = some (q, w) → 0 < atAhead w.raw s.shortTime → atAhead w.raw s.shortTime < 4096 - s.sub →
       exec (.sendAtTimeRelease n) s = .next (({ s with sub := s.sub + (atAhead w.raw s.shortTime).toNat } : State).startOp n q w)) ∧
     (s.ripe n .waitTime = some (q, w) → 0 < atAhead w.raw s.shortTime → 4096 - (s.sub : Int) ≤ atAhead w.raw s.shortTime →
       exec (.sendAtTimeRelease n) s = .next s))

/-- R187, R311, R323, R375: a packet of a transport context that passes every test is delivered by its type at the context, then
acknowledged by the verdict of the delivery. -/
def Obligations.ArrivalsAreDelivered : Prop :=
  ∀ (s : State) (p : Packet) (x : Ctx) (c : Instr), s.takesPacket p x →
    (∀ v u, ((s.without p).deliver (rxKey p) p) = (v, u) →
      (c = .sendPacket p ∧ p.ptype = 0x01 ∨ c = .putPacket p ∧ p.ptype = 0x02 ∨ c = .putFlagData p ∧ p.ptype = 0x03 ∨
        c = .getReq p ∧ p.ptype = 0x04 ∨ c = .atomicReq p ∧ p.ptype = 0x05 ∨ c = .durablePutPacket p ∧ p.ptype = 0x06 ∨
        c = .getResp p ∧ p.ptype = 0x09 ∨ c = .atomicResp p ∧ p.ptype = 0x0A ∨ c = .flag p ∧ p.ptype = 0x0B ∨
        c = .durableConf p ∧ p.ptype = 0x0C ∨ c = .tsendEager p ∧ p.ptype = 0x10 ∨ c = .tsendRts p ∧ p.ptype = 0x11 ∨
        c = .cts p ∧ p.ptype = 0x12 ∨ c = .rndvData p ∧ p.ptype = 0x13) →
      exec c s = .next (u.afterDelivery p ((s.without p).writesOf (rxKey p)) v))

/-- R140, R216 to R218, R220, R222, R225, R227: what a packet of a one-sided operation does at its target, where its key, its
range and its translation pass: the payload is written under the key, the range is read and returned, the AtomicOp is
issued, the durable message goes on to its flush. -/
def Obligations.OneSidedArrivals : Prop :=
  ∀ (s : State) (p : Packet) (x : Ctx) (k : Key), s.takesPacket p x → (s.without p).keyRaw (Packet.key p) = some k →
    (∀ sp u, p.ptype = 0x02 →
        (s.without p).remoteCheck (Packet.key p) p.tenant (Packet.raddr p + Packet.offset p) p.payload.length .write = Status.ok →
      (s.without p).reachKey (Packet.key p) (Packet.raddr p + Packet.offset p) p.payload.length .write false = (.ok sp, u) →
      Tab.look u.ctxs (rxKey p) = some x →
      exec (.putPacket p) s = .next ((u.writeSpans (rxKey p) k.fn (stallClass x.tc) (Ctx.stall x (rxKey p)) (Packet.raddr p + Packet.offset p) (Packet.key p)
        p.poison sp p.payload).afterDelivery p ((s.without p).writesOf (rxKey p)) (if p.poison then .fail Status.poisoned else .ok))) ∧
    (∀ st, p.ptype = 0x02 → st ≠ Status.ok →
      (s.without p).remoteCheck (Packet.key p) p.tenant (Packet.raddr p + Packet.offset p) p.payload.length .write = st →
      exec (.putPacket p) s = .next ((s.without p).afterDelivery p ((s.without p).writesOf (rxKey p)) (.fail st))) ∧
    (∀ u fn last, p.ptype = 0x03 → x.rxOf (Packet.msgNum p) = none →
      (s.without p).landRemote (rxKey p) p (Packet.key p) (Packet.raddr p + Packet.offset p) .write none = .inr (fn, last, u) →
      exec (.putFlagData p) s = .next ((u.keepRx (rxKey p) { (newRx p .remote 0).took p p.payload.length with keyFn := some fn }).afterDelivery p
        ((s.without p).writesOf (rxKey p)) (delivered p))) ∧
    (∀ sp u, p.ptype = 0x0B → x.rxOf (Packet.msgNum p) = none →
      (s.without p).remoteCheck (Packet.key p) p.tenant (Packet.raddr p) 8 .write = Status.ok →
      (s.without p).reachKey (Packet.key p) (Packet.raddr p) 8 .write false = (.ok sp, u) →
      exec (.flag p) s = .next ((u.putRx (rxKey p) { newRx p .remote 0 with
        keyFn := some k.fn, flag := some (Packet.key p, Packet.raddr p, leNat p.payload % 2 ^ 64 + (if p.poison then 2 ^ 64 else 0)) }).afterDelivery p
        ((s.without p).writesOf (rxKey p)) (delivered p))) ∧
    (∀ sp u, p.ptype = 0x04 → (s.without p).remoteCheck (Packet.key p) p.tenant (Packet.raddr p) (Packet.msgLen p) .read = Status.ok →
      (s.without p).reachKey (Packet.key p) (Packet.raddr p) (Packet.msgLen p) .read false = (.ok sp, u) → u.keyRaw (Packet.key p) = some k →
      exec (.getReq p) s = .next ((u.sendReply (rxKey p) { TxMsg.blank with
        num := Packet.msgNum p, ptype := 9, fn := k.fn, len := Packet.msgLen p, proto := u.replyProto p (extAt 0x2C 0 32 (Packet.msgLen p) + extAt 0x38 0 64 (Packet.raddr p)), plan := (cutMessage 9 (Packet.raddr p) (Packet.msgLen p)).map (fun x => (x.1, x.2, false)), src := some (Packet.key p, Packet.raddr p), todo := (cutMessage 9 (Packet.raddr p) (Packet.msgLen p)).filter (fun x => x.2 != 0) }).afterDelivery p
        ((s.without p).writesOf (rxKey p)) .ok)) ∧
    (∀ a n t u, p.ptype = 0x05 → p.poison = false →
      (s.without p).remoteCheck (Packet.key p) p.tenant (Packet.raddr p) (atomicSize (Packet.ext p 0x2C 0 4)) .atomic = Status.ok →
      (s.without p).reachKey (Packet.key p) (Packet.raddr p) (atomicSize (Packet.ext p 0x2C 0 4)) .atomic false = (.ok ((a, n) :: t), u) →
      u.keyRaw (Packet.key p) = some k →
      exec (.atomicReq p) s = .next (((u.putRx (rxKey p) { newRx p .none 0 with begun := true }).hostAtomic k.fn (stallClass x.tc) (Ctx.stall x (rxKey p))
        (.stall (rxKey p)) a (Packet.ext p 0x2C 0 4) (if Packet.ext p 0x2C 0 4 = 0 ∨ Packet.ext p 0x2C 0 4 = 2 then p.payload.take 4 else p.payload)
        (.atomic (rxKey p) (Packet.msgNum p) (atomicSize (Packet.ext p 0x2C 0 4))) (some (Packet.key p, Packet.raddr p, atomicSize (Packet.ext p 0x2C 0 4)))).afterDelivery p
        ((s.without p).writesOf (rxKey p)) .ok)) ∧
    (∀ u fn last, p.ptype = 0x06 → p.poison = false → x.rxOf (Packet.msgNum p) = none →
      (s.without p).durableTarget + Packet.msgLen p ≤ s.openParam 0xE02002 → Packet.msgLen p ≤ p.payload.length →
      (s.without p).landRemote (rxKey p) p (Packet.key p) (Packet.raddr p + Packet.offset p) .durable none = .inr (fn, last, u) →
      exec (.durablePutPacket p) s = .next ((u.flushRx (rxKey p) x { (newRx p .remote 0).took p p.payload.length with last := last, keyFn := some fn } fn).afterDelivery p
        ((s.without p).writesOf (rxKey p)) (delivered p))) ∧
    (p.ptype = 0x06 → x.rxOf (Packet.msgNum p) = none → s.openParam 0xE02002 < (s.without p).durableTarget + Packet.msgLen p →
      exec (.durablePutPacket p) s = .next ((s.without p).afterDelivery p ((s.without p).writesOf (rxKey p)) (.refuse Refuse.notReady s.backoffBells)))

/-- R210, R213, R220, R222, R226, R241: what a response does at its initiator: the bytes go to the entry's buffer, and the entry
completes when they are all there, or when the value or the confirmation has come. -/
def Obligations.ResponsesCompleteEntries : Prop :=
  ∀ (s : State) (p : Packet) (x : Ctx) (m : TxMsg) (n : Nat) (q : Qp) (w : Wqe), s.takesPacket p x → (s.without p).ownerOf m = some (n, q, w) →
    (∀ k u, p.ptype = 0x09 → p.poison = false → m.repFail = 0 → x.asked 4 (Packet.msgNum p) = some m →
      (s.without p).landLocal (rxKey p) p q.fn q.pd (Ent.lkey w.raw) (Ent.laddr w.raw) (Ent.len w.raw) false = .inr (k, u) →
      (Ent.len w.raw ≤ m.respCount + p.payload.length →
          exec (.getResp p) s = .next (((u.dropMsg (rxKey p) m.id).finishWqe n w.idx Status.ok (Ent.len w.raw) 0
        [.stall (rxKey p)]).afterDelivery p ((s.without p).writesOf (rxKey p)) .ok)) ∧
      (m.respCount + p.payload.length < Ent.len w.raw → exec (.getResp p) s = .next ((u.modMsg (rxKey p) m.id (fun _ =>
        { m with respCount := m.respCount + p.payload.length })).afterDelivery p ((s.without p).writesOf (rxKey p)) .ok))) ∧
    (∀ k u, p.ptype = 0x0A → x.asked 5 (Packet.msgNum p) = some m →
      (s.without p).landLocal (rxKey p) { p with payload := p.payload.take (atomicSize (Ent.atomicOp w.raw)) } q.fn q.pd (Ent.lkey w.raw) (Ent.laddr w.raw)
        (atomicSize (Ent.atomicOp w.raw)) false = .inr (k, u) →
      exec (.atomicResp p) s = .next (((u.dropMsg (rxKey p) m.id).finishWqe n w.idx (if p.poison then Status.poisoned else Status.ok)
        (if p.poison then 0 else atomicSize (Ent.atomicOp w.raw)) 0 [.stall (rxKey p)]).afterDelivery p ((s.without p).writesOf (rxKey p)) .ok)) ∧
    (∀ i, p.ptype = 0x0C → x.asked 6 (Packet.msgNum p) = some m → m.owner = some (n, i) → m.fail = none →
      exec (.durableConf p) s = .next ((((s.without p).dropMsg (rxKey p) m.id).finishWqe n i Status.ok m.len 0 []).afterDelivery p
        ((s.without p).writesOf (rxKey p)) .ok)) ∧
    (p.ptype = 0x0C → x.asked 6 (Packet.msgNum p) = none →
      exec (.durableConf p) s = .next ((s.without p).afterDelivery p ((s.without p).writesOf (rxKey p)) .ok)) ∧
    (p.ptype = 0x12 → x.asked 0x11 (Packet.msgNum p) = some m → Packet.ext p 0x2C 0 32 = 0 →
      exec (.cts p) s = .next ((((s.without p).dropMsg (rxKey p) m.id).finishWqe n w.idx Status.ok 0 0 []).afterDelivery p
        ((s.without p).writesOf (rxKey p)) .ok)) ∧
    (p.ptype = 0x12 → x.asked 0x11 (Packet.msgNum p) = some m → Packet.ext p 0x2C 0 32 ≠ 0 → Ent.inline w.raw = 0 →
      exec (.cts p) s = .next (((((s.without p).dropMsg (rxKey p) m.id).addMsg (rxKey p) { TxMsg.blank with
        ptype := 0x13, owner := m.owner, fn := q.fn, pd := some q.pd, len := Packet.ext p 0x2C 0 32, proto := { m.proto with destQueue := 0, ext := extAt 0x2C 0 32 (Packet.ext p 0x2C 0 32) + extAt 0x34 0 24 (Packet.ext p 0x30 0 24) }, plan := (cutMessage 0x13 0 (Packet.ext p 0x2C 0 32)).map (fun x => (x.1, x.2, false)), src := some (Ent.lkey w.raw, Ent.laddr w.raw), todo := cutMessage 0x13 0 (Packet.ext p 0x2C 0 32) }).pump
        (rxKey p) pumpFuel).afterDelivery p ((s.without p).writesOf (rxKey p)) .ok))

/-- R101, R213 to R215, R252, R261, R262, R264, R266: what a packet of a two-sided message does: it takes a receive entry, a
posted receive or a place in an overflow buffer, its bytes go there, and the receive completes when they are all there; with
none available it is refused NOT_READY. -/
def Obligations.TwoSidedArrivals : Prop :=
  ∀ (s : State) (p : Packet) (x : Ctx), s.takesPacket p x →
    (∀ m u n i raw q k v, p.ptype = 0x01 → (s.without p).openSend (rxKey p) x p = .inr (m, u) → m.failed = none → m.dest = .rq n i raw →
      Tab.look u.qps n = some q → u.landLocal (rxKey p) p q.fn q.pd (Ent.lkey raw) (Ent.laddr raw) (Ent.len raw) false = .inr (k, v) →
      exec (.sendPacket p) s = .next ((if (m.took p k).whole then v.recvWhole (rxKey p) (m.took p k) (Ent.len raw) else v.putRx (rxKey p) (m.took p k)).afterDelivery p
        ((s.without p).writesOf (rxKey p)) (delivered p))) ∧
    (∀ m u srq i raw k v, p.ptype = 0x01 → (s.without p).openSend (rxKey p) x p = .inr (m, u) → m.failed = none → m.dest = .srq srq i raw →
      u.landLocal (rxKey p) p (srq / 65536) (u.srqPd srq) (Ent.lkey raw) (Ent.laddr raw) (Ent.len raw) false = .inr (k, v) →
      exec (.sendPacket p) s = .next ((if (m.took p k).whole then v.recvWhole (rxKey p) (m.took p k) (Ent.len raw) else v.putRx (rxKey p) (m.took p k)).afterDelivery p
        ((s.without p).writesOf (rxKey p)) (delivered p))) ∧
    (∀ q r, p.ptype = 0x01 → p.st = false → x.rxOf (Packet.msgNum p) = none → Tab.look s.qps p.qpn = some q → q.srq = none → q.rq = some r →
        r.pool = [] →
      (s.without p).allBefore (rxKey p) x p.psn = true →
      exec (.sendPacket p) s = .next ((s.without p).afterDelivery p ((s.without p).writesOf (rxKey p)) (.refuse Refuse.notReady s.backoffBells))) ∧
    (∀ h u k r v, p.ptype = 0x10 → x.rxOf (Packet.msgNum p) = none → Tab.has s.srqs (qkey p.destFn p.destQueue) = true →
      (s.without p).firstTagged (qkey p.destFn p.destQueue) (rxKey p) p = some (.trecv (qkey p.destFn p.destQueue) h, u) →
      (u.putRx (rxKey p) (newRx p (.trecv (qkey p.destFn p.destQueue) h) 0)).matchedOf (qkey p.destFn p.destQueue) h = some r →
      (u.putRx (rxKey p) (newRx p (.trecv (qkey p.destFn p.destQueue) h) 0)).landLocal (rxKey p) p (qkey p.destFn p.destQueue / 65536)
        (u.srqPd (qkey p.destFn p.destQueue)) (Ent.lkey r.raw) (Ent.laddr r.raw) (Ent.len r.raw) false = .inr (k, v) →
      ((newRx p (.trecv (qkey p.destFn p.destQueue) h) 0).took p k).whole = true →
      exec (.tsendEager p) s = .next ((((v.modMatched (qkey p.destFn p.destQueue) h (fun r => { r with
        seen := r.seen + p.payload.length, written := r.written + k, poisoned := r.poisoned || p.poison, solicited := r.solicited || p.solicited })).keepRx (rxKey p)
        ((newRx p (.trecv (qkey p.destFn p.destQueue) h) 0).took p k)).advanceMatched (qkey p.destFn p.destQueue) h).afterDelivery p
        ((s.without p).writesOf (rxKey p)) (delivered p))) ∧
    (p.ptype = 0x10 → x.rxOf (Packet.msgNum p) = none → Tab.has s.srqs (qkey p.destFn p.destQueue) = true →
      (s.without p).firstTagged (qkey p.destFn p.destQueue) (rxKey p) p = none →
      exec (.tsendEager p) s = .next ((s.without p).afterDelivery p ((s.without p).writesOf (rxKey p)) (.refuse Refuse.notReady s.backoffBells))) ∧
    (∀ u, p.ptype = 0x11 → Tab.has s.srqs (qkey p.destFn p.destQueue) = true →
      (s.without p).firstTagged (qkey p.destFn p.destQueue) (rxKey p) p = some (.none, u) →
      exec (.tsendRts p) s = .next (u.afterDelivery p ((s.without p).writesOf (rxKey p)) .ok)) ∧
    (∀ h u r, p.ptype = 0x11 → Tab.has s.srqs (qkey p.destFn p.destQueue) = true → u.matchedOf (qkey p.destFn p.destQueue) h = some r → r.need ≠ 0 →
      (s.without p).firstTagged (qkey p.destFn p.destQueue) (rxKey p) p = some (.trecv (qkey p.destFn p.destQueue) h, u) →
      exec (.tsendRts p) s = .next (u.afterDelivery p ((s.without p).writesOf (rxKey p)) .ok)) ∧
    (∀ q, p.ptype = 0x13 → x.rxOf (Packet.msgNum p) = none → (s.without p).landingOf p.destFn (Packet.ext p 0x34 0 24) = some q →
      exec (.rndvData p) s = .next ((((s.without p).putRx (rxKey p) (newRx p (.trecv q (Packet.ext p 0x34 0 24)) 0)).intoMatched (rxKey p) p
        (newRx p (.trecv q (Packet.ext p 0x34 0 24)) 0) q (Packet.ext p 0x34 0 24) true).2.afterDelivery p ((s.without p).writesOf (rxKey p))
        (((s.without p).putRx (rxKey p) (newRx p (.trecv q (Packet.ext p 0x34 0 24)) 0)).intoMatched (rxKey p) p
        (newRx p (.trecv q (Packet.ext p 0x34 0 24)) 0) q (Packet.ext p 0x34 0 24) true).1)) ∧
    (p.ptype = 0x13 → x.rxOf (Packet.msgNum p) = none → (s.without p).landingOf p.destFn (Packet.ext p 0x34 0 24) = none →
      exec (.rndvData p) s = .next ((s.without p).afterDelivery p ((s.without p).writesOf (rxKey p)) (.fail Status.endpointGone)))

/-- R231, R232, R311, R351, R537: a group packet at a member: a repeat gets the reply given before; one for a group without a
member here is answered ENDPOINT_GONE; one that passes lands under the group's landing key. R234, R235, R311: a member's
reply is counted at its message, once for each member, and may decide it; one for no live message, or no queue pair, is
counted and does nothing else. -/
def Obligations.GroupPackets : Prop :=
  (∀ (s : State) (p g : Packet) (c : Instr), (c = .replDurablePutPacket p ∧ p.ptype = 7 ∨ c = .mcastPutPacket p ∧ p.ptype = 8) →
     s.life.opened = true → Packet.arrivalCheck p = 0 → g = { p with destFn := Mcast.fn (Tab.num s.mcast p.destQueue) } →
     (∀ st, (s.without p).groupMemory g = some st →
       exec c s = .next (((s.without p).memberReply g st).afterReceived (rxKey p))) ∧
     ((s.without p).groupMemory g = none → (s.without p).groupOpen g = false →
       (Mcast.valid (Tab.num s.mcast p.destQueue) && Mcast.member (Tab.num s.mcast p.destQueue)) = false →
       exec c s = .next (((s.without p).groupDone g Status.endpointGone).afterReceived (rxKey p))) ∧
     (∀ k sp u, (s.without p).groupMemory g = none → (s.without p).groupOpen g = false → s.life = .open_ →
       (s.port (fnPort g.destFn)).state = .up → s.fnExists g.destFn = true → (s.fn g.destFn).flr = false → s.asleep g.destFn = false →
       Mcast.valid (Tab.num s.mcast p.destQueue) = true → Mcast.member (Tab.num s.mcast p.destQueue) = true →
       (p.ptype = 7 → s.durableTarget + p.payload.length ≤ s.openParam 0xE02002) → s.keyOf (Mcast.key (Tab.num s.mcast p.destQueue)) = some k →
       (s.without p).remoteCheck (Mcast.key (Tab.num s.mcast p.destQueue)) p.tenant (k.va + Packet.raddr p) p.payload.length
         (if p.ptype = 7 then .durable else .write) = Status.ok →
       (s.without p).reachKey (Mcast.key (Tab.num s.mcast p.destQueue)) (k.va + Packet.raddr p) p.payload.length .write (p.ptype == 7) = (.ok sp, u) →
       exec c s = .next ((u.groupWrite g k.fn (Mcast.key (Tab.num s.mcast p.destQueue)) (k.va + Packet.raddr p) sp).afterReceived (rxKey p)))) ∧
  ((∀ (s : State) (p : Packet), p.ptype = 0x0D → s.life.opened = true → Packet.arrivalCheck p = 0 →
     (∀ x m, Tab.has s.qps p.qpn = true → Tab.look s.ctxs (groupKey p.qpn) = some x →
       x.msgs.find? (fun (m : TxMsg) => m.num == Packet.msgNum p && m.owner.isSome) = some m →
       exec (.memberReply p) s = .next (((s.without p).modMsg (groupKey p.qpn) m.id (fun m => m.replied p.srcDev (Packet.ext p 0x2C 0 8))).decideGroup p.qpn)) ∧
     (∀ x, Tab.has s.qps p.qpn = true → Tab.look s.ctxs (groupKey p.qpn) = some x → (∀ m ∈ x.msgs, m.num ≠ Packet.msgNum p) →
       exec (.memberReply p) s = .next ((s.without p).count Event.lateReply (p.qpn % 16) 1)) ∧
     (Tab.has s.qps p.qpn = false → exec (.memberReply p) s = .next ((s.without p).count Event.noContext (p.qpn % 16) 1))) ∧
   (∀ (m : TxMsg) (d st st' : Nat), (m.replied d st).replied d st' = m.replied d st ∧
     (m.replied d st).repOk + (m.replied d st).repFail = m.repOk + m.repFail + (if m.members.contains d then 0 else 1)))

/-- R283, R289, R304, R306, R311, R530: a packet of a tree edge: a segment of the node's EPOCH is judged and acknowledged, a
heartbeat keeps its edge alive, a BREAK breaks the node; a newer EPOCH breaks it too, an older one is discarded and counted. -/
def Obligations.CollectiveArrivals : Prop :=
  ∀ (s : State) (p : Packet), Packet.arrivalCheck p = 0 →
    (∀ t x v u, p.ptype = 0x20 → s.life = .open_ → Tab.look s.trees (packetTree p) = some t → p.srcDev ∈ Node.edges t.raw → epochAhead p t = 0 →
      t.broken = false → Tab.look s.ctxs (edgeKey (packetTree p) p.srcDev) = some x → s.psnPlace (edgeKey (packetTree p) p.srcDev) x p.psn = .fresh →
      ((s.without p).hearEdge (packetTree p) p.srcDev).admitSeg (packetTree p) t p = (v, u) →
      exec (.collSeg p) s = .next (u.settleVerdict (edgeKey (packetTree p) p.srcDev) p (u.writesOf (edgeKey (packetTree p) p.srcDev)) v)) ∧
    (p.ptype = 0x20 → s.life = .shutter ∨ s.life = .shut →
      exec (.collSeg p) s = .next ((s.without p).answerNoCtx p 2 Refuse.closing 0)) ∧
    (∀ c t, (c = .collSeg p ∧ p.ptype = 0x20 ∧ s.life = .open_ ∨ c = .collHeartbeat p ∧ p.ptype = 0x21 ∧ s.life.opened = true ∨
        c = .collBreak p ∧ p.ptype = 0x22 ∧ s.life.opened = true) →
      Tab.look s.trees (packetTree p) = some t → p.srcDev ∈ Node.edges t.raw → 2 ^ 15 ≤ epochAhead p t →
      exec c s = .next (((s.without p).hearEdge (packetTree p) p.srcDev).count Event.oldEpoch anyUnit 1)) ∧
    (∀ t, p.ptype = 0x21 → s.life.opened = true → Tab.look s.trees (packetTree p) = some t → p.srcDev ∈ Node.edges t.raw → epochAhead p t = 0 →
      exec (.collHeartbeat p) s = .next ((s.without p).hearEdge (packetTree p) p.srcDev)) ∧
    (∀ t, p.ptype = 0x22 → s.life.opened = true → Tab.look s.trees (packetTree p) = some t → p.srcDev ∈ Node.edges t.raw → epochAhead p t < 2 ^ 15 →
      exec (.collBreak p) s = .next (((s.without p).hearEdge (packetTree p) p.srcDev).breakTree (packetTree p))) ∧
    (∀ tree dev t e, Tab.look s.trees tree = some t → Tab.look t.edges dev = some e → ∃ t', Tab.look (s.hearEdge tree dev).trees tree = some t' ∧
      Tab.look t'.edges dev = some { e with rx := s.ticks } ∧ t'.broken = t.broken ∧ t'.ops = t.ops)

/-- R189, R196, R200, R311, R594: an ACK, a NAK or a REFUSE acts on the send side of the context that it answers, and what the
context held back goes on; with no context it is counted. R189, R192, R196, R198, R200, R203, R594: what a SACK record does
at a context: one of another incarnation nothing, an ACK inside the window retires and marks what it names, a RESYNC starts
a new incarnation. R189, R190, R194, R195: an acknowledgement retires exactly the packets below CUM_PSN and starts the timer
anew; the congestion window grows without marks, and is cut once in a bell with them. -/
def Obligations.Acknowledgements : Prop :=
  (∀ (s : State) (p : Packet) (c : Instr) (n : Nat),
     (c = .ack p ∧ n = 0 ∨ c = .nak p ∧ n = 1 ∨ c = .refuse p ∧ n = 2) → p.ptype = 0x30 → (sackOf p.payload).kind = n → sackOk p.payload = true →
     s.life.opened = true → Packet.arrivalCheck p = 0 → p.tc ≠ 2 →
     (∀ x, Tab.look s.ctxs (rxKey p) = some x → s.sackFits p = true →
       (n = 1 → ∀ m, x.msgAt (sackOf p.payload).ref = some m → m.ptype ≠ 0x12) →
       exec c s = .next (((s.without p).applySack (rxKey p) (sackOf p.payload)).sweepContexts)) ∧
     (Tab.look s.ctxs (rxKey p) = none → exec c s = .next ((s.without p).count Event.noContext (arrivalStall p) 1))) ∧
  (∀ (s : State) (key : Nat) (x : Ctx) (a : Sack), Tab.look s.ctxs key = some x →
     (x.kind = Kind.st → a.inc ≠ x.inc.toNat → s.applySack key a = s) ∧
     (x.kind = Kind.st → a.inc = x.inc.toNat → a.kind = 2 → a.code = 4 →
         s.applySack key a = (s.newIncarnation key Status.peerGone).pump key pumpFuel) ∧
     (Ctx.current x a = true → a.kind = 0 → a.noCtx = false → (a.cum - x.sndUna).toNat ≤ (x.sndNxt - x.sndUna).toNat →
       s.applySack key a = ((((s.modCtx key (fun c => s.congest (Ctx.markSacked (s.retire c a.cum) a) a (a.cum - x.sndUna).toNat)).fillHoles key).settleMsgs
         key).pump key pumpFuel)) ∧
     (Ctx.current x a = true → a.kind = 0 → a.noCtx = false → (x.sndNxt - x.sndUna).toNat < (a.cum - x.sndUna).toNat → s.applySack key a = s)) ∧
  (∀ (s : State) (c : Ctx) (a : Sack) (n : Nat),
     (a.cum ≠ c.sndUna → (s.retire c a.cum).sndUna = a.cum ∧ (s.retire c a.cum).sndNxt = c.sndNxt ∧ (s.retire c a.cum).retry = 0 ∧
       (s.retire c a.cum).timer = (if a.cum = c.sndNxt then none else some s.clock) ∧
       (s.retire c a.cum).sent = c.sent.filter (fun p => !decide ((p.psn - c.sndUna).toNat < (a.cum - c.sndUna).toNat))) ∧
     (a.cum = c.sndUna → s.retire c a.cum = c) ∧
     (∀ p ∈ (Ctx.markSacked c a).sent, ∃ o ∈ c.sent, p = { o with sacked := p.sacked } ∧ (o.sacked = true → p.sacked = true)) ∧
     (c.kind ≠ Kind.edge → a.ce = 0 → a.kind ≠ 2 → s.congest c a n = { c with cwnd := min 262144 (c.cwnd + 65536 * n / max c.cwnd 1) }) ∧
     (c.kind ≠ Kind.edge → 0 < a.ce → c.cutAt ≠ some s.ticks → s.congest c a n = { c with
       cwnd := max (s.param 0x503002 * 256) (c.cwnd - c.cwnd / 2 ^ s.param 0x503003), cutAt := some s.ticks }) ∧
     (c.kind ≠ Kind.edge → 0 < a.ce → c.cutAt = some s.ticks → s.congest c a n = c))

/-- R180, R190, R191, R192, R196, R203, R228, R234, R263: what the timers of transport contexts do where they are due. R263: a
rendezvous entry that has waited for its clear-to-send beyond the limit completes TIMEOUT; the others of its queue pair wait
on. R203: peers without a path are noted from the bell in which the path went, and the note goes when a path is back. -/
def Obligations.TransportTimers : Prop :=
  (∀ (s : State) (key : Nat) (x : Ctx), Tab.look s.ctxs key = some x →
     (x.res = .spilling → s.unitsOf (.stall key) = 0 → (∀ b ∈ s.bench, b.2.2 ≠ .context key) → (∀ y ∈ s.parked, y.1 ≠ key) →
       exec (.spillWritesIssued key) s = .next (((s.modCtx key (fun c => { c with slot := false, res := .stored })).grantSlots x.kind (Ctx.stall x key)).sweepContexts)) ∧
     (x.res = .spilling → s.unitsOf (.stall key) ≠ 0 → exec (.spillWritesIssued key) s = .next s) ∧
     (s.timerDue x = true → s.onTime 6 = true → x.sent ≠ [] → x.kind = Kind.ct ∨ x.kind = Kind.st →
       (min (x.retry + 1) 255 ≤ s.retryLimit key x →
           exec (.retransmitTimerExpiry key) s = .next ((((s.modCtx key (fun c => { c with retry := min (x.retry + 1) 255 })).modCtx key
         (fun c => { c with cwnd := max (s.param 0x503002 * 256) (c.cwnd / 2), timer := some s.clock })).resendAll key).sweepContexts)) ∧
       (s.retryLimit key x < min (x.retry + 1) 255 → s.unlimitedApplies x = false → exec (.retransmitTimerExpiry key) s = .next
         (((s.modCtx key (fun c => { c with retry := min (x.retry + 1) 255 })).failContext key Status.retryExceeded).sweepContexts))) ∧
     (s.timerDue x = false → exec (.retransmitTimerExpiry key) s = .next s) ∧
     (∀ psn, exec (.refusalBackoffExpiry key psn) s = .next (s.resend key (Ctx.stall x key) (x.sent.filter (fun p =>
       p.psn == psn && !p.sacked && p.backoff.isSome && !s.heldBack p && decide ((p.psn - x.sndUna).toNat < s.window x))))) ∧
     (∀ num m t, x.msgs.find? (fun m => m.ptype == 6 && !m.reply && m.num == num && m.quiet && m.owner.isSome && m.fail.isNone) = some m →
         m.ackedAt = some t →
       (t + s.rto x.retry ≤ s.ticks * 4096 → s.onTime 6 = true → exec (.durableConfTimeout key num) s = .next (s.resendFinal key x m)) ∧
       (s.ticks * 4096 < t + s.rto x.retry → exec (.durableConfTimeout key num) s = .next s)) ∧
     (∀ m p, m.final = some p → s.unlimited m = false → min (x.retry + 1) 255 ≤ s.retryLimit key x → s.resendFinal key x m =
       ((((s.modCtx key (fun c => { c with retry := min (x.retry + 1) 255 })).modMsg key m.id (fun m => { m with ackedAt := some s.clock })).sendPacket p).count
         Event.retransmit (Ctx.stall x key) 1)) ∧
     (∀ t, x.noPath = some t → x.sent ≠ [] → t + s.param 0x505001 ≤ s.ticks →
       exec (.peerGoneExpiry key) s = .next ((s.failContext key Status.peerGone).sweepContexts)) ∧
     (∀ n, key = groupKey n → exec (.groupDeadlineExpiry n) s = .next (x.msgs.foldl (fun u m => match m.firstAt, u.ownerOf m with
       | some t, some (_, _, w) => if Ent.deadline w.raw ≠ 0 ∧ t + Ent.deadline w.raw ≤ u.ticks then u.finishGroup n m Status.timeout else u
       | _, _ => u) s))) ∧
  (∀ (s : State) (n : Nat),
     exec (.ctsWaitExpiry n) s = .next (s.ctxs.foldl (fun u e => (e.2.msgs.filter (fun m => decide (m.owner.map Prod.fst = some n))).foldl (fun u m => u.ctsLate e.1 m) u) s) ∧
     (∀ key m q i t, m.owner = some (q, i) → m.ackedAt = some t → m.ptype = 0x11 → m.quiet = true → s.param 0x602002 ≠ 0 →
         t + s.param 0x602002 * 4096 ≤ s.ticks * 4096 →
       s.ctsLate key m = (s.modMsg key m.id (fun m => { m with owner := none, fail := some Status.timeout, firstAt := none, final := none, ackedAt := none })).finishWqe q i
         Status.timeout 0 0 []) ∧
     (∀ key m t, m.ackedAt = some t → (s.param 0x602002 = 0 ∨ s.ticks * 4096 < t + s.param 0x602002 * 4096) → s.ctsLate key m = s)) ∧
  (∀ (s : State) (key : Nat) (x : Ctx), Tab.look s.ctxs key = some x → x.kind = Kind.ct ∨ x.kind = Kind.st →
     Tab.look s.pathCheck.ctxs key = some { x with noPath := if s.reachable x.peer = true then none else match x.noPath with
       | some t => some t
       | none => some s.ticks })

/-- R257, R258, R283, R304: a stream skips to the MSN of its oldest held message when that has waited long enough; an edge that
has carried nothing carries a heartbeat, and one on which nothing has arrived breaks its node. -/
def Obligations.MatchingAndTreeTimers : Prop :=
  ∀ s : State,
    (∀ fn h k q x m, Tab.look s.srqs (qkey fn h) = some q → Tab.look q.streams k = some x → q.oldestHeld x = some m →
        m.at_ + s.param 0x603001 ≤ s.ticks →
      m.msn ≠ x.expected → exec (.msnHoldExpiry fn h k) s = .next (((s.modSrq (qkey fn h) (fun q => Srq.setExpected q x.srcDev x.srcFn x.rank x.context m.msn)).count
        Event.skips anyUnit 1).release (qkey fn h) x.srcDev x.srcFn x.rank x.context (q.stored.length + 1))) ∧
    (∀ fn h k q x m, Tab.look s.srqs (qkey fn h) = some q → Tab.look q.streams k = some x → q.oldestHeld x = some m →
        s.ticks < m.at_ + s.param 0x603001 →
      exec (.msnHoldExpiry fn h k) s = .next s) ∧
    (∀ tree dev t e, Tab.look s.trees tree = some t → Tab.look t.edges dev = some e → s.onTime 8 = true →
      (e.tx + s.param 0x703001 ≤ s.ticks → exec (.heartbeatDue tree dev) s = .next (s.sendPacket { Packet.blank with
        ptype := 0x21, tc := 2, mode := 2, destDev := dev, srcDev := s.deviceId, flow := Node.tree t.raw, inc := Node.epoch t.raw, ext := 0 + extAt 0x2C 0 16 (Node.tree t.raw) })) ∧
      (s.ticks < e.tx + s.param 0x703001 → exec (.heartbeatDue tree dev) s = .next s) ∧
      (e.rx + s.param 0x703002 ≤ s.ticks → exec (.edgeDead tree dev) s = .next (s.breakTree tree)) ∧
      (s.ticks < e.rx + s.param 0x703002 → exec (.edgeDead tree dev) s = .next s))

/-- R248, R250, R255, R256, R266, R269, R270: a tagged entry that an SRQ has read is carried out: a TRECV is posted, or takes
the oldest message that it matches; a TBUF becomes the newest open buffer; a TCANCEL completes, after the receive that it
cancels; one that finds no room holds; one whose buffer fails completes with that status. R266, R268: an overflow buffer
takes a message at the next multiple of 64 bytes inside it, and no buffer before it that is still open has room. -/
def Obligations.TaggedEntries : Prop :=
  (∀ (s : State) (fn h : Nat) (q : Srq) (i : BitVec 16) (raw : Nat), Tab.look s.srqs (qkey fn h) = some q → q.postHeld = some (i, raw) →
      q.postNew = true →
     isTagged raw = true → s.taggedCq (qkey fn h) raw = true → taggedOk raw = true →
     (Ent.opcode raw = 0x11 → s.taggedLocal (qkey fn h) raw = Status.ok → q.waitingFor raw = none → s.matchRoom = true → exec (.trecv fn h) s =
       .next (((s.modSrq (qkey fn h) (fun q' => { q' with postNum := (q'.postNum + 1) % 2 ^ 32, posted := q'.posted ++ [⟨q.postNum, i, raw⟩] })).modSrq (qkey fn h)
         (fun q' => { q' with postHeld := none, postNew := false })).fetchSrq (qkey fn h))) ∧
     (∀ m u, Ent.opcode raw = 0x11 → s.taggedLocal (qkey fn h) raw = Status.ok → q.waitingFor raw = some m →
         s.reserve (qkey fn h / 65536) (Tag.cq raw) = some u →
       exec (.trecv fn h) s = .next (((((u.modSrq (qkey fn h) (fun q' => { q' with postNum := (q'.postNum + 1) % 2 ^ 32, stored := q'.stored.filter (fun x => x != m) })).take
         (qkey fn h) ⟨q.postNum, i, raw⟩ m).2.advanceMatched (qkey fn h) ((u.modSrq (qkey fn h) (fun q' => { q' with postNum := (q'.postNum + 1) % 2 ^ 32, stored := q'.stored.filter (fun x => x != m) })).take
         (qkey fn h) ⟨q.postNum, i, raw⟩ m).1).modSrq (qkey fn h) (fun q' => { q' with postHeld := none, postNew := false })).fetchSrq (qkey fn h))) ∧
     (Ent.opcode raw = 0x11 → s.taggedLocal (qkey fn h) raw = Status.ok → q.waitingFor raw = none → s.matchRoom = false →
       exec (.trecv fn h) s = .next (s.holdPost (qkey fn h) i raw)) ∧
     (∀ u, Ent.opcode raw = 0x12 → s.taggedLocal (qkey fn h) raw = Status.ok → s.reserve (qkey fn h / 65536) (Tag.cq raw) = some u →
         exec (.tbuf fn h) s =
       .next (((u.modSrq (qkey fn h) (fun q' => { q' with tbufs := q'.tbufs ++ [⟨q'.tbufNum, i, raw, 0, false, 0⟩], tbufNum := q'.tbufNum + 1 })).modSrq (qkey fn h)
         (fun q' => { q' with postHeld := none, postNew := false })).fetchSrq (qkey fn h))) ∧
     (∀ u, Ent.opcode raw = 0x13 → (∀ p ∈ q.posted, Ent.wrId p.raw ≠ Tag.cancelId raw) →
         s.srqEntryDone (qkey fn h) (Tag.cq raw) i raw Status.aborted = some u →
       exec (.tcancel fn h) s = .next ((u.modSrq (qkey fn h) (fun q' => { q' with postHeld := none, postNew := false })).fetchSrq (qkey fn h))) ∧
     (∀ p u v, Ent.opcode raw = 0x13 → q.posted = [p] → Ent.wrId p.raw = Tag.cancelId raw →
       s.srqEntryDone (qkey fn h) (Tag.cq p.raw) p.idx p.raw Status.cancelled = some u →
           u.srqEntryDone (qkey fn h) (Tag.cq raw) i raw Status.ok = some v →
       exec (.tcancel fn h) s = .next (((v.modSrq (qkey fn h) (fun q' => { q' with posted := q'.posted.filter (fun x => x.post != p.post) })).modSrq (qkey fn h)
         (fun q' => { q' with postHeld := none, postNew := false })).fetchSrq (qkey fn h))) ∧
     (∀ c u, (c = .trecv fn h ∧ Ent.opcode raw = 0x11 ∨ c = .tbuf fn h ∧ Ent.opcode raw = 0x12) → s.taggedLocal (qkey fn h) raw ≠ Status.ok →
       s.srqEntryDone (qkey fn h) (Tag.cq raw) i raw (s.taggedLocal (qkey fn h) raw) = some u →
       exec c s = .next ((u.modSrq (qkey fn h) (fun q' => { q' with postHeld := none, postNew := false })).fetchSrq (qkey fn h)))) ∧
  (∀ (q q' : Srq) (len id off : Nat), q.allot len = some (id, off, q') →
     (∃ before b after, q.tbufs = before ++ b :: after ∧ b.id = id ∧ b.closed = false ∧ off = (b.used + 63) / 64 * 64 ∧ off + len ≤ Ent.len b.raw ∧
       ∀ x ∈ before, x.closed = true ∨ Ent.len x.raw < (x.used + 63) / 64 * 64 + len) ∧ off % 64 = 0 ∧
     q'.tbufs.length = q.tbufs.length ∧ q'.posted = q.posted ∧ q'.stored = q.stored ∧ q'.pool = q.pool)

/-- R251, R256: a message takes, of the receives posted that match it, the one posted first; a receive takes, of the eligible
messages that match it, the one that became eligible first; and nothing matches where none is taken. R251: a receive matches
a message of its context whose rank is the receive's, or any with ANY_SOURCE, and whose tag agrees with the receive's in
every bit that TAG_IGNORE leaves. -/
def Obligations.Matching : Prop :=
  (∀ q : Srq,
     (∀ rank context tag p, q.candidate rank context tag = some p →
       p ∈ q.posted ∧ matches_ rank context tag p.raw = true ∧ ∀ r ∈ q.posted, matches_ rank context tag r.raw = true → p.post ≤ r.post) ∧
     (∀ rank context tag, q.candidate rank context tag = none → ∀ r ∈ q.posted, matches_ rank context tag r.raw = false) ∧
     (∀ raw m, q.waitingFor raw = some m → m ∈ q.stored ∧ matches_ m.rank m.context m.tag raw = true ∧
       ∃ e, m.elig = some e ∧ ∀ x ∈ q.stored, ∀ d, x.elig = some d → matches_ x.rank x.context x.tag raw = true → e ≤ d) ∧
     (∀ raw, q.waitingFor raw = none → ∀ x ∈ q.stored, x.elig ≠ none → matches_ x.rank x.context x.tag raw = false)) ∧
  (∀ (rank context tag raw : Nat), tag < 2 ^ 32 →
     (matches_ rank context tag raw = true ↔ Tag.context raw = context ∧ (Tag.anySource raw = 1 ∨ Tag.rank raw = rank) ∧
       ∀ i, i < 32 → (Tag.ignore raw).testBit i = false → tag.testBit i = (Tag.tag raw).testBit i))

/-- R282, R354, R421, R458, R498, R520, R523, R526, R527, R550, R554, R559, R564, R567: what each write that has a row of its
own does, here as a whole WRITE of the management bus that no kept answer matches and no changeover pauses. A write that the
checks refuse is answered with their result and does nothing else. -/
def Obligations.LedgerCommandWrites : Prop :=
  ∀ (s : State) (src tid : Nat) (data : Bytes), s.life ≠ .dark → s.lap.silent = false → s.lap.off = false → s.keptAnswer false src tid = none →
    s.clerk.pausedAt = none →
    (∀ c a (f : State → State),
      (c = .freezeRequest (.lap src tid) .A data ∧ a = 0x206001 ∧ f = (fun u => u.freezePort .A Cause.management) ∨
       c = .freezeRequest (.lap src tid) .B data ∧ a = 0x206002 ∧ f = (fun u => u.freezePort .B Cause.management) ∨
       c = .treeWrite (.lap src tid) data ∧ a = 0x710001 ∧ f = (fun u => u.installTree (leNat data) none) ∨
       c = .treeDestroy (.lap src tid) data ∧ a = 0x710002 ∧ f = (fun u => u.removeTree (leNat data)) ∨
       c = .mcastWrite (.lap src tid) data ∧ a = 0x820001 ∧ f = (fun u => u.mcastPut (leNat data)) ∨
       (∃ q, q < 64 ∧ c = .portRetrain (.lap src tid) q data ∧ a = 0xB06001 + q ∧ f = (fun u => u.retrain q)) ∨
       c = .refSecondsWrite (.lap src tid) data ∧ a = 0xC02002 ∧ f = (fun u => { u with time := { u.time with refSeconds := some (leNat data) } }) ∨
       c = .directorySelect (.lap src tid) data ∧ a = 0x000101 ∧ f = (fun u => u.setParam 0x000101 (leNat data)) ∨
       c = .switchBellWrite (.lap src tid) data ∧ a = 0x003004 ∧
         f = (fun u => { u with clerk := { u.clerk with switchBell := some (leNat data), switchResult := 1 } }) ∨
       c = .requestOpen (.lap src tid) data ∧ a = 0xE00001 ∧ f = State.askOpen ∨
       c = .beadleSelect (.lap src tid) data ∧ a = 0xE10201 ∧ f = (fun u => u.setParam 0xE10201 (leNat data)) ∨
       c = .beadleClear (.lap src tid) data ∧ a = 0xE10203 ∧ f = (fun u => u.clearSources (leNat data)) ∨
       (∃ n, n < 512 ∧ c = .tallyCountWrite (.lap src tid) n data ∧ a = 0xF20000 + n ∧
         f = (fun u => { u with tally := { u.tally with counts := Tab.setNum u.tally.counts n (leNat data) } })) ∨
       c = .tallyDumpEnable (.lap src tid) data ∧ a = 0xF01006 ∧ f = (fun u => u.setDumpEnable (leNat data)) ∨
       c = .tallyDumpCi (.lap src tid) data ∧ a = 0xF01101 ∧ f = (fun u => { u with tally := { u.tally with ci := BitVec.ofNat 16 (leNat data) } })) →
      (s.writeForm true a data = Lres.ok → s.objectCode a (leNat data) = Lres.ok →
          exec c s = .next ((f s).answer (.lap src tid) true a Lres.ok 0 [])) ∧
      (s.writeForm true a data ≠ Lres.ok → exec c s = .next (s.answer (.lap src tid) true a (s.writeForm true a data) 0 [])) ∧
      (s.writeForm true a data = Lres.ok → s.objectCode a (leNat data) ≠ Lres.ok →
        exec c s = .next (s.answer (.lap src tid) true a (s.objectCode a (leNat data)) 0 []))) ∧
    (s.writeForm true 0x001001 data = Lres.ok → Completes (.mgmtKeyWrite (.lap src tid) data) s fun t =>
      t.clerk.key = leNat data ∧ t.ledger = s.ledger ∧ t.staged = s.staged ∧ t.life = s.life) ∧
    (s.writeForm true 0xE00003 data = Lres.ok → Completes (.deviceReset (.lap src tid) data) s fun t =>
      t.power = { s.power with resetAfter := some (.lap s.lap.resps) } ∧ t.life = s.life ∧ t.ledger = s.ledger ∧ t.fns = s.fns) ∧
    (∀ fn seq, fnIsPf fn = true → s.reachableFn fn = true → (s.fn fn).mailbox.running = false → s.writeForm true 0xE00003 data = Lres.ok →
      Completes (.deviceReset (.mailbox fn seq) data) s fun t =>
        t.life = (if s.power.pwrfail then .shut else .sealed) ∧ t.ledger = [] ∧ t.keys = [] ∧ t.qps = [] ∧ t.staged = [] ∧
        t.hostA.state = .reset ∧ t.hostB.state = .reset ∧ t.fns = [] ∧ t.beadle.log = s.beadle.log) ∧
    (∀ r u, s.writeForm true 0x002002 [1] = Lres.ok → s.clerk.bulkBusy = false → s.loadImage s.bulkImage = (r, u) →
      exec (.bulkLoadImage (.lap src tid)) s = .next ((u.answer (.lap src tid) true 0x002002 r.code r.bell []).afterAll
        ((u.answer (.lap src tid) true 0x002002 r.code r.bell []).resetWait (.lap src tid)) r.after)) ∧
    (s.life = .sealed → s.clerk.bulkBusy = false → s.clerk.loader = none → exec (.bulkLoadFirmware (.lap src tid)) s =
      .next { s with clerk := { s.clerk with loader := some (.bulk (.lap src tid)), bulkBusy := true } }) ∧
    (s.life ≠ .sealed → s.clerk.bulkBusy = false → s.writeForm true 0x002002 [2] = Lres.ok → exec (.bulkLoadFirmware (.lap src tid)) s =
      .next (s.answer (.lap src tid) true 0x002002 Lres.state 0 [])) ∧
    (s.writeForm true 0x002002 [3] = Lres.ok → s.clerk.bulkBusy = false → s.stagingCode = Lres.ok → exec (.bulkStageFirmware (.lap src tid)) s =
      .next { s with clerk := { s.clerk with loader := some (.bulk (.lap src tid)), bulkBusy := true, staged := 1 } })

/-- R31, R32, R491, R492, R494, R502, R506: a write that is refused changes nothing; one without the right, of another length
than its type's, or of a value outside its range is refused; one of right rw-bell takes effect at the first bell after the
present one that has room, and joins the end of the writes staged. -/
def Obligations.LedgerWritesAreJudged : Prop :=
  ∀ (s : State) (pf : Bool) (a : Nat) (data : Bytes),
    (∀ c b u, s.ledgerWrite pf a data = (c, b, u) → c ≠ Lres.ok → u = s ∧ b = 0) ∧
    (Param.find a = none ∨ pf = false ∨ (∃ r, Param.find a = some r ∧
        (r.right = .ro ∨ data.length ≠ PType.bytes r.ty ∨ Param.inRange r a (leNat data) = false ∨ (r.right = .rwSetup ∧ s.life ≠ .setup) ∨
          s.life = .shutter ∨ (s.life = .sealed ∧ r.boot = false))) → (s.ledgerWrite pf a data).1 ≠ Lres.ok) ∧
    (∀ r u b, Param.find a = some r → r.right = .rwBell → s.ledgerWrite pf a data = (Lres.ok, b, u) →
      u = { s with staged := s.staged ++ [⟨b, a, leNat data, true⟩] } ∧ s.bell < b ∧ s.stagedAt b < 256 ∧ ∀ k, s.bell < k → k < b →
          256 ≤ s.stagedAt k)

/-- R20, R493, R505, R506, R519: what a submission to a mailbox does. One made while another runs, and one with an operation
that is no read or write, finish at once; a read or a write is performed and its result, bell and value are placed in the
mailbox. -/
def Obligations.MailboxSubmissions : Prop :=
  ∀ (s : State) (fn len seq : Nat), s.reachableFn fn = true →
    (∀ c op, c = .mailboxRead fn len seq ∧ op = 1 ∨ c = .mailboxWrite fn len seq ∧ op = 2 ∨ c = .mailboxBadOp fn len seq op →
      (s.fn fn).mailbox.running = true → exec c s = .next (s.modMailbox fn (fun m =>
        { m with seq := seq, op := op, doneSeq := seq, result := Lres.busy, doneLen := 0, bell := 0 }))) ∧
    (∀ op, (s.fn fn).mailbox.running = false → exec (.mailboxBadOp fn len seq op) s = .next (s.modMailbox fn (fun m =>
      { m with len := len, seq := seq, op := op, doneSeq := seq, result := Lres.format, doneLen := 0, bell := 0 }))) ∧
    ((s.fn fn).mailbox.running = false → s.clerk.pausedAt = none → Completes (.mailboxRead fn len seq) s fun t =>
      (t.fn fn).mailbox.doneSeq = seq ∧ (t.fn fn).mailbox.running = false ∧
      (t.fn fn).mailbox.result = s.ledgerGate true false (s.fn fn).mailbox.addr ∧
      ((t.fn fn).mailbox.result ≠ Lres.ok → (t.fn fn).mailbox.doneLen = 0 ∧ (t.fn fn).mailbox.data = (s.fn fn).mailbox.data) ∧
      (∀ r, Param.find (s.fn fn).mailbox.addr = some r → (t.fn fn).mailbox.result = Lres.ok → (t.fn fn).mailbox.doneLen = PType.bytes r.ty) ∧
      t.ledger = s.ledger ∧ t.staged = s.staged ∧ t.life = s.life) ∧
    ((s.fn fn).mailbox.running = false → s.clerk.pausedAt = none → (s.fn fn).mailbox.addr ≠ 0x002002 →
      s.writeForm (fnIsPf fn) (s.fn fn).mailbox.addr (leBytes len (s.fn fn).mailbox.data) ≠ Lres.ok → Completes (.mailboxWrite fn len seq) s fun t =>
      (t.fn fn).mailbox.doneSeq = seq ∧ (t.fn fn).mailbox.running = false ∧ (t.fn fn).mailbox.doneLen = 0 ∧
      (t.fn fn).mailbox.result = s.writeForm (fnIsPf fn) (s.fn fn).mailbox.addr (leBytes len (s.fn fn).mailbox.data) ∧
      t.ledger = s.ledger ∧ t.staged = s.staged ∧ t.life = s.life) ∧
    (∀ r, (s.fn fn).mailbox.running = false → s.clerk.pausedAt = none → Param.find (s.fn fn).mailbox.addr = some r → r.right = .rwBell →
      s.writeForm (fnIsPf fn) (s.fn fn).mailbox.addr (leBytes len (s.fn fn).mailbox.data) = Lres.ok →
      s.rulesCode (s.fn fn).mailbox.addr (leNat (leBytes len (s.fn fn).mailbox.data)) = Lres.ok → Completes (.mailboxWrite fn len seq) s fun t =>
      (t.fn fn).mailbox.doneSeq = seq ∧ (t.fn fn).mailbox.running = false ∧ (t.fn fn).mailbox.result = Lres.ok ∧
          (t.fn fn).mailbox.bell = s.stageBell ∧
      t.staged = s.staged ++ [⟨s.stageBell, (s.fn fn).mailbox.addr, leNat (leBytes len (s.fn fn).mailbox.data), true⟩] ∧ t.ledger = s.ledger)

/-- R325, R326, R516, R517, R519: an in-band request with another key, or with management disabled, is discarded and counted; a
repeat is answered with the response that was kept; any other is performed record by record and answered; a response is kept
for software. An answered request is kept, and of one requester at most 16. -/
def Obligations.InbandRequests : Prop :=
  (∀ (s : State) (k : Kpt), k.at_ = s.ticks → (s.keep k).keptAnswer k.inband k.requester k.ident = some k ∧
    (∀ x ∈ (s.keep k).clerk.kept, x = k ∨ x ∈ s.clerk.kept) ∧
    (s.clerk.kept.Nodup → countP (fun (x : Kpt) => x.inband == k.inband && x.requester == k.requester) (s.keep k).clerk.kept ≤ 16)) ∧
  ∀ (s : State) (port : Nat) (p : Packet), s.life.opened = true → Packet.arrivalCheck p = 0 →
    (p.ptype = 0x40 → s.flag 0x001002 = false ∨ Packet.ext p 0x28 0 64 ≠ s.clerk.key →
      exec (.mgmtReq port p) s = .next ((s.without p).count Event.mgmtDiscard anyUnit 1)) ∧
    (∀ k r, p.ptype = 0x40 → s.flag 0x001002 = true → Packet.ext p 0x28 0 64 = s.clerk.key →
      s.keptAnswer true p.srcDev (Packet.ext p 0x30 16 16) = some k → k.packet = some r →
      exec (.mgmtReq port p) s = .next ((s.without p).sendPacket r)) ∧
    (p.ptype = 0x40 → s.flag 0x001002 = true → Packet.ext p 0x28 0 64 = s.clerk.key → s.keptAnswer true p.srcDev (Packet.ext p 0x30 16 16) = none →
      (∀ t, s.clerk.pausedAt = some t → exec (.mgmtReq port p) s =
        .next { s.without p with clerk := { s.clerk with queue := s.clerk.queue ++ [.request port p] } }) ∧
      (s.clerk.pausedAt = none → mgmtParse p.payload = none → exec (.mgmtReq port p) s =
        .next ((s.without p).mgmtAnswer ((s.without p).mgmtPacket port p Lres.format 0 []))) ∧
      (∀ l, s.clerk.pausedAt = none → mgmtParse p.payload = some l →
        exec (.mgmtReq port p) s = .next ((s.without p).runRequest ⟨port, p, [], 0, []⟩ l))) ∧
    (p.ptype = 0x41 → exec (.mgmtResp port p) s = .next { s.without p with clerk := { s.clerk with responses := s.clerk.responses ++ [p] } })

/-- R509, R510, R511, R513, R514, R515, R519: what the commands of the management bus do, where the controller hears it, and how
one that is off comes back. -/
def Obligations.LapBusCommands : Prop :=
  (∀ s : State, s.lap.off = true → s.comes (s.lap.offAt + nsUnits (1408000 + s.param 0xF80004 * 1000000)) = true →
      Completes .busOffRecovered s fun t =>
    t.lap.off = false ∧ t.lap.txErr = 0 ∧ t.lap.rxErr = 0 ∧ t.life = s.life ∧ (s.lap.silent = false → t.lap.txq.length = s.lap.txq.length + 1)) ∧
  ∀ (s : State) (f : LapFrame), s.lapHears = true →
    (f.ident = s.lapOwn → s.lapHeld < 32 → LapFrame.field f 0 0 8 = 1 → LapFrame.addressed f = true →
      s.keptAnswer false (LapFrame.field f 2 0 7) (LapFrame.field f 1 0 8) = none → exec (.lapRead f) s =
        .next (((s.lapGood.lapCount 1).dropWrite (LapFrame.field f 2 0 7)).access (.lap (LapFrame.field f 2 0 7) (LapFrame.field f 1 0 8)) false (LapFrame.field f 4 0 24) [])) ∧
    (∀ k c, f.ident = s.lapOwn → s.lapHeld < 32 → s.keptAnswer false (LapFrame.field f 2 0 7) (LapFrame.field f 1 0 8) = some k →
      (c = .lapRead f ∧ LapFrame.field f 0 0 8 = 1 ∧ LapFrame.addressed f = true ∨ c = .lapPing f ∧ LapFrame.field f 0 0 8 = 5) →
      exec c s = .next (((s.lapGood.lapCount 1).dropWrite (LapFrame.field f 2 0 7)).lapQueue k.frames)) ∧
    (f.ident = s.lapOwn → s.lapHeld < 32 → LapFrame.field f 0 0 8 = 1 → LapFrame.addressed f = false →
      exec (.lapRead f) s = .next (((s.lapGood.lapCount 1).dropWrite (LapFrame.field f 2 0 7)).lapFormat f)) ∧
    (∀ c n, (c = .lapRead f ∧ n = 1 ∨ c = .lapWrite f ∧ n = 2 ∨ c = .lapBlock f ∧ n = 3 ∨ c = .lapPing f ∧ n = 5) → LapFrame.field f 0 0 8 = n →
      f.ident = s.lapOwn → 32 ≤ s.lapHeld → Completes c s fun t => t.lap.txq = s.lap.txq ∧
          t.lap.counts = modNth (modNth s.lap.counts 0 (· + 1)) 5 (· + 1) ∧ t.ledger = s.ledger) ∧
    (f.ident = s.lapOwn → s.lapHeld < 32 → LapFrame.field f 0 0 8 = 2 → LapFrame.addressed f = true → LapFrame.field f 3 0 7 = 0 →
        LapFrame.field f 3 7 1 = 0 →
      Completes (.lapWrite f) s fun t => t.ledger = s.ledger ∧ t.lap.txq = s.lap.txq ∧
        t.lap.writes.find? (fun w => w.1 == LapFrame.field f 2 0 7) = some (LapFrame.field f 2 0 7, LapFrame.field f 1 0 8, LapFrame.field f 4 0 24, f.data.drop 8, 1)) ∧
    (∀ v, f.ident = s.lapOwn → s.lapHeld < 32 → LapFrame.field f 0 0 8 = 2 → LapFrame.addressed f = true → LapFrame.field f 3 0 7 = 0 →
        LapFrame.field f 3 7 1 = 1 →
      lapValue (LapFrame.field f 4 0 24) (f.data.drop 8) = some v → s.keptAnswer false (LapFrame.field f 2 0 7) (LapFrame.field f 1 0 8) = none →
      exec (.lapWrite f) s = .next (((s.lapGood.lapCount 1).dropWrite (LapFrame.field f 2 0 7)).access
        (.lap (LapFrame.field f 2 0 7) (LapFrame.field f 1 0 8)) true (LapFrame.field f 4 0 24) v)) ∧
    (f.ident = s.lapOwn → s.lapHeld < 32 → LapFrame.field f 0 0 8 = 3 → LapFrame.field f 2 7 1 = 0 → 1 ≤ LapFrame.field f 3 0 8 →
        LapFrame.field f 3 0 8 ≤ 56 →
      8 + LapFrame.field f 3 0 8 ≤ f.data.length → s.keptAnswer false (LapFrame.field f 2 0 7) (LapFrame.field f 1 0 8) = none →
          s.clerk.pausedAt = none →
      s.blockCode (LapFrame.field f 4 0 32) (LapFrame.field f 3 0 8) = Lres.ok → s.memoryOk = true → Completes (.lapBlock f) s fun t =>
        Cells.readBytes t.bulk (LapFrame.field f 4 0 32) (LapFrame.field f 3 0 8) = (f.data.drop 8).take (LapFrame.field f 3 0 8) ∧
        (∀ a, a < LapFrame.field f 4 0 32 ∨ LapFrame.field f 4 0 32 + LapFrame.field f 3 0 8 ≤ a → Cells.read t.bulk a = Cells.read s.bulk a) ∧
        t.store = s.store ∧ t.ledger = s.ledger) ∧
    (∀ code ms, f.ident = s.lapAll → LapFrame.field f 0 0 8 = 4 → LapFrame.field f 8 0 8 = code → LapFrame.field f 8 8 16 = ms → code ≤ 3 →
        1 ≤ ms → ms ≤ 1000 →
      Completes (.lapRate f) s fun t => t.lap.pendingRate = some (code, t.clock + nsUnits (ms * 1000000)) ∧ s.clock ≤ t.clock ∧ t.ticks = s.ticks ∧
        t.lap.rate = s.lap.rate ∧ t.lap.txq = s.lap.txq) ∧
    (f.ident = s.lapOwn ∨ f.ident = s.lapAll → s.lapHeld < 32 → LapFrame.field f 0 0 8 = 5 →
        s.keptAnswer false (LapFrame.field f 2 0 7) (LapFrame.field f 1 0 8) = none →
      Completes (.lapPing f) s fun t =>
        t.lap.txq = s.lap.txq ++ [⟨s.lapPlain 5 (LapFrame.field f 2 0 7) (LapFrame.field f 1 0 8) 0 Lres.ok, s.clock, s.lap.resps⟩] ∧
            t.ledger = s.ledger) ∧
    (exec (.lapForeignFrame f) s = .next { s with lap := { s.lap with goodSince := true, counts := modNth s.lap.counts 1 (· + 1) } }) ∧
    (∀ code at_, s.lap.pendingRate = some (code, at_) → s.comes at_ = true → Completes .lapRateSwitch s fun t =>
      t.lap.rate = code ∧ t.lap.pendingRate = none ∧ t.lap.goodSince = false ∧ t.lap.txq = s.lap.txq) ∧
    (s.lap.rate ≠ 0 → s.lap.goodSince = false → 128 ≤ s.lap.txErr ∨ 128 ≤ s.lap.rxErr → s.comes s.lap.windowEnd = true →
        Completes .lapRateFallback s fun t =>
      t.lap = { s.lap with rate := 0 }) ∧
    (255 < s.lap.txErr → Completes .busOff s fun t => t.lap.off = true ∧ s.clock ≤ t.lap.offAt ∧ t.lap.counts = modNth s.lap.counts 3 (· + 1) ∧
        t.beadle.faultN = false) ∧
    (∀ x l, s.lap.txq = x :: l → s.comes (x.at_ + nsUnits (s.param 0xF80005 * 1000000)) = true → s.power.resetAfter = none →
        Completes .lapTxAbandon s fun t =>
      t.lap.txq = l.filter (fun y => y.resp != x.resp) ∧ t.lap.counts = modNth s.lap.counts 4 (· + 1)) ∧
    (exec (.lapBitError .rx) s = .next { s with lap := { s.lap with rxErr := s.lap.rxErr + 1, counts := modNth s.lap.counts 2 (· + 1) } }) ∧
    (s.lap.ownErrors + 1 ≠ 16 → exec (.lapBitError .txBit) s = .next { s with
      lap := { s.lap with txErr := s.lap.txErr + 8, ownErrors := s.lap.ownErrors + 1, counts := modNth s.lap.counts 2 (· + 1) } }) ∧
    (∀ x l, s.lap.txq = x :: l → s.power.resetAfter = none → exec (.lapBitError .txOk) s = .next { s with
      lap := { s.lap with txErr := s.lap.txErr - 1, ownErrors := 0, txq := l }, out := s.out ++ [.lap x.frame] })

/-- R329, R334, R342, R343, R346, R347, R530: what the commands of the Arcade do, and that an output that R343 chooses is a
usable port at which the packet's ESC stays within its cap; a packet is unroutable only where no minimal port is. -/
def Obligations.ArcadeCommands : Prop :=
  ∀ s : State,
    (∀ inp vc x, s.life.opened = true → s.inputs.find? (fun x => x.inp == inp && x.vc == vc && !x.routed) = some x →
      exec (.transitPacket inp vc) s = .next (s.routeBanked x)) ∧
    (∀ inp vc, s.life.opened = false → exec (.transitPacket inp vc) s = .next s) ∧
    (∀ p t c u, s.chooseOut p t = (some c, u) → s.usable c.port = true ∧ s.escAfter p c.port c.detour ≤ escCap p ∧
      (c.via.isSome = true →
          s.nonminAllowed p ((s.usableIn (Route.min (s.tableEntry t))).filter (fun q => decide (s.escAfter p q false ≤ escCap p))) = true)) ∧
    (∀ p t u, s.chooseOut p t = (none, u) → ∀ q ∈ s.usableIn (Route.min (s.tableEntry t)), escCap p < s.escAfter p q false) ∧
    (∀ inp x, s.inputs.find? (fun x => x.inp == inp && x.pkt.tc == 3) = some x → s.comes (x.clock + nsUnits (s.param 0x804002 * 1000) + 1) = true →
      exec (.tc3StaleDiscard inp) s = .next ((s.movedTo (x.clock + nsUnits (s.param 0x804002 * 1000) + 1)).dropInput x Event.tc3Stale inp)) ∧
    (∀ inp vc x, s.headOf inp vc = some x →
      (x.tick + s.param 0x804003 ≤ s.ticks → exec (.routingStall inp vc) s = .next ((s.freeInput x).occur FaultCode.routingStall inp 0)) ∧
      (s.ticks < x.tick + s.param 0x804003 → exec (.routingStall inp vc) s = .next s)) ∧
    (∀ q f u, (s.link q).active = true → f.kind = 2 → f.seq = 1 → s.takeHeader q f = (u, false) →
      exec (.priceBoard q f) s = .next ((u.takeBoard q (leNat f.body)).portsChanged u.usablePorts)) ∧
    (∀ q img, ∃ b, Tab.look (s.takeBoard q img).boards q = some b ∧ b.seen = true ∧ b.device = bits img 0 0 18 ∧
      Tab.look b.slices (bits img 8 0 3) = some (img, bits img 4 0 32, true))

/-- R359, R360, R361, R393, R394: who wins a call: the highest rank after patience, and of equal ones the requester that follows
the last winner; a call with a bid has a winner. What calls at the host paths and the package-memory channels do, and that
credit debited for a packet that has not begun comes back as it was. -/
def Obligations.AuctionCalls : Prop :=
  (∀ (bids : List Bid) (k last : Nat), (winner bids k last = none ↔ bids = []) ∧
    (∀ r, winner bids k last = some r → ∃ b ∈ bids, b.req = r ∧ b.effective k ≤ 7 ∧ (∀ c ∈ bids, c.effective k ≤ b.effective k) ∧
      (∀ c ∈ bids, c.effective k = b.effective k → last < r → c.req ≤ last ∨ r ≤ c.req) ∧
      (∀ c ∈ bids, c.effective k = b.effective k → r ≤ last → r ≤ c.req ∧ c.req ≤ last))) ∧
  (∀ (s : State) (n : Nat), s.life.opened = true → exec (.auctionCall (.output n)) s = .next (s.callOutput n)) ∧
  (∀ (s : State) (p : HPort),
    (s.readyUnits p [] (s.path p) = [] → exec (.auctionCall (.host p)) s = .next s.later) ∧
    (∀ u, s.path p = [u] → s.unitReady p [] u = true → (∃ a d, u.op = .msix a d) ∨ (∃ tag a, u.op = .flush tag a) → (∀ ctx, u.src ≠ .stall ctx) →
      Completes (.auctionCall (.host p)) s fun t => t.path p = [] ∧ t.out = s.out ++ [.host p u.op] ∧ s.clock ≤ t.clock)) ∧
  (∀ (s : State) (ch : Nat) (b : PmemBid), ch < 16 → b.cls < 7 → b.bursts ≠ [] → Completes (.auctionCall (.pmem ch [b])) s fun t =>
    ∃ a, Tab.look t.pmem ch = some a ∧ a.winner = b.cls + 1 ∧ a.lots = lotAccesses (s.param 0x900201) b.bursts 0 ∧ t.ledger = s.ledger) ∧
  (∀ limit b bs, 0 < b → (∀ x ∈ bs, 0 < x) → lotAccesses limit (b :: bs) 0 ≤ max limit b) ∧
  (∀ (s : State) (q pool id : Nat) (p : Packet), s.creditPool q p = some pool →
    ((s.debit q pool p).link q).undebit { pkt := p, pool := pool, id := id, avail := 0, sent := 0 } = s.link q)

/-- R385, R386, R390, R397, R398, R399, R400, R401, R403, R409, R410, R411: what flits that arrive and flit times do on an
ACTIVE link, where what every flit carries leaves it in the state `u`. -/
def Obligations.LinkCommands : Prop :=
  (∀ (s : State) (q : Nat) (f : Flit) (u : State), (s.link q).active = true → s.takeHeader q f = (u, false) →
    (f.kind = 0 → 2048 ≤ (f.seq - (u.link q).expected).toNat → exec (.dataFlit q f) s = .next (u.health q 0x0B 1)) ∧
    (f.kind = 0 → f.seq ≠ (u.link q).expected → (f.seq - (u.link q).expected).toNat < 2048 →
      exec (.dataFlit q f) s = .next (u.modLink q (fun l => { l with replayReq := true }))) ∧
    (∀ v, f.kind = 0 → f.seq = (u.link q).expected →
      (u.modLink q (fun l => ({ l with expected := l.expected + 1, replayReq := false } : Link).counted 2 1)).acceptBody q f = some v →
      exec (.dataFlit q f) s = .next v) ∧
    (f.kind = 0 → f.seq = (u.link q).expected →
      (u.modLink q (fun l => ({ l with expected := l.expected + 1, replayReq := false } : Link).counted 2 1)).acceptBody q f = none →
      exec (.dataFlit q f) s = .next (u.linkFails q)) ∧
    (f.kind = 3 → exec (.dataFlit q f) s = .next (u.linkFails q)) ∧
    (f.kind = 1 → exec (.idleFlit q f) s = .next u) ∧
    (f.kind = 2 → definedCtype f.seq.toNat = false → exec (.undefinedControlFlit q f) s = .next (u.health q 0x0C 1)) ∧
    (f.kind = 2 → f.seq = 2 → (∀ i, i < 32 → bits (leNat f.body) (4 * i) 0 32 = (nth (u.link q).got i).toNat) → Completes (.creditSync q f) s fun t =>
      (t.link q).priv = (u.link q).priv ∧ (t.link q).shared = (u.link q).shared ∧ (t.link q).sharedUse = (u.link q).sharedUse ∧
          (t.link q).active = (u.link q).active)) ∧
  (∀ (s : State) (q : Nat) (f : Flit) (u : State) (c : Instr), (s.link q).active = true → s.takeHeader q f = (u, true) →
    (c = .dataFlit q f ∧ f.kind = 0 ∨ c = .idleFlit q f ∧ f.kind = 1 ∨ c = .creditSync q f ∧ f.kind = 2 ∧ f.seq = 2) →
        exec c s = .next (u.linkFails q)) ∧
  (∀ (s : State) (q : Nat), (s.link q).active = true → Completes (.flitCrcFailure q) s fun t =>
    (t.link q).replayReq = true ∧ (t.link q).expected = (s.link q).expected ∧ (t.link q).kept = (s.link q).kept ∧ (t.link q).rx = (s.link q).rx ∧
    t.inputs = s.inputs ∧ t.out = s.out) ∧
  (∀ (s : State) (q : Nat) (k : Kept) (ks : List Kept), (s.link q).active = true → (s.link q).kept = k :: ks → (k :: ks).any Kept.bad = false →
    (∀ j ∈ (s.link q).replay, j.flit.seq ≠ k.flit.seq) → s.comes (k.sentAt + nsUnits (s.param 0xA01002)) = true →
        (s.link q).replays + 1 < s.param 0xA01003 →
    Completes (.replayTimeout q) s fun t => (t.link q).replay = k :: ks ∧ (t.link q).kept = k :: ks ∧ (t.link q).replays = (s.link q).replays + 1 ∧
      (t.link q).active = true) ∧
  (∀ (s : State) (q : Nat), (s.link q).active = true → exec (.flitTime q) s = .next (s.later.sendNext q)) ∧
  (∀ (s : State) (q : Nat) (f : Flit) (c : Instr), (s.link q).active = false →
    (c = .dataFlit q f ∨ c = .idleFlit q f ∨ c = .creditSync q f ∨ c = .undefinedControlFlit q f ∨ c = .flitCrcFailure q ∨ c = .flitTime q) →
        exec c s = .next s)

/-- R388, R391, R398, R400, R403, R405: the replay buffer and the bodies of DATA flits: an ACK retires the flits up to the one
it names and does nothing when it names none of them; a body has at most 240 bytes and at most four packets begin in it; a
new DATA flit goes out only while fewer than W are unacknowledged. -/
def Obligations.ReplayAndBodies : Prop :=
  (∀ (l : Link) (a : BitVec 12), (∀ k ∈ l.kept, k.flit.seq ≠ a) → l.acked a = l) ∧
  (∀ (l : Link) (pre post : List Kept) (k : Kept), l.kept = pre ++ k :: post → (∀ j ∈ pre, j.flit.seq ≠ k.flit.seq) →
    (l.acked k.flit.seq).kept = post ∧ (l.acked k.flit.seq).replays = 0 ∧ ∀ j ∈ (l.acked k.flit.seq).replay, ∃ i ∈ post, i.flit.seq = j.flit.seq) ∧
  (∀ l : Link, l.pack.body.length ≤ 240 ∧ l.pack.begun ≤ 4 ∧ (body240 l.pack.body).length = 240) ∧
  (∀ (s : State) (q : Nat) (k : Kept) (ks : List Kept), (s.link q).kept = k :: ks → (k :: ks).any Kept.bad = false →
    (s.startReplay q).2 = decide (s.param 0xA01003 ≤ (s.link q).replays + 1) ∧ ((s.startReplay q).1.link q).replay = k :: ks) ∧
  (∀ (s : State) (q : Nat), (s.link q).control = [] → (s.link q).replay = [] → s.sendWindow q ≤ (s.link q).kept.length →
    s.sendNext q = s.sendFlit q (plainFlit 1 0 []) ∧ ((s.sendNext q).link q).kept = (s.link q).kept)

/-- R421, R422, R423, R424, R426, R427, R430, R431, R432: what the commands of a port's training do at the stage to which each
belongs. R428, R430: a round of equalisation keeps both coefficients within their range, changes one only where that raises
the figure of merit, by one step, and a lane is done only at its grade. -/
def Obligations.LaneTraining : Prop :=
  (∀ (s : State) (q : Nat),
     (∀ lanes, (s.lport q).stage = .detect → (s.portLanes q).any (bitAt lanes) = true → ∀ c, c = .receiverDetect q lanes ∨
         c = .signonSymbols q lanes →
       Completes c s fun t => (t.lport q).stage = .signon ∧ (t.lport q).since = s.clock ∧ (t.lport q).attempts = (s.lport q).attempts ∧
           t.links = s.links) ∧
     (∀ lanes, (s.lport q).stage = .detect → (s.portLanes q).any (bitAt lanes) = false →
         exec (.receiverDetect q lanes) s = .next (s.emitLanes q 15 1 0)) ∧
     (∀ lanes, (s.lport q).stage = .active → Nat.land lanes (s.lport q).rxSet ≠ 0 → Completes (.signonSymbols q lanes) s fun t =>
       (t.lport q).stage = .signon ∧ (t.link q).active = false) ∧
     (∀ l inv, s.laneOwner l = q → (s.lport q).stage = .signon ∨ (s.lport q).stage = .exchange → Completes (.commaLock l inv) s fun t =>
       (t.lane l).locked = true ∧ (t.lane l).inverted = inv ∧ (t.lport q).stage = .exchange ∧ t.links = s.links) ∧
     (∀ l record, s.laneOwner l = q → crc32c (record.take 0x1C) ≠ bits (leNat record) 0x1C 0 32 → exec (.capabilityFrame l record) s = .next s) ∧
     (∀ l record u, s.laneOwner l = q → crc32c (record.take 0x1C) = bits (leNat record) 0x1C 0 32 → (s.lane l).locked = true →
         (s.lport q).stage = .exchange →
       u = s.takeRecord q l (leNat record) → (u.lport q).hold = 0 →
       ((u.lport q).leader = false → bits (leNat record) 0 11 1 = 1 → Completes (.capabilityFrame l record) s fun t =>
         (t.lport q).stage = .rate ∧ (t.lport q).rateGo = some (bits (leNat record) 0 12 2) ∧ (t.lport q).rateGoAt = s.clock) ∧
       (∀ code, (u.lport q).leader = true → u.exchanged q = true →
           highestRate (Nat.land (s.param (0xB00201 + q / 2)) (bits (leNat record) 0 8 3)) = code → code ≠ 0 →
         Completes (.capabilityFrame l record) s fun t => (t.lport q).stage = .rate ∧ (t.lport q).rateGo = some code ∧
             (t.lport q).rateGoAt = s.clock)) ∧
     (∀ code, (s.lport q).stage = .rate → (s.lport q).rateGo = some code → s.comes ((s.lport q).rateGoAt + nsUnits 10000) = true →
         Completes (.rateSwitch q) s fun t =>
       (t.lport q).rate = code ∧ (t.lport q).rateGo = none ∧ (t.lport q).stage = .rate) ∧
     (∀ lanes, (s.lport q).stage = .rate → (s.lport q).rate ≠ 0 → (s.lport q).rateGo = none → (s.portLanes q).any (bitAt lanes) = true →
       Completes (.rateLock q lanes) s fun t => (t.lport q).stage = .equalise ∧ (t.lport q).rate = (s.lport q).rate ∧ t.links = s.links) ∧
     (∀ l e, s.laneOwner l = q → (s.lport q).stage = .equalise → (s.lane l).locked = true → exec (.eqStep l e) s =
       .next ((s.modLane l (fun x => x.judged e (s.grade (s.lport q).rate))).emit (.eqAnswer l ((s.lane l).stepped e).isNone))) ∧
     (∀ peerDone done, (s.lport q).stage = .equalise → lanesMask (s.lanesWhere q 15 Lane.locked) ≠ 0 →
       done = Nat.land (lanesMask (s.lanesWhere q (lanesMask (s.lanesWhere q 15 Lane.locked)) Lane.done)) peerDone →
       (done = lanesMask (s.lanesWhere q 15 Lane.locked) ∨ done ≠ 0 ∧ s.comes ((s.lport q).since + nsUnits (s.param 0xB02002 * 1000)) = true) →
       Completes (.equaliseComplete q peerDone) s fun t => (t.lport q).stage = .active ∧ (t.link q).active = true ∧ (t.link q).kept = [] ∧
           (t.lport q).attempts = 0 ∧
         (t.lport q).txSet = lanesMask ((maskList 4 done).take (widthFor (maskList 4 done).length)) ∧ (t.lport q).rxSet = (t.lport q).txSet) ∧
     ((s.lport q).stage = .detect ∨ (s.lport q).stage = .signon ∨ (s.lport q).stage = .exchange ∨ (s.lport q).stage = .rate →
         (s.lport q).hold = 0 → s.portMask q ≠ 0 →
       s.comes ((s.lport q).since + nsUnits (s.param 0xB02001 * 1000)) = true → Completes (.trainingStageTimeout q) s fun t =>
         (t.lport q).stage = .detect ∧ (t.lport q).attempts = (if s.param 0xB02003 ≤ (s.lport q).attempts + 1 then 0 else (s.lport q).attempts + 1) ∧
         (s.param 0xB02003 ≤ (s.lport q).attempts + 1 → t.beadle.faultN = false) ∧ t.links = s.links)) ∧
  (∀ (x : Lane) (e : EqStep) (g : Nat),
     (x.pre ≤ 16 → (x.judged e g).pre ≤ 16) ∧ (x.post ≤ 24 → (x.judged e g).post ≤ 24) ∧
     (e.fomAfter ≤ e.fomBefore → (x.judged e g).pre = x.pre ∧ (x.judged e g).post = x.post) ∧
     ((x.judged e g).pre ≤ x.pre + 1 ∧ x.pre ≤ (x.judged e g).pre + 1 ∧ (x.judged e g).post ≤ x.post + 1 ∧ x.post ≤ (x.judged e g).post + 1) ∧
     ((x.judged e g).pre = x.pre ∨ (x.judged e g).post = x.post) ∧
     ((x.judged e g).done = true → g ≤ (x.judged e g).fom ∧ 16 ≤ (x.judged e g).stale))

/-- R411, R412, R419, R433, R434, R435, R436, R437, R440, R441: what the commands of lanes in ACTIVE do where their row applies;
`u` is the state after what every flit carries. -/
def Obligations.LaneChanges : Prop :=
  (∀ (s u : State) (q : Nat) (f : Flit), (s.link q).active = true → f.kind = 2 → s.takeHeader q f = (u, false) →
    (f.seq = 0x020 → exec (.laneRequest q f) s = .next (u.judgeRequest q (Flit.word f))) ∧
    (f.seq = 0x021 → (u.lport q).leader = true → exec (.laneOrder q f) s = .next u) ∧
    (f.seq = 0x021 → (u.lport q).leader = false → Order.dir (Flit.word f) = 1 → Completes (.laneOrder q f) s fun t =>
      (t.lport q).txSet = Order.lanes (Flit.word f) ∧ (t.lport q).txP1 = Order.p1 (Flit.word f) ∧ (t.lport q).rxSet = (u.lport q).rxSet ∧
      t.out = u.out ++ [.marker q (Nat.lor (u.lport q).txSet (Order.lanes (Flit.word f)))]) ∧
    (f.seq = 0x021 → (u.lport q).leader = false → Order.dir (Flit.word f) = 0 → (u.lport q).rxSet ≠ Order.lanes (Flit.word f) →
        Completes (.laneOrder q f) s fun t =>
      (t.lport q).switching = some (Flit.word f) ∧ (t.lport q).rxSet = (u.lport q).rxSet ∧ (t.lport q).txSet = (u.lport q).txSet) ∧
    (∀ o, f.seq = 0x022 → (u.lport q).leader = true → (u.lport q).order = some o → Order.id o = Order.id (Flit.word f) →
      exec (.laneDone q f) s = .next (u.modPort q (fun p => { p with order := none })))) ∧
  (∀ (s : State) (q : Nat),
    (∀ lanes w, (s.lport q).stage = .active → Nat.land lanes (s.lport q).rxSet ≠ 0 → (s.lport q).switching = some w →
        Completes (.switchMarker q lanes) s fun t =>
      (t.lport q).rxSet = Order.lanes w ∧ (t.lport q).rxP1 = Order.p1 w ∧ (t.lport q).switching = none ∧ (t.lport q).txSet = (s.lport q).txSet ∧
      ((s.lport q).leader = true → (t.lport q).order = none)) ∧
    (∀ tx, (s.lport q).stage = .active → (if tx then (s.lport q).txP1 else (s.lport q).rxP1) = false →
      s.param 0xB01101 ≤ (if tx then (s.lport q).goodTx else (s.lport q).goodRx) →
      widthOf (if tx then (s.lport q).txSet else (s.lport q).rxSet) < widthOf (s.bestSet q) →
      exec (.widthRestore q tx) s = .next (s.wantChange q tx (s.bestSet q) 0 1)) ∧
    ((s.lport q).stage = .active → (s.lport q).txP1 = false → s.flag 0xB03001 = true → s.param 0xB03002 ≤ (s.lport q).idle →
      exec (.p1Idle q) s = .next (s.wantChange q true (lanesMask ((maskList 4 (s.lport q).txSet).take 1)) 1 2)) ∧
    ((s.lport q).stage = .active → (s.lport q).txP1 = true → (s.link q).queue ≠ [] →
      exec (.p1Wake q) s = .next (s.wantChange q true (s.bestSet q) 0 3)) ∧
    (∀ lanes power reason, (s.lport q).leader = true → (s.lport q).order = none → lanes ≠ 0 → ∀ tx,
      ((s.wantChange q tx lanes power reason).lport q).order = some (orderWord (s.lport q).orderId (if tx then 0 else 1) lanes power reason) ∧
      ((s.wantChange q tx lanes power reason).lport q).rxSet = (s.lport q).rxSet ∧
      ((s.wantChange q tx lanes power reason).lport q).orderId = ((s.lport q).orderId + 1) % 256) ∧
    (∀ tx lanes power reason, (s.lport q).leader = true → (s.lport q).order.isSome = true → s.wantChange q tx lanes power reason = s) ∧
    (∀ tx lanes power reason, (s.lport q).leader = false → lanes ≠ 0 →
      ((s.wantChange q tx lanes power reason).lport q).request = some (orderWord 0 (if tx then 1 else 0) lanes power reason) ∧
      ((s.wantChange q tx lanes power reason).lport q).txSet = (s.lport q).txSet ∧
          ((s.wantChange q tx lanes power reason).lport q).rxSet = (s.lport q).rxSet)) ∧
  (∀ (s : State) (l : Nat), (s.lport (s.laneOwner l)).stage = .active →
    (bitAt (s.lport (s.laneOwner l)).rxSet (l % 4) = true → (s.lane l).degraded = false → (s.lane l).blink = true ∨
        s.param 0xB01005 ≤ (s.lane l).below →
      Completes (.laneDegrade l) s fun t => (t.lane l).degraded = true ∧ (t.lane l).done = false ∧ (t.lane l).degrades = (s.lane l).degrades + 1 ∧
        (t.lport (s.laneOwner l)).stage = .active ∧ t.ledger = s.ledger) ∧
    (bitAt (s.lport (s.laneOwner l)).rxSet (l % 4) = true → (s.lane l).lostAt = none → Completes (.symbolLockLost l) s fun t =>
      (t.lane l).lostAt = some t.clock ∧ (t.lane l).locked = false ∧ s.clock ≤ t.clock ∧ t.links = s.links) ∧
    (∀ t, (s.lane l).lostAt = some t → s.clock < t + nsUnits (s.param 0xA01001 * 1000) →
      exec (.symbolLockRegained l) s = .next (s.modLane l (fun x => { x with locked := true, lostAt := none, blink := true }))) ∧
    (∀ t, (s.lane l).lostAt = some t → bitAt (s.lport (s.laneOwner l)).rxSet (l % 4) = true → s.comes (t + nsUnits (s.param 0xA01001 * 1000)) = true →
      Completes (.lockLossExpiry l) s fun u => (u.lport (s.laneOwner l)).stage = .signon ∧ (u.link (s.laneOwner l)).active = false) ∧
    (∀ fom, bitAt (s.lport (s.laneOwner l)).txSet (l % 4) = false → bitAt (s.lport (s.laneOwner l)).rxSet (l % 4) = false →
      (s.grade (s.lport (s.laneOwner l)).rate ≤ fom → exec (.laneRetrained l fom) s = .next (s.modLane l (fun x =>
        { x with fom := fom, locked := true, done := true, degraded := false, below := 0, blink := false, lostAt := none }))) ∧
      (fom < s.grade (s.lport (s.laneOwner l)).rate → exec (.laneRetrained l fom) s = .next (s.modLane l (fun x => { x with fom := fom })))))

/-- R453, R456, R458, R459, R461, R470: what the commands of fabric time do where their row applies. -/
def Obligations.FabricTimeCommands : Prop :=
  ∀ s : State,
    (∀ q f arrival u, (s.link q).active = true → f.kind = 2 → f.seq = 0x010 →
      (s.takeHeader q f = (u, false) → exec (.timeSync q f arrival) s = .next (u.takeSync q (leNat f.body) arrival)) ∧
      (s.takeHeader q f = (u, true) → exec (.timeSync q f arrival) s = .next (u.linkFails q))) ∧
    (s.time.state = .locked ∨ s.time.state = .acquire → s.time.isRoot = false → s.time.hadRoot = true → s.param 0xC03006 ≤ s.time.emptyRun →
      Completes .upstreamSilent s fun t => t.time.state = .holdover ∧ t.time.boundAt = s.timeBound ∧ t.time.holdoverAt = s.ticks ∧
          t.time.now = s.time.now) ∧
    (s.time.state = .acquire → s.param 0xC03004 ≤ s.time.lockRun → s.upstream.any (fun p => p.state == 2) = true → Completes .timeLock s fun t =>
      t.time = { s.time with state := .locked, lockRun := 0, unlockRun := 0 }) ∧
    (s.time.state = .locked → s.time.isRoot = false → 16 ≤ s.time.unlockRun → Completes .timeUnlock s fun t =>
      t.time = { s.time with state := .acquire, lockRun := 0, unlockRun := 0 }) ∧
    (∀ stamp local_, s.time.isRoot = true → s.param 0xC02001 ≠ 0 →
      (s.time.lastEdge = none → s.time.refSeconds = none →
          exec (.ppsInEdge stamp local_) s = .next { s with time := { s.time with lastEdge := some local_ } }) ∧
      (∀ t, s.time.lastEdge = some t → t + 10 ^ 12 ≤ local_ + 10 ^ 8 → local_ ≤ t + 10 ^ 12 + 10 ^ 8 → s.time.refSeconds = none →
        exec (.ppsInEdge stamp local_) s = .next { s with time := { s.time with lastEdge := some local_, refInUse := true, refLost := false, refFrom := s.time.localTime, refError := fractionPs stamp - toSigned 64 (s.param 0xC02003) } }) ∧
      (∀ t, s.time.lastEdge = some t → (local_ + 10 ^ 8 < t + 10 ^ 12 ∨ t + 10 ^ 12 + 10 ^ 8 < local_) →
        exec (.ppsInEdge stamp local_) s = .next (s.count Event.ppsDiscard anyUnit 1))) ∧
    (∀ stamp local_, s.time.isRoot = false → exec (.ppsInEdge stamp local_) s = .next s) ∧
    (s.time.isRoot = true → s.param 0xC02001 ≠ 0 → s.time.refLost = false → s.time.refFrom + 3 * 10 ^ 12 * 2 ^ 20 ≤ s.time.localTime →
      exec .referenceLost s = .next (({ s with time := { s.time with refInUse := false, refLost := true, lastEdge := none } } : State).elect.occur FaultCode.timeReferenceLost 0 0)) ∧
    (s.secondHere = true → s.param 0xC06001 = 2 ∨ s.param 0xC06001 = 1 ∧ (s.time.state = .locked ∨ s.time.state = .holdover) →
        Completes .ppsOutPulse s fun t =>
      t.time = { s.time with ppsOut := true, ppsEnd := t.clock + nsUnits (s.param 0xC06002 * 1000) } ∧ s.clock ≤ t.clock) ∧
    (s.time.ppsOut = true → s.comes s.time.ppsEnd = true → Completes .ppsOutEnd s fun t => t.time = { s.time with ppsOut := false } ∧
        t.ticks = s.ticks)

/-- R448, R455, R456, R460, R462, R464, R465, R466: the servo's correction stays within the slew limit; fabric time never steps
backward in OPEN, nor by as little as the threshold; a candidate better than every root offered is the root, at distance 0
and LOCKED; at a boundary the time is a whole number of bells; what a device without a source reports is the largest bound. -/
def Obligations.FabricTimeRules : Prop :=
  ∀ (s : State) (e : Int),
    (-s.slewLimit ≤ (s.servoTerms e).time.c ∧ (s.servoTerms e).time.c ≤ s.slewLimit ∧ -s.slewLimit ≤ s.servoFree.time.c ∧
        s.servoFree.time.c ≤ s.slewLimit) ∧
    (e ≤ 0 → s.life = .open_ ∨ s.life = .shutter → s.stepAllowed e = false) ∧
    (e.natAbs ≤ s.param 0xC03001 * 1000 → s.stepAllowed e = false) ∧
    (s.param 0xC01001 ≠ 0 →
        (∀ x ∈ s.offers, rootRank x.2.rootClass x.2.rootPriority x.2.rootSerial < rootRank s.ownClass (s.param 0xC01001) Config.serial.toNat) →
      s.elect.time.isRoot = true ∧ s.elect.time.distance = 0 ∧ s.elect.time.state = .locked ∧ s.elect.timeBound ≤ 4294967295) ∧
    (s.param 0xC01001 = 0 → s.offers = [] → s.elect.time.isRoot = false ∧ s.elect.time.rootClass = 0 ∧ s.elect.time.state = s.time.state) ∧
    (s.nextBoundary.time.now % 2 ^ 28 = 0 ∧ s.nextBoundary.sub = 0 ∧ s.nextBoundary.ticks = s.ticks + 1) ∧
    (s.time.state = .free ∨ s.time.state = .acquire → s.timeBound = 4294967295) ∧
    (s.time.state = .locked → s.time.isRoot = true → s.time.refInUse = false → s.timeBound = 0)

/-- R476, R477, R478, R479, R480, R481, R483, R486: what the commands of a Porter channel do where their row applies. A piece
stays within one line and one 4 KiB page of either side and within its descriptor. -/
def Obligations.PorterCommands : Prop :=
  ∀ (s : State) (ch : Nat),
    (∀ i d rest, (s.chan ch).cur = none → (s.chan ch).ahead = (i, d) :: rest → (s.chan ch).state = .active → i = (s.chan ch).ci →
        s.life = .open_ → d < 2 ^ 512 →
      Completes (.descriptorStart ch) s fun t => (t.chan ch).cur = some d ∧ (t.chan ch).off = 0 ∧ (t.chan ch).done = 0 ∧ (t.chan ch).ahead = rest ∧
        (t.chan ch).fail = s.descFault (s.chan ch) d ∧ (t.chan ch).ci = (s.chan ch).ci ∧ t.store = s.store) ∧
    (∀ d, (s.chan ch).cur = some d → (s.chan ch).runs = true → (s.chan ch).fail = none → (s.chan ch).missed = false →
        (s.chan ch).off < Desc64.total d →
      (s.chanShare ch = 256 ∨ 0 ≤ (s.chan ch).bucket) → s.awake (s.chan ch).fn = true → s.life = .open_ → Desc64.srcKind d = 1 →
      ∃ u : State, (u.chan ch).off = (s.chan ch).off + Desc64.piece d (s.chan ch).off ∧
        (u.chan ch).inflight = (s.chan ch).inflight ++ [((s.chan ch).off, Desc64.piece d (s.chan ch).off)] ∧ u.store = s.store ∧
        exec (.pieceIssue ch) s = .next (u.pieceBack ch (s.chan ch).off (some (Cells.readBytes s.store (sideAddr (Desc64.srcAddr d) (Desc64.srcLine d) (Desc64.srcStride d) (s.chan ch).off)
          (Desc64.piece d (s.chan ch).off), s.linePoison (sideAddr (Desc64.srcAddr d) (Desc64.srcLine d) (Desc64.srcStride d) (s.chan ch).off) (Desc64.piece d (s.chan ch).off))))) ∧
    (∀ d, (s.chan ch).cur = some d → (s.chan ch).fail.isSome = true ∨ (s.chan ch).missed = true ∨ Desc64.total d ≤ (s.chan ch).off ∨ s.life ≠ .open_ →
      exec (.pieceIssue ch) s = .next s) ∧
    (∀ st, (s.chan ch).finished = some st → (s.chan ch).state = .active → s.life = .open_ → s.portUp (fnPort (s.chan ch).fn) = true →
      ((s.chan ch).onError = true ∨ st = Status.ok ∨ st = Status.malformed → Completes (.descriptorWriteBack ch) s fun t =>
        (t.chan ch).ci = (s.chan ch).ci + 1 ∧ (t.chan ch).cur = none ∧ (t.chan ch).state = .active ∧ t.store = s.store) ∧
      ((s.chan ch).onError = false → st ≠ Status.ok → st ≠ Status.malformed → Completes (.descriptorWriteBack ch) s fun t =>
        (t.chan ch).ci = (s.chan ch).ci + 1 ∧ (t.chan ch).cur = none ∧ (t.chan ch).state = .stopped ∧ t.store = s.store)) ∧
    ((s.chan ch).state = .pausing → (s.chan ch).inflight = [] → (∀ fn, (s.chan ch).waiter ≠ some (fn, true)) → Completes (.porterPaused ch) s fun t =>
      (t.chan ch).state = .paused ∧ (t.chan ch).ci = (s.chan ch).ci ∧ (t.chan ch).waiter = none ∧ t.store = s.store) ∧
    ((s.chan ch).state ≠ .pausing → exec (.porterPaused ch) s = .next s) ∧
    (∀ d off, Desc64.ok d = true → off < Desc64.total d →
      1 ≤ Desc64.piece d off ∧ off + Desc64.piece d off ≤ Desc64.total d ∧ off % Desc64.dstLine d + Desc64.piece d off ≤ Desc64.dstLine d ∧
      (Desc64.dstKind d = 0 → sideAddr (Desc64.dstAddr d) (Desc64.dstLine d) (Desc64.dstStride d) off % 4096 + Desc64.piece d off ≤ 4096) ∧
      (Desc64.srcKind d = 0 → off % Desc64.srcLine d + Desc64.piece d off ≤ Desc64.srcLine d ∧
        sideAddr (Desc64.srcAddr d) (Desc64.srcLine d) (Desc64.srcStride d) off % 4096 + Desc64.piece d off ≤ 4096))

/-- R564, R565, R567: a dump that is due writes its record, 8,128 bytes behind a head of 16, and moves the index on, or is
skipped and counted. -/
def Obligations.TallyDumps : Prop :=
  ∀ (s : State) (bell : Nat) (counts : Tab Nat),
    (s.dumpBody counts).length = 0x1FC0 ∧ (s.dumpHead bell).length = 16 ∧
    (s.tally.due = some (bell, counts) → s.onTime 16 = true → s.flag 0xF01006 = true → s.hostA.state ≠ .reset ∨ s.hostB.state ≠ .reset →
      (s.dumpBlocked = false → Completes .tallyDump s fun t =>
        t.tally.pi = s.tally.pi + 1 ∧ t.tally.missed = 0 ∧ t.tally.wraps = [] ∧ t.tally.due = none ∧ t.tally.counts = s.tally.counts) ∧
      (s.dumpBlocked = true → exec .tallyDump s = .next { s with tally := { s.tally with due := none, missed := min 65535 (s.tally.missed + 1) } })) ∧
    (s.tally.due = none → exec .tallyDump s = .next s)

end Statements
end

