-- ==== Sys2Proof/Laws/Memory.lean ====
section
/-!
SUPPORT. Byte memories: a write keeps the canonical form, the byte written is read back, and every other byte is left as it was.
-/
namespace Sys2Proof.Machine

/-- The first key of a byte memory lies above a bound. -/
def above (k : Nat) : Cells → Bool
  | [] => true
  | (a, _) :: _ => decide (k < a)

theorem cells_wf_cons (a : Nat) (b : Byte) (m : Cells) :
    Cells.wf ((a, b) :: m) = (b != 0 && above a m && Cells.wf m) := by
  cases m with
  | nil => simp [Cells.wf, above]
  | cons x m => simp [Cells.wf, above]

theorem above_write (k : Nat) (m : Cells) (a : Nat) (v : Byte) (h : above k m = true) (ha : k < a) (hw : Cells.wf m = true) :
    above k (Cells.write m a v) = true := by
  cases m with
  | nil => unfold Cells.write; split <;> simp [above, ha]
  | cons x m =>
    obtain ⟨c, d⟩ := x
    have hc : k < c := by simpa [above] using h
    unfold Cells.write
    split
    · split <;> simp [above, ha, hc]
    · split
      · split
        · rw [cells_wf_cons] at hw
          cases m with
          | nil => rfl
          | cons y m =>
            have : c < y.1 := by simp [above] at hw; exact hw.1.2
            simp [above]; omega
        · simp [above, ha]
      · simp [above, hc]

theorem cells_write_wf (m : Cells) (k : Nat) (v : Byte) (h : Cells.wf m = true) : Cells.wf (Cells.write m k v) = true := by
  induction m with
  | nil => unfold Cells.write; split <;> simp_all [Cells.wf]
  | cons x m ih =>
    obtain ⟨a, b⟩ := x
    have h' := h
    rw [cells_wf_cons] at h'
    simp only [Bool.and_eq_true, bne_iff_ne] at h'
    obtain ⟨⟨hb, hab⟩, hw⟩ := h'
    unfold Cells.write
    split
    · split
      · exact h
      · rw [cells_wf_cons]; simp_all [above]
    · split
      · split
        · exact hw
        · rw [cells_wf_cons]; simp_all
      · rw [cells_wf_cons]
        simp only [Bool.and_eq_true, bne_iff_ne]
        exact ⟨⟨hb, above_write a m k v hab (by omega) hw⟩, ih hw⟩

theorem cells_writeBytes_wf (m : Cells) (a : Nat) (d : Bytes) (h : Cells.wf m = true) :
    Cells.wf (Cells.writeBytes m a d) = true := by
  induction d generalizing m a with
  | nil => exact h
  | cons b d ih => exact ih _ _ (cells_write_wf m a b h)


/-- A byte below the first listed one is zero. -/
theorem cells_read_below (m : Cells) (k : Nat) (h : above k m = true) (hw : Cells.wf m = true) : Cells.read m k = 0 := by
  induction m with
  | nil => rfl
  | cons x m ih =>
    obtain ⟨a, b⟩ := x
    rw [cells_wf_cons] at hw
    simp only [above, decide_eq_true_eq, Bool.and_eq_true] at h hw
    unfold Cells.read
    rw [if_neg (by omega)]
    refine ih ?_ hw.2
    cases m with
    | nil => rfl
    | cons y m =>
      have := hw.1.2
      simp only [above, decide_eq_true_eq] at this ⊢
      omega

/-- A byte written is read back. -/
theorem cells_read_write_same (m : Cells) (k : Nat) (v : Byte) (hw : Cells.wf m = true) :
    Cells.read (Cells.write m k v) k = v := by
  induction m with
  | nil => unfold Cells.write; split <;> simp_all [Cells.read]
  | cons x m ih =>
    obtain ⟨a, b⟩ := x
    have h' := hw
    rw [cells_wf_cons] at h'
    simp only [Bool.and_eq_true, bne_iff_ne] at h'
    unfold Cells.write
    split
    · rename_i hk
      split
      · rename_i hv
        rw [hv]
        exact cells_read_below _ _ (by simpa [above] using hk) hw
      · simp [Cells.read]
    · split
      · rename_i hk
        subst hk
        split
        · rename_i hv
          rw [hv]
          exact cells_read_below _ _ h'.1.2 h'.2
        · simp [Cells.read]
      · rename_i hk
        simp only [Cells.read, if_neg hk]
        exact ih h'.2

/-- Every other byte is left as it was. -/
theorem cells_read_write_other (m : Cells) (k j : Nat) (v : Byte) (hj : j ≠ k) :
    Cells.read (Cells.write m k v) j = Cells.read m j := by
  induction m with
  | nil => unfold Cells.write; split <;> simp [Cells.read, Ne.symm hj]
  | cons x m ih =>
    obtain ⟨a, b⟩ := x
    unfold Cells.write
    split
    · split
      · rfl
      · simp only [Cells.read, if_neg (Ne.symm hj)]
    · split
      · rename_i hk
        subst hk
        split <;> simp only [Cells.read, if_neg (Ne.symm hj)]
      · simp only [Cells.read, ih]

/-- A write of bytes leaves every byte outside its range as it was. -/
theorem cells_read_writeBytes_outside (m : Cells) (a : Nat) (d : Bytes) (j : Nat) (h : j < a ∨ a + d.length ≤ j) :
    Cells.read (Cells.writeBytes m a d) j = Cells.read m j := by
  induction d generalizing m a with
  | nil => rfl
  | cons b d ih =>
    simp only [List.length_cons] at h
    unfold Cells.writeBytes
    rw [ih _ _ (by omega), cells_read_write_other _ _ _ _ (by omega)]

/-- Bytes written are read back. -/
theorem cells_readBytes_writeBytes (m : Cells) (a : Nat) (d : Bytes) (hw : Cells.wf m = true) :
    Cells.readBytes (Cells.writeBytes m a d) a d.length = d := by
  induction d generalizing m a with
  | nil => rfl
  | cons b d ih =>
    unfold Cells.writeBytes
    simp only [List.length_cons, Cells.readBytes]
    rw [cells_read_writeBytes_outside _ _ _ _ (by omega), cells_read_write_same _ _ _ hw, ih _ _ (cells_write_wf _ _ _ hw)]

/-- Reading bytes that are the same one by one. -/
theorem cells_readBytes_congr (m n : Cells) (a k : Nat) (h : ∀ j, a ≤ j → j < a + k → Cells.read m j = Cells.read n j) :
    Cells.readBytes m a k = Cells.readBytes n a k := by
  induction k generalizing a with
  | zero => rfl
  | succ k ih =>
    simp only [Cells.readBytes]
    rw [h a (by omega) (by omega), ih (a + 1) (fun j h1 h2 => h j (by omega) (by omega))]

end Sys2Proof.Machine
end

