-- ==== Sys2Proof/Laws/Kept.lean ====
section
/-!
SUPPORT. The part of the state that most definitions leave as it is, with the rules that read it off.
-/
namespace Sys2Proof.Machine

/-- What most of the definitions of the model leave as it is: the queue of commands, both byte memories, the life cycle, the count of
bells, the stored parameters, the protection keys, the Multicast Table, the pins and power state, the management key, and the time
with its state, the state, freeze causes and NumVFs of both host ports, and the rw-bell writes that are staged. -/
abbrev Unmoved : Type :=
  List Instr × Cells × Cells × Life × Nat × Tab Nat × Tab Key × Tab Nat × Power × Nat × Nat × TimeState ×
    (PortState × BitVec 6 × Nat) × (PortState × BitVec 6 × Nat) × Bool × List Staged

/-- The state of a host port, its freeze causes and its NumVFs. -/
def HostPort.core (h : HostPort) : PortState × BitVec 6 × Nat := (h.state, h.cause, h.numVfs)

theorem HostPort.core_held (h : HostPort) (l : List HostUnit) : HostPort.core { h with held := l } = h.core := rfl

/-- The part of a state that most definitions leave as it is. -/
def State.kept (s : State) : Unmoved :=
  (s.pending, s.store, s.bulk, s.life, s.ticks, s.ledger, s.keys, s.mcast, s.power, s.clerk.key, s.time.now, s.time.state, s.hostA.core, s.hostB.core, s.switched, s.staged)

/-- A queue of commands, with both byte memories in canonical form. -/
def Held (q : List Instr) (k : Unmoved) : Prop :=
  k.1 = q ∧ Cells.wf k.2.1 = true ∧ Cells.wf k.2.2.1 = true

/-- The kept part of the next state of an outcome, or a default. -/
def keptO (o : Host.Outcome State Fault Refusal) (k : Unmoved) : Unmoved :=
  match o with
  | .next s => s.kept
  | _ => k

/-- The kept part of a state that may be absent, or a default. -/
def keptM (o : Option State) (k : Unmoved) : Unmoved :=
  match o with
  | some s => s.kept
  | none => k

/-- The next state of an outcome holds the queue. -/
def HeldO (q : List Instr) (o : Host.Outcome State Fault Refusal) : Prop :=
  match o with
  | .next s => Held q s.kept
  | _ => True

/-- A state that may be absent holds the queue. -/
def HeldM (q : List Instr) (o : Option State) : Prop :=
  match o with
  | some s => Held q s.kept
  | none => True

/-- A state beside a value, where there is one, holds the queue. -/
def HeldP {α : Type} (q : List Instr) (o : Option (α × State)) : Prop :=
  match o with
  | some x => Held q x.2.kept
  | none => True

/-- The kept part of a state beside a value, or a default. -/
def keptP {α : Type} (o : Option (α × State)) (k : Unmoved) : Unmoved :=
  match o with
  | some x => x.2.kept
  | none => k

/-- The kept part of a state beside a value, or a default. -/
def keptQ {α : Type} (o : Option (State × α)) (k : Unmoved) : Unmoved :=
  match o with
  | some x => x.1.kept
  | none => k

/-- The kept part of the state in either side of a sum. -/
def keptS {α β : Type} (o : α × State ⊕ β × State) : Unmoved :=
  match o with
  | .inl x => x.2.kept
  | .inr x => x.2.kept

/-- The kept part of the state in either side of a sum. -/
def keptU {α β γ : Type} (o : α × State ⊕ β × γ × State) : Unmoved :=
  match o with
  | .inl x => x.2.kept
  | .inr x => x.2.2.kept

/-- The kept part of the state in either side of a sum. -/
def keptT {α : Type} (o : α × State ⊕ State) : Unmoved :=
  match o with
  | .inl x => x.2.kept
  | .inr x => x.kept

theorem keptP_some {α : Type} (x : α × State) (k : Unmoved) : keptP (some x) k = x.2.kept := rfl
theorem keptP_none {α : Type} (k : Unmoved) : keptP (α := α) none k = k := rfl
theorem keptQ_some {α : Type} (x : State × α) (k : Unmoved) : keptQ (some x) k = x.1.kept := rfl
theorem keptQ_none {α : Type} (k : Unmoved) : keptQ (α := α) none k = k := rfl
theorem keptS_inl {α β : Type} (x : α × State) : keptS (β := β) (.inl x) = x.2.kept := rfl
theorem keptS_inr {α β : Type} (x : β × State) : keptS (α := α) (.inr x) = x.2.kept := rfl
theorem keptU_inl {α β γ : Type} (x : α × State) : keptU (β := β) (γ := γ) (.inl x) = x.2.kept := rfl
theorem keptU_inr {α β γ : Type} (x : β × γ × State) : keptU (α := α) (.inr x) = x.2.2.kept := rfl
theorem keptT_inl {α : Type} (x : α × State) : keptT (.inl x) = x.2.kept := rfl
theorem keptT_inr {α : Type} (s : State) : keptT (α := α) (.inr s) = s.kept := rfl
theorem keptO_next (s : State) (k : Unmoved) : keptO (.next s) k = s.kept := rfl
theorem keptM_some (s : State) (k : Unmoved) : keptM (some s) k = s.kept := rfl
theorem keptM_none (k : Unmoved) : keptM none k = k := rfl
theorem heldO_next (q : List Instr) (s : State) : HeldO q (.next s) = Held q s.kept := rfl
theorem heldM_some (q : List Instr) (s : State) : HeldM q (some s) = Held q s.kept := rfl
theorem heldM_none (q : List Instr) : HeldM q none = True := rfl
theorem keptM_of {o : Option State} {k l : Unmoved} (h : keptM o l = l) (e : l = k) : keptM o k = k := by
  subst e; exact h
theorem keptM_some_of {o : Option State} {l : Unmoved} {t : State} (h : keptM o l = l) (e : o = some t) :
    t.kept = l := by
  subst e; exact h
theorem keptO_next_of {o : Host.Outcome State Fault Refusal} {l : Unmoved} {t : State} (h : keptO o l = l)
    (e : o = .next t) : t.kept = l := by
  subst e; exact h
theorem heldO_next_of {o : Host.Outcome State Fault Refusal} {q : List Instr} {t : State} (h : HeldO q o)
    (e : o = .next t) : Held q t.kept := by
  subst e; exact h
theorem heldO_of {o : Host.Outcome State Fault Refusal} {q : List Instr} {l : Unmoved} (h : keptO o l = l)
    (hq : Held q l) : HeldO q o := by
  cases o with
  | next s =>
    have e : s.kept = l := h
    show Held q s.kept
    rw [e]; exact hq
  | fault => trivial
  | refused => trivial
theorem keptO_of {o : Host.Outcome State Fault Refusal} {k l : Unmoved} (h : keptO o l = l) (e : l = k) :
    keptO o k = k := by
  subst e; exact h
theorem heldP_some {α : Type} (q : List Instr) (x : α × State) : HeldP q (some x) = Held q x.2.kept := rfl
theorem heldP_none {α : Type} (q : List Instr) : HeldP (α := α) q none = True := rfl
theorem ok_eq (s : State) : ok s = .next s := rfl

theorem kept_eta (s : State) :
    (s.pending, s.store, s.bulk, s.life, s.ticks, s.ledger, s.keys, s.mcast, s.power, s.clerk.key, s.time.now, s.time.state, s.hostA.core, s.hostB.core, s.switched, s.staged) = s.kept := Eq.trans rfl rfl

theorem kept_mk a0 a1 a2 a3 a4 a5 a6 a7 a8 a9 a10 a11 a12 a13 a14 a15 a16 a17 a18 a19 a20 a21 a22 a23 a24 a25 a26 a27 a28 a29 a30 a31 a32 a33 a34 a35 a36 a37 a38 a39 a40 a41 a42 a43 a44 a45 a46 a47 a48 a49 a50 a51 a52 a53 a54 a55 a56 a57 a58 a59 a60 a61 a62 a63 a64 :
    (State.mk a0 a1 a2 a3 a4 a5 a6 a7 a8 a9 a10 a11 a12 a13 a14 a15 a16 a17 a18 a19 a20 a21 a22 a23 a24 a25 a26 a27 a28 a29 a30 a31 a32 a33 a34 a35 a36 a37 a38 a39 a40 a41 a42 a43 a44 a45 a46 a47 a48 a49 a50 a51 a52 a53 a54 a55 a56 a57 a58 a59 a60 a61 a62 a63 a64).kept = (a0, a36, a38, a1, a2, a8, a25, a45, a60, a59.key, a56.now, a56.state, a10.core, a11.core, a4, a9) := Eq.trans rfl rfl

/-- The rules by which the kept part of an outcome, or of a state written out, is read off. -/
theorem kept_rules :
    (∀ a0 a1 a2 a3 a4 a5 a6 a7 a8 a9 a10 a11 a12 a13 a14 a15 a16 a17 a18 a19 a20 a21 a22 a23 a24 a25 a26 a27 a28 a29 a30 a31 a32 a33 a34 a35 a36 a37 a38 a39 a40 a41 a42 a43 a44 a45 a46 a47 a48 a49 a50 a51 a52 a53 a54 a55 a56 a57 a58 a59 a60 a61 a62 a63 a64, (State.mk a0 a1 a2 a3 a4 a5 a6 a7 a8 a9 a10 a11 a12 a13 a14 a15 a16 a17 a18 a19 a20 a21 a22 a23 a24 a25 a26 a27 a28 a29 a30 a31 a32 a33 a34 a35 a36 a37 a38 a39 a40 a41 a42 a43 a44 a45 a46 a47 a48 a49 a50 a51 a52 a53 a54 a55 a56 a57 a58 a59 a60 a61 a62 a63 a64).kept = (a0, a36, a38, a1, a2, a8, a25, a45, a60, a59.key, a56.now, a56.state, a10.core, a11.core, a4, a9)) ∧
    (∀ s : State, (s.pending, s.store, s.bulk, s.life, s.ticks, s.ledger, s.keys, s.mcast, s.power, s.clerk.key, s.time.now, s.time.state, s.hostA.core, s.hostB.core, s.switched, s.staged) = s.kept) ∧
    (∀ (s : State) (k : Unmoved), keptO (.next s) k = s.kept) ∧ (∀ (s : State) (k : Unmoved), keptM (some s) k = s.kept) ∧
    (∀ k : Unmoved, keptM none k = k) ∧ (∀ s : State, ok s = .next s) ∧ (∀ (h : HostPort) (l : List HostUnit), HostPort.core { h with held := l } = h.core) ∧ (∀ s : State, id s = s) ∧
    (∀ (p : Prop) [Decidable p] (a b : State), (if p then a else b).kept = if p then a.kept else b.kept) ∧
    (∀ (p : Prop) [Decidable p] (k : Unmoved), (if p then k else k) = k) :=
  ⟨kept_mk, kept_eta, keptO_next, keptM_some, keptM_none, ok_eq, HostPort.core_held, fun _ => rfl, fun p _ a b => apply_ite State.kept p a b,
    fun _ _ _ => ite_self _⟩

/-- The rules for what holds the queue. -/
theorem held_rules (q : List Instr) :
    (∀ s : State, HeldO q (.next s) = Held q s.kept) ∧ (∀ s : State, HeldM q (some s) = Held q s.kept) ∧ (HeldM q none = True) :=
  ⟨heldO_next q, heldM_some q, heldM_none q⟩

theorem foldl_kept {α : Type} (f : State → α → State) (l : List α) (h : ∀ s x, (f s x).kept = s.kept) (s : State) :
    (l.foldl f s).kept = s.kept := by
  induction l generalizing s with
  | nil => rfl
  | cons a l ih => rw [List.foldl_cons, ih, h]

theorem foldl_kept2 {α β : Type} (f : β × State → α → β × State) (l : List α) (h : ∀ s x, (f s x).2.kept = s.2.kept)
    (s : β × State) : (l.foldl f s).2.kept = s.2.kept := by
  induction l generalizing s with
  | nil => rfl
  | cons a l ih => rw [List.foldl_cons, ih, h]

theorem foldl_kept1 {α β : Type} (f : State × β → α → State × β) (l : List α) (h : ∀ s x, (f s x).1.kept = s.1.kept)
    (s : State × β) : (l.foldl f s).1.kept = s.1.kept := by
  induction l generalizing s with
  | nil => rfl
  | cons a l ih => rw [List.foldl_cons, ih, h]

theorem foldl_held {α : Type} (q : List Instr) (f : State → α → State) (l : List α)
    (h : ∀ s x, Held q s.kept → Held q (f s x).kept) (s : State) (hs : Held q s.kept) : Held q (l.foldl f s).kept := by
  induction l generalizing s with
  | nil => exact hs
  | cons a l ih => rw [List.foldl_cons]; exact ih _ (h _ _ hs)

end Sys2Proof.Machine
end

