-- ==== Sys2Proof/Laws/KeptHost.lean ====
section
/-!
SUPPORT. What the definitions of host paths, protection, rings, queues, administrative commands and the Porter leave as it is.
-/
set_option maxRecDepth 4096

namespace Sys2Proof.Machine

theorem State.setFn_kept (s : State) (x1 : Nat) (x2 : Fn → Fn) : (State.setFn s x1 x2).kept = s.kept := by
  unfold State.setFn
  simp only [kept_rules]

theorem State.setPort_kept (q : List Instr) (s : State) (x1 : HPort) (x2 : HostPort → HostPort) (hq : Held q s.kept) : Held q (State.setPort s x1 x2).kept := by
  cases x1 <;> exact ⟨hq.1, hq.2.1, hq.2.2⟩

theorem State.tunePort_kept (s : State) (x1 : HPort) (x2 : HostPort → HostPort) : (State.tunePort s x1 x2).kept = s.kept := by
  cases x1 <;> exact Eq.trans rfl rfl

theorem State.setBoot_kept (s : State) (x1 : HPort) (x2 : Boot → Boot) : (State.setBoot s x1 x2).kept = s.kept := by
  unfold State.setBoot
  split <;> simp only [kept_rules]

theorem State.setPath_kept (s : State) (x1 : HPort) (x2 : List HostUnit) : (State.setPath s x1 x2).kept = s.kept := by
  unfold State.setPath
  split <;> simp only [kept_rules]

theorem State.setParam_kept (q : List Instr) (s : State) (x1 : Nat) (x2 : Nat) (hq : Held q s.kept) : Held q (State.setParam s x1 x2).kept := by
  exact ⟨hq.1, hq.2.1, hq.2.2⟩

theorem State.draw_kept (s : State) (x1 : Nat) : (State.draw s x1).2.kept = s.kept := by
  unfold State.draw
  simp only [kept_rules]

theorem State.draw_cases {s : State} {x1 : Nat} {y0 : Nat} {t : State} (h : (State.draw s x1) = (y0, t)) : t.kept = s.kept := by
  have hk := State.draw_kept s x1; rw [h] at hk; exact hk

theorem State.later_kept (s : State) : (State.later s).kept = s.kept := by
  unfold State.later
  simp only [kept_rules]

theorem State.until_kept (s : State) (x1 : Nat) : keptM (State.until s x1) s.kept = s.kept := by
  unfold State.until
  repeat' split
  all_goals simp only [kept_rules]

theorem State.until_cases {s : State} {x1 : Nat} {t : State} (h : (State.until s x1) = some t) : t.kept = s.kept := by
  have hk := State.until_kept s x1; rw [h] at hk; exact hk

theorem State.atTime_kept (s : State) (x1 : Nat) (x2 : State → State) (hx2 : ∀ y0, (x2 y0).kept = y0.kept) : (State.atTime s x1 x2).kept = s.kept := by
  unfold State.atTime
  repeat' (first | simp only [hx2] | split | with_reducible refine (State.until_cases (by assumption)).trans ?_)

theorem State.atTime_held (q : List Instr) (s : State) (x1 : Nat) (x2 : State → State) (hx2 : ∀ y0, Held q y0.kept → Held q (x2 y0).kept) (hq : Held q s.kept) : Held q (State.atTime s x1 x2).kept := by
  unfold State.atTime
  repeat' (first | simp only [hq] | split | with_reducible refine hx2 _ ?_ | rw [State.until_cases (by assumption)])

theorem State.emit_kept (s : State) (x1 : Output) : (State.emit s x1).kept = s.kept := by
  unfold State.emit
  simp only [kept_rules]

theorem State.request_kept (s : State) (x1 : HostUnit) : (State.request s x1).kept = s.kept := by
  unfold State.request
  repeat' (first | simp only [State.setPath_kept, State.tunePort_kept] | split)

theorem State.hostWrite_kept (s : State) (x1 : Nat) (x2 : Nat) (x3 : Nat) (x4 : Source) (x5 : Nat) (x6 : Bytes) (x7 : Bool) (x8 : Option (Nat × Nat × Nat)) : (State.hostWrite s x1 x2 x3 x4 x5 x6 x7 x8).kept = s.kept := by
  unfold State.hostWrite
  simp only [State.request_kept]

theorem State.newRead_kept (s : State) (x1 : Nat) (x2 : Nat) (x3 : Nat) (x4 : ReadFor) (x5 : Option (Nat × Nat × Nat)) : (State.newRead s x1 x2 x3 x4 x5).kept = s.kept := by
  unfold State.newRead
  simp only [kept_rules]

theorem State.hostRead_kept (s : State) (x1 : Nat) (x2 : Nat) (x3 : Nat) (x4 : Source) (x5 : Nat) (x6 : Nat) (x7 : ReadFor) (x8 : Option (Nat × Nat × Nat)) : (State.hostRead s x1 x2 x3 x4 x5 x6 x7 x8).kept = s.kept := by
  unfold State.hostRead
  simp only [kept_rules, State.newRead_kept, State.request_kept]

theorem State.hostFlush_kept (s : State) (x1 : Nat) (x2 : Nat) (x3 : Nat) (x4 : Source) (x5 : List Source) (x6 : Nat) (x7 : ReadFor) : (State.hostFlush s x1 x2 x3 x4 x5 x6 x7).kept = s.kept := by
  unfold State.hostFlush
  simp only [kept_rules, State.newRead_kept, State.request_kept]

theorem State.hostAtomic_kept (s : State) (x1 : Nat) (x2 : Nat) (x3 : Nat) (x4 : Source) (x5 : Nat) (x6 : Nat) (x7 : Bytes) (x8 : ReadFor) (x9 : Option (Nat × Nat × Nat)) : (State.hostAtomic s x1 x2 x3 x4 x5 x6 x7 x8 x9).kept = s.kept := by
  unfold State.hostAtomic
  simp only [kept_rules, State.newRead_kept, State.request_kept]

theorem State.msix_kept (s : State) (x1 : Nat) (x2 : Nat) (x3 : List Source) : (State.msix s x1 x2 x3).kept = s.kept := by
  unfold State.msix
  simp only [kept_rules, State.request_kept, State.setFn_kept]

theorem State.announce_kept (s : State) (x1 : Nat) (x2 : Nat) : (State.announce s x1 x2).kept = s.kept := by
  unfold State.announce
  split <;> simp only [kept_rules, State.msix_kept]

theorem State.writeEvent_kept (s : State) (x1 : Nat) (x2 : Nat) (x3 : Nat) (x4 : Nat) (x5 : Nat) (x6 : List Source) : (State.writeEvent s x1 x2 x3 x4 x5 x6).kept = s.kept := by
  unfold State.writeEvent
  split <;> simp only [kept_rules, State.announce_kept, State.request_kept]

theorem State.postEvent_kept (s : State) (x1 : Nat) (x2 : Nat) (x3 : Nat) (x4 : Nat) (x5 : Nat) (x6 : List Source) : (State.postEvent s x1 x2 x3 x4 x5 x6).kept = s.kept := by
  unfold State.postEvent
  repeat' (first | simp only [kept_rules, State.later_kept, State.writeEvent_kept] | split)

theorem State.drainMarks_kept (s : State) (x1 : Nat) (x2 : Nat) (x3 : Nat) : (State.drainMarks s x1 x2 x3).kept = s.kept := by
  fun_induction State.drainMarks s x1 x2 x3
  all_goals repeat' (first | simp +zetaDelta only [kept_mk, kept_eta, State.writeEvent_kept, *])

theorem State.tallyAdd_kept (s : State) (x1 : Nat) (x2 : Nat) : (State.tallyAdd s x1 x2).kept = s.kept := by
  unfold State.tallyAdd
  simp only [kept_rules, State.postEvent_kept]

theorem State.count_kept (s : State) (x1 : Nat) (x2 : Nat) (x3 : Nat) : (State.count s x1 x2 x3).kept = s.kept := by
  unfold State.count
  repeat' (first | simp only [kept_rules, State.tallyAdd_kept] | with_reducible refine (foldl_kept _ _ ?_ _).trans ?_ | intro _)

theorem State.occur_kept (s : State) (x1 : Nat) (x2 : Nat) (x3 : Nat) : (State.occur s x1 x2 x3).kept = s.kept := by
  unfold State.occur
  simp only [kept_rules]

theorem State.cqNotify_kept (s : State) (x1 : Nat) (x2 : Nat) : (State.cqNotify s x1 x2).kept = s.kept := by
  unfold State.cqNotify
  repeat' split
  all_goals simp only [kept_rules, State.postEvent_kept]

theorem State.writeCompletion_kept (s : State) (x1 : Nat) (x2 : Nat) (x3 : Nat) (x4 : Bool) (x5 : List Source) : (State.writeCompletion s x1 x2 x3 x4 x5).kept = s.kept := by
  unfold State.writeCompletion
  split <;> simp only [kept_rules, State.cqNotify_kept, State.request_kept]

theorem State.reserve_kept (s : State) (x1 : Nat) (x2 : Nat) : keptM (State.reserve s x1 x2) s.kept = s.kept := by
  unfold State.reserve
  repeat' split
  all_goals simp only [kept_rules]

theorem State.reserve_cases {s : State} {x1 : Nat} {x2 : Nat} {t : State} (h : (State.reserve s x1 x2) = some t) : t.kept = s.kept := by
  have hk := State.reserve_kept s x1 x2; rw [h] at hk; exact hk

theorem State.unreserve_kept (s : State) (x1 : Nat) (x2 : Nat) : (State.unreserve s x1 x2).kept = s.kept := by
  unfold State.unreserve
  simp only [kept_rules]

theorem State.loadTlb_kept (s : State) (x1 : Tlb) : (State.loadTlb s x1).kept = s.kept := by
  unfold State.loadTlb
  simp only [kept_rules]

theorem State.lookPage_kept (s : State) (x1 : Nat) (x2 : Key) (x3 : Nat) (x4 : Access) (x5 : Bool) : (State.lookPage s x1 x2 x3 x4 x5).2.kept = s.kept := by
  unfold State.lookPage
  repeat' split
  all_goals simp only [kept_rules, State.count_kept]

theorem State.lookPage_cases {s : State} {x1 : Nat} {x2 : Key} {x3 : Nat} {x4 : Access} {x5 : Bool} {y0 : Reach} {t : State} (h : (State.lookPage s x1 x2 x3 x4 x5) = (y0, t)) : t.kept = s.kept := by
  have hk := State.lookPage_kept s x1 x2 x3 x4 x5; rw [h] at hk; exact hk

theorem State.reach_kept (s : State) (x1 : Nat) (x2 : Key) (x3 : Access) (x4 : Bool) (x5 : Nat) (x6 : Nat) (x7 : Nat) : (State.reach s x1 x2 x3 x4 x5 x6 x7).2.kept = s.kept := by
  induction x5 generalizing s x6 x7 with
  | zero => rfl
  | succ n ih =>
    unfold State.reach
    split
    · rfl
    · split
      · rename_i h
        dsimp only
        split
        · rename_i h2
          exact (congrArg (fun r : Reach × State => r.2.kept) h2).symm.trans ((ih _ _ _).trans (State.lookPage_cases h))
        · exact (ih _ _ _).trans (State.lookPage_cases h)
      · rename_i h
        exact State.lookPage_cases h
      · exact State.lookPage_kept s x1 x2 (x6 / 4096) x3 x4

theorem State.reachKey_kept (s : State) (x1 : Nat) (x2 : Nat) (x3 : Nat) (x4 : Access) (x5 : Bool) : (State.reachKey s x1 x2 x3 x4 x5).2.kept = s.kept := by
  unfold State.reachKey
  split <;> simp only [State.reach_kept]

theorem State.reachKey_cases {s : State} {x1 : Nat} {x2 : Nat} {x3 : Nat} {x4 : Access} {x5 : Bool} {y0 : Reach} {t : State} (h : (State.reachKey s x1 x2 x3 x4 x5) = (y0, t)) : t.kept = s.kept := by
  have hk := State.reachKey_kept s x1 x2 x3 x4 x5; rw [h] at hk; exact hk

theorem State.walkRead_kept (s : State) (x1 : Nat) (x2 : Miss) (x3 : Nat) (x4 : Nat) (x5 : Nat) : (State.walkRead s x1 x2 x3 x4 x5).kept = s.kept := by
  unfold State.walkRead
  simp only [kept_rules, State.hostRead_kept]

theorem State.writeMiss_kept (s : State) (x1 : Nat) (x2 : Nat) : (State.writeMiss s x1 x2).kept = s.kept := by
  unfold State.writeMiss
  repeat' split
  all_goals simp only [kept_rules, State.postEvent_kept, State.request_kept, State.setFn_kept]

theorem State.writeMisses_kept (s : State) (x1 : Nat) : (State.writeMisses s x1).kept = s.kept := by
  unfold State.writeMisses
  repeat' (first | simp only [State.writeMiss_kept] | split | with_reducible refine (foldl_kept _ _ ?_ _).trans ?_ | intro _)

theorem State.raiseMiss_kept (s : State) (x1 : Nat) (x2 : Key) (x3 : Nat) (x4 : Access) (x5 : MissWaiter) : (State.raiseMiss s x1 x2 x3 x4 x5).kept = s.kept := by
  unfold State.raiseMiss
  split <;> simp only [kept_rules, State.later_kept, State.walkRead_kept, State.writeMiss_kept]

theorem State.modQp_kept (s : State) (x1 : Nat) (x2 : Qp → Qp) : (State.modQp s x1 x2).kept = s.kept := by
  unfold State.modQp
  simp only [kept_rules]

theorem State.modSq_kept (s : State) (x1 : Nat) (x2 : Sq → Sq) : (State.modSq s x1 x2).kept = s.kept := by
  unfold State.modSq
  simp only [State.modQp_kept]

theorem State.modRq_kept (s : State) (x1 : Nat) (x2 : Rq → Rq) : (State.modRq s x1 x2).kept = s.kept := by
  unfold State.modRq
  simp only [State.modQp_kept]

theorem State.modSrq_kept (s : State) (x1 : Nat) (x2 : Srq → Srq) : (State.modSrq s x1 x2).kept = s.kept := by
  unfold State.modSrq
  simp only [kept_rules]

theorem State.fetchEntry_kept (s : State) (x1 : Nat) (x2 : Nat) (x3 : Nat) (x4 : BitVec 16) (x5 : BitVec 16) (x6 : ReadFor) : (State.fetchEntry s x1 x2 x3 x4 x5 x6).kept = s.kept := by
  unfold State.fetchEntry
  simp only [State.hostRead_kept]

theorem State.fetchAdmin_kept (s : State) (x1 : Nat) : (State.fetchAdmin s x1).kept = s.kept := by
  unfold State.fetchAdmin
  repeat' (first | simp only [State.fetchEntry_kept, State.setFn_kept] | split | with_reducible refine (State.reserve_cases (by assumption)).trans ?_)

theorem State.adminOff_kept (s : State) (x1 : Nat) : (State.adminOff s x1).kept = s.kept := by
  unfold State.adminOff
  simp only [kept_rules, State.setFn_kept]

theorem State.admDone_kept (s : State) (x1 : Nat) (x2 : Nat) (x3 : Nat) (x4 : Nat) (x5 : List Source) : (State.admDone s x1 x2 x3 x4 x5).kept = s.kept := by
  unfold State.admDone
  split <;> simp only [kept_rules, State.adminOff_kept, State.fetchAdmin_kept, State.later_kept, State.setFn_kept, State.writeCompletion_kept]

theorem State.admOk_kept (s : State) (x1 : Nat) (x2 : Nat) : (State.admOk s x1 x2).kept = s.kept := by
  unfold State.admOk
  simp only [State.admDone_kept]

theorem State.admAbort_kept (s : State) (x1 : Nat) (x2 : Nat) : (State.admAbort s x1 x2).kept = s.kept := by
  unfold State.admAbort
  simp only [State.admDone_kept]

theorem State.admWait_kept (s : State) (x1 : Nat) (x2 : BitVec 16) : (State.admWait s x1 x2).kept = s.kept := by
  unfold State.admWait
  simp only [State.setFn_kept]

theorem State.retireHead_kept (s : State) (x1 : Nat) (x2 : Qp) (x3 : Wqe) : (State.retireHead s x1 x2 x3).kept = s.kept := by
  unfold State.retireHead
  simp only [kept_rules, State.modSq_kept, State.unreserve_kept, State.writeCompletion_kept]

theorem State.retireSq_kept (s : State) (x1 : Nat) (x2 : Nat) : (State.retireSq s x1 x2).kept = s.kept := by
  fun_induction State.retireSq s x1 x2
  all_goals repeat' (first | simp +zetaDelta only [State.retireHead_kept, *])

theorem State.reserveFor_kept (s : State) (x1 : Nat) (x2 : Qp) (x3 : Wqe) : (State.reserveFor s x1 x2 x3).kept = s.kept := by
  unfold State.reserveFor
  repeat' (first | simp only [kept_rules, State.modSq_kept] | split | with_reducible refine (State.reserve_cases (by assumption)).trans ?_)

theorem State.countAbort_kept (s : State) (x1 : Nat) : (State.countAbort s x1).kept = s.kept := by
  unfold State.countAbort
  simp only [State.setFn_kept]

theorem State.settleSq_kept (s : State) (x1 : Nat) (x2 : Nat) : (State.settleSq s x1 x2).kept = s.kept := by
  fun_induction State.settleSq s x1 x2
  all_goals repeat' (first | simp +zetaDelta only [State.countAbort_kept, State.modSq_kept, State.reserveFor_kept, *])

theorem State.fetchSq_kept (s : State) (x1 : Nat) : (State.fetchSq s x1).kept = s.kept := by
  unfold State.fetchSq
  split <;> simp only [kept_rules, State.fetchEntry_kept, State.modSq_kept]

theorem State.retireRq_kept (s : State) (x1 : Nat) (x2 : Nat) : (State.retireRq s x1 x2).kept = s.kept := by
  fun_induction State.retireRq s x1 x2
  all_goals repeat' (first | simp +zetaDelta only [State.modRq_kept, State.writeCompletion_kept, *])

theorem State.settleRq_kept (s : State) (x1 : Nat) (x2 : Nat) : (State.settleRq s x1 x2).kept = s.kept := by
  fun_induction State.settleRq s x1 x2
  all_goals repeat' (first | simp +zetaDelta only [State.modRq_kept, *] | with_reducible refine (State.reserve_cases (by assumption)).trans ?_)

theorem State.fetchRq_kept (s : State) (x1 : Nat) : (State.fetchRq s x1).kept = s.kept := by
  unfold State.fetchRq
  repeat' split
  all_goals simp only [kept_rules, State.fetchEntry_kept, State.modRq_kept]

theorem State.flushDone_kept (s : State) (x1 : Nat) : (State.flushDone s x1).kept = s.kept := by
  unfold State.flushDone
  split <;> simp only [kept_rules, State.modQp_kept]

theorem State.destroyQp_kept (s : State) (x1 : Nat) (x2 : Qp) : (State.destroyQp s x1 x2).kept = s.kept := by
  unfold State.destroyQp
  repeat' (first | simp only [kept_rules, State.hostWrite_kept] | split)

theorem State.queueCommand_kept (s : State) (x1 : Nat) : (State.queueCommand s x1).kept = s.kept := by
  unfold State.queueCommand
  repeat' split
  all_goals simp only [kept_rules, State.admDone_kept, State.destroyQp_kept, State.modRq_kept, State.modSq_kept]

theorem State.advanceQp_kept (s : State) (x1 : Nat) : (State.advanceQp s x1).kept = s.kept := by
  unfold State.advanceQp
  split <;> simp only [State.fetchRq_kept, State.fetchSq_kept, State.flushDone_kept, State.queueCommand_kept, State.retireRq_kept, State.retireSq_kept, State.settleRq_kept, State.settleSq_kept]

theorem State.finishWqe_kept (s : State) (x1 : Nat) (x2 : BitVec 16) (x3 : Nat) (x4 : Nat) (x5 : Nat) (x6 : List Source) : (State.finishWqe s x1 x2 x3 x4 x5 x6).kept = s.kept := by
  unfold State.finishWqe
  simp only [State.advanceQp_kept, State.later_kept, State.modSq_kept]

theorem State.finishRecv_kept (s : State) (x1 : Nat) (x2 : BitVec 16) (x3 : Nat) (x4 : Nat) (x5 : Bool) (x6 : List Source) : (State.finishRecv s x1 x2 x3 x4 x5 x6).kept = s.kept := by
  unfold State.finishRecv
  simp only [State.advanceQp_kept, State.later_kept, State.modRq_kept]

theorem State.finishSrq_kept (s : State) (x1 : Nat) (x2 : Nat) (x3 : BitVec 16) (x4 : Nat) (x5 : Nat) (x6 : Nat) (x7 : Bool) (x8 : List Source) : (State.finishSrq s x1 x2 x3 x4 x5 x6 x7 x8).kept = s.kept := by
  unfold State.finishSrq
  split <;> simp only [State.later_kept, State.modSrq_kept, State.writeCompletion_kept]

theorem State.failSrqRecvs_kept (s : State) (x1 : List RxMsg) (x2 : Nat) (x3 : Nat) : (State.failSrqRecvs s x1 x2 x3).kept = s.kept := by
  unfold State.failSrqRecvs
  repeat' (first | simp only [State.finishSrq_kept] | split | with_reducible refine (foldl_kept _ _ ?_ _).trans ?_ | intro _)

theorem State.qpError_kept (s : State) (x1 : Nat) (x2 : Nat) : (State.qpError s x1 x2).kept = s.kept := by
  unfold State.qpError
  repeat' (first | simp only [kept_rules, State.advanceQp_kept, State.failSrqRecvs_kept, State.later_kept, State.modQp_kept, State.postEvent_kept] | split)

theorem State.takeSqEntry_kept (s : State) (x1 : Nat) (x2 : Bytes) : (State.takeSqEntry s x1 x2).kept = s.kept := by
  unfold State.takeSqEntry
  split <;> simp only [kept_rules, State.advanceQp_kept, State.modSq_kept]

theorem State.failSqFetch_kept (s : State) (x1 : Nat) (x2 : Nat) : (State.failSqFetch s x1 x2).kept = s.kept := by
  unfold State.failSqFetch
  repeat' (first | simp only [State.advanceQp_kept, State.draw_kept, State.modSq_kept, State.qpError_kept] | split | with_reducible refine (State.reserve_cases (by assumption)).trans ?_)

theorem State.takeRqEntry_kept (s : State) (x1 : Nat) (x2 : Bytes) : (State.takeRqEntry s x1 x2).kept = s.kept := by
  unfold State.takeRqEntry
  repeat' split
  all_goals simp only [kept_rules, State.advanceQp_kept, State.modRq_kept]

theorem State.failRqFetch_kept (s : State) (x1 : Nat) (x2 : Nat) : (State.failRqFetch s x1 x2).kept = s.kept := by
  unfold State.failRqFetch
  repeat' (first | simp only [State.advanceQp_kept, State.draw_kept, State.modRq_kept, State.qpError_kept] | split | with_reducible refine (State.reserve_cases (by assumption)).trans ?_)

theorem State.srqLow_kept (s : State) (x1 : Nat) : (State.srqLow s x1).kept = s.kept := by
  unfold State.srqLow
  repeat' split
  all_goals simp only [State.modSrq_kept, State.postEvent_kept]

theorem State.fetchSrq_kept (s : State) (x1 : Nat) : (State.fetchSrq s x1).kept = s.kept := by
  unfold State.fetchSrq
  split <;> simp only [kept_rules, State.fetchEntry_kept, State.modSrq_kept]

theorem State.admHalt_kept (s : State) (x1 : Nat) : (State.admHalt s x1).kept = s.kept := by
  unfold State.admHalt
  simp only [State.msix_kept, State.setFn_kept]

theorem State.admMalformed_kept (s : State) (x1 : Nat) : (State.admMalformed s x1).kept = s.kept := by
  unfold State.admMalformed
  simp only [State.admDone_kept, State.admHalt_kept, State.setFn_kept]

theorem State.takeAdmin_kept (s : State) (x1 : Nat) (x2 : Bytes) : (State.takeAdmin s x1 x2).kept = s.kept := by
  unfold State.takeAdmin
  simp only [kept_rules, State.admMalformed_kept, State.fetchAdmin_kept, State.setFn_kept, State.unreserve_kept]

theorem State.failAdminFetch_kept (s : State) (x1 : Nat) (x2 : Nat) : (State.failAdminFetch s x1 x2).kept = s.kept := by
  unfold State.failAdminFetch
  simp only [State.admDone_kept, State.admHalt_kept, State.draw_kept, State.setFn_kept]

theorem State.admRow_kept (s : State) (x1 : Nat) (x2 : Nat) (x3 : AdminCmd → State) (hx3 : ∀ y0, (x3 y0).kept = s.kept) : (State.admRow s x1 x2 x3).kept = s.kept := by
  unfold State.admRow
  split <;> simp only [kept_rules, hx3]

theorem State.admRow_held (q : List Instr) (s : State) (x1 : Nat) (x2 : Nat) (x3 : AdminCmd → State) (hx3 : ∀ y0, Held q (x3 y0).kept) (hq : Held q s.kept) : Held q (State.admRow s x1 x2 x3).kept := by
  unfold State.admRow
  repeat' (first | simp only [hq] | split | with_reducible refine hx3 _)

theorem State.choose_kept (s : State) (x1 : Nat → Bool) (x2 : Nat) (x3 : Nat) : (State.choose s x1 x2 x3).2.kept = s.kept := by
  unfold State.choose
  simp only [State.draw_kept]

theorem State.choose_cases {s : State} {x1 : Nat → Bool} {x2 : Nat} {x3 : Nat} {y0 : Option Nat} {t : State} (h : (State.choose s x1 x2 x3) = (y0, t)) : t.kept = s.kept := by
  have hk := State.choose_kept s x1 x2 x3; rw [h] at hk; exact hk

theorem State.freshHandle_kept (s : State) (x1 : Nat) (x2 : Nat) : (State.freshHandle s x1 x2).2.kept = s.kept := by
  unfold State.freshHandle
  simp only [State.choose_kept]

theorem State.freshHandle_cases {s : State} {x1 : Nat} {x2 : Nat} {y0 : Option Nat} {t : State} (h : (State.freshHandle s x1 x2) = (y0, t)) : t.kept = s.kept := by
  have hk := State.freshHandle_kept s x1 x2; rw [h] at hk; exact hk

theorem State.storeWrite_kept (q : List Instr) (s : State) (x1 : Nat) (x2 : Bytes) (x3 : Bool) (hq : Held q s.kept) : Held q (State.storeWrite s x1 x2 x3).kept := by
  obtain ⟨hp, hs, hb⟩ := hq
  unfold State.storeWrite
  split
  · exact ⟨hp, hs, hb⟩
  · exact ⟨hp, cells_writeBytes_wf _ _ _ hs, hb⟩

theorem State.modChan_kept (s : State) (x1 : Nat) (x2 : Channel → Channel) : (State.modChan s x1 x2).kept = s.kept := by
  unfold State.modChan
  simp only [kept_rules]

theorem State.fetchDesc_kept (s : State) (x1 : Nat) : (State.fetchDesc s x1).kept = s.kept := by
  unfold State.fetchDesc
  simp only [kept_rules, State.hostRead_kept, State.modChan_kept]

theorem State.porterEvent_kept (s : State) (x1 : Nat) (x2 : Channel) (x3 : Nat) (x4 : BitVec 16) : (State.porterEvent s x1 x2 x3 x4).kept = s.kept := by
  unfold State.porterEvent
  split <;> simp only [State.postEvent_kept]

theorem State.writeBack_kept (s : State) (x1 : Nat) (x2 : BitVec 16) (x3 : Nat) (x4 : Nat) (x5 : Nat) : (State.writeBack s x1 x2 x3 x4 x5).kept = s.kept := by
  unfold State.writeBack
  simp only [kept_rules, State.porterEvent_kept, State.request_kept, State.tunePort_kept]

theorem State.chanDone_kept (s : State) (x1 : Nat) : (State.chanDone s x1).kept = s.kept := by
  unfold State.chanDone
  split <;> simp only [State.admOk_kept, State.modChan_kept]

theorem State.unreadDesc_kept (s : State) : (State.unreadDesc s).2.kept = s.kept := by
  unfold State.unreadDesc
  simp only [State.draw_kept]

theorem State.unreadDesc_cases {s : State} {y0 : Nat} {t : State} (h : (State.unreadDesc s) = (y0, t)) : t.kept = s.kept := by
  have hk := State.unreadDesc_kept s; rw [h] at hk; exact hk

theorem State.abortDescs_kept (s : State) (x1 : Nat) (x2 : Nat) (x3 : BitVec 16) : (State.abortDescs s x1 x2 x3).kept = s.kept := by
  fun_induction State.abortDescs s x1 x2 x3
  all_goals repeat' (first | simp +zetaDelta only [State.writeBack_kept, *] | with_reducible refine (State.unreadDesc_cases (by assumption)).trans ?_)

theorem State.abortChan_kept (s : State) (x1 : Nat) : (State.abortChan s x1).kept = s.kept := by
  unfold State.abortChan
  repeat' (first | simp only [State.abortDescs_kept, State.chanDone_kept, State.modChan_kept, State.writeBack_kept] | split)

theorem State.settlePause_kept (s : State) (x1 : Nat) : (State.settlePause s x1).kept = s.kept := by
  unfold State.settlePause
  repeat' (first | simp only [State.abortChan_kept, State.chanDone_kept, State.modChan_kept, State.porterEvent_kept] | split)

theorem State.settleDrain_kept (s : State) (x1 : Nat) : (State.settleDrain s x1).kept = s.kept := by
  unfold State.settleDrain
  simp only [kept_rules, State.chanDone_kept, State.modChan_kept, State.porterEvent_kept]

theorem State.endDesc_kept (s : State) (x1 : Nat) (x2 : Nat) : (State.endDesc s x1 x2).kept = s.kept := by
  unfold State.endDesc
  repeat' (first | simp only [State.abortChan_kept, State.chanDone_kept, State.fetchDesc_kept, State.modChan_kept, State.porterEvent_kept, State.settleDrain_kept, State.settlePause_kept, State.writeBack_kept] | split)

theorem State.chanFails_kept (s : State) (x1 : Nat) (x2 : Nat) : (State.chanFails s x1 x2).kept = s.kept := by
  unfold State.chanFails
  simp only [State.modChan_kept]

theorem State.porterPut_kept (q : List Instr) (s : State) (x1 : Nat) (x2 : Nat) (x3 : Nat) (x4 : Bytes) (x5 : Bool) (hq : Held q s.kept) : Held q (State.porterPut s x1 x2 x3 x4 x5).2.kept := by
  unfold State.porterPut
  repeat' (first | simp only [State.hostWrite_kept, State.modChan_kept, State.raiseMiss_kept, hq] | split | with_reducible refine State.storeWrite_kept _ _ _ _ _ ?_ | rw [State.reachKey_cases (by assumption)])

theorem State.porterPut_cases {q : List Instr} {s : State} {x1 : Nat} {x2 : Nat} {x3 : Nat} {x4 : Bytes} {x5 : Bool} {y0 : Option Nat} {t : State} (hq : Held q s.kept) (h : (State.porterPut s x1 x2 x3 x4 x5) = (y0, t)) : Held q t.kept := by
  have hk := State.porterPut_kept q s x1 x2 x3 x4 x5 hq; rw [h] at hk; exact hk

theorem State.flushChan_kept (q : List Instr) (s : State) (x1 : Nat) (x2 : Nat) (hq : Held q s.kept) : Held q (State.flushChan s x1 x2).kept := by
  induction x2 generalizing s with
  | zero => exact hq
  | succ n ih =>
    unfold State.flushChan
    dsimp only
    split
    · split
      · exact hq
      · split
        · exact hq
        · split
          · rename_i h
            exact State.porterPut_cases hq h
          · rename_i h
            have ht := State.porterPut_cases hq h
            split
            · rw [State.chanFails_kept]; exact ht
            · split
              · rw [State.chanFails_kept, State.count_kept, State.modChan_kept]; exact ht
              · refine ih _ ?_
                rw [State.count_kept, State.modChan_kept]; exact ht
    · exact hq

theorem State.pieceBack_kept (q : List Instr) (s : State) (x1 : Nat) (x2 : Nat) (x3 : Option (Bytes × Bool)) (hq : Held q s.kept) : Held q (State.pieceBack s x1 x2 x3).kept := by
  unfold State.pieceBack
  repeat' (first | simp only [State.chanFails_kept, State.modChan_kept, State.settlePause_kept, hq] | split | with_reducible refine State.flushChan_kept _ _ _ _ ?_)

theorem State.takeDesc_kept (s : State) (x1 : Nat) (x2 : Bytes) : (State.takeDesc s x1 x2).kept = s.kept := by
  unfold State.takeDesc
  simp only [kept_rules, State.fetchDesc_kept, State.modChan_kept]

theorem State.failDesc_kept (s : State) (x1 : Nat) (x2 : Nat) : (State.failDesc s x1 x2).kept = s.kept := by
  unfold State.failDesc
  simp only [kept_rules, State.modChan_kept, State.unreadDesc_kept]

theorem State.startDesc_kept (s : State) (x1 : Nat) : (State.startDesc s x1).kept = s.kept := by
  unfold State.startDesc
  repeat' (first | simp only [State.fetchDesc_kept, State.modChan_kept] | split)

theorem State.issuePiece_kept (q : List Instr) (s : State) (x1 : Nat) (hq : Held q s.kept) : Held q (State.issuePiece s x1).kept := by
  unfold State.issuePiece
  repeat' (first | simp only [State.chanFails_kept, State.hostRead_kept, State.modChan_kept, State.raiseMiss_kept, hq] | split | with_reducible refine State.pieceBack_kept _ _ _ _ _ ?_ | rw [State.reachKey_cases (by assumption)])

theorem State.freezeChan_kept (s : State) (x1 : Nat) : (State.freezeChan s x1).kept = s.kept := by
  unfold State.freezeChan
  repeat' (first | simp only [State.abortChan_kept, State.chanDone_kept, State.modChan_kept, State.porterEvent_kept, State.writeBack_kept] | split)

theorem State.wakeChan_kept (q : List Instr) (s : State) (x1 : Nat) (hq : Held q s.kept) : Held q (State.wakeChan s x1).kept := by
  unfold State.wakeChan
  repeat' (first | simp only [State.modChan_kept, State.settlePause_kept, hq] | with_reducible refine State.flushChan_kept _ _ _ _ ?_)

theorem execDescriptorStart_kept (x0 : Nat) (s : State) : keptO (execDescriptorStart x0 s) s.kept = s.kept := by
  unfold execDescriptorStart
  simp only [kept_rules, State.startDesc_kept]

theorem execPieceIssue_kept (q : List Instr) (x0 : Nat) (s : State) (hq : Held q s.kept) : HeldO q (execPieceIssue x0 s) := by
  unfold execPieceIssue
  repeat' (first | simp only [held_rules, hq] | with_reducible refine State.issuePiece_kept _ _ _ ?_)

theorem execDescriptorWriteBack_kept (x0 : Nat) (s : State) : keptO (execDescriptorWriteBack x0 s) s.kept = s.kept := by
  unfold execDescriptorWriteBack
  repeat' (first | simp only [kept_rules, State.endDesc_kept] | split)

theorem execPorterPaused_kept (x0 : Nat) (s : State) : keptO (execPorterPaused x0 s) s.kept = s.kept := by
  unfold execPorterPaused
  simp only [kept_rules, State.settlePause_kept]

end Sys2Proof.Machine
end

