-- ==== Sys2Proof/Laws/KeptTransport.lean ====
section
/-!
SUPPORT. What the definitions of transport: contexts, senders, receivers, collectives, groups, matching and targets leave as it is.
-/
set_option maxRecDepth 4096

namespace Sys2Proof.Machine

theorem State.drawBucket_kept (s : State) (x1 : Nat) (x2 : Nat) (x3 : Nat) (x4 : Int) : (State.drawBucket s x1 x2 x3 x4).kept = s.kept := by
  unfold State.drawBucket
  simp only [kept_rules]

theorem State.touchEdge_kept (s : State) (x1 : Packet) : (State.touchEdge s x1).kept = s.kept := by
  unfold State.touchEdge
  simp only [kept_rules]

theorem State.enterArcade_kept (s : State) (x1 : Packet) : (State.enterArcade s x1).kept = s.kept := by
  unfold State.enterArcade
  simp only [kept_rules, State.count_kept, State.later_kept, State.touchEdge_kept]

theorem State.startPacket_kept (s : State) (x1 : Packet) : (State.startPacket s x1).kept = s.kept := by
  unfold State.startPacket
  simp only [kept_rules, State.drawBucket_kept, State.enterArcade_kept]

theorem State.sendPacket_kept (s : State) (x1 : Packet) : (State.sendPacket s x1).kept = s.kept := by
  unfold State.sendPacket
  simp only [kept_rules, State.startPacket_kept]

theorem State.releaseShaped_kept (s : State) (x1 : List Packet) (x2 : List Packet) : (State.releaseShaped s x1 x2).kept = s.kept := by
  fun_induction State.releaseShaped s x1 x2
  all_goals repeat' (first | simp +zetaDelta only [kept_mk, kept_eta, State.startPacket_kept, *])

theorem State.modCtx_kept (s : State) (x1 : Nat) (x2 : Ctx → Ctx) : (State.modCtx s x1 x2).kept = s.kept := by
  unfold State.modCtx
  simp only [kept_rules]

theorem State.drawInc_kept (s : State) (x1 : BitVec 32) : (State.drawInc s x1).2.kept = s.kept := by
  unfold State.drawInc
  simp only [State.draw_kept]

theorem State.spill_kept (s : State) (x1 : Nat) (x2 : Ctx) : (State.spill s x1 x2).kept = s.kept := by
  unfold State.spill
  repeat' (first | simp only [State.count_kept, State.hostWrite_kept, State.modCtx_kept] | with_reducible refine (foldl_kept _ _ ?_ _).trans ?_ | intro _)

theorem State.fetchContext_kept (s : State) (x1 : Nat) (x2 : Ctx) : (State.fetchContext s x1 x2).kept = s.kept := by
  unfold State.fetchContext
  simp only [State.count_kept, State.hostRead_kept, State.modCtx_kept]

theorem State.grantSlots_kept (s : State) (x1 : Nat) (x2 : Nat) : (State.grantSlots s x1 x2).kept = s.kept := by
  unfold State.grantSlots
  repeat' (first | simp only [State.fetchContext_kept, State.modCtx_kept, State.spill_kept] | split | with_reducible refine (foldl_kept _ _ ?_ _).trans ?_ | intro _)

theorem State.wakeCtx_kept (s : State) (x1 : Nat) : (State.wakeCtx s x1).kept = s.kept := by
  unfold State.wakeCtx
  split <;> simp only [kept_rules, State.grantSlots_kept, State.modCtx_kept]

theorem State.makeCtx_kept (s : State) (x1 : Nat) (x2 : Ctx) : (State.makeCtx s x1 x2).kept = s.kept := by
  unfold State.makeCtx
  simp only [kept_rules, State.grantSlots_kept]

theorem State.needSt_kept (s : State) (x1 : HPort) (x2 : Nat) (x3 : Nat) : keptM (State.needSt s x1 x2 x3) s.kept = s.kept := by
  unfold State.needSt
  repeat' (first | simp only [kept_rules, State.drawInc_kept, State.makeCtx_kept] | split)

theorem State.needSt_cases {s : State} {x1 : HPort} {x2 : Nat} {x3 : Nat} {t : State} (h : (State.needSt s x1 x2 x3) = some t) : t.kept = s.kept := by
  have hk := State.needSt_kept s x1 x2 x3; rw [h] at hk; exact hk

theorem State.park_kept (s : State) (x1 : Nat) (x2 : Nat) : (State.park s x1 x2).kept = s.kept := by
  unfold State.park
  simp only [kept_rules, State.wakeCtx_kept]

theorem State.toBench_kept (s : State) (x1 : Nat) (x2 : Packet) (x3 : BenchWait) : (State.toBench s x1 x2 x3).kept = s.kept := by
  unfold State.toBench
  simp only [kept_rules, State.count_kept]

theorem State.addMsg_kept (s : State) (x1 : Nat) (x2 : TxMsg) : (State.addMsg s x1 x2).kept = s.kept := by
  unfold State.addMsg
  simp only [kept_rules, State.modCtx_kept]

theorem State.modMsg_kept (s : State) (x1 : Nat) (x2 : Nat) (x3 : TxMsg → TxMsg) : (State.modMsg s x1 x2 x3).kept = s.kept := by
  unfold State.modMsg
  simp only [State.modCtx_kept]

theorem State.dropMsg_kept (s : State) (x1 : Nat) (x2 : Nat) : (State.dropMsg s x1 x2).kept = s.kept := by
  unfold State.dropMsg
  simp only [State.modCtx_kept]

theorem State.endMsg_kept (s : State) (x1 : Nat) (x2 : TxMsg) (x3 : Nat) : (State.endMsg s x1 x2 x3).kept = s.kept := by
  unfold State.endMsg
  repeat' split
  all_goals simp only [kept_rules, State.dropMsg_kept, State.finishWqe_kept, State.modMsg_kept]

theorem State.localFail_kept (s : State) (x1 : Nat) (x2 : TxMsg) (x3 : Nat) : (State.localFail s x1 x2 x3).kept = s.kept := by
  unfold State.localFail
  simp only [kept_rules, State.endMsg_kept, State.modMsg_kept]

theorem State.readSpans_kept (s : State) (x1 : Nat) (x2 : Nat) (x3 : Nat) (x4 : Source) (x5 : Nat) (x6 : Nat) (x7 : Nat → ReadFor) (x8 : List (Nat × Nat)) (x9 : Nat) : (State.readSpans s x1 x2 x3 x4 x5 x6 x7 x8 x9).kept = s.kept := by
  fun_induction State.readSpans s x1 x2 x3 x4 x5 x6 x7 x8 x9
  all_goals repeat' (first | simp +zetaDelta only [State.hostRead_kept, *])

theorem State.readMore_kept (s : State) (x1 : Nat) (x2 : Nat) (x3 : Nat) : (State.readMore s x1 x2 x3).kept = s.kept := by
  fun_induction State.readMore s x1 x2 x3
  all_goals repeat' (first | simp +zetaDelta only [State.localFail_kept, State.modMsg_kept, State.raiseMiss_kept, State.readSpans_kept, *] | with_reducible refine (State.reachKey_cases (by assumption)).trans ?_)

theorem State.pumpOne_kept (s : State) (x1 : Nat) : (State.pumpOne s x1).2.kept = s.kept := by
  unfold State.pumpOne
  repeat' split
  all_goals simp only [State.modCtx_kept, State.modMsg_kept, State.sendPacket_kept]

theorem State.pumpOne_cases {s : State} {x1 : Nat} {y0 : Bool} {t : State} (h : (State.pumpOne s x1) = (y0, t)) : t.kept = s.kept := by
  have hk := State.pumpOne_kept s x1; rw [h] at hk; exact hk

theorem State.pump_kept (s : State) (x1 : Nat) (x2 : Nat) : (State.pump s x1 x2).kept = s.kept := by
  fun_induction State.pump s x1 x2
  all_goals repeat' (first | simp +zetaDelta only [apply_ite State.kept, ite_self, State.readMore_kept, *] | split | with_reducible refine (foldl_kept _ _ ?_ _).trans ?_ | with_reducible refine (State.pumpOne_cases (by assumption)).trans ?_ | intro _)

theorem State.ctFails_kept (s : State) (x1 : Nat) (x2 : Nat) : (State.ctFails s x1 x2).kept = s.kept := by
  unfold State.ctFails
  split <;> simp only [kept_rules, State.qpError_kept]

theorem State.settleMsg_kept (s : State) (x1 : Nat) (x2 : TxMsg) : (State.settleMsg s x1 x2).kept = s.kept := by
  unfold State.settleMsg
  repeat' split
  all_goals simp only [State.ctFails_kept, State.dropMsg_kept, State.finishWqe_kept, State.modMsg_kept]

theorem State.settleMsgs_kept (s : State) (x1 : Nat) : (State.settleMsgs s x1).kept = s.kept := by
  unfold State.settleMsgs
  repeat' (first | simp only [State.settleMsg_kept] | split | with_reducible refine (foldl_kept _ _ ?_ _).trans ?_ | intro _)

theorem State.resend_kept (s : State) (x1 : Nat) (x2 : Nat) (x3 : List SentPkt) : (State.resend s x1 x2 x3).kept = s.kept := by
  unfold State.resend
  repeat' (first | simp only [State.count_kept, State.modCtx_kept, State.sendPacket_kept] | with_reducible refine (foldl_kept _ _ ?_ _).trans ?_ | intro _)

theorem State.fillHoles_kept (s : State) (x1 : Nat) : (State.fillHoles s x1).kept = s.kept := by
  unfold State.fillHoles
  split <;> simp only [State.modCtx_kept, State.resend_kept]

theorem State.newIncarnation_kept (s : State) (x1 : Nat) (x2 : Nat) : (State.newIncarnation s x1 x2).kept = s.kept := by
  unfold State.newIncarnation
  repeat' (first | simp only [State.drawInc_kept, State.finishWqe_kept, State.modCtx_kept] | split | with_reducible refine (foldl_kept _ _ ?_ _).trans ?_ | intro _)

theorem State.failContext_kept (s : State) (x1 : Nat) (x2 : Nat) : (State.failContext s x1 x2).kept = s.kept := by
  unfold State.failContext
  split <;> simp only [kept_rules, State.newIncarnation_kept, State.qpError_kept]

theorem State.nakMsg_kept (s : State) (x1 : Nat) (x2 : TxMsg) (x3 : Nat) : (State.nakMsg s x1 x2 x3).kept = s.kept := by
  unfold State.nakMsg
  repeat' (first | simp only [State.ctFails_kept, State.endMsg_kept, State.modMsg_kept] | split)

theorem State.refused_kept (s : State) (x1 : Nat) (x2 : BitVec 32) (x3 : Nat) (x4 : Nat) : (State.refused s x1 x2 x3 x4).kept = s.kept := by
  unfold State.refused
  repeat' split
  all_goals simp only [kept_rules, State.ctFails_kept, State.endMsg_kept, State.failContext_kept, State.modCtx_kept, State.modMsg_kept]

theorem State.answered_kept (s : State) (x1 : Nat) (x2 : Sack) : (State.answered s x1 x2).kept = s.kept := by
  unfold State.answered
  repeat' split
  all_goals simp only [State.nakMsg_kept, State.refused_kept]

theorem State.applySack_kept (s : State) (x1 : Nat) (x2 : Sack) : (State.applySack s x1 x2).kept = s.kept := by
  unfold State.applySack
  split <;> simp only [kept_rules, State.answered_kept, State.fillHoles_kept, State.modCtx_kept, State.newIncarnation_kept, State.pump_kept, State.settleMsgs_kept]

theorem State.resendAll_kept (s : State) (x1 : Nat) : (State.resendAll s x1).kept = s.kept := by
  unfold State.resendAll
  split <;> simp only [State.resend_kept]

theorem State.answerNoCtx_kept (s : State) (x1 : Packet) (x2 : Nat) (x3 : Nat) (x4 : Nat) : (State.answerNoCtx s x1 x2 x3 x4).kept = s.kept := by
  unfold State.answerNoCtx
  simp only [kept_rules, State.count_kept, State.sendPacket_kept]

theorem State.sendSack_kept (s : State) (x1 : Nat) (x2 : Packet) (x3 : Nat) (x4 : Nat) (x5 : Nat) : (State.sendSack s x1 x2 x3 x4 x5).kept = s.kept := by
  unfold State.sendSack
  split <;> simp only [kept_rules, State.count_kept, State.modCtx_kept, State.sendPacket_kept]

theorem State.wakeFor_kept (s : State) (x1 : Nat) : (State.wakeFor s x1).kept = s.kept := by
  unfold State.wakeFor
  simp only [kept_rules, State.emit_kept, State.setFn_kept, State.tunePort_kept]

theorem State.meter_kept (s : State) (x1 : Nat) (x2 : Nat) (x3 : Nat) (x4 : Nat) (x5 : Colour) : (State.meter s x1 x2 x3 x4 x5).2.2.kept = s.kept := by
  unfold State.meter
  repeat' (first | simp only [State.drawBucket_kept] | split)

theorem State.police_kept (s : State) (x1 : Packet) : (State.police s x1).2.2.kept = s.kept := by
  unfold State.police
  repeat' (first | simp only [State.meter_kept] | split)

theorem State.markReceived_kept (s : State) (x1 : Nat) (x2 : Packet) (x3 : Nat) : (State.markReceived s x1 x2 x3).kept = s.kept := by
  unfold State.markReceived
  split <;> simp only [kept_rules, State.modCtx_kept, State.sendSack_kept]

theorem State.land_kept (s : State) (x1 : Nat) (x2 : Packet) (x3 : Nat) (x4 : Bool) : (State.land s x1 x2 x3 x4).kept = s.kept := by
  unfold State.land
  simp only [kept_rules, State.markReceived_kept]

theorem State.putRx_kept (s : State) (x1 : Nat) (x2 : RxMsg) : (State.putRx s x1 x2).kept = s.kept := by
  unfold State.putRx
  simp only [State.modCtx_kept]

theorem State.dropRx_kept (s : State) (x1 : Nat) (x2 : BitVec 32) : (State.dropRx s x1 x2).kept = s.kept := by
  unfold State.dropRx
  simp only [State.modCtx_kept]

theorem State.writeSpans_kept (s : State) (x1 : Nat) (x2 : Nat) (x3 : Nat) (x4 : Nat) (x5 : Nat) (x6 : Nat) (x7 : Bool) (x8 : List (Nat × Nat)) (x9 : Bytes) : (State.writeSpans s x1 x2 x3 x4 x5 x6 x7 x8 x9).kept = s.kept := by
  fun_induction State.writeSpans s x1 x2 x3 x4 x5 x6 x7 x8 x9
  all_goals repeat' (first | simp +zetaDelta only [apply_ite State.kept, ite_self, State.hostWrite_kept, State.modCtx_kept, *])

theorem State.missFor_kept (s : State) (x1 : Nat) (x2 : Nat) (x3 : Access) : (State.missFor s x1 x2 x3).2.kept = s.kept := by
  unfold State.missFor
  repeat' (first | simp only [State.raiseMiss_kept] | split)

theorem State.modTree_kept (s : State) (x1 : Nat) (x2 : Tree → Tree) : (State.modTree s x1 x2).kept = s.kept := by
  unfold State.modTree
  simp only [kept_rules]

theorem State.modOp_kept (s : State) (x1 : Nat) (x2 : BitVec 32) (x3 : CollOp → CollOp) : (State.modOp s x1 x2 x3).kept = s.kept := by
  unfold State.modOp
  simp only [State.modTree_kept]

theorem State.modMember_kept (s : State) (x1 : Nat) (x2 : BitVec 32) (x3 : Nat) (x4 : Member → Member) : (State.modMember s x1 x2 x3 x4).kept = s.kept := by
  unfold State.modMember
  simp only [State.modOp_kept]

theorem State.sendSeg_kept (s : State) (x1 : Nat) (x2 : Nat) (x3 : BitVec 32) (x4 : Nat) (x5 : Nat) (x6 : Bool) (x7 : Bool) (x8 : SegVal) : (State.sendSeg s x1 x2 x3 x4 x5 x6 x7 x8).kept = s.kept := by
  unfold State.sendSeg
  split <;> simp only [State.addMsg_kept, State.pump_kept]

theorem State.dropEdges_kept (s : State) (x1 : Nat) : (State.dropEdges s x1).kept = s.kept := by
  unfold State.dropEdges
  simp only [kept_rules]

theorem State.breakTree_kept (s : State) (x1 : Nat) : (State.breakTree s x1).kept = s.kept := by
  unfold State.breakTree
  repeat' (first | simp only [kept_rules, State.finishWqe_kept, State.modTree_kept, State.postEvent_kept, State.sendPacket_kept] | split | with_reducible refine (foldl_kept _ _ ?_ _).trans ?_ | intro _)

theorem State.installTree_kept (s : State) (x1 : Nat) (x2 : Option Nat) : (State.installTree s x1 x2).kept = s.kept := by
  unfold State.installTree
  repeat' (first | simp only [kept_rules, State.dropEdges_kept, State.makeCtx_kept] | with_reducible refine (foldl_kept _ _ ?_ _).trans ?_ | intro _)

theorem State.removeTree_kept (s : State) (x1 : Nat) : (State.removeTree s x1).kept = s.kept := by
  unfold State.removeTree
  simp only [kept_rules, State.breakTree_kept, State.dropEdges_kept]

theorem State.finishMember_kept (s : State) (x1 : Nat) (x2 : BitVec 32) (x3 : Member) (x4 : Bool) : (State.finishMember s x1 x2 x3 x4).kept = s.kept := by
  unfold State.finishMember
  simp only [State.finishWqe_kept, State.modMember_kept]

theorem State.closeOp_kept (s : State) (x1 : Nat) (x2 : BitVec 32) : (State.closeOp s x1 x2).kept = s.kept := by
  unfold State.closeOp
  repeat' split
  all_goals simp only [kept_rules, State.modOp_kept, State.modTree_kept]

theorem State.flushMember_kept (s : State) (x1 : Nat) (x2 : BitVec 32) (x3 : Nat) (x4 : Nat) : (State.flushMember s x1 x2 x3 x4).kept = s.kept := by
  induction x4 generalizing s with
  | zero => rfl
  | succ n ih =>
    unfold State.flushMember
    split
    · rfl
    · split
      · rfl
      · split
        · rfl
        · split
          · split
            · rw [State.closeOp_kept, State.finishMember_kept]
            · rfl
          · split
            · rfl
            · split
              · rw [ih, State.modMember_kept]
              · dsimp only
                split
                · rw [ih, State.modMember_kept]
                · have hr : ∀ (d : Bytes) (k va : Nat) (y : Reach × State),
                      (if d.isEmpty = true then (Reach.ok [], s) else s.reachKey k va d.length .write false) = y → y.2.kept = s.kept := by
                    rintro d k va y rfl
                    split
                    · rfl
                    · exact State.reachKey_kept _ _ _ _ _ _
                  split
                  · rename_i h
                    rw [ih, State.modMember_kept]
                    exact (foldl_kept1 _ _ (fun a b => by dsimp only; split <;> first | rfl | exact State.hostWrite_kept ..) _).trans (hr _ _ _ _ h)
                  · rename_i h
                    split
                    · rw [State.raiseMiss_kept]; exact hr _ _ _ _ h
                    · exact hr _ _ _ _ h
                  · rename_i h
                    rw [ih, State.modMember_kept]; exact hr _ _ _ _ h

theorem State.deliverSeg_kept (s : State) (x1 : Nat) (x2 : BitVec 32) (x3 : Nat) (x4 : SegVal) : (State.deliverSeg s x1 x2 x3 x4).kept = s.kept := by
  unfold State.deliverSeg
  repeat' (first | simp only [State.flushMember_kept, State.modMember_kept] | split | with_reducible refine (foldl_kept _ _ ?_ _).trans ?_ | intro _)

theorem State.passDown_kept (s : State) (x1 : Nat) (x2 : BitVec 32) (x3 : Nat) (x4 : SegVal) (x5 : Bool) : (State.passDown s x1 x2 x3 x4 x5).kept = s.kept := by
  unfold State.passDown
  repeat' (first | simp only [State.closeOp_kept, State.deliverSeg_kept, State.modOp_kept, State.sendSeg_kept] | split | with_reducible refine (foldl_kept _ _ ?_ _).trans ?_ | intro _)

theorem State.needOp_kept (s : State) (x1 : Nat) (x2 : BitVec 32) (x3 : Nat) : (State.needOp s x1 x2 x3).kept = s.kept := by
  unfold State.needOp
  split <;> simp only [kept_rules, State.modOp_kept, State.modTree_kept]

theorem State.claimSeg_kept (s : State) (x1 : Nat) (x2 : BitVec 32) (x3 : Nat) : keptM (State.claimSeg s x1 x2 x3) s.kept = s.kept := by
  unfold State.claimSeg
  repeat' split
  all_goals simp only [kept_rules, State.modOp_kept]

theorem State.claimSeg_cases {s : State} {x1 : Nat} {x2 : BitVec 32} {x3 : Nat} {t : State} (h : (State.claimSeg s x1 x2 x3) = some t) : t.kept = s.kept := by
  have hk := State.claimSeg_kept s x1 x2 x3; rw [h] at hk; exact hk

theorem State.tryCombine_kept (s : State) (x1 : Nat) (x2 : BitVec 32) (x3 : Nat) : (State.tryCombine s x1 x2 x3).kept = s.kept := by
  unfold State.tryCombine
  repeat' split
  all_goals simp only [kept_rules, State.count_kept, State.modOp_kept, State.passDown_kept, State.sendSeg_kept]

theorem State.contribute_kept (s : State) (x1 : Nat) (x2 : BitVec 32) (x3 : Nat) (x4 : Nat) (x5 : SegVal) : (State.contribute s x1 x2 x3 x4 x5).kept = s.kept := by
  unfold State.contribute
  simp only [State.modOp_kept, State.tryCombine_kept]

theorem State.readMember_kept (s : State) (x1 : Nat) (x2 : BitVec 32) (x3 : Nat) (x4 : Nat) : (State.readMember s x1 x2 x3 x4).kept = s.kept := by
  fun_induction State.readMember s x1 x2 x3 x4
  all_goals repeat' (first | simp +zetaDelta only [State.hostRead_kept, State.modMember_kept, State.raiseMiss_kept, *] | with_reducible refine (foldl_kept1 _ _ ?_ _).trans ?_ | with_reducible refine (State.reachKey_cases (by assumption)).trans ?_ | intro _)

theorem State.giveReady_kept (s : State) (x1 : Nat) (x2 : BitVec 32) (x3 : Nat) : (State.giveReady s x1 x2 x3).kept = s.kept := by
  unfold State.giveReady
  repeat' (first | simp only [State.contribute_kept, State.modMember_kept] | split | with_reducible refine (foldl_kept _ _ ?_ _).trans ?_ | intro _)

theorem State.nextSegs_kept (s : State) (x1 : Nat) (x2 : BitVec 32) (x3 : Nat) (x4 : Nat) : (State.nextSegs s x1 x2 x3 x4).kept = s.kept := by
  fun_induction State.nextSegs s x1 x2 x3 x4
  all_goals repeat' (first | simp +zetaDelta only [State.contribute_kept, State.giveReady_kept, State.modMember_kept, State.readMember_kept, *] | with_reducible refine (State.claimSeg_cases (by assumption)).trans ?_)

theorem State.advanceTree_kept (s : State) (x1 : Nat) : (State.advanceTree s x1).kept = s.kept := by
  unfold State.advanceTree
  repeat' (first | simp only [State.nextSegs_kept] | split | with_reducible refine (foldl_kept _ _ ?_ _).trans ?_ | intro _)

theorem State.joinOp_kept (s : State) (x1 : Nat) (x2 : Nat) (x3 : BitVec 16) (x4 : Nat) : (State.joinOp s x1 x2 x3 x4).kept = s.kept := by
  unfold State.joinOp
  simp only [State.modOp_kept, State.modTree_kept, State.needOp_kept, State.nextSegs_kept]

theorem State.hearEdge_kept (s : State) (x1 : Nat) (x2 : Nat) : (State.hearEdge s x1 x2).kept = s.kept := by
  unfold State.hearEdge
  simp only [State.modTree_kept]

theorem State.admitSeg_kept (s : State) (x1 : Nat) (x2 : Tree) (x3 : Packet) : (State.admitSeg s x1 x2 x3).2.kept = s.kept := by
  unfold State.admitSeg
  repeat' (first | simp only [State.advanceTree_kept, State.modOp_kept, State.needOp_kept, State.passDown_kept, State.tryCombine_kept] | split | with_reducible refine (State.claimSeg_cases (by assumption)).trans ?_)

theorem State.memberReply_kept (s : State) (x1 : Packet) (x2 : Nat) : (State.memberReply s x1 x2).kept = s.kept := by
  unfold State.memberReply
  simp only [State.sendPacket_kept]

theorem State.groupDone_kept (s : State) (x1 : Packet) (x2 : Nat) : (State.groupDone s x1 x2).kept = s.kept := by
  unfold State.groupDone
  simp only [kept_rules, State.memberReply_kept]

theorem State.groupFails_kept (s : State) (x1 : Packet) (x2 : Nat) : (State.groupFails s x1 x2).kept = s.kept := by
  unfold State.groupFails
  simp only [kept_rules, State.groupDone_kept]

theorem State.groupWrite_kept (s : State) (x1 : Packet) (x2 : Nat) (x3 : Nat) (x4 : Nat) (x5 : List (Nat × Nat)) : (State.groupWrite s x1 x2 x3 x4 x5).kept = s.kept := by
  unfold State.groupWrite
  repeat' split
  all_goals simp only [kept_rules, State.groupDone_kept, State.hostFlush_kept, State.writeSpans_kept]

theorem State.groupArrive_kept (s : State) (x1 : Packet) : (State.groupArrive s x1).kept = s.kept := by
  unfold State.groupArrive
  repeat' (first | simp only [State.groupDone_kept, State.groupWrite_kept, State.memberReply_kept, State.missFor_kept, State.toBench_kept, State.wakeFor_kept] | split | with_reducible refine (State.reachKey_cases (by assumption)).trans ?_)

theorem State.groupFlushBack_kept (s : State) (x1 : Nat) (x2 : Answer) : (State.groupFlushBack s x1 x2).kept = s.kept := by
  unfold State.groupFlushBack
  split <;> simp only [kept_rules, State.groupDone_kept]

theorem State.finishGroup_kept (s : State) (x1 : Nat) (x2 : TxMsg) (x3 : Nat) : (State.finishGroup s x1 x2 x3).kept = s.kept := by
  unfold State.finishGroup
  repeat' split
  all_goals simp only [State.dropMsg_kept, State.finishWqe_kept, State.modCtx_kept]

theorem State.decideGroup_kept (s : State) (x1 : Nat) : (State.decideGroup s x1).kept = s.kept := by
  unfold State.decideGroup
  repeat' (first | simp only [State.finishGroup_kept] | split | with_reducible refine (foldl_kept _ _ ?_ _).trans ?_ | intro _)

theorem State.groupReply_kept (s : State) (x1 : Packet) : (State.groupReply s x1).kept = s.kept := by
  unfold State.groupReply
  repeat' (first | simp only [State.count_kept, State.decideGroup_kept, State.modMsg_kept] | split)

theorem State.groupDeadline_kept (s : State) (x1 : Nat) : (State.groupDeadline s x1).kept = s.kept := by
  unfold State.groupDeadline
  repeat' (first | simp only [State.finishGroup_kept] | split | with_reducible refine (foldl_kept _ _ ?_ _).trans ?_ | intro _)

theorem State.groupTimer_kept (s : State) (x1 : Nat) : (State.groupTimer s x1).kept = s.kept := by
  unfold State.groupTimer
  repeat' (first | simp only [State.count_kept, State.finishGroup_kept, State.modCtx_kept, State.modMsg_kept, State.sendPacket_kept] | split | with_reducible refine (foldl_kept _ _ ?_ _).trans ?_ | intro _)

theorem State.declineWqe_kept (s : State) (x1 : Nat) (x2 : Wqe) (x3 : Nat) : (State.declineWqe s x1 x2 x3).kept = s.kept := by
  unfold State.declineWqe
  simp only [State.finishWqe_kept]

theorem State.startWqe_kept (s : State) (x1 : Nat) (x2 : Qp) (x3 : Wqe) : (State.startWqe s x1 x2 x3).kept = s.kept := by
  unfold State.startWqe
  simp only [State.count_kept, State.modSq_kept]

theorem State.launch_kept (s : State) (x1 : Nat) (x2 : Qp) (x3 : Wqe) : (State.launch s x1 x2 x3).kept = s.kept := by
  unfold State.launch
  split
  · exact State.declineWqe_kept _ _ _ _
  · extract_lets key
    have h : keptM (if x2.st then s.needSt (fnPort x2.fn) (Ent.destDev x3.raw) x2.tc else some s) s.kept = s.kept := by
      split
      · exact State.needSt_kept _ _ _ _
      · rfl
    generalize (if x2.st then s.needSt (fnPort x2.fn) (Ent.destDev x3.raw) x2.tc else some s) = o at h ⊢
    cases o with
    | none => exact State.declineWqe_kept _ _ _ _
    | some t =>
      have ht : t.kept = s.kept := h
      dsimp only
      split
      · rw [State.pump_kept, State.addMsg_kept, State.startWqe_kept]; exact ht
      · rw [State.park_kept]; exact ht

theorem State.underLimit_kept (s : State) (x1 : Nat) (x2 : Wqe) (x3 : State → State) (hx3 : ∀ y0, (x3 y0).kept = y0.kept) : (State.underLimit s x1 x2 x3).kept = s.kept := by
  unfold State.underLimit
  simp only [kept_rules, State.declineWqe_kept, hx3]

theorem State.launchGroup_kept (s : State) (x1 : Nat) (x2 : Qp) (x3 : Wqe) (x4 : Nat) : (State.launchGroup s x1 x2 x3 x4).kept = s.kept := by
  unfold State.launchGroup
  simp only [kept_rules, State.addMsg_kept, State.decideGroup_kept, State.declineWqe_kept, State.makeCtx_kept, State.modQp_kept, State.pump_kept, State.startWqe_kept]

theorem State.launchColl_kept (s : State) (x1 : Nat) (x2 : Qp) (x3 : Wqe) : (State.launchColl s x1 x2 x3).kept = s.kept := by
  unfold State.launchColl
  repeat' (first | simp only [State.declineWqe_kept, State.joinOp_kept, State.startWqe_kept] | split)

theorem State.startOp_kept (s : State) (x1 : Nat) (x2 : Qp) (x3 : Wqe) : (State.startOp s x1 x2 x3).kept = s.kept := by
  unfold State.startOp
  split <;> first
    | exact State.launch_kept _ _ _ _
    | exact State.launchColl_kept _ _ _ _
    | exact State.launchGroup_kept _ _ _ _ _
    | exact State.underLimit_kept _ _ _ _ (fun _ => State.launch_kept _ _ _ _)
    | exact State.underLimit_kept _ _ _ _ (fun _ => State.launchGroup_kept _ _ _ _ _)

theorem State.startAt_kept (s : State) (x1 : Nat) (x2 : Qp) (x3 : Wqe) : (State.startAt s x1 x2 x3).kept = s.kept := by
  unfold State.startAt
  simp only [kept_rules, State.count_kept, State.declineWqe_kept, State.later_kept, State.modSq_kept, State.startOp_kept]

theorem State.startRow_kept (s : State) (x1 : Nat) (x2 : Nat) : (State.startRow s x1 x2).kept = s.kept := by
  unfold State.startRow
  split <;> simp only [kept_rules, State.startAt_kept]

theorem ok_kept (s : State) : keptO (ok s) s.kept = s.kept := by
  unfold ok
  simp only [kept_rules]

theorem execSend_kept (x0 : Nat) (s : State) : keptO (execSend x0 s) s.kept = s.kept := by
  unfold execSend
  simp only [kept_rules, State.startRow_kept]

theorem execPut_kept (x0 : Nat) (s : State) : keptO (execPut x0 s) s.kept = s.kept := by
  unfold execPut
  simp only [kept_rules, State.startRow_kept]

theorem execPutFlag_kept (x0 : Nat) (s : State) : keptO (execPutFlag x0 s) s.kept = s.kept := by
  unfold execPutFlag
  simp only [kept_rules, State.startRow_kept]

theorem execGet_kept (x0 : Nat) (s : State) : keptO (execGet x0 s) s.kept = s.kept := by
  unfold execGet
  simp only [kept_rules, State.startRow_kept]

theorem execAtomic_kept (x0 : Nat) (s : State) : keptO (execAtomic x0 s) s.kept = s.kept := by
  unfold execAtomic
  simp only [kept_rules, State.startRow_kept]

theorem execDurablePut_kept (x0 : Nat) (s : State) : keptO (execDurablePut x0 s) s.kept = s.kept := by
  unfold execDurablePut
  simp only [kept_rules, State.startRow_kept]

theorem execReplDurablePut_kept (x0 : Nat) (s : State) : keptO (execReplDurablePut x0 s) s.kept = s.kept := by
  unfold execReplDurablePut
  simp only [kept_rules, State.startRow_kept]

theorem execMcastPut_kept (x0 : Nat) (s : State) : keptO (execMcastPut x0 s) s.kept = s.kept := by
  unfold execMcastPut
  simp only [kept_rules, State.startRow_kept]

theorem execSendAtTimeRelease_kept (x0 : Nat) (s : State) : keptO (execSendAtTimeRelease x0 s) s.kept = s.kept := by
  have key : ∀ (d : Int) (q : Qp) (w : Wqe), keptO (if d ≤ 0 then ok (s.startOp x0 q w)
      else if d < 4096 - s.sub then ok ({ s with sub := s.sub + d.toNat }.startOp x0 q w) else ok s) s.kept = s.kept := by
    intro d q w
    split
    · rw [ok_eq, keptO_next, State.startOp_kept]
    · split
      · rw [ok_eq, keptO_next, State.startOp_kept]; rfl
      · rfl
  unfold execSendAtTimeRelease
  cases s.ripe x0 .waitTime with
  | none => rfl
  | some x => exact key _ x.1 x.2

theorem execTsend_kept (x0 : Nat) (s : State) : keptO (execTsend x0 s) s.kept = s.kept := by
  unfold execTsend
  simp only [kept_rules, State.startRow_kept]

theorem execBarrier_kept (x0 : Nat) (s : State) : keptO (execBarrier x0 s) s.kept = s.kept := by
  unfold execBarrier
  simp only [kept_rules, State.startRow_kept]

theorem execBcast_kept (x0 : Nat) (s : State) : keptO (execBcast x0 s) s.kept = s.kept := by
  unfold execBcast
  simp only [kept_rules, State.startRow_kept]

theorem execReduce_kept (x0 : Nat) (s : State) : keptO (execReduce x0 s) s.kept = s.kept := by
  unfold execReduce
  simp only [kept_rules, State.startRow_kept]

theorem execAllreduce_kept (x0 : Nat) (s : State) : keptO (execAllreduce x0 s) s.kept = s.kept := by
  unfold execAllreduce
  simp only [kept_rules, State.startRow_kept]

theorem execVote_kept (x0 : Nat) (s : State) : keptO (execVote x0 s) s.kept = s.kept := by
  unfold execVote
  simp only [kept_rules, State.startRow_kept]

theorem State.payOwed_kept (s : State) (x1 : Nat) (x2 : Nat) : (State.payOwed s x1 x2).kept = s.kept := by
  fun_induction State.payOwed s x1 x2
  all_goals repeat' (first | simp +zetaDelta only [State.setFn_kept, State.writeCompletion_kept, *] | with_reducible refine (State.reserve_cases (by assumption)).trans ?_)

theorem State.owe_kept (s : State) (x1 : Nat) (x2 : Nat) (x3 : Nat) : (State.owe s x1 x2 x3).kept = s.kept := by
  unfold State.owe
  simp only [State.payOwed_kept, State.setFn_kept]

theorem State.settleTbufs_kept (s : State) (x1 : Nat) : (State.settleTbufs s x1).kept = s.kept := by
  unfold State.settleTbufs
  repeat' (first | simp only [State.later_kept, State.modSrq_kept, State.writeCompletion_kept] | split | with_reducible refine (foldl_kept _ _ ?_ _).trans ?_ | intro _)

theorem State.freeBuf_kept (s : State) (x1 : Nat) (x2 : Option (Nat × Nat)) : (State.freeBuf s x1 x2).kept = s.kept := by
  unfold State.freeBuf
  split <;> simp only [State.modSrq_kept, State.settleTbufs_kept]

theorem State.modMatched_kept (s : State) (x1 : Nat) (x2 : Nat) (x3 : Matched → Matched) : (State.modMatched s x1 x2 x3).kept = s.kept := by
  unfold State.modMatched
  simp only [State.modSrq_kept]

theorem State.finishMatched_kept (s : State) (x1 : Nat) (x2 : Matched) (x3 : Nat) : (State.finishMatched s x1 x2 x3).kept = s.kept := by
  unfold State.finishMatched
  simp only [State.freeBuf_kept, State.later_kept, State.modSrq_kept, State.writeCompletion_kept]

theorem State.writeLocal_kept (s : State) (x1 : Nat) (x2 : Nat) (x3 : Nat) (x4 : Nat) (x5 : Source) (x6 : Nat) (x7 : Nat) (x8 : Bytes) (x9 : Bool) (x10 : MissWaiter) : (State.writeLocal s x1 x2 x3 x4 x5 x6 x7 x8 x9 x10).2.kept = s.kept := by
  unfold State.writeLocal
  repeat' (first | simp +zetaDelta only [State.hostWrite_kept, State.raiseMiss_kept] | split | with_reducible refine (foldl_kept1 _ _ ?_ _).trans ?_ | with_reducible refine (State.reachKey_cases (by assumption)).trans ?_ | intro _)

theorem State.writeLocal_cases {s : State} {x1 : Nat} {x2 : Nat} {x3 : Nat} {x4 : Nat} {x5 : Source} {x6 : Nat} {x7 : Nat} {x8 : Bytes} {x9 : Bool} {x10 : MissWaiter} {y0 : Option Nat} {t : State} (h : (State.writeLocal s x1 x2 x3 x4 x5 x6 x7 x8 x9 x10) = (y0, t)) : t.kept = s.kept := by
  have hk := State.writeLocal_kept s x1 x2 x3 x4 x5 x6 x7 x8 x9 x10; rw [h] at hk; exact hk

theorem State.copyPiece_kept (s : State) (x1 : Nat) (x2 : Matched) (x3 : Nat) (x4 : Nat) : (State.copyPiece s x1 x2 x3 x4).kept = s.kept := by
  unfold State.copyPiece
  repeat' (first | simp only [State.finishMatched_kept, State.hostRead_kept, State.modMatched_kept, State.raiseMiss_kept] | split | with_reducible refine (State.reachKey_cases (by assumption)).trans ?_)

theorem State.finishEnv_kept (s : State) (x1 : Nat) (x2 : Matched) : (State.finishEnv s x1 x2).kept = s.kept := by
  unfold State.finishEnv
  repeat' (first | simp only [State.finishMatched_kept] | split | with_reducible refine (State.writeLocal_cases (by assumption)).trans ?_)

theorem State.copyWrite_kept (s : State) (x1 : Nat) (x2 : Matched) (x3 : Bytes) (x4 : Bool) : (State.copyWrite s x1 x2 x3 x4).2.kept = s.kept := by
  unfold State.copyWrite
  repeat' (first | simp only [State.finishMatched_kept, State.modMatched_kept] | split | with_reducible refine (State.writeLocal_cases (by assumption)).trans ?_)

theorem State.copyWrite_cases {s : State} {x1 : Nat} {x2 : Matched} {x3 : Bytes} {x4 : Bool} {y0 : Bool} {t : State} (h : (State.copyWrite s x1 x2 x3 x4) = (y0, t)) : t.kept = s.kept := by
  have hk := State.copyWrite_kept s x1 x2 x3 x4; rw [h] at hk; exact hk

theorem State.advanceMatched_kept (s : State) (x1 : Nat) (x2 : Nat) : (State.advanceMatched s x1 x2).kept = s.kept := by
  unfold State.advanceMatched
  repeat' split
  all_goals simp only [State.copyPiece_kept, State.finishEnv_kept]

theorem State.copyBack_kept (s : State) (x1 : Nat) (x2 : Nat) (x3 : Option (Bytes × Bool)) : (State.copyBack s x1 x2 x3).kept = s.kept := by
  unfold State.copyBack
  repeat' (first | simp only [State.advanceMatched_kept, State.finishMatched_kept] | split | with_reducible refine (State.copyWrite_cases (by assumption)).trans ?_)

theorem State.wakeMatched_kept (s : State) (x1 : Nat) (x2 : Nat) : (State.wakeMatched s x1 x2).kept = s.kept := by
  unfold State.wakeMatched
  repeat' split
  all_goals simp only [State.advanceMatched_kept, State.copyBack_kept]

theorem State.landingHandle_kept (s : State) : (State.landingHandle s).2.kept = s.kept := by
  unfold State.landingHandle
  simp only [kept_rules]

theorem State.sendCts_kept (s : State) (x1 : Nat) (x2 : Nat) (x3 : Nat) (x4 : Nat) (x5 : BitVec 32) (x6 : Nat) (x7 : Nat) : (State.sendCts s x1 x2 x3 x4 x5 x6 x7).kept = s.kept := by
  unfold State.sendCts
  split <;> simp only [State.addMsg_kept, State.pump_kept, State.wakeCtx_kept]

theorem State.take_kept (s : State) (x1 : Nat) (x2 : Posted) (x3 : Stored) : (State.take s x1 x2 x3).2.kept = s.kept := by
  unfold State.take
  simp only [kept_rules, State.count_kept, State.landingHandle_kept, State.modSrq_kept, State.sendCts_kept]

theorem State.take_cases {s : State} {x1 : Nat} {x2 : Posted} {x3 : Stored} {y0 : Nat} {t : State} (h : (State.take s x1 x2 x3) = (y0, t)) : t.kept = s.kept := by
  have hk := State.take_kept s x1 x2 x3; rw [h] at hk; exact hk

theorem State.release_kept (s : State) (x1 : Nat) (x2 : Nat) (x3 : Nat) (x4 : Nat) (x5 : Nat) (x6 : Nat) : (State.release s x1 x2 x3 x4 x5 x6).kept = s.kept := by
  fun_induction State.release s x1 x2 x3 x4 x5 x6
  all_goals repeat' (first | simp +zetaDelta only [State.advanceMatched_kept, State.modSrq_kept, *] | with_reducible refine (State.reserve_cases (by assumption)).trans ?_ | with_reducible refine (State.take_cases (by assumption)).trans ?_)

theorem State.retryStreams_kept (s : State) (x1 : Nat) : (State.retryStreams s x1).kept = s.kept := by
  unfold State.retryStreams
  repeat' (first | simp only [State.release_kept] | split | with_reducible refine (foldl_kept _ _ ?_ _).trans ?_ | intro _)

theorem State.keepTagged_kept (s : State) (x1 : Nat) (x2 : Nat) (x3 : Packet) (x4 : Bool) : keptP (State.keepTagged s x1 x2 x3 x4) s.kept = s.kept := by
  unfold State.keepTagged
  repeat' split
  all_goals simp only [kept_rules, keptP_some, keptP_none, State.count_kept, State.modSrq_kept]

theorem State.keepTagged_cases {s : State} {x1 : Nat} {x2 : Nat} {x3 : Packet} {x4 : Bool} {y : Dest × State} (h : (State.keepTagged s x1 x2 x3 x4) = some y) : y.2.kept = s.kept := by
  have hk := State.keepTagged_kept s x1 x2 x3 x4; rw [h] at hk; exact hk

theorem State.nextInStream_kept (s : State) (x1 : Nat) (x2 : Packet) (x3 : Nat) : (State.nextInStream s x1 x2 x3).kept = s.kept := by
  unfold State.nextInStream
  simp only [kept_rules, State.count_kept, State.modSrq_kept, State.release_kept]

theorem State.firstTagged_kept (s : State) (x1 : Nat) (x2 : Nat) (x3 : Packet) : keptP (State.firstTagged s x1 x2 x3) s.kept = s.kept := by
  unfold State.firstTagged
  repeat' (first | simp only [keptP_some, keptP_none, State.modSrq_kept, State.nextInStream_kept, State.take_kept] | split | with_reducible refine (State.keepTagged_cases (by assumption)).trans ?_ | with_reducible refine (State.reserve_cases (by assumption)).trans ?_)

theorem State.firstTagged_cases {s : State} {x1 : Nat} {x2 : Nat} {x3 : Packet} {y : Dest × State} (h : (State.firstTagged s x1 x2 x3) = some y) : y.2.kept = s.kept := by
  have hk := State.firstTagged_kept s x1 x2 x3; rw [h] at hk; exact hk

theorem State.storedWhole_kept (s : State) (x1 : Nat) (x2 : Nat) (x3 : BitVec 32) (x4 : Bool) : (State.storedWhole s x1 x2 x3 x4).kept = s.kept := by
  unfold State.storedWhole
  repeat' (first | simp only [State.advanceMatched_kept, State.modSrq_kept] | split)

theorem State.dropTagged_kept (s : State) (x1 : RxMsg) (x2 : Nat) (x3 : Nat) : (State.dropTagged s x1 x2 x3).kept = s.kept := by
  unfold State.dropTagged
  repeat' split
  all_goals simp only [State.finishMatched_kept, State.freeBuf_kept, State.modSrq_kept]

theorem State.srqEntryDone_kept (s : State) (x1 : Nat) (x2 : Nat) (x3 : BitVec 16) (x4 : Nat) (x5 : Nat) : keptM (State.srqEntryDone s x1 x2 x3 x4 x5) s.kept = s.kept := by
  unfold State.srqEntryDone
  repeat' (first | simp only [kept_rules, State.later_kept, State.writeCompletion_kept] | split | with_reducible refine (State.reserve_cases (by assumption)).trans ?_)

theorem State.srqEntryDone_cases {s : State} {x1 : Nat} {x2 : Nat} {x3 : BitVec 16} {x4 : Nat} {x5 : Nat} {t : State} (h : (State.srqEntryDone s x1 x2 x3 x4 x5) = some t) : t.kept = s.kept := by
  have hk := State.srqEntryDone_kept s x1 x2 x3 x4 x5; rw [h] at hk; exact hk

theorem State.postRecv_kept (s : State) (x1 : Nat) (x2 : BitVec 16) (x3 : Nat) : keptM (State.postRecv s x1 x2 x3) s.kept = s.kept := by
  unfold State.postRecv
  repeat' (first | simp only [kept_rules, State.advanceMatched_kept, State.modSrq_kept, State.take_kept] | split | with_reducible refine (State.reserve_cases (by assumption)).trans ?_)

theorem State.postCancel_kept (s : State) (x1 : Nat) (x2 : BitVec 16) (x3 : Nat) : keptM (State.postCancel s x1 x2 x3) s.kept = s.kept := by
  unfold State.postCancel
  repeat' (first | simp only [kept_rules, State.modSrq_kept, State.srqEntryDone_kept] | split | with_reducible refine (State.srqEntryDone_cases (by assumption)).trans ?_)

theorem State.postBuf_kept (s : State) (x1 : Nat) (x2 : BitVec 16) (x3 : Nat) : keptM (State.postBuf s x1 x2 x3) s.kept = s.kept := by
  unfold State.postBuf
  repeat' (first | simp only [kept_rules, State.modSrq_kept] | split | with_reducible refine (State.reserve_cases (by assumption)).trans ?_)

theorem State.postEntry_kept (s : State) (x1 : Nat) (x2 : BitVec 16) (x3 : Nat) : keptM (State.postEntry s x1 x2 x3) s.kept = s.kept := by
  unfold State.postEntry
  repeat' split
  all_goals simp only [kept_rules, State.count_kept, State.modSrq_kept, State.postBuf_kept, State.postCancel_kept, State.postRecv_kept, State.srqEntryDone_kept]

theorem State.postEntry_cases {s : State} {x1 : Nat} {x2 : BitVec 16} {x3 : Nat} {t : State} (h : (State.postEntry s x1 x2 x3) = some t) : t.kept = s.kept := by
  have hk := State.postEntry_kept s x1 x2 x3; rw [h] at hk; exact hk

theorem State.shadowWrite_kept (s : State) (x1 : Nat) : (State.shadowWrite s x1).kept = s.kept := by
  unfold State.shadowWrite
  split <;> simp only [State.hostWrite_kept]

theorem State.holdPost_kept (s : State) (x1 : Nat) (x2 : BitVec 16) (x3 : Nat) : (State.holdPost s x1 x2 x3).kept = s.kept := by
  unfold State.holdPost
  split <;> simp only [kept_rules, State.modSrq_kept]

theorem State.takeSrqEntry_kept (s : State) (x1 : Nat) (x2 : Bytes) : (State.takeSrqEntry s x1 x2).kept = s.kept := by
  unfold State.takeSrqEntry
  repeat' (first | simp only [State.fetchSrq_kept, State.holdPost_kept, State.modSrq_kept, State.shadowWrite_kept, State.srqLow_kept] | split | with_reducible refine (State.postEntry_cases (by assumption)).trans ?_)

theorem State.postRow_kept (s : State) (x1 : Nat) (x2 : Nat) (x3 : Nat) : (State.postRow s x1 x2 x3).kept = s.kept := by
  unfold State.postRow
  repeat' (first | simp only [State.fetchSrq_kept, State.holdPost_kept, State.modSrq_kept] | split | with_reducible refine (State.postEntry_cases (by assumption)).trans ?_)

theorem execTrecv_kept (x0 : Nat) (x1 : Nat) (s : State) : keptO (execTrecv x0 x1 s) s.kept = s.kept := by
  unfold execTrecv
  simp only [kept_rules, State.postRow_kept]

theorem execTbuf_kept (x0 : Nat) (x1 : Nat) (s : State) : keptO (execTbuf x0 x1 s) s.kept = s.kept := by
  unfold execTbuf
  simp only [kept_rules, State.postRow_kept]

theorem execTcancel_kept (x0 : Nat) (x1 : Nat) (s : State) : keptO (execTcancel x0 x1 s) s.kept = s.kept := by
  unfold execTcancel
  simp only [kept_rules, State.postRow_kept]

theorem State.retryPost_kept (s : State) (x1 : Nat) : (State.retryPost s x1).kept = s.kept := by
  unfold State.retryPost
  repeat' (first | simp only [State.fetchSrq_kept, State.modSrq_kept] | split | with_reducible refine (State.postEntry_cases (by assumption)).trans ?_)

theorem State.clearMatching_kept (s : State) (x1 : Nat) : (State.clearMatching s x1).kept = s.kept := by
  unfold State.clearMatching
  repeat' (first | simp only [State.later_kept, State.modSrq_kept, State.owe_kept, State.unreserve_kept] | split | with_reducible refine (foldl_kept _ _ ?_ _).trans ?_ | intro _)

theorem State.chainCheck_kept (s : State) : (State.chainCheck s).kept = s.kept := by
  unfold State.chainCheck
  simp only [kept_rules, State.count_kept]

theorem State.sendReply_kept (s : State) (x1 : Nat) (x2 : TxMsg) : (State.sendReply s x1 x2).kept = s.kept := by
  unfold State.sendReply
  simp only [State.addMsg_kept, State.pump_kept]

theorem State.confirm_kept (s : State) (x1 : Nat) (x2 : Packet) (x3 : BitVec 32) : (State.confirm s x1 x2 x3).kept = s.kept := by
  unfold State.confirm
  simp only [State.sendReply_kept]

theorem State.takeRecv_kept (s : State) (x1 : Nat) (x2 : Nat) : (State.takeRecv s x1 x2).2.kept = s.kept := by
  induction x2 generalizing s with
  | zero => rfl
  | succ n ih =>
    unfold State.takeRecv
    split
    · rfl
    · split
      · rfl
      · split
        · rfl
        · split
          · rfl
          · split
            · rfl
            · rename_i h
              have hr := State.reserve_cases h
              extract_lets st s1 b s2
              have h2 : s2.kept = s.kept := by
                simp only [s2, State.advanceQp_kept, State.modRq_kept, s1, State.later_kept]; exact hr
              split
              · exact h2
              · exact (ih s2).trans h2

theorem State.takeRecv_cases {s : State} {x1 : Nat} {x2 : Nat} {y0 : Option (BitVec 16 × Nat)} {t : State} (h : (State.takeRecv s x1 x2) = (y0, t)) : t.kept = s.kept := by
  have hk := State.takeRecv_kept s x1 x2; rw [h] at hk; exact hk

theorem State.takeShared_kept (s : State) (x1 : Nat) (x2 : Nat) (x3 : Nat) : (State.takeShared s x1 x2 x3).2.kept = s.kept := by
  fun_induction State.takeShared s x1 x2 x3
  all_goals repeat' (first | simp +zetaDelta only [State.fetchSrq_kept, State.finishSrq_kept, State.modSrq_kept, *] | with_reducible refine (State.reserve_cases (by assumption)).trans ?_)

theorem State.takeShared_cases {s : State} {x1 : Nat} {x2 : Nat} {x3 : Nat} {y0 : Option (BitVec 16 × Nat)} {t : State} (h : (State.takeShared s x1 x2 x3) = (y0, t)) : t.kept = s.kept := by
  have hk := State.takeShared_kept s x1 x2 x3; rw [h] at hk; exact hk

theorem State.openSend_kept (s : State) (x1 : Nat) (x2 : Ctx) (x3 : Packet) : keptS (State.openSend s x1 x2 x3) = s.kept := by
  unfold State.openSend
  repeat' (first | simp only [keptS_inl, keptS_inr, State.putRx_kept] | split | with_reducible refine (State.takeRecv_cases (by assumption)).trans ?_ | with_reducible refine (State.takeShared_cases (by assumption)).trans ?_)

theorem State.openSend_cases {s : State} {x1 : Nat} {x2 : Ctx} {x3 : Packet} {y : Verdict × State} (h : (State.openSend s x1 x2 x3) = .inl y) : y.2.kept = s.kept := by
  have hk := State.openSend_kept s x1 x2 x3; rw [h] at hk; exact hk

theorem State.openSend_cases2 {s : State} {x1 : Nat} {x2 : Ctx} {x3 : Packet} {y : RxMsg × State} (h : (State.openSend s x1 x2 x3) = .inr y) : y.2.kept = s.kept := by
  have hk := State.openSend_kept s x1 x2 x3; rw [h] at hk; exact hk

theorem State.rxStops_kept (s : State) (x1 : Nat) (x2 : RxMsg) (x3 : Nat) : (State.rxStops s x1 x2 x3).kept = s.kept := by
  unfold State.rxStops
  split <;> simp only [State.dropTagged_kept, State.finishRecv_kept, State.finishSrq_kept]

theorem State.keepRx_kept (s : State) (x1 : Nat) (x2 : RxMsg) : (State.keepRx s x1 x2).kept = s.kept := by
  unfold State.keepRx
  simp only [kept_rules, State.dropRx_kept, State.putRx_kept]

theorem State.packetFails_kept (s : State) (x1 : Nat) (x2 : Packet) (x3 : Nat) (x4 : Nat) : (State.packetFails s x1 x2 x3 x4).2.kept = s.kept := by
  unfold State.packetFails
  repeat' (first | simp only [State.ctFails_kept, State.endMsg_kept, State.keepRx_kept, State.rxStops_kept] | split)

theorem State.recvWhole_kept (s : State) (x1 : Nat) (x2 : RxMsg) (x3 : Nat) : (State.recvWhole s x1 x2 x3).kept = s.kept := by
  unfold State.recvWhole
  simp only [State.dropRx_kept, State.rxStops_kept]

theorem State.landLocal_kept (s : State) (x1 : Nat) (x2 : Packet) (x3 : Nat) (x4 : Nat) (x5 : Nat) (x6 : Nat) (x7 : Nat) (x8 : Bool) : keptS (State.landLocal s x1 x2 x3 x4 x5 x6 x7 x8) = s.kept := by
  unfold State.landLocal
  repeat' (first | simp only [keptS_inl, keptS_inr, State.missFor_kept, State.packetFails_kept, State.writeSpans_kept] | split | with_reducible refine (State.reachKey_cases (by assumption)).trans ?_)

theorem State.landLocal_cases {s : State} {x1 : Nat} {x2 : Packet} {x3 : Nat} {x4 : Nat} {x5 : Nat} {x6 : Nat} {x7 : Nat} {x8 : Bool} {y : Verdict × State} (h : (State.landLocal s x1 x2 x3 x4 x5 x6 x7 x8) = .inl y) : y.2.kept = s.kept := by
  have hk := State.landLocal_kept s x1 x2 x3 x4 x5 x6 x7 x8; rw [h] at hk; exact hk

theorem State.landLocal_cases2 {s : State} {x1 : Nat} {x2 : Packet} {x3 : Nat} {x4 : Nat} {x5 : Nat} {x6 : Nat} {x7 : Nat} {x8 : Bool} {y : Nat × State} (h : (State.landLocal s x1 x2 x3 x4 x5 x6 x7 x8) = .inr y) : y.2.kept = s.kept := by
  have hk := State.landLocal_kept s x1 x2 x3 x4 x5 x6 x7 x8; rw [h] at hk; exact hk

theorem State.deliverSend_kept (s : State) (x1 : Nat) (x2 : Ctx) (x3 : Packet) : (State.deliverSend s x1 x2 x3).2.kept = s.kept := by
  unfold State.deliverSend
  repeat' (first | simp only [State.keepRx_kept, State.putRx_kept, State.recvWhole_kept] | split | with_reducible refine (State.landLocal_cases (by assumption)).trans ?_ | with_reducible refine (State.landLocal_cases2 (by assumption)).trans ?_ | with_reducible refine (State.openSend_cases (by assumption)).trans ?_ | with_reducible refine (State.openSend_cases2 (by assumption)).trans ?_)

theorem State.landRemote_kept (s : State) (x1 : Nat) (x2 : Packet) (x3 : Nat) (x4 : Nat) (x5 : RemoteOp) (x6 : Option Nat) : keptU (State.landRemote s x1 x2 x3 x4 x5 x6) = s.kept := by
  unfold State.landRemote
  repeat' (first | simp only [keptU_inl, keptU_inr, State.missFor_kept, State.packetFails_kept, State.writeSpans_kept] | split | with_reducible refine (State.reachKey_cases (by assumption)).trans ?_)

theorem State.landRemote_cases {s : State} {x1 : Nat} {x2 : Packet} {x3 : Nat} {x4 : Nat} {x5 : RemoteOp} {x6 : Option Nat} {y : Verdict × State} (h : (State.landRemote s x1 x2 x3 x4 x5 x6) = .inl y) : y.2.kept = s.kept := by
  have hk := State.landRemote_kept s x1 x2 x3 x4 x5 x6; rw [h] at hk; exact hk

theorem State.landRemote_cases2 {s : State} {x1 : Nat} {x2 : Packet} {x3 : Nat} {x4 : Nat} {x5 : RemoteOp} {x6 : Option Nat} {y : Nat × Option Nat × State} (h : (State.landRemote s x1 x2 x3 x4 x5 x6) = .inr y) : y.2.2.kept = s.kept := by
  have hk := State.landRemote_kept s x1 x2 x3 x4 x5 x6; rw [h] at hk; exact hk

theorem State.deliverPut_kept (s : State) (x1 : Nat) (x2 : Packet) : (State.deliverPut s x1 x2).2.kept = s.kept := by
  unfold State.deliverPut
  repeat' (first | simp only | split | with_reducible refine (State.landRemote_cases (by assumption)).trans ?_ | with_reducible refine (State.landRemote_cases2 (by assumption)).trans ?_)

theorem State.writeFlag_kept (s : State) (x1 : Nat) (x2 : Packet) (x3 : RxMsg) : keptT (State.writeFlag s x1 x2 x3) = s.kept := by
  unfold State.writeFlag
  repeat' (first | simp only [keptT_inl, keptT_inr, State.missFor_kept, State.packetFails_kept, State.writeSpans_kept] | split | with_reducible refine (State.reachKey_cases (by assumption)).trans ?_)

theorem State.writeFlag_cases {s : State} {x1 : Nat} {x2 : Packet} {x3 : RxMsg} {y : Verdict × State} (h : (State.writeFlag s x1 x2 x3) = .inl y) : y.2.kept = s.kept := by
  have hk := State.writeFlag_kept s x1 x2 x3; rw [h] at hk; exact hk

theorem State.writeFlag_cases2 {s : State} {x1 : Nat} {x2 : Packet} {x3 : RxMsg} {y : State} (h : (State.writeFlag s x1 x2 x3) = .inr y) : y.kept = s.kept := by
  have hk := State.writeFlag_kept s x1 x2 x3; rw [h] at hk; exact hk

theorem State.deliverFlagged_kept (s : State) (x1 : Nat) (x2 : Ctx) (x3 : Packet) : (State.deliverFlagged s x1 x2 x3).2.kept = s.kept := by
  unfold State.deliverFlagged
  repeat' (first | simp only [State.keepRx_kept, State.missFor_kept] | split | with_reducible refine (State.landRemote_cases (by assumption)).trans ?_ | with_reducible refine (State.landRemote_cases2 (by assumption)).trans ?_ | with_reducible refine (State.reachKey_cases (by assumption)).trans ?_ | with_reducible refine (State.writeFlag_cases (by assumption)).trans ?_ | with_reducible refine (State.writeFlag_cases2 (by assumption)).trans ?_)

theorem State.deliverFlag_kept (s : State) (x1 : Nat) (x2 : Ctx) (x3 : Packet) : (State.deliverFlag s x1 x2 x3).2.kept = s.kept := by
  unfold State.deliverFlag
  repeat' (first | simp only [State.keepRx_kept, State.missFor_kept, State.packetFails_kept, State.putRx_kept] | split | with_reducible refine (State.reachKey_cases (by assumption)).trans ?_ | with_reducible refine (State.writeFlag_cases (by assumption)).trans ?_ | with_reducible refine (State.writeFlag_cases2 (by assumption)).trans ?_)

theorem State.deliverGet_kept (s : State) (x1 : Nat) (x2 : Packet) : (State.deliverGet s x1 x2).2.kept = s.kept := by
  unfold State.deliverGet
  repeat' (first | simp only [State.missFor_kept, State.sendReply_kept] | split | with_reducible refine (State.reachKey_cases (by assumption)).trans ?_)

theorem State.deliverAtomic_kept (s : State) (x1 : Nat) (x2 : Ctx) (x3 : Packet) : (State.deliverAtomic s x1 x2 x3).2.kept = s.kept := by
  unfold State.deliverAtomic
  repeat' (first | simp only [State.hostAtomic_kept, State.missFor_kept, State.putRx_kept] | split | with_reducible refine (State.reachKey_cases (by assumption)).trans ?_)

theorem State.flushRx_kept (s : State) (x1 : Nat) (x2 : Ctx) (x3 : RxMsg) (x4 : Nat) : (State.flushRx s x1 x2 x3 x4).kept = s.kept := by
  unfold State.flushRx
  repeat' (first | simp only [State.hostFlush_kept, State.putRx_kept] | split)

theorem State.deliverDurable.go_kept (s : State) (x1 : Nat) (x2 : Ctx) (x3 : Packet) (x4 : RxMsg) : (State.deliverDurable.go s x1 x2 x3 x4).2.kept = s.kept := by
  unfold State.deliverDurable.go
  repeat' (first | simp only [State.flushRx_kept, State.keepRx_kept, State.putRx_kept] | split | with_reducible refine (State.landRemote_cases (by assumption)).trans ?_ | with_reducible refine (State.landRemote_cases2 (by assumption)).trans ?_)

theorem State.deliverDurable_kept (s : State) (x1 : Nat) (x2 : Ctx) (x3 : Packet) : (State.deliverDurable s x1 x2 x3).2.kept = s.kept := by
  unfold State.deliverDurable
  repeat' split
  all_goals simp only [State.deliverDurable.go_kept]

theorem State.deliverGetResp_kept (s : State) (x1 : Nat) (x2 : Ctx) (x3 : Packet) : (State.deliverGetResp s x1 x2 x3).2.kept = s.kept := by
  unfold State.deliverGetResp
  repeat' (first | simp only [State.dropMsg_kept, State.finishWqe_kept, State.modMsg_kept] | split | with_reducible refine (State.landLocal_cases (by assumption)).trans ?_ | with_reducible refine (State.landLocal_cases2 (by assumption)).trans ?_)

theorem State.deliverAtomicResp_kept (s : State) (x1 : Nat) (x2 : Ctx) (x3 : Packet) : (State.deliverAtomicResp s x1 x2 x3).2.kept = s.kept := by
  unfold State.deliverAtomicResp
  repeat' (first | simp only [State.dropMsg_kept, State.finishWqe_kept] | split | with_reducible refine (State.landLocal_cases (by assumption)).trans ?_ | with_reducible refine (State.landLocal_cases2 (by assumption)).trans ?_)

theorem State.deliverConf_kept (s : State) (x1 : Nat) (x2 : Ctx) (x3 : Packet) : (State.deliverConf s x1 x2 x3).2.kept = s.kept := by
  unfold State.deliverConf
  repeat' split
  all_goals simp only [State.dropMsg_kept, State.finishWqe_kept]

theorem State.deliverCts_kept (s : State) (x1 : Nat) (x2 : Ctx) (x3 : Packet) : (State.deliverCts s x1 x2 x3).2.kept = s.kept := by
  unfold State.deliverCts
  repeat' (first | simp only [State.addMsg_kept, State.dropMsg_kept, State.finishWqe_kept, State.pump_kept] | split)

theorem State.intoMatched_kept (s : State) (x1 : Nat) (x2 : Packet) (x3 : RxMsg) (x4 : Nat) (x5 : Nat) (x6 : Bool) : (State.intoMatched s x1 x2 x3 x4 x5 x6).2.kept = s.kept := by
  unfold State.intoMatched
  repeat' (first | simp only [State.advanceMatched_kept, State.keepRx_kept, State.modMatched_kept] | split | with_reducible refine (State.landLocal_cases (by assumption)).trans ?_ | with_reducible refine (State.landLocal_cases2 (by assumption)).trans ?_)

theorem State.intoStore_kept (s : State) (x1 : Nat) (x2 : Packet) (x3 : RxMsg) (x4 : Nat) (x5 : Nat) (x6 : Nat) : (State.intoStore s x1 x2 x3 x4 x5 x6).2.kept = s.kept := by
  unfold State.intoStore
  repeat' (first | simp +zetaDelta only [apply_ite State.kept, ite_self, State.keepRx_kept, State.storedWhole_kept] | split | with_reducible refine (State.landLocal_cases (by assumption)).trans ?_ | with_reducible refine (State.landLocal_cases2 (by assumption)).trans ?_ | contradiction | (rename_i h; split at h) | (rename_i h _ _ _ _ _; injection h; subst_vars))

theorem State.deliverEager_kept (s : State) (x1 : Nat) (x2 : Ctx) (x3 : Packet) : (State.deliverEager s x1 x2 x3).2.kept = s.kept := by
  unfold State.deliverEager
  extract_lets srq opened
  have hop : keptP opened s.kept = s.kept := by
    simp only [opened]
    split
    · rfl
    · split
      · rename_i h
        simp only [keptP_some, State.putRx_kept]
        exact State.firstTagged_cases h
      · rfl
  clear_value opened
  split
  · rfl
  · cases opened with
    | none => rfl
    | some y =>
      rw [keptP_some] at hop
      dsimp only
      split
      · simpa only [State.keepRx_kept] using hop
      · split
        · rw [State.intoMatched_kept]; exact hop
        · rw [State.intoStore_kept]; exact hop
        · simpa only [State.keepRx_kept] using hop

theorem State.deliverRts_kept (s : State) (x1 : Nat) (x2 : Packet) : (State.deliverRts s x1 x2).2.kept = s.kept := by
  unfold State.deliverRts
  repeat' (first | simp only [State.advanceMatched_kept] | split | with_reducible refine (State.firstTagged_cases (by assumption)).trans ?_)

theorem State.deliverRndv_kept (s : State) (x1 : Nat) (x2 : Ctx) (x3 : Packet) : (State.deliverRndv s x1 x2 x3).2.kept = s.kept := by
  unfold State.deliverRndv
  repeat' (first | simp only [State.intoMatched_kept, State.keepRx_kept, State.putRx_kept] | split)

theorem State.deliver_kept (s : State) (x1 : Nat) (x2 : Packet) : (State.deliver s x1 x2).2.kept = s.kept := by
  unfold State.deliver
  repeat' split
  all_goals simp only [State.deliverAtomicResp_kept, State.deliverAtomic_kept, State.deliverConf_kept, State.deliverCts_kept, State.deliverDurable_kept, State.deliverEager_kept, State.deliverFlag_kept, State.deliverFlagged_kept, State.deliverGetResp_kept, State.deliverGet_kept, State.deliverPut_kept, State.deliverRndv_kept, State.deliverRts_kept, State.deliverSend_kept]

theorem State.admission_kept (s : State) (x1 : Nat) (x2 : Packet) (x3 : Bool) : (State.admission s x1 x2 x3).2.2.kept = s.kept := by
  unfold State.admission
  repeat' (first | simp only [State.count_kept, State.deliver_kept, State.police_kept, State.wakeFor_kept] | split)

theorem State.settleVerdict_kept (s : State) (x1 : Nat) (x2 : Packet) (x3 : Nat) (x4 : Verdict) : (State.settleVerdict s x1 x2 x3 x4).kept = s.kept := by
  unfold State.settleVerdict
  repeat' split
  all_goals simp only [State.land_kept, State.sendSack_kept, State.toBench_kept]

theorem State.endLandings_kept (s : State) (x1 : Nat) (x2 : Nat) : (State.endLandings s x1 x2).kept = s.kept := by
  unfold State.endLandings
  repeat' (first | simp only [kept_rules, State.finishMatched_kept] | with_reducible refine (foldl_kept _ _ ?_ _).trans ?_ | intro _)

theorem State.adopt_kept (s : State) (x1 : Nat) (x2 : Ctx) (x3 : Nat) : (State.adopt s x1 x2 x3).kept = s.kept := by
  unfold State.adopt
  repeat' (first | simp only [kept_rules, State.dropTagged_kept, State.endLandings_kept, State.failSrqRecvs_kept, State.modCtx_kept] | with_reducible refine (foldl_kept _ _ ?_ _).trans ?_ | intro _)

theorem State.reconfirm_kept (s : State) (x1 : Nat) (x2 : Ctx) (x3 : Packet) : (State.reconfirm s x1 x2 x3).kept = s.kept := by
  unfold State.reconfirm
  split <;> simp only [kept_rules, State.confirm_kept]

theorem State.receiveIn_kept (s : State) (x1 : Nat) (x2 : Packet) (x3 : Bool) : (State.receiveIn s x1 x2 x3).kept = s.kept := by
  unfold State.receiveIn
  repeat' (first | simp only [State.admission_kept, State.count_kept, State.reconfirm_kept, State.sendSack_kept, State.settleVerdict_kept] | split)

theorem State.receiveAt_kept (s : State) (x1 : Nat) (x2 : Packet) (x3 : Bool) : (State.receiveAt s x1 x2 x3).kept = s.kept := by
  unfold State.receiveAt
  split <;> simp only [kept_rules, State.adopt_kept, State.receiveIn_kept, State.sendSack_kept]

theorem State.receive_kept (s : State) (x1 : Packet) (x2 : Bool) : (State.receive s x1 x2).kept = s.kept := by
  unfold State.receive
  repeat' (first | simp +zetaDelta only [apply_ite State.kept, ite_self, State.answerNoCtx_kept, State.groupArrive_kept, State.receiveAt_kept, State.toBench_kept, State.wakeCtx_kept, State.wakeFor_kept] | split | with_reducible refine (State.needSt_cases (by assumption)).trans ?_ | (rename_i h; split at h) | (rename_i h _ _ _ _ _; injection h; subst_vars))

theorem State.confirmDurable_kept (s : State) (x1 : Nat) (x2 : Nat) : (State.confirmDurable s x1 x2).kept = s.kept := by
  fun_induction State.confirmDurable s x1 x2
  all_goals repeat' (first | simp +zetaDelta only [State.confirm_kept, State.dropRx_kept, State.modCtx_kept, *])

theorem State.retryOrder_kept (s : State) (x1 : Nat) (x2 : Nat) : (State.retryOrder s x1 x2).kept = s.kept := by
  fun_induction State.retryOrder s x1 x2
  all_goals repeat' (first | simp +zetaDelta only [kept_mk, kept_eta, State.receive_kept, *])

theorem State.afterReceived_kept (s : State) (x1 : Nat) : (State.afterReceived s x1).kept = s.kept := by
  unfold State.afterReceived
  simp only [State.confirmDurable_kept, State.retryOrder_kept]

theorem State.unbench_kept (s : State) (x1 : BenchWait) (x2 : Bool) : (State.unbench s x1 x2).kept = s.kept := by
  unfold State.unbench
  repeat' (first | simp only [kept_rules, State.afterReceived_kept, State.receive_kept] | with_reducible refine (foldl_kept _ _ ?_ _).trans ?_ | intro _)

theorem State.benchFails_kept (s : State) (x1 : Packet) : (State.benchFails s x1).kept = s.kept := by
  unfold State.benchFails
  repeat' (first | simp only [State.groupFails_kept, State.packetFails_kept, State.settleVerdict_kept] | split)

theorem State.arrive_kept (s : State) (x1 : Packet) : (State.arrive s x1).kept = s.kept := by
  unfold State.arrive
  simp only [State.afterReceived_kept, State.receive_kept]

end Sys2Proof.Machine
end

