-- ==== Sys2Proof/Laws/KeptAdmin.lean ====
section
/-!
SUPPORT. What the definitions of translation, containment, administrative rows, reads, timers and doorbells leave as it is.
-/
set_option maxRecDepth 4096

namespace Sys2Proof.Machine

theorem State.dropReads_kept (s : State) (x1 : HostRead → Bool) : (State.dropReads s x1).kept = s.kept := by
  unfold State.dropReads
  simp only [kept_rules]

theorem State.memberInputFails_kept (s : State) (x1 : Nat) (x2 : BitVec 32) (x3 : Nat) (x4 : Nat) : (State.memberInputFails s x1 x2 x3 x4).kept = s.kept := by
  unfold State.memberInputFails
  simp only [State.modMember_kept]

theorem State.wakeMember_kept (s : State) (x1 : Nat) (x2 : BitVec 32) (x3 : Nat) : (State.wakeMember s x1 x2 x3).kept = s.kept := by
  unfold State.wakeMember
  repeat' split
  all_goals simp only [State.advanceTree_kept, State.flushMember_kept, State.giveReady_kept, State.readMember_kept]

theorem State.memberFails_kept (s : State) (x1 : Nat) (x2 : BitVec 32) (x3 : Nat) (x4 : Miss) : (State.memberFails s x1 x2 x3 x4).kept = s.kept := by
  unfold State.memberFails
  repeat' split
  all_goals simp only [kept_rules, State.memberInputFails_kept, State.modMember_kept, State.wakeMember_kept]

theorem State.resume_kept (q : List Instr) (s : State) (x1 : MissWaiter) (hq : Held q s.kept) : Held q (State.resume s x1).kept := by
  unfold State.resume
  repeat' (first | simp only [State.pump_kept, State.wakeMatched_kept, State.wakeMember_kept, hq] | split | with_reducible refine State.wakeChan_kept _ _ _ ?_)

theorem State.waitFails_kept (s : State) (x1 : Miss) (x2 : MissWaiter) : (State.waitFails s x1 x2).kept = s.kept := by
  unfold State.waitFails
  repeat' split
  all_goals simp only [State.chanFails_kept, State.finishMatched_kept, State.localFail_kept, State.memberFails_kept, State.pump_kept, State.settleMsgs_kept, State.settlePause_kept]

theorem State.benchAllFail_kept (s : State) (x1 : Nat) : (State.benchAllFail s x1).kept = s.kept := by
  unfold State.benchAllFail
  repeat' (first | simp only [kept_rules, State.afterReceived_kept, State.benchFails_kept] | with_reducible refine (foldl_kept _ _ ?_ _).trans ?_ | intro _)

theorem State.dropMiss_kept (s : State) (x1 : Nat) : (State.dropMiss s x1).kept = s.kept := by
  unfold State.dropMiss
  simp only [kept_rules, State.dropReads_kept]

theorem State.unbenchMiss_kept (s : State) (x1 : Nat) (x2 : Nat) : (State.unbenchMiss s x1 x2).kept = s.kept := by
  unfold State.unbenchMiss
  simp only [kept_rules, State.unbench_kept]

theorem State.endMiss_kept (q : List Instr) (s : State) (x1 : Nat) (x2 : Bool) (hq : Held q s.kept) : Held q (State.endMiss s x1 x2).kept := by
  unfold State.endMiss
  repeat' (first | simp only [State.benchAllFail_kept, State.dropMiss_kept, State.unbenchMiss_kept, State.waitFails_kept] | split | with_reducible assumption | with_reducible refine State.resume_kept _ _ _ ?_ | with_reducible refine foldl_held _ _ _ ?_ _ ?_ | intro _)

theorem State.walkDone_kept (q : List Instr) (s : State) (x1 : Nat) (x2 : Miss) (x3 : Nat) (hq : Held q s.kept) : Held q (State.walkDone s x1 x2 x3).kept := by
  unfold State.walkDone
  repeat' (first | simp only [State.loadTlb_kept, hq] | with_reducible refine State.endMiss_kept _ _ _ _ ?_)

theorem State.walkLeaf_kept (q : List Instr) (s : State) (x1 : Nat) (x2 : Miss) (x3 : Nat) (x4 : Nat) (hq : Held q s.kept) : Held q (State.walkLeaf s x1 x2 x3 x4).kept := by
  unfold State.walkLeaf
  repeat' (first | simp only [kept_rules, State.hostAtomic_kept, hq] | split | with_reducible refine State.endMiss_kept _ _ _ _ ?_ | with_reducible refine State.walkDone_kept _ _ _ _ _ ?_)

theorem State.walkEntry_kept (q : List Instr) (s : State) (x1 : Nat) (x2 : Nat) (hq : Held q s.kept) : Held q (State.walkEntry s x1 x2).kept := by
  unfold State.walkEntry
  repeat' (first | simp only [State.walkRead_kept, hq] | split | with_reducible refine State.endMiss_kept _ _ _ _ ?_ | with_reducible refine State.walkLeaf_kept _ _ _ _ _ _ ?_)

theorem State.walkBack_kept (q : List Instr) (s : State) (x1 : Nat) (x2 : Answer) (hq : Held q s.kept) : Held q (State.walkBack s x1 x2).kept := by
  unfold State.walkBack
  repeat' (first | simp only [hq] | split | with_reducible refine State.walkEntry_kept _ _ _ _ ?_ | with_reducible refine State.endMiss_kept _ _ _ _ ?_)

theorem State.casBack_kept (q : List Instr) (s : State) (x1 : Nat) (x2 : Answer) (hq : Held q s.kept) : Held q (State.casBack s x1 x2).kept := by
  unfold State.casBack
  repeat' (first | simp only [State.walkRead_kept, hq] | split | with_reducible refine State.walkDone_kept _ _ _ _ _ ?_ | with_reducible refine State.endMiss_kept _ _ _ _ ?_)

theorem execMissTimeout_kept (q : List Instr) (x0 : Nat) (s : State) (hq : Held q s.kept) : HeldO q (execMissTimeout x0 s) := by
  unfold execMissTimeout
  repeat' (first | simp only [held_rules, hq] | split | with_reducible refine State.endMiss_kept _ _ _ _ ?_)

theorem State.fetchFill_kept (s : State) (x1 : Nat) : (State.fetchFill s x1).kept = s.kept := by
  unfold State.fetchFill
  split <;> simp only [kept_rules, State.hostRead_kept, State.setFn_kept]

theorem State.takeFill_kept (s : State) (x1 : Nat) (x2 : Bytes) : (State.takeFill s x1 x2).kept = s.kept := by
  unfold State.takeFill
  split <;> simp only [kept_rules, State.count_kept, State.fetchFill_kept, State.setFn_kept]

theorem State.failFill_kept (s : State) (x1 : Nat) : (State.failFill s x1).kept = s.kept := by
  unfold State.failFill
  split <;> simp only [State.count_kept, State.fetchFill_kept, State.setFn_kept]

theorem State.answerMiss_kept (q : List Instr) (s : State) (x1 : Nat) (x2 : Bool) (hq : Held q s.kept) : Held q (State.answerMiss s x1 x2).kept := by
  unfold State.answerMiss
  repeat' (first | simp only [hq] | split | with_reducible refine State.endMiss_kept _ _ _ _ ?_)

theorem State.fillLeaf_kept (q : List Instr) (s : State) (x1 : Nat) (hq : Held q s.kept) : Held q (State.fillLeaf s x1).kept := by
  unfold State.fillLeaf
  repeat' (first | simp only [State.loadTlb_kept, hq] | split | with_reducible refine State.answerMiss_kept _ _ _ _ ?_)

theorem State.fillRow_kept (s : State) (x1 : Nat) (x2 : Nat) (x3 : Nat → State → State) (hx3 : ∀ y0 y1, (x3 y0 y1).kept = y1.kept) : (State.fillRow s x1 x2 x3).kept = s.kept := by
  unfold State.fillRow
  repeat' split
  all_goals simp only [kept_rules, State.count_kept, State.setFn_kept, hx3]

theorem State.fillRow_held (q : List Instr) (s : State) (x1 : Nat) (x2 : Nat) (x3 : Nat → State → State) (hx3 : ∀ y0 y1, Held q y1.kept → Held q (x3 y0 y1).kept) (hq : Held q s.kept) : Held q (State.fillRow s x1 x2 x3).kept := by
  unfold State.fillRow
  repeat' (first | simp only [State.count_kept, State.setFn_kept, hq] | split | with_reducible refine hx3 _ _ ?_)

theorem execFill_kept (q : List Instr) (x0 : Nat) (s : State) (hq : Held q s.kept) : HeldO q (execFill x0 s) := by
  exact State.fillRow_held q s x0 1 _ (fun r t h => State.fillLeaf_kept q t r h) hq

theorem execFault_kept (q : List Instr) (x0 : Nat) (s : State) (hq : Held q s.kept) : HeldO q (execFault x0 s) := by
  exact State.fillRow_held q s x0 2 _ (fun r t h => State.answerMiss_kept q t r false h) hq

theorem State.landed_kept (s : State) (x1 : Landing) : (State.landed s x1).kept = s.kept := by
  unfold State.landed
  simp only [kept_rules, State.afterReceived_kept, State.groupDone_kept, State.markReceived_kept]

theorem State.reland_kept (s : State) : (State.reland s).kept = s.kept := by
  unfold State.reland
  repeat' (first | simp only [kept_rules, State.landed_kept] | with_reducible refine (foldl_kept _ _ ?_ _).trans ?_ | intro _)

theorem State.resumeFn_kept (s : State) (x1 : Nat) : (State.resumeFn s x1).kept = s.kept := by
  unfold State.resumeFn
  repeat' (first | simp only [State.advanceQp_kept, State.fetchAdmin_kept, State.fetchDesc_kept, State.fetchFill_kept, State.fetchSrq_kept] | with_reducible refine (foldl_kept _ _ ?_ _).trans ?_ | intro _)

theorem State.sendPending_kept (s : State) (x1 : Nat) (x2 : Nat) : (State.sendPending s x1 x2).kept = s.kept := by
  unfold State.sendPending
  simp only [kept_rules, State.request_kept, State.setFn_kept]

theorem State.sendAllPending_kept (s : State) (x1 : Nat) : (State.sendAllPending s x1).kept = s.kept := by
  unfold State.sendAllPending
  repeat' (first | simp only [State.sendPending_kept] | with_reducible refine (foldl_kept _ _ ?_ _).trans ?_ | intro _)

theorem execMsixUnmask_kept (x0 : Nat) (x1 : Option Nat) (s : State) : keptO (execMsixUnmask x0 x1 s) s.kept = s.kept := by
  unfold execMsixUnmask
  repeat' split
  all_goals simp only [kept_rules, State.sendAllPending_kept, State.sendPending_kept, State.setFn_kept]

theorem State.settleWake_kept (s : State) : (State.settleWake s).kept = s.kept := by
  unfold State.settleWake
  simp only [kept_rules]

theorem State.endWake_kept (s : State) (x1 : HPort) : (State.endWake s x1).kept = s.kept := by
  unfold State.endWake
  simp only [State.settleWake_kept, State.tunePort_kept]

theorem execPowerStateWrite_kept (x0 : Nat) (x1 : Bool) (x2 : Bool) (s : State) : keptO (execPowerStateWrite x0 x1 x2 s) s.kept = s.kept := by
  unfold execPowerStateWrite
  repeat' (first | simp only [kept_rules, State.endWake_kept, State.resumeFn_kept, State.sendAllPending_kept, State.setFn_kept] | split | with_reducible refine (foldl_kept _ _ ?_ _).trans ?_ | intro _)

theorem execPmPmeRepeat_kept (x0 : Nat) (s : State) : keptO (execPmPmeRepeat x0 s) s.kept = s.kept := by
  unfold execPmPmeRepeat
  repeat' (first | simp only [kept_rules, State.emit_kept] | split)

theorem execPmeStatusClear_kept (x0 : Nat) (s : State) : keptO (execPmeStatusClear x0 s) s.kept = s.kept := by
  unfold execPmeStatusClear
  split <;> simp only [kept_rules, State.setFn_kept]

theorem execL1Idle_kept (x0 : HPort) (s : State) : keptO (execL1Idle x0 s) s.kept = s.kept := by
  unfold execL1Idle
  repeat' (first | simp only [kept_rules, State.emit_kept, State.tunePort_kept] | split)

theorem State.dropUnits_kept (s : State) (x1 : Nat → Bool) : (State.dropUnits s x1).kept = s.kept := by
  unfold State.dropUnits
  simp only [kept_rules]

theorem State.rebench_kept (s : State) (x1 : Nat × Packet × BenchWait → Bool) : (State.rebench s x1).kept = s.kept := by
  unfold State.rebench
  repeat' (first | simp only [kept_rules, State.afterReceived_kept, State.receive_kept] | with_reducible refine (foldl_kept _ _ ?_ _).trans ?_ | intro _)

theorem State.endTrees_kept (s : State) (x1 : Nat → Bool) : (State.endTrees s x1).kept = s.kept := by
  unfold State.endTrees
  repeat' (first | simp only [kept_rules, State.breakTree_kept, State.removeTree_kept] | with_reducible refine (foldl_kept _ _ ?_ _).trans ?_ | intro _)

theorem State.endMisses_kept (s : State) (x1 : Key → Bool) : (State.endMisses s x1).kept = s.kept := by
  unfold State.endMisses
  repeat' (first | simp only [State.dropMiss_kept, State.unbench_kept] | split | with_reducible refine (foldl_kept _ _ ?_ _).trans ?_ | intro _)

theorem State.endQps_kept (s : State) (x1 : Nat → Bool) : (State.endQps s x1).kept = s.kept := by
  unfold State.endQps
  repeat' (first | simp only [kept_rules] | with_reducible refine (foldl_kept _ _ ?_ _).trans ?_ | intro _)

theorem State.endFns_kept (q : List Instr) (s : State) (x1 : Nat → Bool) (hq : Held q s.kept) : Held q (State.endFns s x1).kept := by
  unfold State.endFns
  extract_lets s1 s2 s3 s4 s5 mine s6 s7 groups s8 dead s9 s10 s11
  have h5 : s5.kept = s.kept := by
    simp only [s5, s4, s3, s2, s1, kept_rules, State.dropUnits_kept, State.dropReads_kept, State.endQps_kept, State.endTrees_kept]
  have h7 : Held q s5.kept := by rw [h5]; exact hq
  have h8 : Held q s8.kept :=
    foldl_held q _ _ (fun t e h => by rw [State.groupDone_kept]; exact h) _ ⟨h7.1, h7.2.1, h7.2.2⟩
  have h9 : Held q s9.kept := by simp only [s9, State.endMisses_kept]; exact h8
  have h11 : Held q s11.kept := by
    simp only [s11]
    split
    · exact State.setParam_kept q _ _ _ ⟨h9.1, h9.2.1, h9.2.2⟩
    · exact ⟨h9.1, h9.2.1, h9.2.2⟩
  rw [State.rebench_kept, State.reland_kept]
  exact h11

theorem execFlr_kept (q : List Instr) (x0 : Nat) (s : State) (hq : Held q s.kept) : HeldO q (execFlr x0 s) := by
  unfold execFlr
  repeat' (first | simp only [State.setFn_kept, held_rules, hq] | split | with_reducible refine State.endFns_kept _ _ _ ?_)

theorem execFlrComplete_kept (x0 : Nat) (s : State) : keptO (execFlrComplete x0 s) s.kept = s.kept := by
  unfold execFlrComplete
  split <;> simp only [kept_rules, State.msix_kept, State.setFn_kept]

theorem execNumvfsWrite_kept (q : List Instr) (x0 : HPort) (x1 : Nat) (s : State) (hq : Held q s.kept) : HeldO q (execNumvfsWrite x0 x1 s) := by
  unfold execNumvfsWrite
  repeat' (first | simp only [kept_rules, held_rules, hq] | split | with_reducible refine State.setPort_kept _ _ _ _ ?_ | with_reducible refine State.endFns_kept _ _ _ ?_)

theorem State.retirePort_kept (s : State) (x1 : HPort) : (State.retirePort s x1).kept = s.kept := by
  unfold State.retirePort
  repeat' (first | simp only [kept_rules, State.drawInc_kept, State.failSrqRecvs_kept, State.modCtx_kept] | split | with_reducible refine (foldl_kept _ _ ?_ _).trans ?_ | intro _)

theorem State.clearPath_kept (s : State) (x1 : HPort) : (State.clearPath s x1).kept = s.kept := by
  unfold State.clearPath
  simp only [State.dropReads_kept, State.setPath_kept, State.tunePort_kept]

theorem State.unfetchFn_kept (s : State) (x1 : Nat) : (State.unfetchFn s x1).kept = s.kept := by
  unfold State.unfetchFn
  simp only [kept_rules, State.setFn_kept, State.unreserve_kept]

theorem State.clearFetches_kept (s : State) (x1 : HPort) : (State.clearFetches s x1).kept = s.kept := by
  unfold State.clearFetches
  repeat' (first | simp only [kept_rules, State.unfetchFn_kept] | with_reducible refine (foldl_kept _ _ ?_ _).trans ?_ | intro _)

theorem State.noteCause_kept (q : List Instr) (s : State) (x1 : HPort) (x2 : Nat) (hq : Held q s.kept) : Held q (State.noteCause s x1 x2).kept := by
  unfold State.noteCause
  repeat' (first | simp only [hq] | with_reducible refine State.setPort_kept _ _ _ _ ?_)

theorem State.enterFrozen_kept (q : List Instr) (s : State) (x1 : HPort) (x2 : Nat) (hq : Held q s.kept) : Held q (State.enterFrozen s x1 x2).kept := by
  unfold State.enterFrozen
  repeat' (first | simp only [State.clearFetches_kept, State.clearPath_kept, hq] | with_reducible refine State.setPort_kept _ _ _ _ ?_ | with_reducible refine State.noteCause_kept _ _ _ _ ?_)

theorem State.loseLists_kept (s : State) (x1 : List Nat) : (State.loseLists s x1).kept = s.kept := by
  unfold State.loseLists
  repeat' (first | simp only [State.admAbort_kept] | with_reducible refine (foldl_kept _ _ ?_ _).trans ?_ | intro _)

theorem State.containPort_kept (s : State) (x1 : HPort) : (State.containPort s x1).kept = s.kept := by
  unfold State.containPort
  extract_lets mine s1 s2 s3 s4 settle s5 s6 s7 s8 groups s9
  have h2 : s2.kept = s.kept := (foldl_kept _ _ (fun t q => State.qpError_kept t q _) s1).trans ((kept_mk ..).trans (kept_eta s))
  have h3 : s3.kept = s2.kept := foldl_kept _ _ (fun t q => State.clearMatching_kept t q) s2
  have h4 : s4.kept = s3.kept := State.retirePort_kept s3 x1
  have h7 : s7.kept = s4.kept := (foldl_kept _ _ (fun t e => by
    split
    · exact State.breakTree_kept t _
    · rfl) s6).trans ((kept_mk ..).trans (kept_eta s4))
  have h8 : s8.kept = s7.kept := foldl_kept _ _ (fun t q => State.freezeChan_kept t q) s7
  have h9 : s9.kept = s8.kept := (foldl_kept _ _ (fun t e => State.groupDone_kept t _ _) _).trans ((kept_mk ..).trans (kept_eta s8))
  rw [State.rebench_kept, State.endMisses_kept, h9, h8, h7, h4, h3, h2]

theorem State.freezePort_kept (q : List Instr) (s : State) (x1 : HPort) (x2 : Nat) (hq : Held q s.kept) : Held q (State.freezePort s x1 x2).kept := by
  unfold State.freezePort
  repeat' (first | simp only [State.containPort_kept, State.draw_kept, State.loseLists_kept, State.occur_kept, hq] | split | with_reducible refine State.noteCause_kept _ _ _ _ ?_ | with_reducible refine State.enterFrozen_kept _ _ _ _ ?_)

theorem State.thawPort_kept (q : List Instr) (s : State) (x1 : HPort) (hq : Held q s.kept) : Held q (State.thawPort s x1).kept := by
  unfold State.thawPort
  repeat' (first | simp only [State.advanceQp_kept, State.setPath_kept] | with_reducible assumption | with_reducible refine State.setPort_kept _ _ _ _ ?_ | with_reducible refine foldl_held _ _ _ ?_ _ ?_ | intro _)

theorem execFreeze_kept (q : List Instr) (x0 : HPort) (s : State) (hq : Held q s.kept) : HeldO q (execFreeze x0 s) := by
  unfold execFreeze
  repeat' (first | simp only [held_rules, hq] | with_reducible refine State.freezePort_kept _ _ _ _ ?_)

theorem execFatalError_kept (q : List Instr) (x0 : HPort) (s : State) (hq : Held q s.kept) : HeldO q (execFatalError x0 s) := by
  unfold execFatalError
  repeat' (first | simp only [held_rules, hq] | with_reducible refine State.freezePort_kept _ _ _ _ ?_)

theorem execSurpriseDown_kept (q : List Instr) (x0 : HPort) (s : State) (hq : Held q s.kept) : HeldO q (execSurpriseDown x0 s) := by
  unfold execSurpriseDown
  repeat' (first | simp only [State.tunePort_kept, held_rules, hq] | split | with_reducible refine State.freezePort_kept _ _ _ _ ?_)

theorem State.askThaw_kept (q : List Instr) (s : State) (x1 : HPort) (hq : Held q s.kept) : Held q (State.askThaw s x1).kept := by
  unfold State.askThaw
  repeat' (first | simp only [hq] | split | with_reducible refine State.thawPort_kept _ _ _ ?_)

theorem execThaw_kept (q : List Instr) (x0 : HPort) (s : State) (hq : Held q s.kept) : HeldO q (execThaw x0 s) := by
  unfold execThaw
  repeat' (first | simp only [held_rules, hq] | with_reducible refine State.askThaw_kept _ _ _ ?_)

theorem execAutoThaw_kept (q : List Instr) (x0 : HPort) (s : State) (hq : Held q s.kept) : HeldO q (execAutoThaw x0 s) := by
  unfold execAutoThaw
  repeat' (first | simp only [held_rules, hq] | split | with_reducible refine State.thawPort_kept _ _ _ ?_)

theorem State.clearCause_kept (q : List Instr) (s : State) (x1 : HPort) (x2 : BitVec 32) (hq : Held q s.kept) : Held q (State.clearCause s x1 x2).kept := by
  unfold State.clearCause
  repeat' (first | simp only [hq] | with_reducible refine State.setPort_kept _ _ _ _ ?_)

theorem execFreezeCauseClear_kept (q : List Instr) (x0 : HPort) (x1 : BitVec 32) (s : State) (hq : Held q s.kept) : HeldO q (execFreezeCauseClear x0 x1 s) := by
  unfold execFreezeCauseClear
  repeat' (first | simp only [held_rules, hq] | with_reducible refine State.clearCause_kept _ _ _ _ ?_)

theorem execThawComplete_kept (q : List Instr) (x0 : HPort) (s : State) (hq : Held q s.kept) : HeldO q (execThawComplete x0 s) := by
  unfold execThawComplete
  repeat' (first | simp only [State.msix_kept, State.resumeFn_kept, held_rules] | split | with_reducible assumption | with_reducible refine State.setPort_kept _ _ _ _ ?_ | with_reducible refine foldl_held _ _ _ ?_ _ ?_ | intro _)

theorem State.resetPort_kept (q : List Instr) (s : State) (x1 : HPort) (x2 : Bool) (hq : Held q s.kept) : Held q (State.resetPort s x1 x2).kept := by
  unfold State.resetPort
  repeat' (first | simp only [kept_rules, State.dropReads_kept, State.retirePort_kept, State.setBoot_kept, State.setPath_kept, hq] | with_reducible refine State.setPort_kept _ _ _ _ ?_ | with_reducible refine State.endFns_kept _ _ _ ?_)

theorem execPortReset_kept (q : List Instr) (x0 : HPort) (x1 : ResetWhy) (s : State) (hq : Held q s.kept) : HeldO q (execPortReset x0 x1 s) := by
  unfold execPortReset
  repeat' (first | simp only [held_rules, hq] | with_reducible refine State.resetPort_kept _ _ _ _ ?_)

theorem State.bringUp_kept (q : List Instr) (s : State) (x1 : HPort) (x2 : HostLink) (hq : Held q s.kept) : Held q (State.bringUp s x1 x2).kept := by
  unfold State.bringUp
  repeat' (first | simp only [State.tunePort_kept, hq] | split | with_reducible refine State.setPort_kept _ _ _ _ ?_)

theorem execPerstDeassert_kept (q : List Instr) (x0 : HPort) (x1 : Option HostLink) (s : State) (hq : Held q s.kept) : HeldO q (execPerstDeassert x0 x1 s) := by
  unfold execPerstDeassert
  repeat' (first | simp only [State.endWake_kept, State.tunePort_kept, held_rules, hq] | split | with_reducible refine State.bringUp_kept _ _ _ _ ?_)

theorem execDataLinkUp_kept (q : List Instr) (x0 : HPort) (x1 : HostLink) (s : State) (hq : Held q s.kept) : HeldO q (execDataLinkUp x0 x1 s) := by
  unfold execDataLinkUp
  repeat' (first | simp only [held_rules, hq] | split | with_reducible refine State.bringUp_kept _ _ _ _ ?_)

theorem State.admRun_kept (s : State) (x1 : Nat) (x2 : Nat) (x3 : Nat → Bool) (x4 : Nat → List Nat) (x5 : AdminCmd → State) (hx5 : ∀ y0, (x5 y0).kept = s.kept) : (State.admRun s x1 x2 x3 x4 x5).kept = s.kept := by
  unfold State.admRun
  repeat' (first | simp only [State.admAbort_kept, State.admMalformed_kept, hx5] | split | with_reducible refine (State.admRow_kept _ _ _ _ ?_).trans ?_ | intro _)

theorem State.admRun_held (q : List Instr) (s : State) (x1 : Nat) (x2 : Nat) (x3 : Nat → Bool) (x4 : Nat → List Nat) (x5 : AdminCmd → State) (hx5 : ∀ y0, Held q (x5 y0).kept) (hq : Held q s.kept) : Held q (State.admRun s x1 x2 x3 x4 x5).kept := by
  unfold State.admRun
  repeat' (first | simp only [State.admAbort_kept, State.admMalformed_kept, hq] | split | with_reducible refine hx5 _ | with_reducible refine State.admRow_held _ _ _ _ _ ?_ ?_ | intro _)

theorem State.admCreate_kept (s : State) (x1 : Nat) (x2 : State → Nat → State) (hx2 : ∀ y0 y1, (x2 y0 y1).kept = y0.kept) : (State.admCreate s x1 x2).kept = s.kept := by
  unfold State.admCreate
  repeat' (first | simp only [State.admAbort_kept, State.admOk_kept, hx2] | split | with_reducible refine (State.freshHandle_cases (by assumption)).trans ?_)

theorem execCreateCq_kept (x0 : Nat) (s : State) : keptO (execCreateCq x0 s) s.kept = s.kept := by
  unfold execCreateCq
  repeat' (first | simp only [kept_rules] | with_reducible refine (State.admRun_kept _ _ _ _ _ _ ?_).trans ?_ | with_reducible refine (State.admCreate_kept _ _ _ ?_).trans ?_ | intro _)

theorem State.admDestroy_kept (s : State) (x1 : Nat) (x2 : Nat) (x3 : Obj) (x4 : State → Nat → Bool) (x5 : State → Nat → State) (hx5 : ∀ y0 y1, (x5 y0 y1).kept = y0.kept) : (State.admDestroy s x1 x2 x3 x4 x5).kept = s.kept := by
  unfold State.admDestroy
  repeat' (first | simp only [State.admOk_kept, hx5] | with_reducible refine (State.admRun_kept _ _ _ _ _ _ ?_).trans ?_ | intro _)

theorem execDestroyCq_kept (x0 : Nat) (s : State) : keptO (execDestroyCq x0 s) s.kept = s.kept := by
  unfold execDestroyCq
  repeat' (first | simp only [kept_rules] | with_reducible refine (State.admDestroy_kept _ _ _ _ _ _ ?_).trans ?_ | intro _)

theorem execCreateEq_kept (x0 : Nat) (s : State) : keptO (execCreateEq x0 s) s.kept = s.kept := by
  unfold execCreateEq
  repeat' (first | simp only [kept_rules] | with_reducible refine (State.admRun_kept _ _ _ _ _ _ ?_).trans ?_ | with_reducible refine (State.admCreate_kept _ _ _ ?_).trans ?_ | intro _)

theorem execDestroyEq_kept (x0 : Nat) (s : State) : keptO (execDestroyEq x0 s) s.kept = s.kept := by
  unfold execDestroyEq
  repeat' (first | simp only [kept_rules] | with_reducible refine (State.admDestroy_kept _ _ _ _ _ _ ?_).trans ?_ | intro _)

theorem execBindAdminCq_kept (x0 : Nat) (s : State) : keptO (execBindAdminCq x0 s) s.kept = s.kept := by
  unfold execBindAdminCq
  rw [ok_eq, keptO_next]
  exact State.admRun_kept _ _ _ _ _ _ (fun c => State.admOk_kept { s with cqs := _ } _ _)

theorem execCreateSrq_kept (x0 : Nat) (s : State) : keptO (execCreateSrq x0 s) s.kept = s.kept := by
  unfold execCreateSrq
  repeat' (first | simp only [kept_rules] | with_reducible refine (State.admRun_kept _ _ _ _ _ _ ?_).trans ?_ | with_reducible refine (State.admCreate_kept _ _ _ ?_).trans ?_ | intro _)

theorem execDestroySrq_kept (x0 : Nat) (s : State) : keptO (execDestroySrq x0 s) s.kept = s.kept := by
  unfold execDestroySrq
  repeat' (first | simp only [kept_rules, State.clearMatching_kept, State.dropReads_kept] | with_reducible refine (State.admDestroy_kept _ _ _ _ _ _ ?_).trans ?_ | intro _)

theorem State.freshQpn_kept (s : State) (x1 : Nat) (x2 : Bool) : (State.freshQpn s x1 x2).2.kept = s.kept := by
  unfold State.freshQpn
  simp only [State.choose_kept]

theorem State.freshQpn_cases {s : State} {x1 : Nat} {x2 : Bool} {y0 : Option Nat} {t : State} (h : (State.freshQpn s x1 x2) = (y0, t)) : t.kept = s.kept := by
  have hk := State.freshQpn_kept s x1 x2; rw [h] at hk; exact hk

theorem execCreateQp_kept (x0 : Nat) (s : State) : keptO (execCreateQp x0 s) s.kept = s.kept := by
  unfold execCreateQp
  repeat' (first | simp only [kept_rules, State.admAbort_kept, State.admDone_kept, State.makeCtx_kept] | split | with_reducible refine (State.freshQpn_cases (by assumption)).trans ?_ | with_reducible refine (State.admRun_kept _ _ _ _ _ _ ?_).trans ?_ | intro _)

theorem State.loadCt_kept (s : State) (x1 : Nat) (x2 : Qp) (x3 : BitVec 32) (x4 : BitVec 32) : (State.loadCt s x1 x2 x3 x4).kept = s.kept := by
  unfold State.loadCt
  simp only [kept_rules, State.modCtx_kept, State.wakeCtx_kept]

theorem execModifyQp_kept (x0 : Nat) (s : State) : keptO (execModifyQp x0 s) s.kept = s.kept := by
  unfold execModifyQp
  repeat' (first | simp only [kept_rules, State.admOk_kept, State.advanceQp_kept, State.loadCt_kept, State.modQp_kept, State.qpError_kept] | split | with_reducible refine (State.admRun_kept _ _ _ _ _ _ ?_).trans ?_ | intro _)

theorem execDestroyQp_kept (x0 : Nat) (s : State) : keptO (execDestroyQp x0 s) s.kept = s.kept := by
  unfold execDestroyQp
  repeat' (first | simp only [kept_rules, State.admWait_kept, State.advanceQp_kept, State.qpError_kept] | split | with_reducible refine (State.admRun_kept _ _ _ _ _ _ ?_).trans ?_ | intro _)

theorem State.recallSq_kept (s : State) (x1 : Nat) (x2 : Qp) : (State.recallSq s x1 x2).kept = s.kept := by
  unfold State.recallSq
  simp only [kept_rules, State.admDone_kept, State.dropReads_kept, State.modSq_kept, State.unreserve_kept]

theorem State.recallRq_kept (s : State) (x1 : Nat) (x2 : Qp) (x3 : Rq) : (State.recallRq s x1 x2 x3).kept = s.kept := by
  unfold State.recallRq
  simp only [State.admDone_kept, State.dropReads_kept, State.modRq_kept]

theorem execRecall_kept (x0 : Nat) (s : State) : keptO (execRecall x0 s) s.kept = s.kept := by
  unfold execRecall
  repeat' (first | simp only [kept_rules, State.admWait_kept, State.queueCommand_kept, State.recallRq_kept, State.recallSq_kept] | split | with_reducible refine (State.admRun_kept _ _ _ _ _ _ ?_).trans ?_ | intro _)

theorem execQueueAbort_kept (x0 : Nat) (s : State) : keptO (execQueueAbort x0 s) s.kept = s.kept := by
  unfold execQueueAbort
  repeat' (first | simp only [kept_rules, State.admWait_kept, State.advanceQp_kept] | split | with_reducible refine (State.admRun_kept _ _ _ _ _ _ ?_).trans ?_ | intro _)

theorem State.admWrite_kept (s : State) (x1 : Nat) (x2 : Nat) (x3 : Bytes) : (State.admWrite s x1 x2 x3).kept = s.kept := by
  unfold State.admWrite
  simp only [State.hostWrite_kept]

theorem execQueryQueue_kept (x0 : Nat) (s : State) : keptO (execQueryQueue x0 s) s.kept = s.kept := by
  unfold execQueryQueue
  repeat' (first | simp only [kept_rules, State.admAbort_kept, State.admOk_kept, State.admWrite_kept] | split | with_reducible refine (State.admRun_kept _ _ _ _ _ _ ?_).trans ?_ | intro _)

theorem execCreatePd_kept (x0 : Nat) (s : State) : keptO (execCreatePd x0 s) s.kept = s.kept := by
  unfold execCreatePd
  repeat' (first | simp only [kept_rules, State.admAbort_kept, State.admOk_kept, State.setFn_kept] | split | with_reducible refine (State.choose_cases (by assumption)).trans ?_ | with_reducible refine (State.admRun_kept _ _ _ _ _ _ ?_).trans ?_ | intro _)

theorem execDestroyPd_kept (x0 : Nat) (s : State) : keptO (execDestroyPd x0 s) s.kept = s.kept := by
  unfold execDestroyPd
  repeat' (first | simp only [kept_rules, State.admOk_kept, State.setFn_kept] | with_reducible refine (State.admRun_kept _ _ _ _ _ _ ?_).trans ?_ | intro _)

theorem State.newKey_kept (q : List Instr) (s : State) (x1 : Key) (hq : Held q s.kept) : HeldP q (State.newKey s x1) := by
  unfold State.newKey
  split
  · trivial
  · rename_i h
    have h1 := State.choose_cases h
    split
    · trivial
    · rename_i h2
      have h3 := (State.choose_cases h2).trans h1
      rw [← h3] at hq
      exact ⟨hq.1, hq.2.1, hq.2.2⟩

theorem State.newKey_cases {q : List Instr} {s : State} {x1 : Key} {y : Nat × State} (hq : Held q s.kept) (h : (State.newKey s x1) = some y) : Held q y.2.kept := by
  have hk := State.newKey_kept q s x1 hq; rw [h] at hk; exact hk

theorem State.admKey_kept (q : List Instr) (s : State) (x1 : Nat) (x2 : Nat) (x3 : Bool) (x4 : State → Nat → State) (hx4 : ∀ y0 y1, Held q y0.kept → Held q (x4 y0 y1).kept) (hq : Held q s.kept) : Held q (State.admKey s x1 x2 x3 x4).kept := by
  unfold State.admKey
  repeat' (first | simp only [State.admAbort_kept, State.admOk_kept, State.admWrite_kept, hq] | split | with_reducible refine hx4 _ _ ?_ | with_reducible refine State.newKey_cases ?_ (by assumption))

theorem execRegisterRegion_kept (q : List Instr) (x0 : Nat) (s : State) (hq : Held q s.kept) : HeldO q (execRegisterRegion x0 s) := by
  unfold execRegisterRegion
  repeat' (first | simp only [State.admWait_kept, State.hostRead_kept, held_rules] | split | with_reducible assumption | with_reducible refine State.admKey_kept _ _ _ _ _ _ ?_ ?_ | with_reducible refine State.admRun_held _ _ _ _ _ _ _ ?_ ?_ | intro _)

theorem State.takePageList_kept (q : List Instr) (s : State) (x1 : Nat) (x2 : Bytes) (hq : Held q s.kept) : Held q (State.takePageList s x1 x2).kept := by
  unfold State.takePageList
  repeat' (first | simp only [State.admAbort_kept, State.loadTlb_kept] | split | with_reducible assumption | with_reducible refine State.admKey_kept _ _ _ _ _ _ ?_ ?_ | with_reducible refine foldl_held _ _ _ ?_ _ ?_ | intro _)

theorem State.failPageList_kept (s : State) (x1 : Nat) : (State.failPageList s x1).kept = s.kept := by
  unfold State.failPageList
  split <;> simp only [kept_rules, State.admAbort_kept]

theorem execCreateAsk_kept (q : List Instr) (x0 : Nat) (s : State) (hq : Held q s.kept) : HeldO q (execCreateAsk x0 s) := by
  unfold execCreateAsk
  repeat' (first | simp only [held_rules] | with_reducible assumption | with_reducible refine State.admKey_kept _ _ _ _ _ _ ?_ ?_ | with_reducible refine State.admRun_held _ _ _ _ _ _ _ ?_ ?_ | intro _)

theorem State.removeKey_kept (q : List Instr) (s : State) (x1 : Nat) (x2 : Nat) (hq : Held q s.kept) : Held q (State.removeKey s x1 x2).kept := by
  exact ⟨hq.1, hq.2.1, hq.2.2⟩

theorem State.settleKey_kept (q : List Instr) (s : State) (x1 : Nat) (hq : Held q s.kept) : Held q (State.settleKey s x1).kept := by
  unfold State.settleKey
  repeat' (first | simp only [State.admOk_kept, hq] | split | with_reducible refine State.removeKey_kept _ _ _ _ ?_)

theorem execDestroyKey_kept (x0 : Nat) (s : State) : keptO (execDestroyKey x0 s) s.kept = s.kept := by
  unfold execDestroyKey
  repeat' (first | simp only [kept_rules, State.admWait_kept] | with_reducible refine (State.admRun_kept _ _ _ _ _ _ ?_).trans ?_ | intro _)

theorem execDestroyKeyComplete_kept (q : List Instr) (x0 : Nat) (s : State) (hq : Held q s.kept) : HeldO q (execDestroyKeyComplete x0 s) := by
  unfold execDestroyKeyComplete
  repeat' (first | simp only [held_rules, hq] | with_reducible refine State.settleKey_kept _ _ _ ?_)

theorem State.invalidateRange_kept (q : List Instr) (s : State) (x1 : Nat) (x2 : Nat) (hq : Held q s.kept) : Held q (State.invalidateRange s x1 x2).kept := by
  unfold State.invalidateRange
  repeat' (first | simp only [kept_rules, State.dropMiss_kept, State.unbenchMiss_kept] | with_reducible assumption | with_reducible refine State.resume_kept _ _ _ ?_ | with_reducible refine foldl_held _ _ _ ?_ _ ?_ | intro _)

theorem execInvalidate_kept (q : List Instr) (x0 : Nat) (s : State) (hq : Held q s.kept) : HeldO q (execInvalidate x0 s) := by
  exact State.admRun_held q s x0 _ _ _ _ (fun c => State.invalidateRange_kept q _ _ _ (by rw [State.admWait_kept]; exact hq)) hq

theorem execInvalidateComplete_kept (x0 : Nat) (s : State) : keptO (execInvalidateComplete x0 s) s.kept = s.kept := by
  unfold execInvalidateComplete
  split <;> simp only [kept_rules, State.admOk_kept]

theorem execCreateMissQueue_kept (x0 : Nat) (s : State) : keptO (execCreateMissQueue x0 s) s.kept = s.kept := by
  unfold execCreateMissQueue
  repeat' (first | simp only [kept_rules, State.admAbort_kept, State.admOk_kept, State.setFn_kept] | split | with_reducible refine (State.freshHandle_cases (by assumption)).trans ?_ | with_reducible refine (State.admRun_kept _ _ _ _ _ _ ?_).trans ?_ | intro _)

theorem execDestroyMissQueue_kept (x0 : Nat) (s : State) : keptO (execDestroyMissQueue x0 s) s.kept = s.kept := by
  unfold execDestroyMissQueue
  repeat' (first | simp only [kept_rules, State.admOk_kept, State.dropReads_kept, State.setFn_kept] | with_reducible refine (State.admRun_kept _ _ _ _ _ _ ?_).trans ?_ | intro _)

theorem execCreateTree_kept (x0 : Nat) (s : State) : keptO (execCreateTree x0 s) s.kept = s.kept := by
  unfold execCreateTree
  repeat' (first | simp only [kept_rules, State.admOk_kept, State.installTree_kept] | with_reducible refine (State.admRun_kept _ _ _ _ _ _ ?_).trans ?_ | intro _)

theorem execDestroyTree_kept (x0 : Nat) (s : State) : keptO (execDestroyTree x0 s) s.kept = s.kept := by
  unfold execDestroyTree
  repeat' (first | simp only [kept_rules, State.admOk_kept, State.removeTree_kept] | with_reducible refine (State.admRun_kept _ _ _ _ _ _ ?_).trans ?_ | intro _)

theorem execReplaceTree_kept (x0 : Nat) (s : State) : keptO (execReplaceTree x0 s) s.kept = s.kept := by
  unfold execReplaceTree
  repeat' (first | simp only [kept_rules, State.admOk_kept, State.installTree_kept] | with_reducible refine (State.admRun_kept _ _ _ _ _ _ ?_).trans ?_ | intro _)

theorem execPorterBind_kept (q : List Instr) (x0 : Nat) (s : State) (hq : Held q s.kept) : HeldO q (execPorterBind x0 s) := by
  unfold execPorterBind
  repeat' (first | simp only [State.admAbort_kept, State.admOk_kept, State.modChan_kept, held_rules, hq] | split | with_reducible refine State.setParam_kept _ _ _ _ ?_ | with_reducible refine State.admRun_held _ _ _ _ _ _ _ ?_ ?_ | rw [State.choose_cases (by assumption)] | intro _)

theorem State.chanRun_kept (s : State) (x1 : Nat) (x2 : Nat) (x3 : Channel → Bool) (x4 : Nat → Channel → State) (hx4 : ∀ y0 y1, (x4 y0 y1).kept = s.kept) : (State.chanRun s x1 x2 x3 x4).kept = s.kept := by
  unfold State.chanRun
  repeat' (first | simp only [hx4] | with_reducible refine (State.admRun_kept _ _ _ _ _ _ ?_).trans ?_ | intro _)

theorem execPorterUnbind_kept (x0 : Nat) (s : State) : keptO (execPorterUnbind x0 s) s.kept = s.kept := by
  unfold execPorterUnbind
  repeat' (first | simp only [kept_rules, State.admOk_kept, State.dropReads_kept] | with_reducible refine (State.chanRun_kept _ _ _ _ _ ?_).trans ?_ | intro _)

theorem State.pauseChan_kept (s : State) (x1 : Nat) (x2 : Nat) (x3 : Bool) : (State.pauseChan s x1 x2 x3).kept = s.kept := by
  unfold State.pauseChan
  simp only [State.admWait_kept, State.dropReads_kept, State.modChan_kept, State.settlePause_kept]

theorem execPorterPause_kept (x0 : Nat) (s : State) : keptO (execPorterPause x0 s) s.kept = s.kept := by
  unfold execPorterPause
  repeat' (first | simp only [kept_rules, State.admOk_kept, State.pauseChan_kept] | with_reducible refine (State.chanRun_kept _ _ _ _ _ ?_).trans ?_ | intro _)

theorem execPorterDrain_kept (x0 : Nat) (s : State) : keptO (execPorterDrain x0 s) s.kept = s.kept := by
  unfold execPorterDrain
  repeat' (first | simp only [kept_rules, State.admOk_kept, State.admWait_kept, State.modChan_kept, State.settleDrain_kept] | with_reducible refine (State.chanRun_kept _ _ _ _ _ ?_).trans ?_ | intro _)

theorem execPorterResume_kept (x0 : Nat) (s : State) : keptO (execPorterResume x0 s) s.kept = s.kept := by
  unfold execPorterResume
  repeat' (first | simp only [kept_rules, State.admOk_kept, State.fetchDesc_kept, State.modChan_kept] | with_reducible refine (State.chanRun_kept _ _ _ _ _ ?_).trans ?_ | intro _)

theorem execPorterAbort_kept (x0 : Nat) (s : State) : keptO (execPorterAbort x0 s) s.kept = s.kept := by
  unfold execPorterAbort
  repeat' (first | simp only [kept_rules, State.abortChan_kept, State.admWait_kept, State.modChan_kept, State.pauseChan_kept] | with_reducible refine (State.chanRun_kept _ _ _ _ _ ?_).trans ?_ | intro _)

theorem State.payloadBack_kept (s : State) (x1 : Nat) (x2 : Nat) (x3 : Nat) (x4 : HostRead) (x5 : Answer) : (State.payloadBack s x1 x2 x3 x4 x5).kept = s.kept := by
  unfold State.payloadBack
  repeat' split
  all_goals simp only [State.localFail_kept, State.modMsg_kept, State.pump_kept, State.settleMsgs_kept]

theorem State.flushBack_kept (s : State) (x1 : Nat) (x2 : BitVec 32) (x3 : Answer) : (State.flushBack s x1 x2 x3).kept = s.kept := by
  unfold State.flushBack
  repeat' split
  all_goals simp only [State.afterReceived_kept, State.dropRx_kept, State.putRx_kept, State.sendSack_kept]

theorem State.atomicBack_kept (s : State) (x1 : Nat) (x2 : BitVec 32) (x3 : Nat) (x4 : Answer) : (State.atomicBack s x1 x2 x3 x4).kept = s.kept := by
  unfold State.atomicBack
  repeat' split
  all_goals simp only [State.dropRx_kept, State.sendReply_kept, State.sendSack_kept]

theorem State.restart_kept (s : State) (x1 : Nat) (x2 : Nat) : (State.restart s x1 x2).kept = s.kept := by
  unfold State.restart
  split <;> simp only [kept_rules, State.startOp_kept]

theorem State.serveContext_kept (s : State) (x1 : Nat) : (State.serveContext s x1).kept = s.kept := by
  unfold State.serveContext
  repeat' (first | simp only [kept_rules, State.restart_kept, State.unbench_kept] | with_reducible refine (foldl_kept _ _ ?_ _).trans ?_ | intro _)

theorem State.loseContext_kept (s : State) (x1 : Nat) (x2 : Ctx) (x3 : Nat) : (State.loseContext s x1 x2 x3).kept = s.kept := by
  unfold State.loseContext
  repeat' (first | simp only [State.drawInc_kept, State.dropTagged_kept, State.failSrqRecvs_kept, State.modCtx_kept, State.qpError_kept] | split | with_reducible refine (foldl_kept _ _ ?_ _).trans ?_ | intro _)

theorem State.contextBack_kept (s : State) (x1 : Nat) (x2 : Answer) : (State.contextBack s x1 x2).kept = s.kept := by
  unfold State.contextBack
  repeat' split
  all_goals simp only [State.loseContext_kept, State.modCtx_kept, State.serveContext_kept, State.unbench_kept]

theorem State.sweepContexts_kept (s : State) : (State.sweepContexts s).kept = s.kept := by
  unfold State.sweepContexts
  extract_lets s1 keys
  have h1 : s1.kept = s.kept := foldl_kept _ _ (fun t i => by rw [State.grantSlots_kept, State.grantSlots_kept]) s
  refine (foldl_kept _ _ (fun t k => ?_) s1).trans h1
  split
  · exact State.serveContext_kept _ _
  · rfl

theorem execSpillWritesIssued_kept (x0 : Nat) (s : State) : keptO (execSpillWritesIssued x0 s) s.kept = s.kept := by
  unfold execSpillWritesIssued
  repeat' split
  all_goals simp only [kept_rules, State.grantSlots_kept, State.modCtx_kept, State.sweepContexts_kept]

theorem State.failSrqFetch_kept (s : State) (x1 : Nat) (x2 : Nat) : (State.failSrqFetch s x1 x2).kept = s.kept := by
  unfold State.failSrqFetch
  split <;> simp only [State.draw_kept, State.fetchSrq_kept, State.later_kept, State.modSrq_kept, State.owe_kept, State.shadowWrite_kept, State.srqLow_kept]

theorem State.collBack_kept (s : State) (x1 : Nat) (x2 : BitVec 32) (x3 : Nat) (x4 : Nat) (x5 : HostRead) (x6 : Answer) : (State.collBack s x1 x2 x3 x4 x5 x6).kept = s.kept := by
  unfold State.collBack
  simp only [State.modMember_kept, State.wakeMember_kept]

theorem State.serve_kept (q : List Instr) (s : State) (x1 : HostRead) (x2 : Answer) (hq : Held q s.kept) : Held q (State.serve s x1 x2).kept := by
  unfold State.serve
  repeat' (first | simp only [State.atomicBack_kept, State.collBack_kept, State.contextBack_kept, State.copyBack_kept, State.failAdminFetch_kept, State.failDesc_kept, State.failFill_kept, State.failPageList_kept, State.failRqFetch_kept, State.failSqFetch_kept, State.failSrqFetch_kept, State.flushBack_kept, State.groupFlushBack_kept, State.payloadBack_kept, State.takeAdmin_kept, State.takeDesc_kept, State.takeFill_kept, State.takeRqEntry_kept, State.takeSqEntry_kept, State.takeSrqEntry_kept, hq] | split | with_reducible refine State.walkBack_kept _ _ _ _ ?_ | with_reducible refine State.casBack_kept _ _ _ _ ?_ | with_reducible refine State.takePageList_kept _ _ _ _ ?_ | with_reducible refine State.pieceBack_kept _ _ _ _ _ ?_)

theorem State.freezeRun_kept (q : List Instr) (s : State) (x1 : HPort) (x2 : Answer) (hq : Held q s.kept) : Held q (State.freezeRun s x1 x2).kept := by
  unfold State.freezeRun
  repeat' (first | simp only [hq] | split | with_reducible refine State.freezePort_kept _ _ _ _ ?_)

theorem State.noteAnswer_kept (s : State) (x1 : Nat) (x2 : HostRead) (x3 : Answer) : (State.noteAnswer s x1 x2 x3).kept = s.kept := by
  unfold State.noteAnswer
  split <;> simp only [kept_rules, State.count_kept, State.tunePort_kept]

theorem State.answerRead_kept (q : List Instr) (s : State) (x1 : Nat) (x2 : HostRead) (x3 : Answer) (hq : Held q s.kept) : Held q (State.answerRead s x1 x2 x3).kept := by
  unfold State.answerRead
  repeat' (first | simp only [State.noteAnswer_kept, hq] | with_reducible refine State.freezeRun_kept _ _ _ _ ?_ | with_reducible refine State.serve_kept _ _ _ _ ?_)

theorem State.readRow_kept (q : List Instr) (s : State) (x1 : Nat) (x2 : ReadFor → Bool) (x3 : Answer) (hq : Held q s.kept) : Held q (State.readRow s x1 x2 x3).kept := by
  unfold State.readRow
  repeat' (first | simp only [hq] | split | with_reducible refine State.answerRead_kept _ _ _ _ _ ?_)

theorem execHostReadComplete_kept (q : List Instr) (x0 : Nat) (x1 : Bytes) (x2 : Bool) (s : State) (hq : Held q s.kept) : HeldO q (execHostReadComplete x0 x1 x2 s) := by
  unfold execHostReadComplete
  repeat' (first | simp only [held_rules, hq] | with_reducible refine State.readRow_kept _ _ _ _ _ ?_)

theorem execHostReadError_kept (q : List Instr) (x0 : Nat) (s : State) (hq : Held q s.kept) : HeldO q (execHostReadError x0 s) := by
  unfold execHostReadError
  repeat' (first | simp only [held_rules, hq] | with_reducible refine State.readRow_kept _ _ _ _ _ ?_)

theorem execCompletionTimeout_kept (q : List Instr) (x0 : Nat) (s : State) (hq : Held q s.kept) : HeldO q (execCompletionTimeout x0 s) := by
  unfold execCompletionTimeout
  repeat' (first | simp only [held_rules, hq] | split | with_reducible refine State.readRow_kept _ _ _ _ _ ?_)

theorem execPageListReadComplete_kept (q : List Instr) (x0 : Nat) (x1 : Answer) (s : State) (hq : Held q s.kept) : HeldO q (execPageListReadComplete x0 x1 s) := by
  unfold execPageListReadComplete
  repeat' (first | simp only [held_rules, hq] | with_reducible refine State.readRow_kept _ _ _ _ _ ?_)

theorem execWalkReadComplete_kept (q : List Instr) (x0 : Nat) (x1 : Answer) (s : State) (hq : Held q s.kept) : HeldO q (execWalkReadComplete x0 x1 s) := by
  unfold execWalkReadComplete
  repeat' (first | simp only [held_rules, hq] | with_reducible refine State.readRow_kept _ _ _ _ _ ?_)

theorem execWalkCasComplete_kept (q : List Instr) (x0 : Nat) (x1 : Answer) (s : State) (hq : Held q s.kept) : HeldO q (execWalkCasComplete x0 x1 s) := by
  unfold execWalkCasComplete
  repeat' (first | simp only [held_rules, hq] | with_reducible refine State.readRow_kept _ _ _ _ _ ?_)

theorem execContextFetchComplete_kept (q : List Instr) (x0 : Nat) (x1 : Answer) (s : State) (hq : Held q s.kept) : HeldO q (execContextFetchComplete x0 x1 s) := by
  unfold execContextFetchComplete
  repeat' (first | simp only [held_rules, hq] | with_reducible refine State.readRow_kept _ _ _ _ _ ?_)

theorem execFlushReadComplete_kept (q : List Instr) (x0 : Nat) (x1 : Answer) (s : State) (hq : Held q s.kept) : HeldO q (execFlushReadComplete x0 x1 s) := by
  unfold execFlushReadComplete
  repeat' (first | simp only [held_rules, hq] | with_reducible refine State.readRow_kept _ _ _ _ _ ?_)

theorem execTargetAtomicComplete_kept (q : List Instr) (x0 : Nat) (x1 : Answer) (s : State) (hq : Held q s.kept) : HeldO q (execTargetAtomicComplete x0 x1 s) := by
  unfold execTargetAtomicComplete
  repeat' (first | simp only [held_rules, hq] | with_reducible refine State.readRow_kept _ _ _ _ _ ?_)

theorem State.checked_kept (s : State) (x1 : Packet) (x2 : State → State) (hx2 : ∀ y0, (x2 y0).kept = y0.kept) : (State.checked s x1 x2).kept = s.kept := by
  unfold State.checked
  split <;> simp only [kept_rules, State.count_kept, State.occur_kept, hx2]

theorem State.checked_held (q : List Instr) (s : State) (x1 : Packet) (x2 : State → State) (hx2 : ∀ y0, Held q y0.kept → Held q (x2 y0).kept) (hq : Held q s.kept) : Held q (State.checked s x1 x2).kept := by
  unfold State.checked
  repeat' (first | simp only [kept_rules, State.count_kept, State.occur_kept, hq] | split | with_reducible refine hx2 _ ?_)

theorem State.packetRow_kept (s : State) (x1 : Packet) (x2 : Nat) (x3 : State → State) (hx3 : ∀ y0, (x3 y0).kept = y0.kept) : keptO (State.packetRow s x1 x2 x3) s.kept = s.kept := by
  unfold State.packetRow
  repeat' (first | simp only [kept_rules, hx3] | split | with_reducible refine (State.checked_kept _ _ _ ?_).trans ?_ | intro _)

theorem State.packetRow_held (q : List Instr) (s : State) (x1 : Packet) (x2 : Nat) (x3 : State → State) (hx3 : ∀ y0, Held q y0.kept → Held q (x3 y0).kept) (hq : Held q s.kept) : HeldO q (State.packetRow s x1 x2 x3) := by
  unfold State.packetRow
  repeat' (first | simp only [held_rules] | split | with_reducible assumption | with_reducible refine State.checked_held _ _ _ _ ?_ ?_)

theorem State.arrivalRow_kept (s : State) (x1 : Packet) (x2 : Nat) : keptO (State.arrivalRow s x1 x2) s.kept = s.kept := by
  unfold State.arrivalRow
  repeat' (first | simp only [State.arrive_kept] | with_reducible refine (State.packetRow_kept _ _ _ _ ?_).trans ?_ | intro _)

theorem execSendPacket_kept (x0 : Packet) (s : State) : keptO (execSendPacket x0 s) s.kept = s.kept := by
  unfold execSendPacket
  simp only [State.arrivalRow_kept]

theorem execPutPacket_kept (x0 : Packet) (s : State) : keptO (execPutPacket x0 s) s.kept = s.kept := by
  unfold execPutPacket
  simp only [State.arrivalRow_kept]

theorem execPutFlagData_kept (x0 : Packet) (s : State) : keptO (execPutFlagData x0 s) s.kept = s.kept := by
  unfold execPutFlagData
  simp only [State.arrivalRow_kept]

theorem execGetReq_kept (x0 : Packet) (s : State) : keptO (execGetReq x0 s) s.kept = s.kept := by
  unfold execGetReq
  simp only [State.arrivalRow_kept]

theorem execAtomicReq_kept (x0 : Packet) (s : State) : keptO (execAtomicReq x0 s) s.kept = s.kept := by
  unfold execAtomicReq
  simp only [State.arrivalRow_kept]

theorem execDurablePutPacket_kept (x0 : Packet) (s : State) : keptO (execDurablePutPacket x0 s) s.kept = s.kept := by
  unfold execDurablePutPacket
  simp only [State.arrivalRow_kept]

theorem execReplDurablePutPacket_kept (x0 : Packet) (s : State) : keptO (execReplDurablePutPacket x0 s) s.kept = s.kept := by
  unfold execReplDurablePutPacket
  simp only [State.arrivalRow_kept]

theorem execMcastPutPacket_kept (x0 : Packet) (s : State) : keptO (execMcastPutPacket x0 s) s.kept = s.kept := by
  unfold execMcastPutPacket
  simp only [State.arrivalRow_kept]

theorem execGetResp_kept (x0 : Packet) (s : State) : keptO (execGetResp x0 s) s.kept = s.kept := by
  unfold execGetResp
  simp only [State.arrivalRow_kept]

theorem execAtomicResp_kept (x0 : Packet) (s : State) : keptO (execAtomicResp x0 s) s.kept = s.kept := by
  unfold execAtomicResp
  simp only [State.arrivalRow_kept]

theorem execFlag_kept (x0 : Packet) (s : State) : keptO (execFlag x0 s) s.kept = s.kept := by
  unfold execFlag
  simp only [State.arrivalRow_kept]

theorem execDurableConf_kept (x0 : Packet) (s : State) : keptO (execDurableConf x0 s) s.kept = s.kept := by
  unfold execDurableConf
  simp only [State.arrivalRow_kept]

theorem execMemberReply_kept (x0 : Packet) (s : State) : keptO (execMemberReply x0 s) s.kept = s.kept := by
  unfold execMemberReply
  repeat' (first | simp only [State.groupReply_kept] | with_reducible refine (State.packetRow_kept _ _ _ _ ?_).trans ?_ | intro _)

theorem execTsendEager_kept (x0 : Packet) (s : State) : keptO (execTsendEager x0 s) s.kept = s.kept := by
  unfold execTsendEager
  simp only [State.arrivalRow_kept]

theorem execTsendRts_kept (x0 : Packet) (s : State) : keptO (execTsendRts x0 s) s.kept = s.kept := by
  unfold execTsendRts
  simp only [State.arrivalRow_kept]

theorem execCts_kept (x0 : Packet) (s : State) : keptO (execCts x0 s) s.kept = s.kept := by
  unfold execCts
  simp only [State.arrivalRow_kept]

theorem execRndvData_kept (x0 : Packet) (s : State) : keptO (execRndvData x0 s) s.kept = s.kept := by
  unfold execRndvData
  simp only [State.arrivalRow_kept]

theorem State.edgeArrives_kept (s : State) (x1 : Packet) (x2 : State → State) (x3 : Tree → State → State) (hx2 : ∀ y0, (x2 y0).kept = y0.kept) (hx3 : ∀ y0 y1, (x3 y0 y1).kept = y1.kept) : (State.edgeArrives s x1 x2 x3).kept = s.kept := by
  unfold State.edgeArrives
  repeat' (first | simp only [State.breakTree_kept, State.count_kept, State.hearEdge_kept, hx2, hx3] | split)

theorem State.segArrives_kept (s : State) (x1 : Packet) (x2 : Tree) : (State.segArrives s x1 x2).kept = s.kept := by
  unfold State.segArrives
  repeat' (first | simp only [State.admitSeg_kept, State.count_kept, State.sendSack_kept, State.settleVerdict_kept] | split)

theorem execCollSeg_kept (x0 : Packet) (s : State) : keptO (execCollSeg x0 s) s.kept = s.kept := by
  unfold execCollSeg
  repeat' (first | simp only [State.answerNoCtx_kept, State.segArrives_kept] | split | with_reducible refine (State.packetRow_kept _ _ _ _ ?_).trans ?_ | with_reducible refine (State.edgeArrives_kept _ _ _ _ ?_ ?_).trans ?_ | intro _)

theorem execCollHeartbeat_kept (x0 : Packet) (s : State) : keptO (execCollHeartbeat x0 s) s.kept = s.kept := by
  unfold execCollHeartbeat
  repeat' (first | simp only | with_reducible refine (State.packetRow_kept _ _ _ _ ?_).trans ?_ | with_reducible refine (State.edgeArrives_kept _ _ _ _ ?_ ?_).trans ?_ | intro _)

theorem execCollBreak_kept (x0 : Packet) (s : State) : keptO (execCollBreak x0 s) s.kept = s.kept := by
  unfold execCollBreak
  repeat' (first | simp only [State.breakTree_kept] | with_reducible refine (State.packetRow_kept _ _ _ _ ?_).trans ?_ | with_reducible refine (State.edgeArrives_kept _ _ _ _ ?_ ?_).trans ?_ | intro _)

theorem State.ctsNaked_kept (s : State) (x1 : Sack) (x2 : TxMsg) : (State.ctsNaked s x1 x2).kept = s.kept := by
  unfold State.ctsNaked
  repeat' (first | simp only [State.finishMatched_kept] | split)

theorem State.sackArrives_kept (s : State) (x1 : Packet) : (State.sackArrives s x1).kept = s.kept := by
  unfold State.sackArrives
  repeat' (first | simp only [State.applySack_kept, State.count_kept, State.ctsNaked_kept, State.sweepContexts_kept] | split)

theorem State.sackRow_kept (s : State) (x1 : Packet) (x2 : Nat) : keptO (State.sackRow s x1 x2) s.kept = s.kept := by
  unfold State.sackRow
  repeat' (first | simp only [State.count_kept, State.sackArrives_kept, ok_kept] | split | with_reducible refine (State.packetRow_kept _ _ _ _ ?_).trans ?_ | with_reducible refine (State.edgeArrives_kept _ _ _ _ ?_ ?_).trans ?_ | intro _)

theorem execAck_kept (x0 : Packet) (s : State) : keptO (execAck x0 s) s.kept = s.kept := by
  unfold execAck
  simp only [State.sackRow_kept]

theorem execNak_kept (x0 : Packet) (s : State) : keptO (execNak x0 s) s.kept = s.kept := by
  unfold execNak
  simp only [State.sackRow_kept]

theorem execRefuse_kept (x0 : Packet) (s : State) : keptO (execRefuse x0 s) s.kept = s.kept := by
  unfold execRefuse
  simp only [State.sackRow_kept]

theorem State.retransmit_kept (s : State) (x1 : Nat) (x2 : Ctx) : (State.retransmit s x1 x2).kept = s.kept := by
  unfold State.retransmit
  simp only [kept_rules, State.breakTree_kept, State.failContext_kept, State.modCtx_kept, State.resendAll_kept]

theorem execRetransmitTimerExpiry_kept (x0 : Nat) (s : State) : keptO (execRetransmitTimerExpiry x0 s) s.kept = s.kept := by
  unfold execRetransmitTimerExpiry
  repeat' split
  all_goals simp only [kept_rules, State.groupTimer_kept, State.retransmit_kept, State.sweepContexts_kept]

theorem execRefusalBackoffExpiry_kept (x0 : Nat) (x1 : BitVec 32) (s : State) : keptO (execRefusalBackoffExpiry x0 x1 s) s.kept = s.kept := by
  unfold execRefusalBackoffExpiry
  split <;> simp only [kept_rules, State.resend_kept]

theorem State.resendFinal_kept (s : State) (x1 : Nat) (x2 : Ctx) (x3 : TxMsg) : (State.resendFinal s x1 x2 x3).kept = s.kept := by
  unfold State.resendFinal
  repeat' split
  all_goals simp only [kept_rules, State.count_kept, State.failContext_kept, State.finishWqe_kept, State.modCtx_kept, State.modMsg_kept, State.sendPacket_kept]

theorem execDurableConfTimeout_kept (x0 : Nat) (x1 : BitVec 32) (s : State) : keptO (execDurableConfTimeout x0 x1 s) s.kept = s.kept := by
  unfold execDurableConfTimeout
  repeat' split
  all_goals simp only [kept_rules, State.resendFinal_kept]

theorem execPeerGoneExpiry_kept (x0 : Nat) (s : State) : keptO (execPeerGoneExpiry x0 s) s.kept = s.kept := by
  unfold execPeerGoneExpiry
  repeat' split
  all_goals simp only [kept_rules, State.failContext_kept, State.sweepContexts_kept]

theorem execGroupDeadlineExpiry_kept (x0 : Nat) (s : State) : keptO (execGroupDeadlineExpiry x0 s) s.kept = s.kept := by
  unfold execGroupDeadlineExpiry
  simp only [kept_rules, State.groupDeadline_kept]

theorem execMsnHoldExpiry_kept (x0 : Nat) (x1 : Nat) (x2 : Nat) (s : State) : keptO (execMsnHoldExpiry x0 x1 x2 s) s.kept = s.kept := by
  unfold execMsnHoldExpiry
  repeat' (first | simp only [kept_rules, State.count_kept, State.modSrq_kept, State.release_kept] | split)

theorem State.ctsLate_kept (s : State) (x1 : Nat) (x2 : TxMsg) : (State.ctsLate s x1 x2).kept = s.kept := by
  unfold State.ctsLate
  split <;> simp only [kept_rules, State.finishWqe_kept, State.modMsg_kept]

theorem execCtsWaitExpiry_kept (x0 : Nat) (s : State) : keptO (execCtsWaitExpiry x0 s) s.kept = s.kept := by
  unfold execCtsWaitExpiry
  repeat' (first | simp only [kept_rules, State.ctsLate_kept] | split | with_reducible refine (foldl_kept _ _ ?_ _).trans ?_ | intro _)

theorem execHeartbeatDue_kept (x0 : Nat) (x1 : Nat) (s : State) : keptO (execHeartbeatDue x0 x1 s) s.kept = s.kept := by
  unfold execHeartbeatDue
  repeat' split
  all_goals simp only [kept_rules, State.sendPacket_kept]

theorem execEdgeDead_kept (x0 : Nat) (x1 : Nat) (s : State) : keptO (execEdgeDead x0 x1 s) s.kept = s.kept := by
  unfold execEdgeDead
  repeat' split
  all_goals simp only [kept_rules, State.breakTree_kept]

theorem State.cqRoom_kept (s : State) (x1 : Nat) (x2 : Nat) : (State.cqRoom s x1 x2).kept = s.kept := by
  unfold State.cqRoom
  repeat' (first | simp only [kept_rules, State.advanceQp_kept, State.fetchAdmin_kept, State.payOwed_kept, State.retryPost_kept, State.retryStreams_kept] | with_reducible refine (foldl_kept _ _ ?_ _).trans ?_ | intro _)

theorem State.ringCq_kept (s : State) (x1 : Nat) (x2 : Nat) (x3 : Nat) : (State.ringCq s x1 x2 x3).kept = s.kept := by
  unfold State.ringCq
  split <;> simp only [kept_rules, State.cqNotify_kept, State.cqRoom_kept]

theorem State.ringEq_kept (s : State) (x1 : Nat) (x2 : Nat) (x3 : Nat) : (State.ringEq s x1 x2 x3).kept = s.kept := by
  unfold State.ringEq
  split <;> simp only [kept_rules, State.drainMarks_kept]

theorem State.ringSq_kept (s : State) (x1 : Nat) (x2 : BitVec 16) : (State.ringSq s x1 x2).kept = s.kept := by
  unfold State.ringSq
  simp only [State.advanceQp_kept, State.modSq_kept]

theorem State.ringRq_kept (s : State) (x1 : Nat) (x2 : BitVec 16) : (State.ringRq s x1 x2).kept = s.kept := by
  unfold State.ringRq
  simp only [State.advanceQp_kept, State.modRq_kept]

theorem State.ring_kept (s : State) (x1 : Nat) (x2 : Nat) (x3 : Ring) : (State.ring s x1 x2 x3).kept = s.kept := by
  unfold State.ring
  split <;> simp only [State.fetchAdmin_kept, State.fetchDesc_kept, State.fetchFill_kept, State.fetchSrq_kept, State.modChan_kept, State.modSrq_kept, State.ringCq_kept, State.ringEq_kept, State.ringRq_kept, State.ringSq_kept, State.setFn_kept, State.srqLow_kept, State.writeMisses_kept]

theorem State.doorbell_kept (s : State) (x1 : Doorbell) : (State.doorbell s x1).kept = s.kept := by
  unfold State.doorbell
  repeat' (first | simp only [State.count_kept, State.emit_kept, State.ring_kept] | split)

theorem State.doorbellRow_kept (s : State) (x1 : Doorbell) (x2 : Ring → Bool) : keptO (State.doorbellRow s x1 x2) s.kept = s.kept := by
  unfold State.doorbellRow
  split <;> simp only [kept_rules, State.doorbell_kept]

theorem execSqDoorbell_kept (x0 : Doorbell) (s : State) : keptO (execSqDoorbell x0 s) s.kept = s.kept := by
  unfold execSqDoorbell
  simp only [State.doorbellRow_kept]

theorem execRqDoorbell_kept (x0 : Doorbell) (s : State) : keptO (execRqDoorbell x0 s) s.kept = s.kept := by
  unfold execRqDoorbell
  simp only [State.doorbellRow_kept]

theorem execSrqDoorbell_kept (x0 : Doorbell) (s : State) : keptO (execSrqDoorbell x0 s) s.kept = s.kept := by
  unfold execSrqDoorbell
  simp only [State.doorbellRow_kept]

theorem execCqDoorbell_kept (x0 : Doorbell) (s : State) : keptO (execCqDoorbell x0 s) s.kept = s.kept := by
  unfold execCqDoorbell
  simp only [State.doorbellRow_kept]

theorem execCqArm_kept (x0 : Doorbell) (s : State) : keptO (execCqArm x0 s) s.kept = s.kept := by
  unfold execCqArm
  simp only [State.doorbellRow_kept]

theorem execCqArmSolicited_kept (x0 : Doorbell) (s : State) : keptO (execCqArmSolicited x0 s) s.kept = s.kept := by
  unfold execCqArmSolicited
  simp only [State.doorbellRow_kept]

theorem execEqDoorbell_kept (x0 : Doorbell) (s : State) : keptO (execEqDoorbell x0 s) s.kept = s.kept := by
  unfold execEqDoorbell
  simp only [State.doorbellRow_kept]

theorem execAdminSqDoorbell_kept (x0 : Doorbell) (s : State) : keptO (execAdminSqDoorbell x0 s) s.kept = s.kept := by
  unfold execAdminSqDoorbell
  split <;> simp only [State.doorbellRow_kept, ok_kept]

theorem execAdminCqDoorbell_kept (x0 : Doorbell) (s : State) : keptO (execAdminCqDoorbell x0 s) s.kept = s.kept := by
  unfold execAdminCqDoorbell
  split <;> simp only [State.doorbellRow_kept, ok_kept]

theorem execMissRingDoorbell_kept (x0 : Doorbell) (s : State) : keptO (execMissRingDoorbell x0 s) s.kept = s.kept := by
  unfold execMissRingDoorbell
  simp only [State.doorbellRow_kept]

theorem execFillRingDoorbell_kept (x0 : Doorbell) (s : State) : keptO (execFillRingDoorbell x0 s) s.kept = s.kept := by
  unfold execFillRingDoorbell
  simp only [State.doorbellRow_kept]

theorem execPorterDoorbell_kept (x0 : Doorbell) (s : State) : keptO (execPorterDoorbell x0 s) s.kept = s.kept := by
  unfold execPorterDoorbell
  simp only [State.doorbellRow_kept]

theorem State.grantCq_kept (s : State) (x1 : Nat) (x2 : Nat) : (State.grantCq s x1 x2).kept = s.kept := by
  unfold State.grantCq
  repeat' (first | simp only [kept_rules, State.advanceQp_kept, State.modSq_kept, State.retryPost_kept, State.unreserve_kept] | split)

theorem execCqReservationGrant_kept (x0 : Nat) (x1 : Nat) (s : State) : keptO (execCqReservationGrant x0 x1 s) s.kept = s.kept := by
  unfold execCqReservationGrant
  simp only [kept_rules, State.grantCq_kept]

theorem execEqModerationExpiry_kept (x0 : Nat) (x1 : Nat) (s : State) : keptO (execEqModerationExpiry x0 x1 s) s.kept = s.kept := by
  unfold execEqModerationExpiry
  split <;> simp only [kept_rules, State.announce_kept]

theorem State.admCfg_kept (s : State) (x1 : Nat) (x2 : Nat) : (State.admCfg s x1 x2).kept = s.kept := by
  unfold State.admCfg
  simp only [kept_rules, State.adminOff_kept, State.setFn_kept]

theorem State.admCfgRow_kept (s : State) (x1 : Nat) (x2 : BitVec 32) (x3 : Bool) : keptO (State.admCfgRow s x1 x2 x3) s.kept = s.kept := by
  unfold State.admCfgRow
  split <;> simp only [kept_rules, State.admCfg_kept]

theorem execAdminEnable_kept (x0 : Nat) (x1 : BitVec 32) (s : State) : keptO (execAdminEnable x0 x1 s) s.kept = s.kept := by
  unfold execAdminEnable
  simp only [State.admCfgRow_kept]

theorem execAdminDisable_kept (x0 : Nat) (x1 : BitVec 32) (s : State) : keptO (execAdminDisable x0 x1 s) s.kept = s.kept := by
  unfold execAdminDisable
  simp only [State.admCfgRow_kept]

end Sys2Proof.Machine
end

