-- ==== Sys2Proof/Laws/KeptFabric.lean ====
section
/-!
SUPPORT. What the definitions of the Arcade, the Auction, links, lanes, time and flits leave as it is.
-/
set_option maxRecDepth 4096

namespace Sys2Proof.Machine

theorem State.modLink_kept (s : State) (x1 : Nat) (x2 : Link → Link) : (State.modLink s x1 x2).kept = s.kept := by
  unfold State.modLink
  simp only [kept_rules]

theorem State.cheapest_kept (s : State) (x1 : List Nat) (x2 : Nat) : (State.cheapest s x1 x2).2.kept = s.kept := by
  unfold State.cheapest
  simp only [kept_rules]

theorem State.bestVia_kept (s : State) (x1 : Packet) (x2 : List Nat) (x3 : Nat) (x4 : Option (Nat × Nat × Nat)) : (State.bestVia s x1 x2 x3 x4).2.kept = s.kept := by
  fun_induction State.bestVia s x1 x2 x3 x4
  all_goals repeat' (first | simp +zetaDelta only [*] | with_reducible refine (State.draw_cases (by assumption)).trans ?_)

theorem State.bestVia_cases {s : State} {x1 : Packet} {x2 : List Nat} {x3 : Nat} {x4 : Option (Nat × Nat × Nat)} {y0 : Option (Nat × Nat × Nat)} {t : State} (h : (State.bestVia s x1 x2 x3 x4) = (y0, t)) : t.kept = s.kept := by
  have hk := State.bestVia_kept s x1 x2 x3 x4; rw [h] at hk; exact hk

theorem State.chooseVia_kept (s : State) (x1 : Packet) (x2 : Nat) (x3 : List Nat) : (State.chooseVia s x1 x2 x3).2.kept = s.kept := by
  unfold State.chooseVia
  repeat' (first | simp only | split | with_reducible refine (State.bestVia_cases (by assumption)).trans ?_)

theorem State.chooseVia_cases {s : State} {x1 : Packet} {x2 : Nat} {x3 : List Nat} {y0 : Option Choice} {t : State} (h : (State.chooseVia s x1 x2 x3) = (y0, t)) : t.kept = s.kept := by
  have hk := State.chooseVia_kept s x1 x2 x3; rw [h] at hk; exact hk

theorem State.chooseDirect_kept (s : State) (x1 : Packet) (x2 : Nat) (x3 : List Nat) : (State.chooseDirect s x1 x2 x3).2.kept = s.kept := by
  unfold State.chooseDirect
  repeat' (first | simp only [State.cheapest_kept] | split)

theorem State.chooseOut_kept (s : State) (x1 : Packet) (x2 : Nat) : (State.chooseOut s x1 x2).2.kept = s.kept := by
  unfold State.chooseOut
  repeat' (first | simp only [State.chooseDirect_kept] | split | with_reducible refine (State.chooseVia_cases (by assumption)).trans ?_)

theorem State.chooseOut_cases {s : State} {x1 : Packet} {x2 : Nat} {y0 : Option Choice} {t : State} (h : (State.chooseOut s x1 x2) = (y0, t)) : t.kept = s.kept := by
  have hk := State.chooseOut_kept s x1 x2; rw [h] at hk; exact hk

theorem State.freeInput_kept (s : State) (x1 : InPkt) : (State.freeInput s x1).kept = s.kept := by
  unfold State.freeInput
  repeat' (first | simp only [kept_rules, State.modLink_kept] | split)

theorem State.settleInput_kept (s : State) (x1 : InPkt) : (State.settleInput s x1).kept = s.kept := by
  unfold State.settleInput
  simp only [kept_rules, State.freeInput_kept]

theorem State.wakeClass_kept (s : State) (x1 : Nat) (x2 : Nat) : (State.wakeClass s x1 x2).kept = s.kept := by
  unfold State.wakeClass
  simp only [kept_rules]

theorem State.markFor_kept (s : State) (x1 : Packet) (x2 : Nat) : (State.markFor s x1 x2).2.kept = s.kept := by
  unfold State.markFor
  split <;> simp only [State.count_kept]

theorem State.queueFor_kept (s : State) (x1 : InPkt) (x2 : Packet) (x3 : List Nat) : (State.queueFor s x1 x2 x3).kept = s.kept := by
  unfold State.queueFor
  repeat' (first | simp only [kept_rules, State.wakeClass_kept] | with_reducible refine (foldl_kept _ _ ?_ _).trans ?_ | intro _)

theorem State.dropInput_kept (s : State) (x1 : InPkt) (x2 : Nat) (x3 : Nat) : (State.dropInput s x1 x2 x3).kept = s.kept := by
  unfold State.dropInput
  simp only [State.count_kept, State.freeInput_kept]

theorem State.replicate_kept (s : State) (x1 : InPkt) : (State.replicate s x1).kept = s.kept := by
  unfold State.replicate
  repeat' (first | simp only [State.count_kept, State.dropInput_kept, State.freeInput_kept, State.queueFor_kept] | split | with_reducible refine (foldl_kept _ _ ?_ _).trans ?_ | intro _)

theorem State.directed_kept (s : State) (x1 : InPkt) : (State.directed s x1).kept = s.kept := by
  unfold State.directed
  simp only [kept_rules, State.dropInput_kept, State.queueFor_kept]

theorem State.route_kept (s : State) (x1 : InPkt) : (State.route s x1).kept = s.kept := by
  unfold State.route
  repeat' (first | simp only [State.directed_kept, State.dropInput_kept, State.markFor_kept, State.queueFor_kept, State.replicate_kept] | split | with_reducible refine (State.chooseOut_cases (by assumption)).trans ?_)

theorem State.routeBanked_kept (s : State) (x1 : InPkt) : (State.routeBanked s x1).kept = s.kept := by
  have h := State.route_kept (s.setParam 0x812001 x1.bank) x1
  unfold State.routeBanked
  have e : ∀ t u : State, t.kept = u.kept → u.pending = s.pending → ({ t with ledger := s.ledger } : State).kept = ({ u with ledger := s.ledger } : State).kept := by
    intro t u h _
    simp only [State.kept, Prod.mk.injEq] at h ⊢
    simp only [h, and_self]
  rw [e _ _ h rfl]
  exact Eq.trans rfl rfl

theorem execTransitPacket_kept (x0 : Nat) (x1 : Nat) (s : State) : keptO (execTransitPacket x0 x1 s) s.kept = s.kept := by
  unfold execTransitPacket
  repeat' split
  all_goals simp only [kept_rules, State.routeBanked_kept]

theorem execTc3StaleDiscard_kept (x0 : Nat) (s : State) : keptO (execTc3StaleDiscard x0 s) s.kept = s.kept := by
  unfold execTc3StaleDiscard
  repeat' (first | simp only [kept_rules, State.dropInput_kept] | split | with_reducible refine (State.atTime_kept _ _ _ ?_).trans ?_ | intro _)

theorem execRoutingStall_kept (x0 : Nat) (x1 : Nat) (s : State) : keptO (execRoutingStall x0 x1 s) s.kept = s.kept := by
  unfold execRoutingStall
  split <;> simp only [kept_rules, State.freeInput_kept, State.occur_kept]

theorem State.takeBoard_kept (s : State) (x1 : Nat) (x2 : Nat) : (State.takeBoard s x1 x2).kept = s.kept := by
  unfold State.takeBoard
  simp only [kept_rules]

theorem State.takeBack_kept (s : State) (x1 : Nat) : (State.takeBack s x1).kept = s.kept := by
  unfold State.takeBack
  repeat' (first | simp only [kept_rules] | with_reducible refine (foldl_kept _ _ ?_ _).trans ?_ | intro _)

theorem State.portLost_kept (s : State) (x1 : Nat) : (State.portLost s x1).kept = s.kept := by
  unfold State.portLost
  repeat' (first | simp only [kept_rules, State.count_kept, State.settleInput_kept, State.takeBack_kept] | with_reducible refine (foldl_kept _ _ ?_ _).trans ?_ | intro _)

theorem State.staleSlices_kept (s : State) (x1 : Nat) : (State.staleSlices s x1).kept = s.kept := by
  unfold State.staleSlices
  simp only [kept_rules]

theorem State.portsChanged_kept (s : State) (x1 : List Bool) : (State.portsChanged s x1).kept = s.kept := by
  unfold State.portsChanged
  repeat' (first | simp only [kept_rules, State.portLost_kept, State.staleSlices_kept] | with_reducible refine (foldl_kept _ _ ?_ _).trans ?_ | intro _)

theorem State.mcastPut_kept (q : List Instr) (s : State) (x1 : Nat) (hq : Held q s.kept) : Held q (State.mcastPut s x1).kept := by
  exact ⟨hq.1, hq.2.1, hq.2.2⟩

theorem State.debit_kept (s : State) (x1 : Nat) (x2 : Nat) (x3 : Packet) : (State.debit s x1 x2 x3).kept = s.kept := by
  unfold State.debit
  simp only [State.modLink_kept]

theorem State.chargePort_kept (s : State) (x1 : Nat) (x2 : Nat) (x3 : Int) : (State.chargePort s x1 x2 x3).kept = s.kept := by
  unfold State.chargePort
  simp only [kept_rules, State.drawBucket_kept]

theorem State.leave_kept (s : State) (x1 : Nat) (x2 : InPkt) : (State.leave s x1 x2).kept = s.kept := by
  unfold State.leave
  repeat' split
  all_goals simp only [kept_rules, State.chargePort_kept, State.count_kept, State.debit_kept, State.modLink_kept, State.settleInput_kept]

theorem State.lotRest_kept (s : State) (x1 : Nat) (x2 : Nat) (x3 : Nat) (x4 : Nat) (x5 : Nat) : (State.lotRest s x1 x2 x3 x4 x5).kept = s.kept := by
  fun_induction State.lotRest s x1 x2 x3 x4 x5
  all_goals repeat' (first | simp +zetaDelta only [State.leave_kept, *])

theorem State.callOutput_kept (s : State) (x1 : Nat) : (State.callOutput s x1).kept = s.kept := by
  unfold State.callOutput
  repeat' (first | simp only [kept_rules, State.leave_kept, State.lotRest_kept] | split | with_reducible refine (foldl_kept _ _ ?_ _).trans ?_ | intro _)

theorem State.issued_kept (s : State) (x1 : Nat) : (State.issued s x1).kept = s.kept := by
  unfold State.issued
  simp only [kept_rules]

theorem State.writeIssued_kept (s : State) (x1 : Source) : (State.writeIssued s x1).kept = s.kept := by
  unfold State.writeIssued
  repeat' (first | simp only [kept_rules, State.landed_kept] | split | with_reducible refine (foldl_kept _ _ ?_ _).trans ?_ | intro _)

theorem State.issueUnit_kept (s : State) (x1 : HPort) (x2 : HostUnit) : (State.issueUnit s x1 x2).kept = s.kept := by
  unfold State.issueUnit
  split <;> simp only [kept_rules, State.count_kept, State.emit_kept, State.issued_kept, State.setPath_kept, State.tunePort_kept, State.writeIssued_kept]

theorem State.hostRest_kept (s : State) (x1 : HPort) (x2 : Nat) (x3 : Nat) (x4 : Nat) : (State.hostRest s x1 x2 x3 x4).kept = s.kept := by
  fun_induction State.hostRest s x1 x2 x3 x4
  all_goals repeat' (first | simp +zetaDelta only [State.issueUnit_kept, *])

theorem State.callHost_kept (s : State) (x1 : HPort) : (State.callHost s x1).kept = s.kept := by
  unfold State.callHost
  repeat' (first | simp only [kept_rules, State.hostRest_kept, State.issueUnit_kept, State.later_kept, State.setPath_kept] | split)

theorem State.callPmem_kept (s : State) (x1 : Nat) (x2 : List PmemBid) : (State.callPmem s x1 x2).kept = s.kept := by
  unfold State.callPmem
  repeat' (first | simp only [kept_rules] | split)

theorem execAuctionCall_kept (x0 : AuctionSite) (s : State) : keptO (execAuctionCall x0 s) s.kept = s.kept := by
  unfold execAuctionCall
  split <;> simp only [kept_rules, State.callHost_kept, State.callOutput_kept, State.callPmem_kept]

theorem State.health_kept (s : State) (x1 : Nat) (x2 : Nat) (x3 : Nat) : (State.health s x1 x2 x3).kept = s.kept := by
  unfold State.health
  simp only [State.modLink_kept]

theorem State.linkUp_kept (s : State) (x1 : Nat) : (State.linkUp s x1).kept = s.kept := by
  unfold State.linkUp
  simp only [kept_rules, State.modLink_kept]

theorem State.cutSending_kept (s : State) (x1 : Nat) : (State.cutSending s x1).kept = s.kept := by
  unfold State.cutSending
  simp only [kept_rules]

theorem State.cutReceiving_kept (s : State) (x1 : Nat) : (State.cutReceiving s x1).kept = s.kept := by
  unfold State.cutReceiving
  repeat' (first | simp only [State.cutSending_kept, State.freeInput_kept, State.modLink_kept] | split)

theorem State.loseSending_kept (s : State) (x1 : Nat) : (State.loseSending s x1).kept = s.kept := by
  unfold State.loseSending
  repeat' (first | simp only [kept_rules, State.modLink_kept, State.portLost_kept, State.settleInput_kept] | split)

theorem State.dropLink_kept (s : State) (x1 : Nat) : (State.dropLink s x1).kept = s.kept := by
  unfold State.dropLink
  simp only [kept_rules, State.cutReceiving_kept, State.health_kept, State.loseSending_kept, State.modLink_kept, State.occur_kept]

theorem State.startReplay_kept (s : State) (x1 : Nat) : (State.startReplay s x1).1.kept = s.kept := by
  unfold State.startReplay
  repeat' (first | simp only [State.modLink_kept, State.occur_kept] | split)

theorem State.startReplay_cases {s : State} {x1 : Nat} {t : State} {y1 : Bool} (h : (State.startReplay s x1) = (t, y1)) : t.kept = s.kept := by
  have hk := State.startReplay_kept s x1; rw [h] at hk; exact hk

theorem State.takeHeader_kept (s : State) (x1 : Nat) (x2 : Flit) : (State.takeHeader s x1 x2).1.kept = s.kept := by
  unfold State.takeHeader
  repeat' (first | simp only [State.modLink_kept, State.startReplay_kept] | split)

theorem State.takeHeader_cases {s : State} {x1 : Nat} {x2 : Flit} {t : State} {y1 : Bool} (h : (State.takeHeader s x1 x2) = (t, y1)) : t.kept = s.kept := by
  have hk := State.takeHeader_kept s x1 x2; rw [h] at hk; exact hk

theorem State.fillPacket_kept (s : State) (x1 : Nat) (x2 : Nat) (x3 : Packet) : (State.fillPacket s x1 x2 x3).kept = s.kept := by
  unfold State.fillPacket
  simp only [kept_rules]

theorem State.beginPacket_kept (s : State) (x1 : Nat) (x2 : Nat) (x3 : Packet) : keptQ (State.beginPacket s x1 x2 x3) s.kept = s.kept := by
  unfold State.beginPacket
  repeat' (first | simp only [kept_rules, keptQ_some, keptQ_none, State.count_kept, State.modLink_kept] | split)

theorem State.beginPacket_cases {s : State} {x1 : Nat} {x2 : Nat} {x3 : Packet} {y : State × Nat} (h : (State.beginPacket s x1 x2 x3) = some y) : y.1.kept = s.kept := by
  have hk := State.beginPacket_kept s x1 x2 x3; rw [h] at hk; exact hk

theorem State.feed_kept (s : State) (x1 : Nat) (x2 : Receiving) (x3 : Bytes) : keptQ (State.feed s x1 x2 x3) s.kept = s.kept := by
  unfold State.feed
  repeat' (first | simp +zetaDelta only [keptQ_some, keptQ_none, State.fillPacket_kept, State.modLink_kept] | split | with_reducible refine (State.beginPacket_cases (by assumption)).trans ?_ | (rename_i h; split at h) | (rename_i h; injection h; subst_vars))

theorem State.feed_cases {s : State} {x1 : Nat} {x2 : Receiving} {x3 : Bytes} {y : State × Bytes} (h : (State.feed s x1 x2 x3) = some y) : y.1.kept = s.kept := by
  have hk := State.feed_kept s x1 x2 x3; rw [h] at hk; exact hk

theorem State.feedMap_cases {s : State} {x1 : Nat} {x2 : Receiving} {x3 : Bytes} {t : State}
    (h : Option.map Prod.fst (State.feed s x1 x2 x3) = some t) : t.kept = s.kept := by
  cases hf : State.feed s x1 x2 x3 with
  | none => rw [hf] at h; cases h
  | some y => rw [hf] at h; cases h; exact State.feed_cases hf

theorem State.feedNew_kept (s : State) (x1 : Nat) (x2 : Nat) (x3 : Nat) (x4 : Bytes) : keptM (State.feedNew s x1 x2 x3 x4) s.kept = s.kept := by
  fun_induction State.feedNew s x1 x2 x3 x4
  all_goals repeat' (first | with_reducible refine (State.feed_cases (by assumption)).trans ?_ | with_reducible refine keptM_of (by assumption) ?_ | simp_all +zetaDelta only [keptM_some, keptM_none])

theorem State.acceptBody_kept (s : State) (x1 : Nat) (x2 : Flit) : keptM (State.acceptBody s x1 x2) s.kept = s.kept := by
  unfold State.acceptBody
  repeat' (first | simp +zetaDelta only [keptM_some, keptM_none, apply_ite State.kept, ite_self, State.cutReceiving_kept, State.health_kept] | split | with_reducible refine (State.feedMap_cases (by assumption)).trans ?_ | with_reducible refine keptM_of (State.feedNew_kept _ _ _ _ _) ?_ | (rename_i h _; split at h) | (rename_i h _ _; split at h) | (rename_i h _ _ _ _ _; injection h; subst_vars))

theorem State.sendFlit_kept (s : State) (x1 : Nat) (x2 : Flit) : (State.sendFlit s x1 x2).kept = s.kept := by
  unfold State.sendFlit
  simp only [State.emit_kept, State.modLink_kept]

theorem State.control_kept (s : State) (x1 : Nat) (x2 : Nat) (x3 : Bytes) : (State.control s x1 x2 x3).kept = s.kept := by
  unfold State.control
  simp only [kept_rules, State.modLink_kept]

theorem State.packetsLeft_kept (s : State) (x1 : Nat) (x2 : List Nat) : (State.packetsLeft s x1 x2).kept = s.kept := by
  unfold State.packetsLeft
  repeat' (first | simp only [kept_rules, State.settleInput_kept] | split | with_reducible refine (foldl_kept _ _ ?_ _).trans ?_ | intro _)

theorem State.sendData_kept (s : State) (x1 : Nat) (x2 : Packing) : (State.sendData s x1 x2).kept = s.kept := by
  unfold State.sendData
  simp only [kept_rules, State.health_kept, State.modLink_kept, State.packetsLeft_kept, State.sendFlit_kept]

theorem State.resendFlit_kept (s : State) (x1 : Nat) (x2 : Kept) : (State.resendFlit s x1 x2).kept = s.kept := by
  unfold State.resendFlit
  simp only [State.modLink_kept, State.sendFlit_kept]

theorem State.modPort_kept (s : State) (x1 : Nat) (x2 : LanePort → LanePort) : (State.modPort s x1 x2).kept = s.kept := by
  unfold State.modPort
  simp only [kept_rules]

theorem State.modLane_kept (s : State) (x1 : Nat) (x2 : Lane → Lane) : (State.modLane s x1 x2).kept = s.kept := by
  unfold State.modLane
  simp only [kept_rules]

theorem State.modLanes_kept (s : State) (x1 : Nat) (x2 : Nat) (x3 : Lane → Lane) : (State.modLanes s x1 x2 x3).kept = s.kept := by
  unfold State.modLanes
  repeat' (first | simp only [kept_rules, State.modLane_kept] | with_reducible refine (foldl_kept _ _ ?_ _).trans ?_ | intro _)

theorem State.emitLanes_kept (s : State) (x1 : Nat) (x2 : Nat) (x3 : Nat) (x4 : Nat) : (State.emitLanes s x1 x2 x3 x4).kept = s.kept := by
  unfold State.emitLanes
  repeat' (first | simp only [kept_rules, State.emit_kept] | with_reducible refine (foldl_kept _ _ ?_ _).trans ?_ | intro _)

theorem State.toStage_kept (s : State) (x1 : Nat) (x2 : Train) : (State.toStage s x1 x2).kept = s.kept := by
  unfold State.toStage
  simp only [State.modPort_kept]

theorem State.restartPort_kept (s : State) (x1 : Nat) (x2 : Train) : (State.restartPort s x1 x2).kept = s.kept := by
  unfold State.restartPort
  simp only [State.modLanes_kept, State.modPort_kept, State.toStage_kept]

theorem State.toDetect_kept (s : State) (x1 : Nat) : (State.toDetect s x1).kept = s.kept := by
  unfold State.toDetect
  simp only [kept_rules, State.restartPort_kept]

theorem State.toSignon_kept (s : State) (x1 : Nat) : (State.toSignon s x1).kept = s.kept := by
  unfold State.toSignon
  simp only [State.emitLanes_kept, State.restartPort_kept]

theorem State.attemptFails_kept (s : State) (x1 : Nat) : (State.attemptFails s x1).kept = s.kept := by
  unfold State.attemptFails
  simp only [kept_rules, State.modPort_kept, State.occur_kept, State.toDetect_kept]

theorem State.linkFails_kept (s : State) (x1 : Nat) : (State.linkFails s x1).kept = s.kept := by
  unfold State.linkFails
  simp only [kept_rules, State.dropLink_kept, State.toSignon_kept]

theorem State.portOff_kept (s : State) (x1 : Nat) : (State.portOff s x1).kept = s.kept := by
  unfold State.portOff
  simp only [kept_rules, State.dropLink_kept, State.modPort_kept, State.restartPort_kept]

theorem State.applyGroups_kept (s : State) : (State.applyGroups s).kept = s.kept := by
  unfold State.applyGroups
  repeat' (first | simp only [kept_rules, State.portOff_kept, State.toDetect_kept] | with_reducible refine (foldl_kept _ _ ?_ _).trans ?_ | intro _)

theorem State.applySplit_kept (s : State) : (State.applySplit s).kept = s.kept := by
  unfold State.applySplit
  repeat' (first | simp only [State.modLane_kept, State.portOff_kept, State.toDetect_kept] | split | with_reducible refine (foldl_kept _ _ ?_ _).trans ?_ | intro _)

theorem State.retrain_kept (s : State) (x1 : Nat) : (State.retrain s x1).kept = s.kept := by
  unfold State.retrain
  simp only [kept_rules, State.linkFails_kept]

theorem execReceiverDetect_kept (x0 : Nat) (x1 : Nat) (s : State) : keptO (execReceiverDetect x0 x1 s) s.kept = s.kept := by
  unfold execReceiverDetect
  split <;> simp only [kept_rules, State.emitLanes_kept, State.toSignon_kept]

theorem execSignonSymbols_kept (x0 : Nat) (x1 : Nat) (s : State) : keptO (execSignonSymbols x0 x1 s) s.kept = s.kept := by
  unfold execSignonSymbols
  repeat' (first | simp only [kept_rules, State.linkFails_kept, State.toSignon_kept] | split)

theorem State.sendRecords_kept (s : State) (x1 : Nat) : (State.sendRecords s x1).kept = s.kept := by
  unfold State.sendRecords
  repeat' (first | simp only [State.emit_kept] | with_reducible refine (foldl_kept _ _ ?_ _).trans ?_ | intro _)

theorem execCommaLock_kept (x0 : Nat) (x1 : Bool) (s : State) : keptO (execCommaLock x0 x1 s) s.kept = s.kept := by
  unfold execCommaLock
  repeat' (first | simp only [kept_rules, State.modLane_kept, State.sendRecords_kept, State.toStage_kept] | split)

theorem State.takeRecord_kept (s : State) (x1 : Nat) (x2 : Nat) (x3 : Nat) : (State.takeRecord s x1 x2 x3).kept = s.kept := by
  unfold State.takeRecord
  simp only [State.modLane_kept, State.modLanes_kept, State.modPort_kept]

theorem State.chooseRate_kept (s : State) (x1 : Nat) (x2 : Nat) : (State.chooseRate s x1 x2).kept = s.kept := by
  unfold State.chooseRate
  simp only [State.modPort_kept, State.toStage_kept]

theorem execCapabilityFrame_kept (x0 : Nat) (x1 : Bytes) (s : State) : keptO (execCapabilityFrame x0 x1 s) s.kept = s.kept := by
  unfold execCapabilityFrame
  repeat' (first | simp only [kept_rules, State.chooseRate_kept, State.sendRecords_kept, State.takeRecord_kept, State.toStage_kept] | split)

theorem execRateSwitch_kept (x0 : Nat) (s : State) : keptO (execRateSwitch x0 s) s.kept = s.kept := by
  unfold execRateSwitch
  repeat' (first | simp only [kept_rules, State.modLanes_kept, State.modPort_kept] | split | with_reducible refine (State.atTime_kept _ _ _ ?_).trans ?_ | intro _)

theorem execRateLock_kept (x0 : Nat) (x1 : Nat) (s : State) : keptO (execRateLock x0 x1 s) s.kept = s.kept := by
  unfold execRateLock
  repeat' (first | simp only [kept_rules, State.emitLanes_kept, State.modLanes_kept, State.toStage_kept] | split)

theorem execEqStep_kept (x0 : Nat) (x1 : EqStep) (s : State) : keptO (execEqStep x0 x1 s) s.kept = s.kept := by
  unfold execEqStep
  repeat' (first | simp only [kept_rules, State.emit_kept, State.modLane_kept] | split)

theorem State.equaliseFails_kept (s : State) (x1 : Nat) : (State.equaliseFails s x1).kept = s.kept := by
  unfold State.equaliseFails
  simp only [kept_rules, State.attemptFails_kept, State.chooseRate_kept, State.modLanes_kept, State.modPort_kept, State.sendRecords_kept, State.toStage_kept]

theorem State.toActive_kept (s : State) (x1 : Nat) (x2 : Nat) : (State.toActive s x1 x2).kept = s.kept := by
  unfold State.toActive
  simp only [State.linkUp_kept, State.modLanes_kept, State.modPort_kept, State.toStage_kept]

theorem execEqualiseComplete_kept (x0 : Nat) (x1 : Nat) (s : State) : keptO (execEqualiseComplete x0 x1 s) s.kept = s.kept := by
  unfold execEqualiseComplete
  repeat' (first | simp only [kept_rules, State.equaliseFails_kept, State.toActive_kept] | split | with_reducible refine (State.atTime_kept _ _ _ ?_).trans ?_ | intro _)

theorem execTrainingStageTimeout_kept (x0 : Nat) (s : State) : keptO (execTrainingStageTimeout x0 s) s.kept = s.kept := by
  unfold execTrainingStageTimeout
  repeat' (first | simp only [kept_rules, State.attemptFails_kept, State.equaliseFails_kept] | split | with_reducible refine (State.atTime_kept _ _ _ ?_).trans ?_ | intro _)

theorem State.laneControl_kept (s : State) (x1 : Nat) (x2 : Nat) (x3 : Nat) : (State.laneControl s x1 x2 x3).kept = s.kept := by
  unfold State.laneControl
  simp only [State.control_kept]

theorem State.switchTx_kept (s : State) (x1 : Nat) (x2 : Nat) : (State.switchTx s x1 x2).kept = s.kept := by
  unfold State.switchTx
  simp only [State.emit_kept, State.modPort_kept]

theorem State.giveOrder_kept (s : State) (x1 : Nat) (x2 : Nat) (x3 : Nat) (x4 : Nat) (x5 : Nat) : (State.giveOrder s x1 x2 x3 x4 x5).kept = s.kept := by
  unfold State.giveOrder
  simp only [kept_rules, State.laneControl_kept, State.modPort_kept, State.switchTx_kept]

theorem State.wantChange_kept (s : State) (x1 : Nat) (x2 : Bool) (x3 : Nat) (x4 : Nat) (x5 : Nat) : (State.wantChange s x1 x2 x3 x4 x5).kept = s.kept := by
  unfold State.wantChange
  simp only [kept_rules, State.giveOrder_kept, State.laneControl_kept, State.modPort_kept]

theorem State.judgeRequest_kept (s : State) (x1 : Nat) (x2 : Nat) : (State.judgeRequest s x1 x2).kept = s.kept := by
  unfold State.judgeRequest
  simp only [kept_rules, State.giveOrder_kept]

theorem State.takeOrder_kept (s : State) (x1 : Nat) (x2 : Nat) : (State.takeOrder s x1 x2).kept = s.kept := by
  unfold State.takeOrder
  simp only [kept_rules, State.laneControl_kept, State.modPort_kept, State.switchTx_kept]

theorem State.switchRx_kept (s : State) (x1 : Nat) : (State.switchRx s x1).kept = s.kept := by
  unfold State.switchRx
  repeat' (first | simp only [State.laneControl_kept, State.modPort_kept] | split)

theorem execSwitchMarker_kept (x0 : Nat) (x1 : Nat) (s : State) : keptO (execSwitchMarker x0 x1 s) s.kept = s.kept := by
  unfold execSwitchMarker
  simp only [kept_rules, State.switchRx_kept]

theorem State.degrade_kept (s : State) (x1 : Nat) : (State.degrade s x1).kept = s.kept := by
  unfold State.degrade
  simp only [State.modLane_kept, State.wantChange_kept]

theorem execLaneDegrade_kept (x0 : Nat) (s : State) : keptO (execLaneDegrade x0 s) s.kept = s.kept := by
  unfold execLaneDegrade
  repeat' (first | simp only [kept_rules, State.degrade_kept] | split)

theorem execSymbolLockLost_kept (x0 : Nat) (s : State) : keptO (execSymbolLockLost x0 s) s.kept = s.kept := by
  unfold execSymbolLockLost
  repeat' (first | simp only [kept_rules, State.later_kept, State.modLane_kept] | split)

theorem execSymbolLockRegained_kept (x0 : Nat) (s : State) : keptO (execSymbolLockRegained x0 s) s.kept = s.kept := by
  unfold execSymbolLockRegained
  repeat' split
  all_goals simp only [kept_rules, State.modLane_kept]

theorem execLockLossExpiry_kept (x0 : Nat) (s : State) : keptO (execLockLossExpiry x0 s) s.kept = s.kept := by
  unfold execLockLossExpiry
  repeat' (first | simp only [kept_rules, State.linkFails_kept] | split | with_reducible refine (State.atTime_kept _ _ _ ?_).trans ?_ | intro _)

theorem execLaneRetrained_kept (x0 : Nat) (x1 : Nat) (s : State) : keptO (execLaneRetrained x0 x1 s) s.kept = s.kept := by
  unfold execLaneRetrained
  repeat' (first | simp only [kept_rules, State.modLane_kept] | split)

theorem execWidthRestore_kept (x0 : Nat) (x1 : Bool) (s : State) : keptO (execWidthRestore x0 x1 s) s.kept = s.kept := by
  unfold execWidthRestore
  repeat' (first | simp only [kept_rules, State.wantChange_kept] | split)

theorem execP1Idle_kept (x0 : Nat) (s : State) : keptO (execP1Idle x0 s) s.kept = s.kept := by
  unfold execP1Idle
  repeat' (first | simp only [kept_rules, State.wantChange_kept] | split)

theorem execP1Wake_kept (x0 : Nat) (s : State) : keptO (execP1Wake x0 s) s.kept = s.kept := by
  unfold execP1Wake
  repeat' (first | simp only [kept_rules, State.wantChange_kept] | split)

theorem State.adaptLanes_kept (s : State) (x1 : List (Nat × Nat)) : (State.adaptLanes s x1).kept = s.kept := by
  unfold State.adaptLanes
  repeat' (first | simp only [kept_rules, State.modLane_kept] | with_reducible refine (foldl_kept _ _ ?_ _).trans ?_ | intro _)

theorem State.portBell_kept (s : State) (x1 : Nat) : (State.portBell s x1).kept = s.kept := by
  unfold State.portBell
  repeat' (first | simp only [State.emit_kept, State.laneControl_kept, State.modPort_kept, State.wantChange_kept] | split)

theorem State.modTimePort_kept (s : State) (x1 : Nat) (x2 : TimePort → TimePort) : (State.modTimePort s x1 x2).kept = s.kept := by
  unfold State.modTimePort
  simp only [kept_rules]

theorem State.timeTo_kept (q : List Instr) (s : State) (x1 : TimeState) (hq : Held q s.kept) : Held q (State.timeTo s x1).kept := by
  exact ⟨hq.1, hq.2.1, hq.2.2⟩

theorem State.elect_kept (q : List Instr) (s : State) (hq : Held q s.kept) : Held q (State.elect s).kept := by
  unfold State.elect
  dsimp only
  split
  · exact ⟨hq.1, hq.2.1, hq.2.2⟩
  · split
    · split
      · exact ⟨hq.1, hq.2.1, hq.2.2⟩
      · exact State.timeTo_kept q _ _ ⟨hq.1, hq.2.1, hq.2.2⟩
    · split
      · exact State.timeTo_kept q _ _ ⟨hq.1, hq.2.1, hq.2.2⟩
      · exact ⟨hq.1, hq.2.1, hq.2.2⟩

theorem State.releasePassed_kept (s : State) (x1 : Nat) : (State.releasePassed s x1).kept = s.kept := by
  unfold State.releasePassed
  repeat' (first | simp only [State.count_kept, State.startOp_kept] | split | with_reducible refine (foldl_kept _ _ ?_ _).trans ?_ | intro _)

theorem State.stepTime_kept (q : List Instr) (s : State) (x1 : Int) (hq : Held q s.kept) : Held q (State.stepTime s x1).kept := by
  unfold State.stepTime
  extract_lets was t tm s1
  have h1 : Held q s1.kept := ⟨hq.1, hq.2.1, hq.2.2⟩
  split
  · rw [State.releasePassed_kept]; exact h1
  · exact h1

theorem State.servoStep_kept (q : List Instr) (s : State) (x1 : Int) (hq : Held q s.kept) : Held q (State.servoStep s x1).kept := by
  unfold State.servoStep
  repeat' (first | simp only [kept_rules, State.occur_kept, hq] | with_reducible refine State.stepTime_kept _ _ _ ?_)

theorem State.servoRuns_kept (s : State) (x1 : Int) : (State.servoRuns s x1).kept = s.kept := by
  unfold State.servoRuns
  simp only [kept_rules]

theorem State.servoFree_kept (s : State) : (State.servoFree s).kept = s.kept := by
  unfold State.servoFree
  simp only [kept_rules]

theorem State.servoTerms_kept (s : State) (x1 : Int) : (State.servoTerms s x1).kept = s.kept := by
  unfold State.servoTerms
  simp only [kept_rules]

theorem State.noLockRun_kept (s : State) : (State.noLockRun s).kept = s.kept := by
  unfold State.noLockRun
  simp only [kept_rules]

theorem State.servoWith_kept (q : List Instr) (s : State) (x1 : Int) (hq : Held q s.kept) : Held q (State.servoWith s x1).kept := by
  unfold State.servoWith
  repeat' (first | simp only [State.noLockRun_kept, State.occur_kept, State.servoRuns_kept, State.servoTerms_kept, hq] | split | with_reducible refine State.servoStep_kept _ _ _ ?_)

theorem State.servo_kept (q : List Instr) (s : State) (hq : Held q s.kept) : Held q (State.servo s).kept := by
  unfold State.servo
  repeat' (first | simp only [State.servoFree_kept, hq] | split | with_reducible refine State.elect_kept _ _ ?_ | with_reducible refine State.timeTo_kept _ _ _ ?_ | with_reducible refine State.servoWith_kept _ _ _ ?_)

theorem State.nextBoundary_kept (q : List Instr) (s : State) (hq : Held q s.kept) : Held q (State.nextBoundary s).kept := by
  exact ⟨hq.1, hq.2.1, hq.2.2⟩

theorem State.fineTime_kept (s : State) : (State.fineTime s).2.kept = s.kept := by
  unfold State.fineTime
  simp only [State.draw_kept]

theorem State.syncBody_kept (s : State) (x1 : Nat) : (State.syncBody s x1).2.kept = s.kept := by
  unfold State.syncBody
  simp only [State.fineTime_kept, State.later_kept, State.modTimePort_kept]

theorem State.takeSync_kept (q : List Instr) (s : State) (x1 : Nat) (x2 : Nat) (x3 : Nat) (hq : Held q s.kept) : Held q (State.takeSync s x1 x2 x3).kept := by
  unfold State.takeSync
  repeat' (first | simp only [kept_rules, State.count_kept, State.modTimePort_kept, hq] | with_reducible refine State.elect_kept _ _ ?_)

theorem execTimeSync_kept (q : List Instr) (x0 : Nat) (x1 : Flit) (x2 : Nat) (s : State) (hq : Held q s.kept) : HeldO q (execTimeSync x0 x1 x2 s) := by
  unfold execTimeSync
  repeat' (first | simp only [State.linkFails_kept, State.takeHeader_kept, held_rules, hq] | split | with_reducible refine State.takeSync_kept _ _ _ _ _ ?_)

theorem execUpstreamSilent_kept (q : List Instr) (s : State) (hq : Held q s.kept) : HeldO q (execUpstreamSilent s) := by
  unfold execUpstreamSilent
  repeat' (first | simp only [kept_rules, held_rules, hq] | split | with_reducible refine State.timeTo_kept _ _ _ ?_)

theorem execTimeLock_kept (q : List Instr) (s : State) (hq : Held q s.kept) : HeldO q (execTimeLock s) := by
  unfold execTimeLock
  repeat' (first | simp only [held_rules, hq] | split | with_reducible refine State.timeTo_kept _ _ _ ?_)

theorem execTimeUnlock_kept (q : List Instr) (s : State) (hq : Held q s.kept) : HeldO q (execTimeUnlock s) := by
  unfold execTimeUnlock
  repeat' (first | simp only [held_rules, hq] | split | with_reducible refine State.timeTo_kept _ _ _ ?_)

theorem State.setSeconds_kept (q : List Instr) (s : State) (x1 : Nat) (hq : Held q s.kept) : Held q (State.setSeconds s x1).kept := by
  unfold State.setSeconds
  repeat' (first | simp only [kept_rules, State.occur_kept, hq] | split | with_reducible refine State.stepTime_kept _ _ _ ?_)

theorem State.goodEdge_kept (q : List Instr) (s : State) (x1 : Nat) (x2 : Nat) (hq : Held q s.kept) : Held q (State.goodEdge s x1 x2).kept := by
  unfold State.goodEdge
  repeat' (first | simp only [kept_rules, hq] | with_reducible refine State.setSeconds_kept _ _ _ ?_)

theorem execPpsInEdge_kept (q : List Instr) (x0 : Nat) (x1 : Nat) (s : State) (hq : Held q s.kept) : HeldO q (execPpsInEdge x0 x1 s) := by
  have key : ∀ (p : Prop) [Decidable p] (a b : Host.Outcome State Fault Refusal), HeldO q a → HeldO q b →
      HeldO q (if p then a else b) := by
    intro p _ a b h1 h2
    split
    · exact h1
    · exact h2
  unfold execPpsInEdge
  refine @key _ _ _ _ hq ?_
  split
  · exact State.setSeconds_kept q _ _ ⟨hq.1, hq.2.1, hq.2.2⟩
  · with_reducible refine @key _ _ _ _ ?_ ?_
    · exact State.goodEdge_kept q _ _ _ hq
    · rw [ok_eq, heldO_next, State.count_kept]; exact hq

theorem execReferenceLost_kept (q : List Instr) (s : State) (hq : Held q s.kept) : HeldO q (execReferenceLost s) := by
  unfold execReferenceLost
  repeat' (first | simp only [kept_rules, State.occur_kept, held_rules, hq] | split | with_reducible refine State.elect_kept _ _ ?_)

theorem State.referenceHeld_kept (s : State) : (State.referenceHeld s).kept = s.kept := by
  unfold State.referenceHeld
  simp only [kept_rules, State.occur_kept]

theorem execPpsOutPulse_kept (s : State) : keptO (execPpsOutPulse s) s.kept = s.kept := by
  unfold execPpsOutPulse
  repeat' (first | simp only [kept_rules, State.later_kept] | split)

theorem execPpsOutEnd_kept (s : State) : keptO (execPpsOutEnd s) s.kept = s.kept := by
  unfold execPpsOutEnd
  repeat' (first | simp only [kept_rules] | split | with_reducible refine (State.atTime_kept _ _ _ ?_).trans ?_ | intro _)

theorem State.onFlit_kept (s : State) (x1 : Nat) (x2 : Flit) (x3 : State → Option State) (hx3 : ∀ y0, keptM (x3 y0) y0.kept = y0.kept) : (State.onFlit s x1 x2 x3).kept = s.kept := by
  unfold State.onFlit
  repeat' (first | simp only [State.linkFails_kept] | split | with_reducible refine (State.takeHeader_cases (by assumption)).trans ?_ | with_reducible refine (keptM_some_of (hx3 _) (by assumption)).trans ?_)

theorem State.onControl_kept (s : State) (x1 : Nat) (x2 : Nat) (x3 : Flit) (x4 : State → Option State) (hx4 : ∀ y0, keptM (x4 y0) y0.kept = y0.kept) : (State.onControl s x1 x2 x3 x4).kept = s.kept := by
  unfold State.onControl
  repeat' (first | simp only [hx4] | split | with_reducible refine (State.onFlit_kept _ _ _ _ ?_).trans ?_ | intro _)

theorem State.takeData_kept (s : State) (x1 : Nat) (x2 : Flit) : keptM (State.takeData s x1 x2) s.kept = s.kept := by
  unfold State.takeData
  repeat' (first | simp only [kept_rules, State.health_kept, State.modLink_kept] | split | with_reducible refine keptM_of (State.acceptBody_kept _ _ _) ?_)

theorem execDataFlit_kept (x0 : Nat) (x1 : Flit) (s : State) : keptO (execDataFlit x0 x1 s) s.kept = s.kept := by
  unfold execDataFlit
  repeat' (first | simp only [kept_rules, State.takeData_kept] | split | with_reducible refine (State.onFlit_kept _ _ _ _ ?_).trans ?_ | intro _)

theorem execIdleFlit_kept (x0 : Nat) (x1 : Flit) (s : State) : keptO (execIdleFlit x0 x1 s) s.kept = s.kept := by
  unfold execIdleFlit
  repeat' (first | simp only [kept_rules] | split | with_reducible refine (State.onFlit_kept _ _ _ _ ?_).trans ?_ | intro _)

theorem execPriceBoard_kept (x0 : Nat) (x1 : Flit) (s : State) : keptO (execPriceBoard x0 x1 s) s.kept = s.kept := by
  unfold execPriceBoard
  repeat' (first | simp only [kept_rules, State.portsChanged_kept, State.takeBoard_kept] | with_reducible refine (State.onControl_kept _ _ _ _ _ ?_).trans ?_ | intro _)

theorem State.syncOne_kept (x0 : Nat) (x1 : Nat) (x2 : Nat) (s : State) : keptM (State.syncOne x0 x1 x2 s) s.kept = s.kept := by
  unfold State.syncOne
  repeat' (first | simp only [kept_rules, State.modLink_kept] | split)

theorem execCreditSync_kept (x0 : Nat) (x1 : Flit) (s : State) : keptO (execCreditSync x0 x1 s) s.kept = s.kept := by
  refine State.onControl_kept s x0 _ x1 _ (fun t => ?_)
  generalize List.range 32 = l
  suffices h : ∀ o : Option State, keptM o t.kept = t.kept →
      keptM (l.foldl (fun o i => o.bind (State.syncOne x0 (leNat x1.body) i)) o) t.kept = t.kept from h (some t) rfl
  induction l with
  | nil => exact fun o h => h
  | cons i l ih =>
    intro o h
    refine ih _ ?_
    cases o with
    | none => rfl
    | some y => exact keptM_of (State.syncOne_kept x0 _ i y) h

theorem execUndefinedControlFlit_kept (x0 : Nat) (x1 : Flit) (s : State) : keptO (execUndefinedControlFlit x0 x1 s) s.kept = s.kept := by
  unfold execUndefinedControlFlit
  repeat' (first | simp only [kept_rules, State.health_kept] | split | with_reducible refine (State.onFlit_kept _ _ _ _ ?_).trans ?_ | intro _)

theorem execFlitCrcFailure_kept (x0 : Nat) (s : State) : keptO (execFlitCrcFailure x0 s) s.kept = s.kept := by
  unfold execFlitCrcFailure
  repeat' (first | simp only [kept_rules, State.modLink_kept, State.occur_kept] | split)

theorem execReplayTimeout_kept (x0 : Nat) (s : State) : keptO (execReplayTimeout x0 s) s.kept = s.kept := by
  unfold execReplayTimeout
  repeat' (first | simp only [kept_rules, State.linkFails_kept] | split | with_reducible refine (State.startReplay_cases (by assumption)).trans ?_ | with_reducible refine (State.atTime_kept _ _ _ ?_).trans ?_ | intro _)

theorem State.sendControl_kept (s : State) (x1 : Nat) (x2 : Nat × Bytes) : (State.sendControl s x1 x2).kept = s.kept := by
  unfold State.sendControl
  simp only [kept_rules, State.modLink_kept, State.sendFlit_kept, State.syncBody_kept]

theorem State.sendNext_kept (s : State) (x1 : Nat) : (State.sendNext s x1).kept = s.kept := by
  unfold State.sendNext
  repeat' (first | simp only [State.resendFlit_kept, State.sendControl_kept, State.sendData_kept, State.sendFlit_kept] | split)

theorem execFlitTime_kept (x0 : Nat) (s : State) : keptO (execFlitTime x0 s) s.kept = s.kept := by
  unfold execFlitTime
  simp only [kept_rules, State.later_kept, State.sendNext_kept]

theorem execLaneRequest_kept (x0 : Nat) (x1 : Flit) (s : State) : keptO (execLaneRequest x0 x1 s) s.kept = s.kept := by
  unfold execLaneRequest
  repeat' (first | simp only [kept_rules, State.judgeRequest_kept] | with_reducible refine (State.onControl_kept _ _ _ _ _ ?_).trans ?_ | intro _)

theorem execLaneOrder_kept (x0 : Nat) (x1 : Flit) (s : State) : keptO (execLaneOrder x0 x1 s) s.kept = s.kept := by
  unfold execLaneOrder
  repeat' (first | simp only [kept_rules, State.takeOrder_kept] | with_reducible refine (State.onControl_kept _ _ _ _ _ ?_).trans ?_ | intro _)

theorem execLaneDone_kept (x0 : Nat) (x1 : Flit) (s : State) : keptO (execLaneDone x0 x1 s) s.kept = s.kept := by
  unfold execLaneDone
  repeat' (first | simp only [kept_rules, State.modPort_kept] | split | with_reducible refine (State.onControl_kept _ _ _ _ _ ?_).trans ?_ | intro _)

end Sys2Proof.Machine
end

