-- ==== Sys2Proof/Laws/KeptDevice.lean ====
section
/-!
SUPPORT. What the definitions of life cycle, Tally, Ledger and its paths, ECC, firmware, the window and the bell leave as it is.
-/
set_option maxRecDepth 4096

namespace Sys2Proof.Machine

theorem State.lapQueue_kept (s : State) (x1 : List LapFrame) : (State.lapQueue s x1).kept = s.kept := by
  unfold State.lapQueue
  simp only [kept_rules]

theorem State.notice_kept (s : State) : (State.notice s).kept = s.kept := by
  unfold State.notice
  simp only [State.lapQueue_kept]

theorem State.enterLife_kept (q : List Instr) (s : State) (x1 : Life) (hq : Held q s.kept) : Held q (State.enterLife s x1).kept := by
  unfold State.enterLife
  rw [State.notice_kept]
  exact ⟨hq.1, hq.2.1, hq.2.2⟩

theorem State.cleared_kept (q : List Instr) (s : State) (x1 : Life) (x2 : Nat) (hq : Held q s.kept) : Held q (State.cleared s x1 x2).kept := by
  exact ⟨hq.1, rfl, rfl⟩

theorem State.toShut_kept (q : List Instr) (s : State) (hq : Held q s.kept) : Held q (State.toShut s).kept := by
  unfold State.toShut
  exact State.enterLife_kept q _ _ ⟨hq.1, hq.2.1, hq.2.2⟩

theorem State.resetReleased_kept (q : List Instr) (s : State) (x1 : Nat) (hq : Held q s.kept) : Held q (State.resetReleased s x1).kept := by
  unfold State.resetReleased
  repeat' (first | simp only [State.notice_kept, hq] | split | with_reducible refine State.cleared_kept _ _ _ _ ?_ | with_reducible refine State.toShut_kept _ _ ?_)

theorem State.deviceReset_kept (q : List Instr) (s : State) (hq : Held q s.kept) : Held q (State.deviceReset s).kept := by
  unfold State.deviceReset
  repeat' (first | simp only [kept_rules, hq] | with_reducible refine State.resetReleased_kept _ _ _ ?_)

theorem execResetRelease_kept (q : List Instr) (x0 : Nat) (x1 : Bool) (s : State) (hq : Held q s.kept) : HeldO q (execResetRelease x0 x1 s) := by
  unfold execResetRelease
  repeat' (first | simp only [held_rules, hq] | split | with_reducible refine State.resetReleased_kept _ _ _ ?_)

theorem execOrderViolation_kept (q : List Instr) (s : State) (hq : Held q s.kept) : HeldO q (execOrderViolation s) := by
  unfold execOrderViolation
  split
  · exact ⟨hq.1, hq.2.1, hq.2.2⟩
  · exact hq

theorem State.goDark_kept (q : List Instr) (s : State) (hq : Held q s.kept) : Held q (State.goDark s).kept := by
  unfold State.goDark
  repeat' (first | simp only [hq] | with_reducible refine State.cleared_kept _ _ _ _ ?_)

theorem execRailOutOfRange_kept (q : List Instr) (s : State) (hq : Held q s.kept) : HeldO q (execRailOutOfRange s) := by
  unfold execRailOutOfRange
  repeat' (first | simp only [held_rules, hq] | with_reducible refine State.goDark_kept _ _ ?_)

theorem execRefclkStop_kept (q : List Instr) (s : State) (hq : Held q s.kept) : HeldO q (execRefclkStop s) := by
  unfold execRefclkStop
  repeat' (first | simp only [held_rules, hq] | with_reducible refine State.goDark_kept _ _ ?_)

theorem execPmemReady_kept (s : State) : keptO (execPmemReady s) s.kept = s.kept := by
  unfold execPmemReady
  simp only [kept_rules]

theorem execAgentsReady_kept (s : State) : keptO (execAgentsReady s) s.kept = s.kept := by
  unfold execAgentsReady
  simp only [kept_rules]

theorem State.publishBoards_kept (s : State) (x1 : Nat) : (State.publishBoards s x1).kept = s.kept := by
  unfold State.publishBoards
  repeat' (first | simp only [State.control_kept] | with_reducible refine (foldl_kept _ _ ?_ _).trans ?_ | intro _)

theorem State.enterOpen_kept (q : List Instr) (s : State) (hq : Held q s.kept) : Held q (State.enterOpen s).kept := by
  unfold State.enterOpen
  extract_lets pw s1 s2 s3
  have h1 : Held q s1.kept := ⟨hq.1, rfl, hq.2.2⟩
  have h2 : Held q s2.kept := State.enterLife_kept q _ _ h1
  have h3 : Held q s3.kept := by
    simp only [s3, State.publishBoards_kept, State.applySplit_kept]
    exact h2
  exact foldl_held q _ _ (fun t fn h => by rw [State.resumeFn_kept]; exact h) s3 h3

theorem execEnterOpen_kept (q : List Instr) (s : State) (hq : Held q s.kept) : HeldO q (execEnterOpen s) := by
  unfold execEnterOpen
  repeat' (first | simp only [held_rules, hq] | split | with_reducible refine State.enterOpen_kept _ _ ?_)

theorem State.askOpen_kept (q : List Instr) (s : State) (hq : Held q s.kept) : Held q (State.askOpen s).kept := by
  unfold State.askOpen
  split
  · exact ⟨hq.1, hq.2.1, hq.2.2⟩
  · exact hq

theorem State.enterShutter_kept (q : List Instr) (s : State) (hq : Held q s.kept) : Held q (State.enterShutter s).kept := by
  unfold State.enterShutter
  repeat' (first | simp only [kept_rules, State.breakTree_kept, State.retireSq_kept] | with_reducible assumption | with_reducible refine State.enterLife_kept _ _ _ ?_ | with_reducible refine foldl_held _ _ _ ?_ _ ?_ | intro _)

theorem execPwrfailNFall_kept (q : List Instr) (s : State) (hq : Held q s.kept) : HeldO q (execPwrfailNFall s) := by
  have h : Held q s.later.kept := by rw [State.later_kept]; exact hq
  unfold execPwrfailNFall
  split
  · exact hq
  · exact ⟨h.1, h.2.1, h.2.2⟩

theorem execPwrfailLow_kept (q : List Instr) (s : State) (hq : Held q s.kept) : HeldO q (execPwrfailLow s) := by
  unfold execPwrfailLow
  split
  · refine State.atTime_held q _ _ _ (fun t ht => ?_) hq
    dsimp only
    split
    · exact State.toShut_kept q _ ⟨ht.1, ht.2.1, ht.2.2⟩
    · exact State.toShut_kept q _ ⟨ht.1, ht.2.1, ht.2.2⟩
    · exact State.enterShutter_kept q _ ⟨ht.1, ht.2.1, ht.2.2⟩
    · exact ⟨ht.1, ht.2.1, ht.2.2⟩
  · exact hq

theorem execPwrfailNRise_kept (q : List Instr) (s : State) (hq : Held q s.kept) : HeldO q (execPwrfailNRise s) := by
  have h : Held q s.later.kept := by rw [State.later_kept]; exact hq
  unfold execPwrfailNRise
  split
  · exact ⟨h.1, h.2.1, h.2.2⟩
  · exact hq

theorem State.drainFlush_kept (s : State) (x1 : HPort) : (State.drainFlush s x1).kept = s.kept := by
  unfold State.drainFlush
  split <;> simp only [State.hostFlush_kept, State.tunePort_kept]

theorem execDrainDone_kept (q : List Instr) (s : State) (hq : Held q s.kept) : HeldO q (execDrainDone s) := by
  unfold execDrainDone
  split
  · exact hq
  · split
    · split
      · exact hq
      · exact State.toShut_kept q _ hq
    · extract_lets pw s1 s2
      have h1 : Held q s1.kept := ⟨hq.1, hq.2.1, hq.2.2⟩
      have h2 : Held q s2.kept := by rw [State.drainFlush_kept, State.drainFlush_kept]; exact h1
      split
      · exact h2
      · exact State.toShut_kept q _ h2

theorem execDrainLimit_kept (q : List Instr) (s : State) (hq : Held q s.kept) : HeldO q (execDrainLimit s) := by
  unfold execDrainLimit
  split
  · refine State.atTime_held q _ _ _ (fun t ht => ?_) hq
    exact State.toShut_kept q _ ⟨ht.1, ht.2.1, ht.2.2⟩
  · exact hq

theorem execAutoRestart_kept (q : List Instr) (s : State) (hq : Held q s.kept) : HeldO q (execAutoRestart s) := by
  unfold execAutoRestart
  repeat' (first | simp only [held_rules] | split | with_reducible assumption | with_reducible refine State.deviceReset_kept _ _ ?_ | with_reducible refine State.atTime_held _ _ _ _ ?_ ?_ | intro _)

theorem execThrottleChange_kept (q : List Instr) (s : State) (hq : Held q s.kept) : HeldO q (execThrottleChange s) := by
  unfold execThrottleChange
  extract_lets p free
  split
  · exact hq
  · split
    · exact ⟨hq.1, hq.2.1, hq.2.2⟩
    · split
      · exact ⟨hq.1, hq.2.1, hq.2.2⟩
      · exact hq

theorem execThermalHold_kept (q : List Instr) (s : State) (hq : Held q s.kept) : HeldO q (execThermalHold s) := by
  unfold execThermalHold
  split
  · exact ⟨hq.1, hq.2.1, hq.2.2⟩
  · exact hq

theorem execThermalRelease_kept (q : List Instr) (s : State) (hq : Held q s.kept) : HeldO q (execThermalRelease s) := by
  unfold execThermalRelease
  split
  · exact hq
  · exact ⟨hq.1, hq.2.1, hq.2.2⟩

theorem execThermalLimitExceeded_kept (s : State) : keptO (execThermalLimitExceeded s) s.kept = s.kept := by
  unfold execThermalLimitExceeded
  simp only [kept_rules, State.occur_kept]

theorem execQuietPeriodExit_kept (x0 : Nat) (s : State) : keptO (execQuietPeriodExit x0 s) s.kept = s.kept := by
  unfold execQuietPeriodExit
  simp only [kept_rules]

theorem State.clearSources_kept (s : State) (x1 : Nat) : (State.clearSources s x1).kept = s.kept := by
  unfold State.clearSources
  simp only [kept_rules]

theorem State.dumpDue_kept (s : State) : (State.dumpDue s).kept = s.kept := by
  unfold State.dumpDue
  repeat' split
  all_goals simp only [kept_rules]

theorem State.dumpWrite_kept (s : State) (x1 : Nat) (x2 : Bytes) : (State.dumpWrite s x1 x2).kept = s.kept := by
  unfold State.dumpWrite
  simp only [State.hostWrite_kept]

theorem State.dump_kept (s : State) (x1 : Nat) (x2 : Tab Nat) : (State.dump s x1 x2).kept = s.kept := by
  unfold State.dump
  simp only [kept_rules, State.dumpWrite_kept]

theorem execTallyDump_kept (s : State) : keptO (execTallyDump s) s.kept = s.kept := by
  unfold execTallyDump
  repeat' (first | simp only [kept_rules, State.dump_kept] | split)

theorem State.tallyLatch_kept (s : State) : (State.tallyLatch s).kept = s.kept := by
  unfold State.tallyLatch
  simp only [kept_rules]

theorem State.setDumpEnable_kept (q : List Instr) (s : State) (x1 : Nat) (hq : Held q s.kept) : Held q (State.setDumpEnable s x1).kept := by
  unfold State.setDumpEnable
  repeat' (first | simp only [kept_rules, hq] | with_reducible refine State.setParam_kept _ _ _ _ ?_)

theorem State.draws_kept (s : State) (x1 : Nat) (x2 : Nat) : (State.draws s x1 x2).2.kept = s.kept := by
  induction x2 generalizing s with
  | zero => rfl
  | succ n ih =>
    unfold State.draws
    dsimp only
    rw [ih, State.draw_kept]

theorem State.sense_kept (q : List Instr) (s : State) (x1 : Nat) (hq : Held q s.kept) : Held q (State.sense s x1).kept := by
  have key : ∀ (t : State) (l : List Int) (h : Held q t.kept), Held q
      ({ t with power := { t.power with tempsMc := l, peakMc := ({ t.power with tempsMc := l } : Power).hottest } } : State).kept :=
    fun t l h => ⟨h.1, h.2.1, h.2.2⟩
  have key2 : ∀ (t : State) (l : List Nat) (h : Held q t.kept), Held q ({ t with power := { t.power with railsMv := l } } : State).kept :=
    fun t l h => ⟨h.1, h.2.1, h.2.2⟩
  unfold State.sense
  dsimp only
  split
  · rw [State.later_kept]; exact hq
  · split
    · rw [State.modLane_kept, State.draw_kept, State.draw_kept]; exact hq
    · split
      · exact key _ _ (by rw [State.draws_kept]; exact hq)
      · split
        · exact key2 _ _ (by rw [State.draws_kept]; exact hq)
        · exact hq

/-- Writes that are staged leave the queue and both memories. -/
theorem staged_held (q : List Instr) (s : State) (l : List Staged) (hq : Held q s.kept) : Held q ({ s with staged := l } : State).kept := by
  have h : s.pending = q ∧ Cells.wf s.store = true ∧ Cells.wf s.bulk = true := hq
  rw [kept_mk]
  exact h

theorem State.stage_kept (q : List Instr) (s : State) (x1 : Nat) (x2 : List (Nat × Nat)) (hq : Held q s.kept) : Held q (State.stage s x1 x2).kept := by
  unfold State.stage
  exact staged_held q s _ hq

theorem State.stageQuiet_kept (q : List Instr) (s : State) (x1 : Nat) (x2 : Nat) (hq : Held q s.kept) : Held q (State.stageQuiet s x1 x2).kept := by
  unfold State.stageQuiet
  exact staged_held q s _ hq

theorem State.afterWrite_kept (q : List Instr) (s : State) (x1 : Option ResetWait) (x2 : Nat) (x3 : Nat) (hq : Held q s.kept) : Held q (State.afterWrite s x1 x2 x3).kept := by
  unfold State.afterWrite
  split
  · exact hq
  · split
    · split
      · exact State.deviceReset_kept q s hq
      · exact ⟨hq.1, hq.2.1, hq.2.2⟩
    · split
      · exact State.setParam_kept q s _ _ hq
      · exact hq

theorem State.settleReset_kept (q : List Instr) (s : State) (hq : Held q s.kept) : Held q (State.settleReset s).kept := by
  unfold State.settleReset
  repeat' (first | simp only [hq] | split | with_reducible refine State.deviceReset_kept _ _ ?_)

theorem State.perform_kept (q : List Instr) (s : State) (x1 : Nat) (x2 : Nat) (hq : Held q s.kept) : Held q (State.perform s x1 x2).kept := by
  unfold State.perform
  repeat' (first | simp only [kept_rules, State.clearSources_kept, State.installTree_kept, State.removeTree_kept, State.retrain_kept, hq] | split | with_reducible refine State.freezePort_kept _ _ _ _ ?_ | with_reducible refine State.mcastPut_kept _ _ _ ?_ | with_reducible refine State.askOpen_kept _ _ ?_ | with_reducible refine State.setDumpEnable_kept _ _ _ ?_ | with_reducible refine State.setParam_kept _ _ _ _ ?_)

theorem State.ledgerWrite_kept (q : List Instr) (s : State) (x1 : Bool) (x2 : Nat) (x3 : Bytes) (hq : Held q s.kept) : Held q (State.ledgerWrite s x1 x2 x3).2.2.kept := by
  unfold State.ledgerWrite
  repeat' (first | simp only [hq] | split | with_reducible refine State.stage_kept _ _ _ _ ?_ | with_reducible refine State.stageQuiet_kept _ _ _ _ ?_ | with_reducible refine State.perform_kept _ _ _ _ ?_)

theorem State.ledgerRead_kept (q : List Instr) (s : State) (x1 : Nat) (hq : Held q s.kept) : Held q (State.ledgerRead s x1).2.2.kept := by
  unfold State.ledgerRead
  repeat' (first | simp only [hq] | split | with_reducible refine State.sense_kept _ _ _ ?_)

theorem ImageTrial.record_held (q : List Instr) (t : ImageTrial) (r : ImageRecord) (h : Held q t.st.kept) :
    Held q (ImageTrial.record t r).st.kept := by
  unfold ImageTrial.record
  split
  · exact h
  · dsimp only
    split
    · exact h
    · exact h
    · split
      · exact h
      · split
        · exact State.stageQuiet_kept _ _ _ _ h
        · split
          · exact h
          · exact State.perform_kept q _ _ _ h

theorem imageTrials_held (q : List Instr) (l : List ImageRecord) (t : ImageTrial) (h : Held q t.st.kept) :
    Held q (l.foldl ImageTrial.record t).st.kept := by
  induction l generalizing t with
  | nil => exact h
  | cons r l ih => exact ih _ (ImageTrial.record_held q t r h)

theorem State.loadImage_kept (q : List Instr) (s : State) (x1 : Bytes) (hq : Held q s.kept) : Held q (State.loadImage s x1).2.kept := by
  unfold State.loadImage
  extract_lets bad
  split
  · exact hq
  · split
    · exact hq
    · rename_i l _
      extract_lets t set b
      have ht : Held q t.st.kept := imageTrials_held q l _ hq
      clear_value t
      split
      · exact hq
      · split
        · exact hq
        · split
          · exact ht
          · exact State.stage_kept _ _ _ _ ht

theorem State.afterAll_kept (q : List Instr) (s : State) (x1 : Option ResetWait) (x2 : List (Nat × Nat)) (hq : Held q s.kept) : Held q (State.afterAll s x1 x2).kept := by
  unfold State.afterAll
  repeat' (first | simp only | with_reducible assumption | with_reducible refine State.afterWrite_kept _ _ _ _ _ ?_ | with_reducible refine foldl_held _ _ _ ?_ _ ?_ | intro _)

theorem State.modMailbox_kept (s : State) (x1 : Nat) (x2 : Mailbox → Mailbox) : (State.modMailbox s x1 x2).kept = s.kept := by
  unfold State.modMailbox
  simp only [State.setFn_kept]

theorem State.keep_kept (s : State) (x1 : Kpt) : (State.keep s x1).kept = s.kept := by
  unfold State.keep
  simp only [kept_rules]

theorem State.lapAnswer_kept (s : State) (x1 : Nat) (x2 : Nat) (x3 : List LapFrame) : (State.lapAnswer s x1 x2 x3).kept = s.kept := by
  unfold State.lapAnswer
  simp only [State.keep_kept, State.lapQueue_kept]

theorem State.mgmtAnswer_kept (s : State) (x1 : Packet) : (State.mgmtAnswer s x1).kept = s.kept := by
  unfold State.mgmtAnswer
  simp only [State.keep_kept, State.sendPacket_kept]

theorem State.answer_kept (s : State) (x1 : Via) (x2 : Bool) (x3 : Nat) (x4 : Nat) (x5 : Nat) (x6 : Bytes) : (State.answer s x1 x2 x3 x4 x5 x6).kept = s.kept := by
  unfold State.answer
  split <;> simp only [kept_rules, State.lapAnswer_kept, State.mgmtAnswer_kept, State.modMailbox_kept]

theorem State.beginBulk_kept (s : State) (x1 : Via) (x2 : Nat) : (State.beginBulk s x1 x2).kept = s.kept := by
  unfold State.beginBulk
  simp only [kept_rules]

theorem State.putBlock_kept (q : List Instr) (s : State) (x1 : Nat) (x2 : Bytes) (hq : Held q s.kept) : Held q (State.putBlock s x1 x2).2.kept := by
  unfold State.putBlock
  dsimp only
  split
  · exact ⟨hq.1, hq.2.1, cells_writeBytes_wf _ _ _ hq.2.2⟩
  · exact hq

theorem State.doWrite_kept (q : List Instr) (s : State) (x1 : Via) (x2 : Nat) (x3 : Bytes) (hq : Held q s.kept) : Held q (State.doWrite s x1 x2 x3).kept := by
  unfold State.doWrite
  repeat' (first | simp only [State.answer_kept, State.beginBulk_kept, hq] | split | with_reducible refine State.loadImage_kept _ _ _ ?_ | with_reducible refine State.afterAll_kept _ _ _ _ ?_ | with_reducible refine State.ledgerWrite_kept _ _ _ _ _ ?_ | with_reducible refine State.afterWrite_kept _ _ _ _ _ ?_)

theorem State.doRead_kept (q : List Instr) (s : State) (x1 : Via) (x2 : Nat) (hq : Held q s.kept) : Held q (State.doRead s x1 x2).kept := by
  unfold State.doRead
  repeat' (first | simp only [State.answer_kept, hq] | with_reducible refine State.ledgerRead_kept _ _ _ ?_)

theorem State.orQueue_kept (s : State) (x1 : Queued) (x2 : State → State) (hx2 : ∀ y0, (x2 y0).kept = y0.kept) : (State.orQueue s x1 x2).kept = s.kept := by
  unfold State.orQueue
  simp only [kept_rules, hx2]

theorem State.orQueue_held (q : List Instr) (s : State) (x1 : Queued) (x2 : State → State) (hx2 : ∀ y0, Held q y0.kept → Held q (x2 y0).kept) (hq : Held q s.kept) : Held q (State.orQueue s x1 x2).kept := by
  unfold State.orQueue
  repeat' (first | simp only [kept_rules, hq] | split | with_reducible refine hx2 _ ?_)

theorem State.access_kept (q : List Instr) (s : State) (x1 : Via) (x2 : Bool) (x3 : Nat) (x4 : Bytes) (hq : Held q s.kept) : Held q (State.access s x1 x2 x3 x4).kept := by
  unfold State.access
  repeat' (first | simp only | split | with_reducible assumption | with_reducible refine State.doWrite_kept _ _ _ _ _ ?_ | with_reducible refine State.doRead_kept _ _ _ _ ?_ | with_reducible refine State.orQueue_held _ _ _ _ ?_ ?_ | intro _)

theorem MgmtRun.add_held (q : List Instr) (r : MgmtRun) (s : State) (m : MgmtRec) (code bell : Nat) (v : Bytes)
    (l : List (Nat × Nat)) (hr : Held q r.st.kept) (hs : Held q s.kept) : Held q (r.add s m code bell v l).st.kept := by
  unfold MgmtRun.add
  dsimp only
  split
  · exact hr
  · exact hs

theorem MgmtRun.record_held (q : List Instr) (dev reqId : Nat) (r : MgmtRun) (m : MgmtRec) (hr : Held q r.st.kept) :
    Held q (MgmtRun.record dev reqId r m).st.kept := by
  unfold MgmtRun.record
  dsimp only
  split
  · exact hr
  · split
    · exact MgmtRun.add_held q r _ m _ _ _ _ hr (State.ledgerRead_kept q _ _ hr)
    · split
      · exact hr
      · split
        · exact MgmtRun.add_held q r _ m _ _ _ _ hr (State.putBlock_kept q _ _ _ hr)
        · split
          · split
            · exact MgmtRun.add_held q r _ m _ _ _ _ hr hr
            · split
              · exact MgmtRun.add_held q r _ m _ _ _ _ hr (State.loadImage_kept q _ _ hr)
              · exact (by rw [State.beginBulk_kept]; exact hr)
          · exact MgmtRun.add_held q r _ m _ _ _ _ hr (State.ledgerWrite_kept q _ _ _ _ hr)

theorem mgmtRuns_held (q : List Instr) (dev reqId : Nat) (l : List MgmtRec) (r : MgmtRun) (hr : Held q r.st.kept) :
    Held q (l.foldl (MgmtRun.record dev reqId) r).st.kept := by
  induction l generalizing r with
  | nil => exact hr
  | cons m l ih => exact ih _ (MgmtRun.record_held q dev reqId r m hr)

theorem State.runRequest_kept (q : List Instr) (s : State) (x1 : PartReq) (x2 : List MgmtRec) (hq : Held q s.kept) : Held q (State.runRequest s x1 x2).kept := by
  unfold State.runRequest
  extract_lets r u
  have hr : Held q r.st.kept := mgmtRuns_held q _ _ _ _ hq
  clear_value r
  split
  · exact hr
  · exact State.afterAll_kept q _ _ _ (by rw [State.mgmtAnswer_kept]; exact hr)

theorem State.doRequest_kept (q : List Instr) (s : State) (x1 : Nat) (x2 : Packet) (hq : Held q s.kept) : Held q (State.doRequest s x1 x2).kept := by
  unfold State.doRequest
  repeat' (first | simp only [State.mgmtAnswer_kept, hq] | split | with_reducible refine State.runRequest_kept _ _ _ _ ?_)

theorem State.endBulk_kept (q : List Instr) (s : State) (x1 : Via) (x2 : Nat) (hq : Held q s.kept) : Held q (State.endBulk s x1 x2).kept := by
  unfold State.endBulk
  repeat' (first | simp only [kept_rules, State.answer_kept, hq] | split | with_reducible refine State.runRequest_kept _ _ _ _ ?_)

theorem execMgmtReq_kept (q : List Instr) (x0 : Nat) (x1 : Packet) (s : State) (hq : Held q s.kept) : HeldO q (execMgmtReq x0 x1 s) := by
  unfold execMgmtReq
  repeat' (first | simp only [State.count_kept, State.sendPacket_kept] | split | with_reducible assumption | with_reducible refine State.doRequest_kept _ _ _ _ ?_ | with_reducible refine State.packetRow_held _ _ _ _ _ ?_ ?_ | with_reducible refine State.orQueue_held _ _ _ _ ?_ ?_ | intro _)

theorem execMgmtResp_kept (x0 : Nat) (x1 : Packet) (s : State) : keptO (execMgmtResp x0 x1 s) s.kept = s.kept := by
  unfold execMgmtResp
  repeat' (first | simp only [kept_rules] | with_reducible refine (State.packetRow_kept _ _ _ _ ?_).trans ?_ | intro _)

theorem State.submit_kept (s : State) (x1 : Nat) (x2 : Nat) (x3 : Nat) (x4 : Nat) (x5 : State → State) (hx5 : ∀ y0, (x5 y0).kept = y0.kept) : (State.submit s x1 x2 x3 x4 x5).kept = s.kept := by
  unfold State.submit
  simp only [kept_rules, State.modMailbox_kept, hx5]

theorem State.submit_held (q : List Instr) (s : State) (x1 : Nat) (x2 : Nat) (x3 : Nat) (x4 : Nat) (x5 : State → State) (hx5 : ∀ y0, Held q y0.kept → Held q (x5 y0).kept) (hq : Held q s.kept) : Held q (State.submit s x1 x2 x3 x4 x5).kept := by
  unfold State.submit
  repeat' (first | simp only [State.modMailbox_kept, hq] | split | with_reducible refine hx5 _ ?_)

theorem execMailboxRead_kept (q : List Instr) (x0 : Nat) (x1 : Nat) (x2 : Nat) (s : State) (hq : Held q s.kept) : HeldO q (execMailboxRead x0 x1 x2 s) := by
  unfold execMailboxRead
  repeat' (first | simp only [State.modMailbox_kept, held_rules] | with_reducible assumption | with_reducible refine State.access_kept _ _ _ _ _ _ ?_ | with_reducible refine State.submit_held _ _ _ _ _ _ _ ?_ ?_ | intro _)

theorem execMailboxWrite_kept (q : List Instr) (x0 : Nat) (x1 : Nat) (x2 : Nat) (s : State) (hq : Held q s.kept) : HeldO q (execMailboxWrite x0 x1 x2 s) := by
  unfold execMailboxWrite
  repeat' (first | simp only [State.modMailbox_kept, held_rules] | with_reducible assumption | with_reducible refine State.access_kept _ _ _ _ _ _ ?_ | with_reducible refine State.submit_held _ _ _ _ _ _ _ ?_ ?_ | intro _)

theorem execMailboxBadOp_kept (x0 : Nat) (x1 : Nat) (x2 : Nat) (x3 : Nat) (s : State) : keptO (execMailboxBadOp x0 x1 x2 x3 s) s.kept = s.kept := by
  unfold execMailboxBadOp
  repeat' (first | simp only [kept_rules, State.modMailbox_kept] | with_reducible refine (State.submit_kept _ _ _ _ _ _ ?_).trans ?_ | intro _)

theorem State.viaWrite_kept (q : List Instr) (s : State) (x1 : Via) (x2 : Nat) (x3 : Bytes) (hq : Held q s.kept) : Held q (State.viaWrite s x1 x2 x3).kept := by
  unfold State.viaWrite
  repeat' (first | simp only [kept_rules, State.count_kept, State.lapQueue_kept, State.modMailbox_kept, State.sendPacket_kept] | split | with_reducible assumption | with_reducible refine State.access_kept _ _ _ _ _ _ ?_ | with_reducible refine State.submit_held _ _ _ _ _ _ _ ?_ ?_ | intro _)

theorem execTreeWrite_kept (q : List Instr) (x0 : Via) (x1 : Bytes) (s : State) (hq : Held q s.kept) : HeldO q (execTreeWrite x0 x1 s) := by
  unfold execTreeWrite
  repeat' (first | simp only [held_rules, hq] | with_reducible refine State.viaWrite_kept _ _ _ _ _ ?_)

theorem execTreeDestroy_kept (q : List Instr) (x0 : Via) (x1 : Bytes) (s : State) (hq : Held q s.kept) : HeldO q (execTreeDestroy x0 x1 s) := by
  unfold execTreeDestroy
  repeat' (first | simp only [held_rules, hq] | with_reducible refine State.viaWrite_kept _ _ _ _ _ ?_)

theorem execMcastWrite_kept (q : List Instr) (x0 : Via) (x1 : Bytes) (s : State) (hq : Held q s.kept) : HeldO q (execMcastWrite x0 x1 s) := by
  unfold execMcastWrite
  repeat' (first | simp only [held_rules, hq] | with_reducible refine State.viaWrite_kept _ _ _ _ _ ?_)

theorem execPortRetrain_kept (q : List Instr) (x0 : Via) (x1 : Nat) (x2 : Bytes) (s : State) (hq : Held q s.kept) : HeldO q (execPortRetrain x0 x1 x2 s) := by
  unfold execPortRetrain
  repeat' (first | simp only [held_rules, hq] | with_reducible refine State.viaWrite_kept _ _ _ _ _ ?_)

theorem execFreezeRequest_kept (q : List Instr) (x0 : Via) (x1 : HPort) (x2 : Bytes) (s : State) (hq : Held q s.kept) : HeldO q (execFreezeRequest x0 x1 x2 s) := by
  unfold execFreezeRequest
  repeat' (first | simp only [held_rules, hq] | with_reducible refine State.viaWrite_kept _ _ _ _ _ ?_)

theorem execRefSecondsWrite_kept (q : List Instr) (x0 : Via) (x1 : Bytes) (s : State) (hq : Held q s.kept) : HeldO q (execRefSecondsWrite x0 x1 s) := by
  unfold execRefSecondsWrite
  repeat' (first | simp only [held_rules, hq] | with_reducible refine State.viaWrite_kept _ _ _ _ _ ?_)

theorem execDirectorySelect_kept (q : List Instr) (x0 : Via) (x1 : Bytes) (s : State) (hq : Held q s.kept) : HeldO q (execDirectorySelect x0 x1 s) := by
  unfold execDirectorySelect
  repeat' (first | simp only [held_rules, hq] | with_reducible refine State.viaWrite_kept _ _ _ _ _ ?_)

theorem execMgmtKeyWrite_kept (q : List Instr) (x0 : Via) (x1 : Bytes) (s : State) (hq : Held q s.kept) : HeldO q (execMgmtKeyWrite x0 x1 s) := by
  unfold execMgmtKeyWrite
  repeat' (first | simp only [held_rules, hq] | with_reducible refine State.viaWrite_kept _ _ _ _ _ ?_)

theorem execBulkLoadImage_kept (q : List Instr) (x0 : Via) (s : State) (hq : Held q s.kept) : HeldO q (execBulkLoadImage x0 s) := by
  unfold execBulkLoadImage
  repeat' (first | simp only [held_rules, hq] | with_reducible refine State.viaWrite_kept _ _ _ _ _ ?_)

theorem execBulkLoadFirmware_kept (q : List Instr) (x0 : Via) (s : State) (hq : Held q s.kept) : HeldO q (execBulkLoadFirmware x0 s) := by
  unfold execBulkLoadFirmware
  repeat' (first | simp only [held_rules, hq] | with_reducible refine State.viaWrite_kept _ _ _ _ _ ?_)

theorem execBulkStageFirmware_kept (q : List Instr) (x0 : Via) (s : State) (hq : Held q s.kept) : HeldO q (execBulkStageFirmware x0 s) := by
  unfold execBulkStageFirmware
  repeat' (first | simp only [held_rules, hq] | with_reducible refine State.viaWrite_kept _ _ _ _ _ ?_)

theorem execSwitchBellWrite_kept (q : List Instr) (x0 : Via) (x1 : Bytes) (s : State) (hq : Held q s.kept) : HeldO q (execSwitchBellWrite x0 x1 s) := by
  unfold execSwitchBellWrite
  repeat' (first | simp only [held_rules, hq] | with_reducible refine State.viaWrite_kept _ _ _ _ _ ?_)

theorem execRequestOpen_kept (q : List Instr) (x0 : Via) (x1 : Bytes) (s : State) (hq : Held q s.kept) : HeldO q (execRequestOpen x0 x1 s) := by
  unfold execRequestOpen
  repeat' (first | simp only [held_rules, hq] | with_reducible refine State.viaWrite_kept _ _ _ _ _ ?_)

theorem execDeviceReset_kept (q : List Instr) (x0 : Via) (x1 : Bytes) (s : State) (hq : Held q s.kept) : HeldO q (execDeviceReset x0 x1 s) := by
  unfold execDeviceReset
  repeat' (first | simp only [held_rules, hq] | with_reducible refine State.viaWrite_kept _ _ _ _ _ ?_)

theorem execBeadleSelect_kept (q : List Instr) (x0 : Via) (x1 : Bytes) (s : State) (hq : Held q s.kept) : HeldO q (execBeadleSelect x0 x1 s) := by
  unfold execBeadleSelect
  repeat' (first | simp only [held_rules, hq] | with_reducible refine State.viaWrite_kept _ _ _ _ _ ?_)

theorem execBeadleClear_kept (q : List Instr) (x0 : Via) (x1 : Bytes) (s : State) (hq : Held q s.kept) : HeldO q (execBeadleClear x0 x1 s) := by
  unfold execBeadleClear
  repeat' (first | simp only [held_rules, hq] | with_reducible refine State.viaWrite_kept _ _ _ _ _ ?_)

theorem execTallyCountWrite_kept (q : List Instr) (x0 : Via) (x1 : Nat) (x2 : Bytes) (s : State) (hq : Held q s.kept) : HeldO q (execTallyCountWrite x0 x1 x2 s) := by
  unfold execTallyCountWrite
  repeat' (first | simp only [held_rules, hq] | with_reducible refine State.viaWrite_kept _ _ _ _ _ ?_)

theorem execTallyDumpEnable_kept (q : List Instr) (x0 : Via) (x1 : Bytes) (s : State) (hq : Held q s.kept) : HeldO q (execTallyDumpEnable x0 x1 s) := by
  unfold execTallyDumpEnable
  repeat' (first | simp only [held_rules, hq] | with_reducible refine State.viaWrite_kept _ _ _ _ _ ?_)

theorem execTallyDumpCi_kept (q : List Instr) (x0 : Via) (x1 : Bytes) (s : State) (hq : Held q s.kept) : HeldO q (execTallyDumpCi x0 x1 s) := by
  unfold execTallyDumpCi
  repeat' (first | simp only [held_rules, hq] | with_reducible refine State.viaWrite_kept _ _ _ _ _ ?_)

theorem State.struck_kept {α : Type} (s : State) (x2 : List α) : (@State.struck α s x2).2.kept = s.kept := by
  unfold State.struck
  simp only [State.draw_kept]

theorem State.struck_cases {α : Type} {s : State} {x2 : List α} {y0 : Option α} {t : State} (h : (@State.struck α s x2) = (y0, t)) : t.kept = s.kept := by
  have hk := State.struck_kept s x2; rw [h] at hk; exact hk

theorem State.strike_kept {α : Type} (s : State) (x2 : List α) (x3 : State → α → State) (hx3 : ∀ y0 y1, (x3 y0 y1).kept = y0.kept) : (@State.strike α s x2 x3).kept = s.kept := by
  unfold State.strike
  repeat' (first | simp only [hx3] | split | with_reducible refine (State.struck_cases (by assumption)).trans ?_)

theorem State.strike_held (q : List Instr) {α : Type} (s : State) (x2 : List α) (x3 : State → α → State) (hx3 : ∀ y0 y1, Held q y0.kept → Held q (x3 y0 y1).kept) (hq : Held q s.kept) : Held q (@State.strike α s x2 x3).kept := by
  unfold State.strike
  repeat' (first | simp only [hq] | split | with_reducible refine hx3 _ _ ?_ | rw [State.struck_cases (by assumption)])

theorem State.correctedAt_kept (s : State) (x1 : Nat) (x2 : Nat) : (State.correctedAt s x1 x2).kept = s.kept := by
  unfold State.correctedAt
  simp only [kept_rules, State.occur_kept]

theorem State.eccWindow_kept (s : State) : (State.eccWindow s).kept = s.kept := by
  unfold State.eccWindow
  simp only [kept_rules]

theorem State.strikeStore_kept (s : State) : (State.strikeStore s).kept = s.kept := by
  unfold State.strikeStore
  simp only [kept_rules, State.draw_kept]

theorem State.strikeMatch_kept (s : State) : (State.strikeMatch s).kept = s.kept := by
  unfold State.strikeMatch
  repeat' (first | simp only [State.clearMatching_kept] | with_reducible refine (State.strike_kept _ _ _ ?_).trans ?_ | intro _)

theorem State.strikeTlb_kept (s : State) : (State.strikeTlb s).kept = s.kept := by
  unfold State.strikeTlb
  repeat' (first | simp only [kept_rules] | with_reducible refine (State.strike_kept _ _ _ ?_).trans ?_ | intro _)

theorem State.strikeL1_kept (s : State) : (State.strikeL1 s).kept = s.kept := by
  unfold State.strikeL1
  repeat' (first | simp only [kept_rules] | with_reducible refine (State.strike_kept _ _ _ ?_).trans ?_ | intro _)

theorem State.strikeCellar_kept (s : State) : (State.strikeCellar s).kept = s.kept := by
  unfold State.strikeCellar
  repeat' (first | simp only [State.modLink_kept] | with_reducible refine (State.strike_kept _ _ _ ?_).trans ?_ | intro _)

theorem State.strikeStaging_kept (s : State) : (State.strikeStaging s).kept = s.kept := by
  unfold State.strikeStaging
  repeat' (first | simp only [State.modOp_kept] | with_reducible refine (State.strike_kept _ _ _ ?_).trans ?_ | intro _)

theorem State.strikeShelf_kept (s : State) : (State.strikeShelf s).kept = s.kept := by
  unfold State.strikeShelf
  repeat' (first | simp only [State.loseContext_kept] | with_reducible refine (State.strike_kept _ _ _ ?_).trans ?_ | intro _)

theorem State.strikePayload_kept (s : State) : (State.strikePayload s).kept = s.kept := by
  unfold State.strikePayload
  repeat' (first | simp only [State.modMsg_kept] | with_reducible refine (State.strike_kept _ _ _ ?_).trans ?_ | intro _)

theorem State.strikeRoutes_kept (q : List Instr) (s : State) (hq : Held q s.kept) : Held q (State.strikeRoutes s).kept := by
  unfold State.strikeRoutes
  rw [State.portsChanged_kept]
  refine State.strike_held q _ _ _ (fun t x h => ?_) hq
  split
  · exact State.setParam_kept q _ _ _ h
  · exact ⟨h.1, h.2.1, h.2.2⟩

theorem State.strikeInput_kept (s : State) : (State.strikeInput s).kept = s.kept := by
  unfold State.strikeInput
  repeat' (first | simp only [kept_rules] | with_reducible refine (State.strike_kept _ _ _ ?_).trans ?_ | intro _)

theorem State.strikePorter_kept (s : State) : (State.strikePorter s).kept = s.kept := by
  unfold State.strikePorter
  repeat' (first | simp only [State.modChan_kept] | with_reducible refine (State.strike_kept _ _ _ ?_).trans ?_ | intro _)

theorem State.strikePmem_kept (s : State) : (State.strikePmem s).kept = s.kept := by
  unfold State.strikePmem
  repeat' (first | simp only [State.draw_kept, State.strikeCellar_kept, State.strikeMatch_kept, State.strikeStaging_kept, State.strikeStore_kept, State.strikeTlb_kept] | split)

theorem State.strikeSram_kept (q : List Instr) (s : State) (x1 : Nat) (hq : Held q s.kept) : Held q (State.strikeSram s x1).kept := by
  unfold State.strikeSram
  repeat' (first | simp only [State.draw_kept, State.strikeInput_kept, State.strikeL1_kept, State.strikeMatch_kept, State.strikePayload_kept, State.strikePorter_kept, State.strikeShelf_kept, State.strikeStaging_kept, hq] | split | with_reducible refine State.strikeRoutes_kept _ _ ?_)

theorem State.uncorrectableAt_kept (q : List Instr) (s : State) (x1 : Nat) (x2 : Nat) (x3 : Nat) (hq : Held q s.kept) : Held q (State.uncorrectableAt s x1 x2 x3).kept := by
  unfold State.uncorrectableAt
  repeat' (first | simp only [State.occur_kept, State.strikePmem_kept, hq] | split | with_reducible refine State.strikeSram_kept _ _ _ ?_)

theorem State.lapCount_kept (s : State) (x1 : Nat) : (State.lapCount s x1).kept = s.kept := by
  unfold State.lapCount
  simp only [kept_rules]

theorem State.lapGood_kept (s : State) : (State.lapGood s).kept = s.kept := by
  unfold State.lapGood
  simp only [kept_rules]

theorem State.dropWrite_kept (s : State) (x1 : Nat) : (State.dropWrite s x1).kept = s.kept := by
  unfold State.dropWrite
  simp only [kept_rules]

theorem State.lapTake_kept (s : State) (x1 : LapFrame) (x2 : State → State) (hx2 : ∀ y0, (x2 y0).kept = y0.kept) : (State.lapTake s x1 x2).kept = s.kept := by
  unfold State.lapTake
  simp only [kept_rules, State.dropWrite_kept, State.lapCount_kept, State.lapGood_kept, hx2]

theorem State.lapTake_held (q : List Instr) (s : State) (x1 : LapFrame) (x2 : State → State) (hx2 : ∀ y0, Held q y0.kept → Held q (x2 y0).kept) (hq : Held q s.kept) : Held q (State.lapTake s x1 x2).kept := by
  unfold State.lapTake
  repeat' (first | simp only [State.dropWrite_kept, State.lapCount_kept, State.lapGood_kept, hq] | split | with_reducible refine hx2 _ ?_)

theorem State.lapFormat_kept (s : State) (x1 : LapFrame) : (State.lapFormat s x1).kept = s.kept := by
  unfold State.lapFormat
  simp only [State.lapQueue_kept]

theorem State.lapOnce_kept (s : State) (x1 : LapFrame) (x2 : State → State) (hx2 : ∀ y0, (x2 y0).kept = y0.kept) : (State.lapOnce s x1 x2).kept = s.kept := by
  unfold State.lapOnce
  split <;> simp only [State.lapQueue_kept, hx2]

theorem State.lapOnce_held (q : List Instr) (s : State) (x1 : LapFrame) (x2 : State → State) (hx2 : ∀ y0, Held q y0.kept → Held q (x2 y0).kept) (hq : Held q s.kept) : Held q (State.lapOnce s x1 x2).kept := by
  unfold State.lapOnce
  repeat' (first | simp only [State.lapQueue_kept, hq] | split | with_reducible refine hx2 _ ?_)

theorem execLapRead_kept (q : List Instr) (x0 : LapFrame) (s : State) (hq : Held q s.kept) : HeldO q (execLapRead x0 s) := by
  unfold execLapRead
  repeat' (first | simp only [State.lapFormat_kept, held_rules] | split | with_reducible assumption | with_reducible refine State.access_kept _ _ _ _ _ _ ?_ | with_reducible refine State.lapTake_held _ _ _ _ ?_ ?_ | with_reducible refine State.lapOnce_held _ _ _ _ ?_ ?_ | intro _)

theorem execLapWrite_kept (q : List Instr) (x0 : LapFrame) (s : State) (hq : Held q s.kept) : HeldO q (execLapWrite x0 s) := by
  unfold execLapWrite
  repeat' (first | simp only [kept_rules, State.dropWrite_kept, State.lapFormat_kept, held_rules] | split | with_reducible assumption | with_reducible refine State.access_kept _ _ _ _ _ _ ?_ | with_reducible refine State.lapTake_held _ _ _ _ ?_ ?_ | with_reducible refine State.lapOnce_held _ _ _ _ ?_ ?_ | intro _)

theorem execLapBlock_kept (q : List Instr) (x0 : LapFrame) (s : State) (hq : Held q s.kept) : HeldO q (execLapBlock x0 s) := by
  unfold execLapBlock
  repeat' (first | simp only [State.lapAnswer_kept, State.lapFormat_kept, held_rules] | split | with_reducible assumption | with_reducible refine State.putBlock_kept _ _ _ _ ?_ | with_reducible refine State.lapTake_held _ _ _ _ ?_ ?_ | with_reducible refine State.lapOnce_held _ _ _ _ ?_ ?_ | with_reducible refine State.orQueue_held _ _ _ _ ?_ ?_ | intro _)

theorem execLapRate_kept (x0 : LapFrame) (s : State) : keptO (execLapRate x0 s) s.kept = s.kept := by
  unfold execLapRate
  split <;> simp only [kept_rules, State.lapGood_kept, State.later_kept]

theorem execLapPing_kept (x0 : LapFrame) (s : State) : keptO (execLapPing x0 s) s.kept = s.kept := by
  unfold execLapPing
  repeat' (first | simp only [kept_rules, State.lapAnswer_kept] | split | with_reducible refine (State.lapTake_kept _ _ _ ?_).trans ?_ | with_reducible refine (State.lapOnce_kept _ _ _ ?_).trans ?_ | intro _)

theorem execLapForeignFrame_kept (x0 : LapFrame) (s : State) : keptO (execLapForeignFrame x0 s) s.kept = s.kept := by
  unfold execLapForeignFrame
  simp only [kept_rules, State.lapCount_kept, State.lapGood_kept]

theorem execLapRateSwitch_kept (s : State) : keptO (execLapRateSwitch s) s.kept = s.kept := by
  unfold execLapRateSwitch
  repeat' (first | simp only [kept_rules] | split | with_reducible refine (State.atTime_kept _ _ _ ?_).trans ?_ | intro _)

theorem execLapRateFallback_kept (s : State) : keptO (execLapRateFallback s) s.kept = s.kept := by
  unfold execLapRateFallback
  repeat' (first | simp only [kept_rules] | split | with_reducible refine (State.atTime_kept _ _ _ ?_).trans ?_ | intro _)

theorem execBusOff_kept (s : State) : keptO (execBusOff s) s.kept = s.kept := by
  unfold execBusOff
  split <;> simp only [kept_rules, State.lapCount_kept, State.later_kept, State.occur_kept]

theorem execBusOffRecovered_kept (s : State) : keptO (execBusOffRecovered s) s.kept = s.kept := by
  unfold execBusOffRecovered
  repeat' (first | simp only [kept_rules, State.notice_kept] | split | with_reducible refine (State.atTime_kept _ _ _ ?_).trans ?_ | intro _)

theorem execLapTxAbandon_kept (q : List Instr) (s : State) (hq : Held q s.kept) : HeldO q (execLapTxAbandon s) := by
  unfold execLapTxAbandon
  repeat' (first | simp only [kept_rules, State.lapCount_kept, held_rules] | split | with_reducible assumption | with_reducible refine State.settleReset_kept _ _ ?_ | with_reducible refine State.atTime_held _ _ _ _ ?_ ?_ | intro _)

theorem State.lapSent_kept (q : List Instr) (s : State) (hq : Held q s.kept) : Held q (State.lapSent s).kept := by
  unfold State.lapSent
  repeat' (first | simp only [kept_rules, State.emit_kept, hq] | split | with_reducible refine State.settleReset_kept _ _ ?_)

theorem execLapBitError_kept (q : List Instr) (x0 : BusError) (s : State) (hq : Held q s.kept) : HeldO q (execLapBitError x0 s) := by
  unfold execLapBitError
  repeat' (first | simp only [kept_rules, State.draw_kept, State.lapCount_kept, State.lapGood_kept, State.occur_kept, held_rules, hq] | split | with_reducible refine State.lapSent_kept _ _ ?_)

theorem State.bootSubmit_kept (s : State) (x1 : HPort) (x2 : Nat) (x3 : Nat) (x4 : State → State) (hx4 : ∀ y0, (x4 y0).kept = y0.kept) : (State.bootSubmit s x1 x2 x3 x4).kept = s.kept := by
  unfold State.bootSubmit
  simp only [kept_rules, State.setBoot_kept, hx4]

theorem State.bootLoad_kept (s : State) (x1 : HPort) (x2 : Nat) (x3 : Nat) (x4 : Bool) (x5 : State → State) (hx5 : ∀ y0, (x5 y0).kept = y0.kept) : (State.bootLoad s x1 x2 x3 x4 x5).kept = s.kept := by
  have key : ∀ (y : State) (f : Boot → Boot) (l : Option Loader),
      ({ y.setBoot x1 f with clerk := { y.clerk with loader := l } } : State).kept = y.kept := by
    intro y f l
    cases x1 <;> exact Eq.trans rfl rfl
  unfold State.bootLoad
  refine State.bootSubmit_kept _ _ _ _ _ (fun y => ?_)
  dsimp only
  split
  · rw [State.setBoot_kept]
  · split
    · rw [State.setBoot_kept]
    · split
      · rw [State.setBoot_kept]
      · split
        · rw [State.setBoot_kept]
        · rw [hx5, key]

theorem execLoadFirmware_kept (x0 : HPort) (x1 : Nat) (s : State) : keptO (execLoadFirmware x0 x1 s) s.kept = s.kept := by
  unfold execLoadFirmware
  repeat' (first | simp only [kept_rules] | with_reducible refine (State.bootLoad_kept _ _ _ _ _ _ ?_).trans ?_ | intro _)

theorem execStageFirmware_kept (x0 : HPort) (x1 : Nat) (s : State) : keptO (execStageFirmware x0 x1 s) s.kept = s.kept := by
  unfold execStageFirmware
  repeat' (first | simp only [kept_rules, State.setBoot_kept] | split | with_reducible refine (State.bootSubmit_kept _ _ _ _ _ ?_).trans ?_ | with_reducible refine (State.bootLoad_kept _ _ _ _ _ _ ?_).trans ?_ | intro _)

theorem execReadLog_kept (x0 : HPort) (x1 : Nat) (s : State) : keptO (execReadLog x0 x1 s) s.kept = s.kept := by
  unfold execReadLog
  repeat' (first | simp only [kept_rules, State.hostWrite_kept, State.setBoot_kept] | with_reducible refine (State.bootSubmit_kept _ _ _ _ _ ?_).trans ?_ | intro _)

theorem execPing_kept (x0 : HPort) (x1 : Nat) (s : State) : keptO (execPing x0 x1 s) s.kept = s.kept := by
  unfold execPing
  repeat' (first | simp only [kept_rules, State.setBoot_kept] | with_reducible refine (State.bootSubmit_kept _ _ _ _ _ ?_).trans ?_ | intro _)

theorem execBootUnknownCommand_kept (x0 : HPort) (x1 : Nat) (x2 : Nat) (s : State) : keptO (execBootUnknownCommand x0 x1 x2 s) s.kept = s.kept := by
  unfold execBootUnknownCommand
  repeat' (first | simp only [kept_rules, State.setBoot_kept] | with_reducible refine (State.bootSubmit_kept _ _ _ _ _ ?_).trans ?_ | intro _)

theorem State.endLoad_kept (q : List Instr) (s : State) (x1 : Nat) (hq : Held q s.kept) : Held q (State.endLoad s x1).kept := by
  unfold State.endLoad
  repeat' (first | simp only [kept_rules, State.admAbort_kept, State.admOk_kept, State.setBoot_kept, hq] | split | with_reducible refine State.endBulk_kept _ _ _ _ ?_)

theorem State.fetchAdmins_kept (s : State) : (State.fetchAdmins s).kept = s.kept := by
  unfold State.fetchAdmins
  repeat' (first | simp only [State.fetchAdmin_kept] | with_reducible refine (foldl_kept _ _ ?_ _).trans ?_ | intro _)

theorem execFirmwareLoaded_kept (q : List Instr) (x0 : FwRead) (s : State) (hq : Held q s.kept) : HeldO q (execFirmwareLoaded x0 s) := by
  unfold execFirmwareLoaded
  repeat' (first | simp only [kept_rules, State.applyGroups_kept, State.fetchAdmins_kept, held_rules, hq] | split | with_reducible refine State.endLoad_kept _ _ _ ?_ | with_reducible refine State.enterLife_kept _ _ _ ?_)

theorem execStagingDone_kept (q : List Instr) (x0 : FwRead) (s : State) (hq : Held q s.kept) : HeldO q (execStagingDone x0 s) := by
  unfold execStagingDone
  repeat' (first | simp only [kept_rules, held_rules, hq] | split | with_reducible refine State.endLoad_kept _ _ _ ?_)

theorem State.finishImage_kept (q : List Instr) (s : State) (x1 : Nat) (x2 : Option Bytes) (hq : Held q s.kept) : Held q (State.finishImage s x1 x2).kept := by
  unfold State.finishImage
  repeat' (first | simp only [State.admDone_kept, State.hostWrite_kept, hq] | split | with_reducible refine State.loadImage_kept _ _ _ ?_ | with_reducible refine State.afterAll_kept _ _ _ _ ?_)

theorem execImageLoad_kept (q : List Instr) (x0 : Nat) (x1 : Option Bytes) (s : State) (hq : Held q s.kept) : HeldO q (execImageLoad x0 x1 s) := by
  unfold execImageLoad
  repeat' (first | simp only [State.admWait_kept, held_rules] | with_reducible assumption | with_reducible refine State.finishImage_kept _ _ _ _ ?_ | with_reducible refine State.admRun_held _ _ _ _ _ _ _ ?_ ?_ | with_reducible refine State.orQueue_held _ _ _ _ ?_ ?_ | intro _)

theorem execFirmwareStage_kept (x0 : Nat) (s : State) : keptO (execFirmwareStage x0 s) s.kept = s.kept := by
  unfold execFirmwareStage
  repeat' (first | simp only [kept_rules, State.admWait_kept] | with_reducible refine (State.admRun_kept _ _ _ _ _ _ ?_).trans ?_ | intro _)

theorem execFirmwareSwitch_kept (q : List Instr) (x0 : Nat) (s : State) (hq : Held q s.kept) : HeldO q (execFirmwareSwitch x0 s) := by
  unfold execFirmwareSwitch
  repeat' (first | simp only [State.admOk_kept, held_rules, hq] | with_reducible refine State.perform_kept _ _ _ _ ?_ | with_reducible refine State.admRun_held _ _ _ _ _ _ _ ?_ ?_ | intro _)

theorem execChangeoverStart_kept (s : State) : keptO (execChangeoverStart s) s.kept = s.kept := by
  unfold execChangeoverStart
  split <;> simp only [kept_rules]

theorem execChangeoverReady_kept (s : State) : keptO (execChangeoverReady s) s.kept = s.kept := by
  unfold execChangeoverReady
  split <;> simp only [kept_rules]

theorem execChangeoverFallback_kept (s : State) : keptO (execChangeoverFallback s) s.kept = s.kept := by
  unfold execChangeoverFallback
  split <;> simp only [kept_rules, State.occur_kept]

theorem execDeviceStoreRead_kept (x0 : HPort) (x1 : Nat) (x2 : Nat) (x3 : Option Nat) (s : State) : keptO (execDeviceStoreRead x0 x1 x2 x3 s) s.kept = s.kept := by
  unfold execDeviceStoreRead
  repeat' (first | simp only [kept_rules, State.draw_kept, State.emit_kept, State.occur_kept] | split)

theorem execDeviceStoreWrite_kept (q : List Instr) (x0 : HPort) (x1 : Nat) (x2 : Bytes) (x3 : Bool) (s : State) (hq : Held q s.kept) : HeldO q (execDeviceStoreWrite x0 x1 x2 x3 s) := by
  unfold execDeviceStoreWrite
  repeat' (first | simp only [State.emit_kept, held_rules, hq] | split | with_reducible refine State.storeWrite_kept _ _ _ _ _ ?_)

theorem execDeviceStoreAtomic_kept (q : List Instr) (x0 : HPort) (x1 : Nat) (x2 : Nat) (x3 : Nat) (x4 : Nat) (x5 : Nat) (s : State) (hq : Held q s.kept) : HeldO q (execDeviceStoreAtomic x0 x1 x2 x3 x4 x5 s) := by
  unfold execDeviceStoreAtomic
  repeat' (first | simp only [State.emit_kept, held_rules, hq] | split | with_reducible refine State.storeWrite_kept _ _ _ _ _ ?_)

theorem State.andThen_kept (s : State) (x1 : State → Host.Outcome State Fault Refusal) (hx1 : ∀ y0, keptO (x1 y0) y0.kept = y0.kept) : (State.andThen s x1).kept = s.kept := by
  unfold State.andThen
  repeat' (first | simp only | split | with_reducible refine (keptO_next_of (hx1 _) (by assumption)).trans ?_)

theorem State.andThen_held (q : List Instr) (s : State) (x1 : State → Host.Outcome State Fault Refusal) (hx1 : ∀ y0, Held q y0.kept → HeldO q (x1 y0)) (hq : Held q s.kept) : Held q (State.andThen s x1).kept := by
  unfold State.andThen
  repeat' (first | simp only [hq] | split | with_reducible refine hx1 _ ?_ | with_reducible refine heldO_next_of ?_ (by assumption))

theorem State.writeMailbox_kept (q : List Instr) (s : State) (x1 : Nat) (x2 : Nat) (x3 : Bytes) (hq : Held q s.kept) : Held q (State.writeMailbox s x1 x2 x3).kept := by
  unfold State.writeMailbox
  repeat' (first | simp only [State.modMailbox_kept] | split | with_reducible assumption | with_reducible refine execMailboxRead_kept _ _ _ _ _ ?_ | with_reducible refine execMailboxWrite_kept _ _ _ _ _ ?_ | with_reducible refine State.andThen_held _ _ _ ?_ ?_ | with_reducible refine heldO_of (execMailboxBadOp_kept _ _ _ _ _) ?_ | intro _)

theorem State.writeBoot_kept (s : State) (x1 : HPort) (x2 : Nat) (x3 : Bytes) : (State.writeBoot s x1 x2 x3).kept = s.kept := by
  unfold State.writeBoot
  repeat' (first | simp only [State.setBoot_kept, execBootUnknownCommand_kept, execLoadFirmware_kept, execPing_kept, execReadLog_kept, execStageFirmware_kept] | split | with_reducible refine (State.andThen_kept _ _ ?_).trans ?_ | intro _)

theorem State.writeAdmin_kept (s : State) (x1 : Nat) (x2 : Nat) (x3 : Bytes) : (State.writeAdmin s x1 x2 x3).kept = s.kept := by
  unfold State.writeAdmin
  simp only [kept_rules, State.admCfg_kept, State.setFn_kept]

theorem State.writeVectors_kept (s : State) (x1 : Nat) (x2 : Nat) (x3 : Bytes) : (State.writeVectors s x1 x2 x3).kept = s.kept := by
  unfold State.writeVectors
  repeat' (first | simp only [kept_rules, State.sendPending_kept, State.setFn_kept] | with_reducible refine (foldl_kept _ _ ?_ _).trans ?_ | intro _)

theorem State.writePort_kept (q : List Instr) (s : State) (x1 : HPort) (x2 : Nat) (x3 : Bytes) (hq : Held q s.kept) : Held q (State.writePort s x1 x2 x3).kept := by
  unfold State.writePort
  repeat' (first | simp only | split | with_reducible assumption | with_reducible refine State.clearCause_kept _ _ _ _ ?_ | with_reducible refine execFreeze_kept _ _ _ ?_ | with_reducible refine execThaw_kept _ _ _ ?_ | with_reducible refine State.andThen_held _ _ _ ?_ ?_ | intro _)

theorem State.writeBar0_kept (q : List Instr) (s : State) (x1 : Nat) (x2 : Nat) (x3 : Bytes) (hq : Held q s.kept) : Held q (State.writeBar0 s x1 x2 x3).kept := by
  unfold State.writeBar0
  repeat' (first | simp only [State.writeAdmin_kept, State.writeBoot_kept, State.writeVectors_kept, hq] | split | with_reducible refine State.writeMailbox_kept _ _ _ _ _ ?_ | with_reducible refine State.writePort_kept _ _ _ _ _ ?_)

theorem execRegisterWrite_kept (q : List Instr) (x0 : Nat) (x1 : Nat) (x2 : Nat) (x3 : Bytes) (x4 : Bool) (s : State) (hq : Held q s.kept) : HeldO q (execRegisterWrite x0 x1 x2 x3 x4 s) := by
  unfold execRegisterWrite
  repeat' (first | simp only [State.doorbell_kept, State.emit_kept, held_rules, hq] | split | with_reducible refine State.writeBar0_kept _ _ _ _ _ ?_)

theorem State.refill_kept (s : State) : (State.refill s).kept = s.kept := by
  unfold State.refill
  simp only [kept_rules]

theorem State.retune_kept (s was : State) (l : List Nat) : (s.retune was l).kept = s.kept := by
  unfold State.retune
  simp only [kept_rules]

theorem State.leaveHold_kept (s was : State) : (s.leaveHold was).kept = s.kept := by
  unfold State.leaveHold
  simp only [kept_rules]

theorem State.switchBell_kept (q : List Instr) (s : State) (hq : Held q s.kept) : Held q (State.switchBell s).kept := by
  unfold State.switchBell
  extract_lets due was s1 changed s2
  split
  · exact hq
  · have h1 : Held q s1.kept := foldl_held q _ _ (fun t x h => State.setParam_kept q t _ _ h) _ (staged_held q s _ hq)
    have h2 : Held q s2.kept := by
      simp only [s2, State.portsChanged_kept, State.leaveHold_kept, State.retune_kept]
      exact h1
    split
    · rw [State.applyGroups_kept]; exact h2
    · exact h2

theorem State.latchSamples_kept (s : State) : (State.latchSamples s).kept = s.kept := by
  unfold State.latchSamples
  simp only [kept_rules]

theorem State.recordSamples_kept (s : State) : (State.recordSamples s).kept = s.kept := by
  unfold State.recordSamples
  simp only [kept_rules]

theorem State.creditSyncs_kept (s : State) (x1 : Nat) : (State.creditSyncs s x1).kept = s.kept := by
  unfold State.creditSyncs
  repeat' (first | simp only [kept_rules, State.control_kept] | with_reducible refine (foldl_kept _ _ ?_ _).trans ?_ | intro _)

theorem State.timeTask_kept (q : List Instr) (s : State) (hq : Held q s.kept) : Held q (State.timeTask s).kept := by
  unfold State.timeTask
  repeat' (first | simp only [State.control_kept] | with_reducible assumption | with_reducible refine State.servo_kept _ _ ?_ | with_reducible refine foldl_held _ _ _ ?_ _ ?_ | intro _)

theorem State.porterRefill_kept (s : State) : (State.porterRefill s).kept = s.kept := by
  unfold State.porterRefill
  simp only [kept_rules]

theorem State.powerSample_kept (q : List Instr) (s : State) (x1 : Nat) (hq : Held q s.kept) : Held q (State.powerSample s x1).kept := by
  have key : ∀ (t : State) (p : Power), Held q t.kept → Held q ({ t with power := p } : State).kept :=
    fun t p h => ⟨h.1, h.2.1, h.2.2⟩
  unfold State.powerSample
  extract_lets p1 s1 high p2 s2 s3
  have h1 : Held q s1.kept := key s p1 hq
  have h2 : Held q s2.kept := key s1 p2 h1
  have h3 : Held q s3.kept := by
    show Held q (if 1024 ≤ s2.power.capRun then s2.occur FaultCode.powerCap 0 0 else s2).kept
    split
    · rw [State.occur_kept]; exact h2
    · exact h2
  split
  · rw [State.count_kept]; exact h3
  · exact h3

theorem State.scrubStep_kept (s : State) : (State.scrubStep s).kept = s.kept := by
  unfold State.scrubStep
  simp only [kept_rules]

theorem State.domainTask_kept (q : List Instr) (s : State) (x1 : Nat) (x2 : Nat) (x3 : BellInputs) (hq : Held q s.kept) : Held q (State.domainTask s x1 x2 x3).kept := by
  unfold State.domainTask
  split
  · rw [State.scrubStep_kept]; exact hq
  · exact ⟨hq.1, hq.2.1, hq.2.2⟩
  · rw [State.chainCheck_kept]; exact hq
  · rw [State.publishBoards_kept]; exact hq
  · simp only [State.releaseShaped_kept, State.recordSamples_kept, State.leaveHold_kept, State.refill_kept]
    exact hq
  · rw [State.creditSyncs_kept]; exact hq
  · rw [foldl_kept _ _ (fun t n => State.portBell_kept t n), State.adaptLanes_kept]; exact hq
  · exact State.timeTask_kept q s hq
  · rw [State.porterRefill_kept]; exact hq
  · exact State.powerSample_kept q s _ hq
  · exact hq

theorem State.overran_kept (s : State) (x1 : Nat) : (State.overran s x1).kept = s.kept := by
  unfold State.overran
  simp only [kept_rules, State.occur_kept]

theorem execBellOverrun_kept (x0 : Nat) (s : State) : keptO (execBellOverrun x0 s) s.kept = s.kept := by
  unfold execBellOverrun
  repeat' (first | simp only [kept_rules, State.overran_kept] | split | with_reducible refine (State.atTime_kept _ _ _ ?_).trans ?_ | intro _)

theorem State.endBell_kept (s : State) : (State.endBell s).kept = s.kept := by
  unfold State.endBell
  repeat' (first | simp only [State.overran_kept] | with_reducible refine (foldl_kept _ _ ?_ _).trans ?_ | intro _)

/-- The mark of a boundary already passed leaves the queue and both memories. -/
theorem switched_held (q : List Instr) (s : State) (b : Bool) (hq : Held q s.kept) : Held q ({ s with switched := b } : State).kept := by
  have h : s.pending = q ∧ Cells.wf s.store = true ∧ Cells.wf s.bulk = true := hq
  rw [kept_mk]
  exact h

theorem execRwBellApply_kept (q : List Instr) (s : State) (hq : Held q s.kept) : HeldO q (execRwBellApply s) := by
  unfold execRwBellApply
  dsimp only
  split
  · rw [ok_eq, heldO_next]; exact hq
  · rw [ok_eq, heldO_next]
    exact State.switchBell_kept _ _ (switched_held _ _ _ (State.nextBoundary_kept _ _ (by rw [State.endBell_kept]; exact hq)))

theorem State.resumeDomain_kept (q : List Instr) (s : State) (x1 : Nat) (hq : Held q s.kept) : Held q (State.resumeDomain s x1).kept := by
  unfold State.resumeDomain
  repeat' (first | simp only [kept_rules] | with_reducible assumption | with_reducible refine State.domainTask_kept _ _ _ _ _ ?_ | with_reducible refine foldl_held _ _ _ ?_ _ ?_ | intro _)

theorem State.domainBell_kept (q : List Instr) (s : State) (x1 : BellInputs) (x2 : Nat) (hq : Held q s.kept) : Held q (State.domainBell s x1 x2).kept := by
  unfold State.domainBell
  repeat' (first | simp only [kept_rules, hq] | split | with_reducible refine State.resumeDomain_kept _ _ _ ?_)

theorem State.cycleCounts_kept (s : State) : (State.cycleCounts s).kept = s.kept := by
  unfold State.cycleCounts
  repeat' (first | simp only [kept_rules, State.draw_kept, State.tallyAdd_kept] | with_reducible refine (foldl_kept _ _ ?_ _).trans ?_ | intro _)

theorem State.senseBell_kept (q : List Instr) (s : State) (x1 : BellInputs) (hq : Held q s.kept) : Held q (State.senseBell s x1).kept := by
  exact ⟨hq.1, hq.2.1, hq.2.2⟩

theorem State.heldFaults_kept (s : State) (x1 : Bool) : (State.heldFaults s x1).kept = s.kept := by
  unfold State.heldFaults
  simp only [kept_rules, State.occur_kept, State.referenceHeld_kept]

theorem State.eccBell_kept (q : List Instr) (s : State) (x1 : BellInputs) (hq : Held q s.kept) : Held q (State.eccBell s x1).kept := by
  unfold State.eccBell
  repeat' (first | simp only [State.correctedAt_kept, State.eccWindow_kept] | with_reducible assumption | with_reducible refine State.uncorrectableAt_kept _ _ _ _ _ ?_ | with_reducible refine foldl_held _ _ _ ?_ _ ?_ | intro _)

theorem State.bellAcks_kept (s : State) : (State.bellAcks s).kept = s.kept := by
  unfold State.bellAcks
  repeat' (first | simp only [State.sendSack_kept] | split | with_reducible refine (foldl_kept _ _ ?_ _).trans ?_ | intro _)

theorem State.pathCheck_kept (s : State) : (State.pathCheck s).kept = s.kept := by
  unfold State.pathCheck
  simp only [kept_rules]

theorem State.bellRetries_kept (s : State) : (State.bellRetries s).kept = s.kept := by
  unfold State.bellRetries
  repeat' (first | simp only [State.retryPost_kept, State.sweepContexts_kept] | with_reducible refine (foldl_kept _ _ ?_ _).trans ?_ | intro _)

theorem State.boundary_kept (q : List Instr) (s : State) (x1 : BellInputs) (hq : Held q s.kept) : Held q (State.boundary s x1).kept := by
  unfold State.boundary
  extract_lets hot s1 s2 s3 s4 s5
  have h1 : Held q s1.kept := by
    simp only [s1]
    split
    · exact switched_held _ _ _ hq
    · exact State.switchBell_kept _ _ (State.nextBoundary_kept _ _ (by rw [State.endBell_kept]; exact hq))
  clear_value s1
  have h2 : Held q s2.kept := by
    simp only [s2, State.dumpDue_kept, State.latchSamples_kept, State.tallyLatch_kept, State.cycleCounts_kept]; exact h1
  clear_value s2
  have h3 : Held q s3.kept := by
    exact State.eccBell_kept _ _ _ (by rw [State.heldFaults_kept]; exact State.senseBell_kept _ _ _ h2)
  clear_value s3
  have h4 : Held q s4.kept := by
    simp only [s4, State.pathCheck_kept, State.bellAcks_kept]; exact h3
  clear_value s4
  have h5 : Held q s5.kept := foldl_held _ _ _ (fun _ _ h => State.domainBell_kept _ _ _ _ h) _ h4
  clear_value s5
  exact State.settleReset_kept _ _ (by rw [State.bellRetries_kept]; exact h5)

theorem execBellBoundary_kept (q : List Instr) (x0 : BellInputs) (s : State) (hq : Held q s.kept) : HeldO q (execBellBoundary x0 s) := by
  unfold execBellBoundary
  repeat' (first | simp only [held_rules, hq] | split | with_reducible refine State.boundary_kept _ _ _ ?_)

theorem State.performQueued_kept (q : List Instr) (s : State) (x1 : Queued) (hq : Held q s.kept) : Held q (State.performQueued s x1).kept := by
  unfold State.performQueued
  repeat' (first | simp only [State.lapAnswer_kept, hq] | split | with_reducible refine State.doWrite_kept _ _ _ _ _ ?_ | with_reducible refine State.doRead_kept _ _ _ _ ?_ | with_reducible refine State.putBlock_kept _ _ _ _ ?_ | with_reducible refine State.doRequest_kept _ _ _ _ ?_ | with_reducible refine State.finishImage_kept _ _ _ _ ?_)

theorem execChangeoverResume_kept (q : List Instr) (s : State) (hq : Held q s.kept) : HeldO q (execChangeoverResume s) := by
  unfold execChangeoverResume
  repeat' (first | simp only [kept_rules, held_rules] | split | with_reducible assumption | with_reducible refine State.performQueued_kept _ _ _ ?_ | with_reducible refine State.resumeDomain_kept _ _ _ ?_ | with_reducible refine foldl_held _ _ _ ?_ _ ?_ | intro _)

end Sys2Proof.Machine
end

