-- ==== Sys2Proof/Laws/Tab.lean ====
section
/-!
SUPPORT. Tables: what a look-up finds after a key is set, changed or removed.
-/
namespace Sys2Proof

variable {α : Type}

@[simp] theorem Tab.look_nil (k : Nat) : Tab.look ([] : Tab α) k = none := rfl

@[simp] theorem Tab.look_put_self (t : Tab α) (k : Nat) (v : α) : Tab.look (Tab.put t k v) k = some v := by
  induction t with
  | nil => simp [Tab.put, Tab.look]
  | cons e t ih =>
    unfold Tab.put
    split
    · simp [Tab.look]
    · split <;> simp_all [Tab.look]

theorem Tab.look_put_ne (t : Tab α) {j k : Nat} (v : α) (h : j ≠ k) : Tab.look (Tab.put t k v) j = Tab.look t j := by
  induction t with
  | nil => simp [Tab.put, Tab.look, Ne.symm h]
  | cons e t ih =>
    unfold Tab.put
    split
    · simp [Tab.look, Ne.symm h]
    · split
      · subst k; simp [Tab.look, Ne.symm h]
      · simp [Tab.look, ih]

@[simp] theorem Tab.getD_put_self (t : Tab α) (k : Nat) (v d : α) : Tab.getD (Tab.put t k v) k d = v := by simp [Tab.getD]

theorem Tab.getD_put_ne (t : Tab α) {j k : Nat} (v d : α) (h : j ≠ k) : Tab.getD (Tab.put t k v) j d = Tab.getD t j d := by
  simp [Tab.getD, Tab.look_put_ne t v h]

theorem Tab.look_mod_self (t : Tab α) (k : Nat) (f : α → α) : Tab.look (Tab.mod t k f) k = (Tab.look t k).map f := by
  unfold Tab.mod; split <;> simp_all

theorem Tab.look_mod_ne (t : Tab α) {j k : Nat} (f : α → α) (h : j ≠ k) : Tab.look (Tab.mod t k f) j = Tab.look t j := by
  unfold Tab.mod; split
  · exact Tab.look_put_ne t _ h
  · rfl

theorem Tab.look_del_ne (t : Tab α) {j k : Nat} (h : j ≠ k) : Tab.look (Tab.del t k) j = Tab.look t j := by
  induction t with
  | nil => rfl
  | cons e t ih =>
    unfold Tab.del
    split
    · subst k; simp [Tab.look, Ne.symm h]
    · simp [Tab.look, ih]

/-- Setting a key keeps the keys rising. -/
theorem Tab.wf_put (t : Tab α) (k : Nat) (v : α) (h : Tab.wf t = true) : Tab.wf (Tab.put t k v) = true := by
  induction t with
  | nil => rfl
  | cons e t ih =>
    obtain ⟨a, x⟩ := e
    unfold Tab.put
    split
    · simp_all [Tab.wf]
    · split
      · subst k; cases t <;> simp_all [Tab.wf]
      · cases t with
        | nil => simp [Tab.put, Tab.wf]; omega
        | cons e' t =>
          obtain ⟨b, y⟩ := e'
          simp only [Tab.wf, Bool.and_eq_true, decide_eq_true_eq] at h
          have hp := ih h.2
          by_cases h1 : k < b
          · simp_all [Tab.put, Tab.wf]; omega
          · by_cases h2 : b = k
            · simp_all [Tab.put, Tab.wf]
            · have hlt : ¬ k < b := h1
              simp only [Tab.put, if_neg hlt, if_neg h2] at hp ⊢
              simp [Tab.wf, h.1, hp]

end Sys2Proof
end

