-- ==== Sys2Proof/Laws/Ops.lean ====
section
/-!
SUPPORT. What the shared operations do, each said once: time that comes, changes of the lifecycle, a free choice among
numbers, a new key.
-/
namespace Sys2Proof.Machine

/-- What waits for an instant runs there, where that instant comes. -/
theorem State.atTime_comes (s : State) (T : Nat) (go : State → State) (h : s.comes T = true) :
    s.atTime T go = go (s.movedTo T) := by
  have h' : T < (s.ticks + 1) * 4096 := of_decide_eq_true h
  unfold State.atTime State.until State.movedTo
  by_cases h1 : T ≤ s.clock
  · rw [if_pos h1, if_pos h1]
  · rw [if_neg h1, if_neg h1, if_pos h']

theorem State.movedTo_rest (s : State) (T : Nat) : s.movedTo T = { s with sub := (s.movedTo T).sub } := by
  unfold State.movedTo
  split <;> rfl

/-- A change of the lifecycle touches nothing but the lifecycle and the bus. -/
theorem State.enterLife_rest (s : State) (l : Life) : s.enterLife l = { s with life := l, lap := (s.enterLife l).lap } := by
  unfold State.enterLife State.notice State.lapQueue
  split <;> rfl

theorem State.notice_rest (s : State) : s.notice = { s with lap := s.notice.lap } := by
  unfold State.notice State.lapQueue
  split <;> rfl

theorem State.notice_addr (s : State) : s.notice.lap.addr = s.lap.addr := by
  unfold State.notice State.lapQueue
  split <;> rfl

/-- The search finds a number where one of the range is free, and finds a free one. -/
theorem pickFree_finds (used : Nat → Bool) (lo n m k : Nat) (h : ∃ j < m, used (lo + (k + j) % n) = false) :
    ∃ x, pickFree used lo n m k = some x ∧ used x = false := by
  induction m generalizing k with
  | zero => obtain ⟨j, hj, _⟩ := h; omega
  | succ m ih =>
    unfold pickFree
    split
    · next hu =>
      obtain ⟨j, hj, hf⟩ := h
      cases j with
      | zero => rw [Nat.add_zero, hu] at hf; cases hf
      | succ j => exact ih (k + 1) ⟨j, by omega, by rw [Nat.add_assoc, Nat.add_comm 1 j]; exact hf⟩
    · next hu => exact ⟨_, rfl, by simpa using hu⟩

/-- What the search finds is free and lies in the range. -/
theorem pickFree_spec (used : Nat → Bool) (lo n m k x : Nat) (hn : 0 < n) (h : pickFree used lo n m k = some x) :
    used x = false ∧ lo ≤ x ∧ x < lo + n := by
  induction m generalizing k with
  | zero => cases h
  | succ m ih =>
    unfold pickFree at h
    split at h
    · exact ih _ h
    · next hu =>
      cases h
      exact ⟨by simpa using hu, Nat.le_add_right _ _, Nat.add_lt_add_left (Nat.mod_lt _ hn) _⟩

/-- Where a number of the range is free, a free choice gives one of them; only the count of free choices moves. -/
theorem State.choose_finds (s : State) (used : Nat → Bool) (lo n i : Nat) (hi : i < n) (h : used (lo + i) = false) :
    ∃ x s', s.choose used lo n = (some x, s') ∧ used x = false ∧ s' = { s with free := s.free + 1 } := by
  obtain ⟨x, hx, hu⟩ := pickFree_finds used lo n n ((Config.draw s.free).toNat % n)
    ⟨(i + n - (Config.draw s.free).toNat % n) % n, Nat.mod_lt _ (by omega), by
      have hk : (Config.draw s.free).toNat % n < n := Nat.mod_lt _ (by omega)
      rw [Nat.add_mod_mod, show (Config.draw s.free).toNat % n + (i + n - (Config.draw s.free).toNat % n) = i + n by omega,
        Nat.add_mod_right, Nat.mod_eq_of_lt hi]; exact h⟩
  refine ⟨x, _, ?_, hu, rfl⟩
  simp only [State.choose, State.draw]; rw [hx]

/-- What a free choice gives is free and lies in the range; only the count of free choices moves. -/
theorem State.choose_spec (s s' : State) (used : Nat → Bool) (lo n : Nat) (x : Option Nat) (hn : 0 < n)
    (h : s.choose used lo n = (x, s')) :
    (∀ y, x = some y → used y = false ∧ lo ≤ y ∧ y < lo + n) ∧ s' = { s with free := s.free + 1 } := by
  simp only [State.choose, State.draw] at h
  cases h
  exact ⟨fun y hy => pickFree_spec _ _ _ _ _ _ hn hy, rfl⟩

/-- Where `n` handles in a row are not in use, a handle is found. -/
theorem State.freshHandle_finds (s : State) (fn n h : Nat) (hn : 1 ≤ n) (h1 : 2 ≤ h) (h2 : h + n ≤ fnSlots fn) (h3 : h + n ≤ 0xFFFF)
    (hs : ∀ i < n, s.slotInUse fn (h + i) = false) :
    ∃ x s', s.freshHandle fn n = (some x, s') ∧ s' = { s with free := s.free + 1 } := by
  obtain ⟨x, s', e, -, r⟩ := State.choose_finds s
    (fun k => decide (fnSlots fn < k + n ∨ 0xFFFF < k + n) || (List.range n).any (fun i => s.slotInUse fn (k + i)))
    2 (fnSlots fn - 2) (h - 2) (by omega) (by
      have e : 2 + (h - 2) = h := by omega
      have hd : ¬(fnSlots fn < h + n ∨ 0xFFFF < h + n) := by omega
      simp only [e, decide_eq_false hd, Bool.false_or, List.any_eq_false, List.mem_range]
      exact fun i hi => by simp [hs i hi])
  exact ⟨x, s', e, r⟩

/-- What making a key does: INDEX and VARIANT are new, the key stands in the table, and nothing else changes. -/
theorem State.newKey_spec (s s' : State) (k : Key) (x : Nat) (h : s.newKey k = some (x, s')) :
    ∃ v, x < 1048576 ∧ v < 256 ∧ Tab.has s.keys x = false ∧ (s.usedVariants x).contains v = false ∧
      s' = { s with keys := Tab.put s.keys x { k with variant := v },
                    variants := Tab.put s.variants x (s.usedVariants x ++ [v]), free := s.free + 2 } := by
  unfold State.newKey at h
  split at h
  · cases h
  · next i s1 h1 =>
    obtain ⟨hx, r1⟩ := State.choose_spec _ _ _ _ _ _ (by decide) h1
    split at h
    · cases h
    · next v s2 h2 =>
      obtain ⟨hv, r2⟩ := State.choose_spec _ _ _ _ _ _ (by decide) h2
      cases h
      subst r1; subst r2
      obtain ⟨hu, _, hi⟩ := hx _ rfl
      obtain ⟨hw, _, hj⟩ := hv _ rfl
      exact ⟨v, by simpa [keyTotal] using hi, by simpa using hj, hu, hw, rfl⟩

/-- Where an INDEX is free, a key can be made, and stands in the table. -/
theorem State.newKey_finds (s : State) (k : Key) (i : Nat) (hi : i < 1048576) (h : Tab.has s.keys i = false)
    (hv : ∀ x, (s.usedVariants x).contains 0 = false) :
    ∃ x v s', s.newKey k = some (x, s') ∧ Tab.look s'.keys x = some v := by
  obtain ⟨x, s1, h1, -, r1⟩ := State.choose_finds s (fun i => Tab.has s.keys i) 0 keyTotal i hi (by simpa using h)
  obtain ⟨v, s2, h2, -, r2⟩ := State.choose_finds s1 (fun v => (s1.usedVariants x).contains v) 0 256 0 (by decide)
    (by subst r1; exact hv x)
  have e : s.newKey k = some (x, { s2 with keys := Tab.put s2.keys x { k with variant := v },
                                           variants := Tab.put s2.variants x (s1.usedVariants x ++ [v]) }) := by
    simp only [State.newKey, h1, h2]
    subst r2; rfl
  exact ⟨x, _, _, e, Tab.look_put_self _ _ _⟩

end Sys2Proof.Machine
end

