-- ==== Sys2Proof/Laws/State.lean ====
section
/-!
SUPPORT. The shared updates of one field of the state: what each leaves as it is, field by field, and what it writes.
-/
namespace Sys2Proof.Machine

/-! The part sends something. -/

@[simp] theorem State.emit_pending (s : State) (o : Output) : (s.emit o).pending = s.pending := rfl
@[simp] theorem State.emit_life (s : State) (o : Output) : (s.emit o).life = s.life := rfl
@[simp] theorem State.emit_ticks (s : State) (o : Output) : (s.emit o).ticks = s.ticks := rfl
@[simp] theorem State.emit_sub (s : State) (o : Output) : (s.emit o).sub = s.sub := rfl
@[simp] theorem State.emit_switched (s : State) (o : Output) : (s.emit o).switched = s.switched := rfl
@[simp] theorem State.emit_free (s : State) (o : Output) : (s.emit o).free = s.free := rfl
@[simp] theorem State.emit_tags (s : State) (o : Output) : (s.emit o).tags = s.tags := rfl
@[simp] theorem State.emit_deferred (s : State) (o : Output) : (s.emit o).deferred = s.deferred := rfl
@[simp] theorem State.emit_ledger (s : State) (o : Output) : (s.emit o).ledger = s.ledger := rfl
@[simp] theorem State.emit_staged (s : State) (o : Output) : (s.emit o).staged = s.staged := rfl
@[simp] theorem State.emit_hostA (s : State) (o : Output) : (s.emit o).hostA = s.hostA := rfl
@[simp] theorem State.emit_hostB (s : State) (o : Output) : (s.emit o).hostB = s.hostB := rfl
@[simp] theorem State.emit_bootA (s : State) (o : Output) : (s.emit o).bootA = s.bootA := rfl
@[simp] theorem State.emit_bootB (s : State) (o : Output) : (s.emit o).bootB = s.bootB := rfl
@[simp] theorem State.emit_fns (s : State) (o : Output) : (s.emit o).fns = s.fns := rfl
@[simp] theorem State.emit_cqs (s : State) (o : Output) : (s.emit o).cqs = s.cqs := rfl
@[simp] theorem State.emit_eqs (s : State) (o : Output) : (s.emit o).eqs = s.eqs := rfl
@[simp] theorem State.emit_srqs (s : State) (o : Output) : (s.emit o).srqs = s.srqs := rfl
@[simp] theorem State.emit_qps (s : State) (o : Output) : (s.emit o).qps = s.qps := rfl
@[simp] theorem State.emit_ctxs (s : State) (o : Output) : (s.emit o).ctxs = s.ctxs := rfl
@[simp] theorem State.emit_bench (s : State) (o : Output) : (s.emit o).bench = s.bench := rfl
@[simp] theorem State.emit_landing (s : State) (o : Output) : (s.emit o).landing = s.landing := rfl
@[simp] theorem State.emit_parked (s : State) (o : Output) : (s.emit o).parked = s.parked := rfl
@[simp] theorem State.emit_groupRx (s : State) (o : Output) : (s.emit o).groupRx = s.groupRx := rfl
@[simp] theorem State.emit_groupSeen (s : State) (o : Output) : (s.emit o).groupSeen = s.groupSeen := rfl
@[simp] theorem State.emit_keys (s : State) (o : Output) : (s.emit o).keys = s.keys := rfl
@[simp] theorem State.emit_variants (s : State) (o : Output) : (s.emit o).variants = s.variants := rfl
@[simp] theorem State.emit_dying (s : State) (o : Output) : (s.emit o).dying = s.dying := rfl
@[simp] theorem State.emit_tlb (s : State) (o : Output) : (s.emit o).tlb = s.tlb := rfl
@[simp] theorem State.emit_misses (s : State) (o : Output) : (s.emit o).misses = s.misses := rfl
@[simp] theorem State.emit_missNum (s : State) (o : Output) : (s.emit o).missNum = s.missNum := rfl
@[simp] theorem State.emit_reads (s : State) (o : Output) : (s.emit o).reads = s.reads := rfl
@[simp] theorem State.emit_pathA (s : State) (o : Output) : (s.emit o).pathA = s.pathA := rfl
@[simp] theorem State.emit_pathB (s : State) (o : Output) : (s.emit o).pathB = s.pathB := rfl
@[simp] theorem State.emit_wonA (s : State) (o : Output) : (s.emit o).wonA = s.wonA := rfl
@[simp] theorem State.emit_wonB (s : State) (o : Output) : (s.emit o).wonB = s.wonB := rfl
@[simp] theorem State.emit_store (s : State) (o : Output) : (s.emit o).store = s.store := rfl
@[simp] theorem State.emit_storePoison (s : State) (o : Output) : (s.emit o).storePoison = s.storePoison := rfl
@[simp] theorem State.emit_bulk (s : State) (o : Output) : (s.emit o).bulk = s.bulk := rfl
@[simp] theorem State.emit_scrub (s : State) (o : Output) : (s.emit o).scrub = s.scrub := rfl
@[simp] theorem State.emit_trees (s : State) (o : Output) : (s.emit o).trees = s.trees := rfl
@[simp] theorem State.emit_inputs (s : State) (o : Output) : (s.emit o).inputs = s.inputs := rfl
@[simp] theorem State.emit_pktNum (s : State) (o : Output) : (s.emit o).pktNum = s.pktNum := rfl
@[simp] theorem State.emit_arrived (s : State) (o : Output) : (s.emit o).arrived = s.arrived := rfl
@[simp] theorem State.emit_shaped (s : State) (o : Output) : (s.emit o).shaped = s.shaped := rfl
@[simp] theorem State.emit_mcast (s : State) (o : Output) : (s.emit o).mcast = s.mcast := rfl
@[simp] theorem State.emit_boards (s : State) (o : Output) : (s.emit o).boards = s.boards := rfl
@[simp] theorem State.emit_rr (s : State) (o : Output) : (s.emit o).rr = s.rr := rfl
@[simp] theorem State.emit_sched (s : State) (o : Output) : (s.emit o).sched = s.sched := rfl
@[simp] theorem State.emit_buckets (s : State) (o : Output) : (s.emit o).buckets = s.buckets := rfl
@[simp] theorem State.emit_samples (s : State) (o : Output) : (s.emit o).samples = s.samples := rfl
@[simp] theorem State.emit_latch (s : State) (o : Output) : (s.emit o).latch = s.latch := rfl
@[simp] theorem State.emit_pmem (s : State) (o : Output) : (s.emit o).pmem = s.pmem := rfl
@[simp] theorem State.emit_links (s : State) (o : Output) : (s.emit o).links = s.links := rfl
@[simp] theorem State.emit_ports (s : State) (o : Output) : (s.emit o).ports = s.ports := rfl
@[simp] theorem State.emit_lanes (s : State) (o : Output) : (s.emit o).lanes = s.lanes := rfl
@[simp] theorem State.emit_time (s : State) (o : Output) : (s.emit o).time = s.time := rfl
@[simp] theorem State.emit_porter (s : State) (o : Output) : (s.emit o).porter = s.porter := rfl
@[simp] theorem State.emit_lap (s : State) (o : Output) : (s.emit o).lap = s.lap := rfl
@[simp] theorem State.emit_clerk (s : State) (o : Output) : (s.emit o).clerk = s.clerk := rfl
@[simp] theorem State.emit_power (s : State) (o : Output) : (s.emit o).power = s.power := rfl
@[simp] theorem State.emit_beadle (s : State) (o : Output) : (s.emit o).beadle = s.beadle := rfl
@[simp] theorem State.emit_tally (s : State) (o : Output) : (s.emit o).tally = s.tally := rfl
@[simp] theorem State.emit_wakeN (s : State) (o : Output) : (s.emit o).wakeN = s.wakeN := rfl

/-! A function changes. -/

@[simp] theorem State.setFn_pending (s : State) (fn : Nat) (f : Fn → Fn) : (s.setFn fn f).pending = s.pending := rfl
@[simp] theorem State.setFn_life (s : State) (fn : Nat) (f : Fn → Fn) : (s.setFn fn f).life = s.life := rfl
@[simp] theorem State.setFn_ticks (s : State) (fn : Nat) (f : Fn → Fn) : (s.setFn fn f).ticks = s.ticks := rfl
@[simp] theorem State.setFn_sub (s : State) (fn : Nat) (f : Fn → Fn) : (s.setFn fn f).sub = s.sub := rfl
@[simp] theorem State.setFn_switched (s : State) (fn : Nat) (f : Fn → Fn) : (s.setFn fn f).switched = s.switched := rfl
@[simp] theorem State.setFn_free (s : State) (fn : Nat) (f : Fn → Fn) : (s.setFn fn f).free = s.free := rfl
@[simp] theorem State.setFn_tags (s : State) (fn : Nat) (f : Fn → Fn) : (s.setFn fn f).tags = s.tags := rfl
@[simp] theorem State.setFn_deferred (s : State) (fn : Nat) (f : Fn → Fn) : (s.setFn fn f).deferred = s.deferred := rfl
@[simp] theorem State.setFn_ledger (s : State) (fn : Nat) (f : Fn → Fn) : (s.setFn fn f).ledger = s.ledger := rfl
@[simp] theorem State.setFn_staged (s : State) (fn : Nat) (f : Fn → Fn) : (s.setFn fn f).staged = s.staged := rfl
@[simp] theorem State.setFn_hostA (s : State) (fn : Nat) (f : Fn → Fn) : (s.setFn fn f).hostA = s.hostA := rfl
@[simp] theorem State.setFn_hostB (s : State) (fn : Nat) (f : Fn → Fn) : (s.setFn fn f).hostB = s.hostB := rfl
@[simp] theorem State.setFn_bootA (s : State) (fn : Nat) (f : Fn → Fn) : (s.setFn fn f).bootA = s.bootA := rfl
@[simp] theorem State.setFn_bootB (s : State) (fn : Nat) (f : Fn → Fn) : (s.setFn fn f).bootB = s.bootB := rfl
@[simp] theorem State.setFn_cqs (s : State) (fn : Nat) (f : Fn → Fn) : (s.setFn fn f).cqs = s.cqs := rfl
@[simp] theorem State.setFn_eqs (s : State) (fn : Nat) (f : Fn → Fn) : (s.setFn fn f).eqs = s.eqs := rfl
@[simp] theorem State.setFn_srqs (s : State) (fn : Nat) (f : Fn → Fn) : (s.setFn fn f).srqs = s.srqs := rfl
@[simp] theorem State.setFn_qps (s : State) (fn : Nat) (f : Fn → Fn) : (s.setFn fn f).qps = s.qps := rfl
@[simp] theorem State.setFn_ctxs (s : State) (fn : Nat) (f : Fn → Fn) : (s.setFn fn f).ctxs = s.ctxs := rfl
@[simp] theorem State.setFn_bench (s : State) (fn : Nat) (f : Fn → Fn) : (s.setFn fn f).bench = s.bench := rfl
@[simp] theorem State.setFn_landing (s : State) (fn : Nat) (f : Fn → Fn) : (s.setFn fn f).landing = s.landing := rfl
@[simp] theorem State.setFn_parked (s : State) (fn : Nat) (f : Fn → Fn) : (s.setFn fn f).parked = s.parked := rfl
@[simp] theorem State.setFn_groupRx (s : State) (fn : Nat) (f : Fn → Fn) : (s.setFn fn f).groupRx = s.groupRx := rfl
@[simp] theorem State.setFn_groupSeen (s : State) (fn : Nat) (f : Fn → Fn) : (s.setFn fn f).groupSeen = s.groupSeen := rfl
@[simp] theorem State.setFn_keys (s : State) (fn : Nat) (f : Fn → Fn) : (s.setFn fn f).keys = s.keys := rfl
@[simp] theorem State.setFn_variants (s : State) (fn : Nat) (f : Fn → Fn) : (s.setFn fn f).variants = s.variants := rfl
@[simp] theorem State.setFn_dying (s : State) (fn : Nat) (f : Fn → Fn) : (s.setFn fn f).dying = s.dying := rfl
@[simp] theorem State.setFn_tlb (s : State) (fn : Nat) (f : Fn → Fn) : (s.setFn fn f).tlb = s.tlb := rfl
@[simp] theorem State.setFn_misses (s : State) (fn : Nat) (f : Fn → Fn) : (s.setFn fn f).misses = s.misses := rfl
@[simp] theorem State.setFn_missNum (s : State) (fn : Nat) (f : Fn → Fn) : (s.setFn fn f).missNum = s.missNum := rfl
@[simp] theorem State.setFn_reads (s : State) (fn : Nat) (f : Fn → Fn) : (s.setFn fn f).reads = s.reads := rfl
@[simp] theorem State.setFn_pathA (s : State) (fn : Nat) (f : Fn → Fn) : (s.setFn fn f).pathA = s.pathA := rfl
@[simp] theorem State.setFn_pathB (s : State) (fn : Nat) (f : Fn → Fn) : (s.setFn fn f).pathB = s.pathB := rfl
@[simp] theorem State.setFn_wonA (s : State) (fn : Nat) (f : Fn → Fn) : (s.setFn fn f).wonA = s.wonA := rfl
@[simp] theorem State.setFn_wonB (s : State) (fn : Nat) (f : Fn → Fn) : (s.setFn fn f).wonB = s.wonB := rfl
@[simp] theorem State.setFn_store (s : State) (fn : Nat) (f : Fn → Fn) : (s.setFn fn f).store = s.store := rfl
@[simp] theorem State.setFn_storePoison (s : State) (fn : Nat) (f : Fn → Fn) : (s.setFn fn f).storePoison = s.storePoison := rfl
@[simp] theorem State.setFn_bulk (s : State) (fn : Nat) (f : Fn → Fn) : (s.setFn fn f).bulk = s.bulk := rfl
@[simp] theorem State.setFn_scrub (s : State) (fn : Nat) (f : Fn → Fn) : (s.setFn fn f).scrub = s.scrub := rfl
@[simp] theorem State.setFn_trees (s : State) (fn : Nat) (f : Fn → Fn) : (s.setFn fn f).trees = s.trees := rfl
@[simp] theorem State.setFn_inputs (s : State) (fn : Nat) (f : Fn → Fn) : (s.setFn fn f).inputs = s.inputs := rfl
@[simp] theorem State.setFn_pktNum (s : State) (fn : Nat) (f : Fn → Fn) : (s.setFn fn f).pktNum = s.pktNum := rfl
@[simp] theorem State.setFn_arrived (s : State) (fn : Nat) (f : Fn → Fn) : (s.setFn fn f).arrived = s.arrived := rfl
@[simp] theorem State.setFn_shaped (s : State) (fn : Nat) (f : Fn → Fn) : (s.setFn fn f).shaped = s.shaped := rfl
@[simp] theorem State.setFn_mcast (s : State) (fn : Nat) (f : Fn → Fn) : (s.setFn fn f).mcast = s.mcast := rfl
@[simp] theorem State.setFn_boards (s : State) (fn : Nat) (f : Fn → Fn) : (s.setFn fn f).boards = s.boards := rfl
@[simp] theorem State.setFn_rr (s : State) (fn : Nat) (f : Fn → Fn) : (s.setFn fn f).rr = s.rr := rfl
@[simp] theorem State.setFn_sched (s : State) (fn : Nat) (f : Fn → Fn) : (s.setFn fn f).sched = s.sched := rfl
@[simp] theorem State.setFn_buckets (s : State) (fn : Nat) (f : Fn → Fn) : (s.setFn fn f).buckets = s.buckets := rfl
@[simp] theorem State.setFn_samples (s : State) (fn : Nat) (f : Fn → Fn) : (s.setFn fn f).samples = s.samples := rfl
@[simp] theorem State.setFn_latch (s : State) (fn : Nat) (f : Fn → Fn) : (s.setFn fn f).latch = s.latch := rfl
@[simp] theorem State.setFn_pmem (s : State) (fn : Nat) (f : Fn → Fn) : (s.setFn fn f).pmem = s.pmem := rfl
@[simp] theorem State.setFn_links (s : State) (fn : Nat) (f : Fn → Fn) : (s.setFn fn f).links = s.links := rfl
@[simp] theorem State.setFn_ports (s : State) (fn : Nat) (f : Fn → Fn) : (s.setFn fn f).ports = s.ports := rfl
@[simp] theorem State.setFn_lanes (s : State) (fn : Nat) (f : Fn → Fn) : (s.setFn fn f).lanes = s.lanes := rfl
@[simp] theorem State.setFn_time (s : State) (fn : Nat) (f : Fn → Fn) : (s.setFn fn f).time = s.time := rfl
@[simp] theorem State.setFn_porter (s : State) (fn : Nat) (f : Fn → Fn) : (s.setFn fn f).porter = s.porter := rfl
@[simp] theorem State.setFn_lap (s : State) (fn : Nat) (f : Fn → Fn) : (s.setFn fn f).lap = s.lap := rfl
@[simp] theorem State.setFn_clerk (s : State) (fn : Nat) (f : Fn → Fn) : (s.setFn fn f).clerk = s.clerk := rfl
@[simp] theorem State.setFn_power (s : State) (fn : Nat) (f : Fn → Fn) : (s.setFn fn f).power = s.power := rfl
@[simp] theorem State.setFn_beadle (s : State) (fn : Nat) (f : Fn → Fn) : (s.setFn fn f).beadle = s.beadle := rfl
@[simp] theorem State.setFn_tally (s : State) (fn : Nat) (f : Fn → Fn) : (s.setFn fn f).tally = s.tally := rfl
@[simp] theorem State.setFn_wakeN (s : State) (fn : Nat) (f : Fn → Fn) : (s.setFn fn f).wakeN = s.wakeN := rfl
@[simp] theorem State.setFn_out (s : State) (fn : Nat) (f : Fn → Fn) : (s.setFn fn f).out = s.out := rfl

/-! A queue pair changes. -/

@[simp] theorem State.modQp_pending (s : State) (qpn : Nat) (f : Qp → Qp) : (s.modQp qpn f).pending = s.pending := rfl
@[simp] theorem State.modQp_life (s : State) (qpn : Nat) (f : Qp → Qp) : (s.modQp qpn f).life = s.life := rfl
@[simp] theorem State.modQp_ticks (s : State) (qpn : Nat) (f : Qp → Qp) : (s.modQp qpn f).ticks = s.ticks := rfl
@[simp] theorem State.modQp_sub (s : State) (qpn : Nat) (f : Qp → Qp) : (s.modQp qpn f).sub = s.sub := rfl
@[simp] theorem State.modQp_switched (s : State) (qpn : Nat) (f : Qp → Qp) : (s.modQp qpn f).switched = s.switched := rfl
@[simp] theorem State.modQp_free (s : State) (qpn : Nat) (f : Qp → Qp) : (s.modQp qpn f).free = s.free := rfl
@[simp] theorem State.modQp_tags (s : State) (qpn : Nat) (f : Qp → Qp) : (s.modQp qpn f).tags = s.tags := rfl
@[simp] theorem State.modQp_deferred (s : State) (qpn : Nat) (f : Qp → Qp) : (s.modQp qpn f).deferred = s.deferred := rfl
@[simp] theorem State.modQp_ledger (s : State) (qpn : Nat) (f : Qp → Qp) : (s.modQp qpn f).ledger = s.ledger := rfl
@[simp] theorem State.modQp_staged (s : State) (qpn : Nat) (f : Qp → Qp) : (s.modQp qpn f).staged = s.staged := rfl
@[simp] theorem State.modQp_hostA (s : State) (qpn : Nat) (f : Qp → Qp) : (s.modQp qpn f).hostA = s.hostA := rfl
@[simp] theorem State.modQp_hostB (s : State) (qpn : Nat) (f : Qp → Qp) : (s.modQp qpn f).hostB = s.hostB := rfl
@[simp] theorem State.modQp_bootA (s : State) (qpn : Nat) (f : Qp → Qp) : (s.modQp qpn f).bootA = s.bootA := rfl
@[simp] theorem State.modQp_bootB (s : State) (qpn : Nat) (f : Qp → Qp) : (s.modQp qpn f).bootB = s.bootB := rfl
@[simp] theorem State.modQp_fns (s : State) (qpn : Nat) (f : Qp → Qp) : (s.modQp qpn f).fns = s.fns := rfl
@[simp] theorem State.modQp_cqs (s : State) (qpn : Nat) (f : Qp → Qp) : (s.modQp qpn f).cqs = s.cqs := rfl
@[simp] theorem State.modQp_eqs (s : State) (qpn : Nat) (f : Qp → Qp) : (s.modQp qpn f).eqs = s.eqs := rfl
@[simp] theorem State.modQp_srqs (s : State) (qpn : Nat) (f : Qp → Qp) : (s.modQp qpn f).srqs = s.srqs := rfl
@[simp] theorem State.modQp_ctxs (s : State) (qpn : Nat) (f : Qp → Qp) : (s.modQp qpn f).ctxs = s.ctxs := rfl
@[simp] theorem State.modQp_bench (s : State) (qpn : Nat) (f : Qp → Qp) : (s.modQp qpn f).bench = s.bench := rfl
@[simp] theorem State.modQp_landing (s : State) (qpn : Nat) (f : Qp → Qp) : (s.modQp qpn f).landing = s.landing := rfl
@[simp] theorem State.modQp_parked (s : State) (qpn : Nat) (f : Qp → Qp) : (s.modQp qpn f).parked = s.parked := rfl
@[simp] theorem State.modQp_groupRx (s : State) (qpn : Nat) (f : Qp → Qp) : (s.modQp qpn f).groupRx = s.groupRx := rfl
@[simp] theorem State.modQp_groupSeen (s : State) (qpn : Nat) (f : Qp → Qp) : (s.modQp qpn f).groupSeen = s.groupSeen := rfl
@[simp] theorem State.modQp_keys (s : State) (qpn : Nat) (f : Qp → Qp) : (s.modQp qpn f).keys = s.keys := rfl
@[simp] theorem State.modQp_variants (s : State) (qpn : Nat) (f : Qp → Qp) : (s.modQp qpn f).variants = s.variants := rfl
@[simp] theorem State.modQp_dying (s : State) (qpn : Nat) (f : Qp → Qp) : (s.modQp qpn f).dying = s.dying := rfl
@[simp] theorem State.modQp_tlb (s : State) (qpn : Nat) (f : Qp → Qp) : (s.modQp qpn f).tlb = s.tlb := rfl
@[simp] theorem State.modQp_misses (s : State) (qpn : Nat) (f : Qp → Qp) : (s.modQp qpn f).misses = s.misses := rfl
@[simp] theorem State.modQp_missNum (s : State) (qpn : Nat) (f : Qp → Qp) : (s.modQp qpn f).missNum = s.missNum := rfl
@[simp] theorem State.modQp_reads (s : State) (qpn : Nat) (f : Qp → Qp) : (s.modQp qpn f).reads = s.reads := rfl
@[simp] theorem State.modQp_pathA (s : State) (qpn : Nat) (f : Qp → Qp) : (s.modQp qpn f).pathA = s.pathA := rfl
@[simp] theorem State.modQp_pathB (s : State) (qpn : Nat) (f : Qp → Qp) : (s.modQp qpn f).pathB = s.pathB := rfl
@[simp] theorem State.modQp_wonA (s : State) (qpn : Nat) (f : Qp → Qp) : (s.modQp qpn f).wonA = s.wonA := rfl
@[simp] theorem State.modQp_wonB (s : State) (qpn : Nat) (f : Qp → Qp) : (s.modQp qpn f).wonB = s.wonB := rfl
@[simp] theorem State.modQp_store (s : State) (qpn : Nat) (f : Qp → Qp) : (s.modQp qpn f).store = s.store := rfl
@[simp] theorem State.modQp_storePoison (s : State) (qpn : Nat) (f : Qp → Qp) : (s.modQp qpn f).storePoison = s.storePoison := rfl
@[simp] theorem State.modQp_bulk (s : State) (qpn : Nat) (f : Qp → Qp) : (s.modQp qpn f).bulk = s.bulk := rfl
@[simp] theorem State.modQp_scrub (s : State) (qpn : Nat) (f : Qp → Qp) : (s.modQp qpn f).scrub = s.scrub := rfl
@[simp] theorem State.modQp_trees (s : State) (qpn : Nat) (f : Qp → Qp) : (s.modQp qpn f).trees = s.trees := rfl
@[simp] theorem State.modQp_inputs (s : State) (qpn : Nat) (f : Qp → Qp) : (s.modQp qpn f).inputs = s.inputs := rfl
@[simp] theorem State.modQp_pktNum (s : State) (qpn : Nat) (f : Qp → Qp) : (s.modQp qpn f).pktNum = s.pktNum := rfl
@[simp] theorem State.modQp_arrived (s : State) (qpn : Nat) (f : Qp → Qp) : (s.modQp qpn f).arrived = s.arrived := rfl
@[simp] theorem State.modQp_shaped (s : State) (qpn : Nat) (f : Qp → Qp) : (s.modQp qpn f).shaped = s.shaped := rfl
@[simp] theorem State.modQp_mcast (s : State) (qpn : Nat) (f : Qp → Qp) : (s.modQp qpn f).mcast = s.mcast := rfl
@[simp] theorem State.modQp_boards (s : State) (qpn : Nat) (f : Qp → Qp) : (s.modQp qpn f).boards = s.boards := rfl
@[simp] theorem State.modQp_rr (s : State) (qpn : Nat) (f : Qp → Qp) : (s.modQp qpn f).rr = s.rr := rfl
@[simp] theorem State.modQp_sched (s : State) (qpn : Nat) (f : Qp → Qp) : (s.modQp qpn f).sched = s.sched := rfl
@[simp] theorem State.modQp_buckets (s : State) (qpn : Nat) (f : Qp → Qp) : (s.modQp qpn f).buckets = s.buckets := rfl
@[simp] theorem State.modQp_samples (s : State) (qpn : Nat) (f : Qp → Qp) : (s.modQp qpn f).samples = s.samples := rfl
@[simp] theorem State.modQp_latch (s : State) (qpn : Nat) (f : Qp → Qp) : (s.modQp qpn f).latch = s.latch := rfl
@[simp] theorem State.modQp_pmem (s : State) (qpn : Nat) (f : Qp → Qp) : (s.modQp qpn f).pmem = s.pmem := rfl
@[simp] theorem State.modQp_links (s : State) (qpn : Nat) (f : Qp → Qp) : (s.modQp qpn f).links = s.links := rfl
@[simp] theorem State.modQp_ports (s : State) (qpn : Nat) (f : Qp → Qp) : (s.modQp qpn f).ports = s.ports := rfl
@[simp] theorem State.modQp_lanes (s : State) (qpn : Nat) (f : Qp → Qp) : (s.modQp qpn f).lanes = s.lanes := rfl
@[simp] theorem State.modQp_time (s : State) (qpn : Nat) (f : Qp → Qp) : (s.modQp qpn f).time = s.time := rfl
@[simp] theorem State.modQp_porter (s : State) (qpn : Nat) (f : Qp → Qp) : (s.modQp qpn f).porter = s.porter := rfl
@[simp] theorem State.modQp_lap (s : State) (qpn : Nat) (f : Qp → Qp) : (s.modQp qpn f).lap = s.lap := rfl
@[simp] theorem State.modQp_clerk (s : State) (qpn : Nat) (f : Qp → Qp) : (s.modQp qpn f).clerk = s.clerk := rfl
@[simp] theorem State.modQp_power (s : State) (qpn : Nat) (f : Qp → Qp) : (s.modQp qpn f).power = s.power := rfl
@[simp] theorem State.modQp_beadle (s : State) (qpn : Nat) (f : Qp → Qp) : (s.modQp qpn f).beadle = s.beadle := rfl
@[simp] theorem State.modQp_tally (s : State) (qpn : Nat) (f : Qp → Qp) : (s.modQp qpn f).tally = s.tally := rfl
@[simp] theorem State.modQp_wakeN (s : State) (qpn : Nat) (f : Qp → Qp) : (s.modQp qpn f).wakeN = s.wakeN := rfl
@[simp] theorem State.modQp_out (s : State) (qpn : Nat) (f : Qp → Qp) : (s.modQp qpn f).out = s.out := rfl

/-! A shared receive queue changes. -/

@[simp] theorem State.modSrq_pending (s : State) (key : Nat) (f : Srq → Srq) : (s.modSrq key f).pending = s.pending := rfl
@[simp] theorem State.modSrq_life (s : State) (key : Nat) (f : Srq → Srq) : (s.modSrq key f).life = s.life := rfl
@[simp] theorem State.modSrq_ticks (s : State) (key : Nat) (f : Srq → Srq) : (s.modSrq key f).ticks = s.ticks := rfl
@[simp] theorem State.modSrq_sub (s : State) (key : Nat) (f : Srq → Srq) : (s.modSrq key f).sub = s.sub := rfl
@[simp] theorem State.modSrq_switched (s : State) (key : Nat) (f : Srq → Srq) : (s.modSrq key f).switched = s.switched := rfl
@[simp] theorem State.modSrq_free (s : State) (key : Nat) (f : Srq → Srq) : (s.modSrq key f).free = s.free := rfl
@[simp] theorem State.modSrq_tags (s : State) (key : Nat) (f : Srq → Srq) : (s.modSrq key f).tags = s.tags := rfl
@[simp] theorem State.modSrq_deferred (s : State) (key : Nat) (f : Srq → Srq) : (s.modSrq key f).deferred = s.deferred := rfl
@[simp] theorem State.modSrq_ledger (s : State) (key : Nat) (f : Srq → Srq) : (s.modSrq key f).ledger = s.ledger := rfl
@[simp] theorem State.modSrq_staged (s : State) (key : Nat) (f : Srq → Srq) : (s.modSrq key f).staged = s.staged := rfl
@[simp] theorem State.modSrq_hostA (s : State) (key : Nat) (f : Srq → Srq) : (s.modSrq key f).hostA = s.hostA := rfl
@[simp] theorem State.modSrq_hostB (s : State) (key : Nat) (f : Srq → Srq) : (s.modSrq key f).hostB = s.hostB := rfl
@[simp] theorem State.modSrq_bootA (s : State) (key : Nat) (f : Srq → Srq) : (s.modSrq key f).bootA = s.bootA := rfl
@[simp] theorem State.modSrq_bootB (s : State) (key : Nat) (f : Srq → Srq) : (s.modSrq key f).bootB = s.bootB := rfl
@[simp] theorem State.modSrq_fns (s : State) (key : Nat) (f : Srq → Srq) : (s.modSrq key f).fns = s.fns := rfl
@[simp] theorem State.modSrq_cqs (s : State) (key : Nat) (f : Srq → Srq) : (s.modSrq key f).cqs = s.cqs := rfl
@[simp] theorem State.modSrq_eqs (s : State) (key : Nat) (f : Srq → Srq) : (s.modSrq key f).eqs = s.eqs := rfl
@[simp] theorem State.modSrq_qps (s : State) (key : Nat) (f : Srq → Srq) : (s.modSrq key f).qps = s.qps := rfl
@[simp] theorem State.modSrq_ctxs (s : State) (key : Nat) (f : Srq → Srq) : (s.modSrq key f).ctxs = s.ctxs := rfl
@[simp] theorem State.modSrq_bench (s : State) (key : Nat) (f : Srq → Srq) : (s.modSrq key f).bench = s.bench := rfl
@[simp] theorem State.modSrq_landing (s : State) (key : Nat) (f : Srq → Srq) : (s.modSrq key f).landing = s.landing := rfl
@[simp] theorem State.modSrq_parked (s : State) (key : Nat) (f : Srq → Srq) : (s.modSrq key f).parked = s.parked := rfl
@[simp] theorem State.modSrq_groupRx (s : State) (key : Nat) (f : Srq → Srq) : (s.modSrq key f).groupRx = s.groupRx := rfl
@[simp] theorem State.modSrq_groupSeen (s : State) (key : Nat) (f : Srq → Srq) : (s.modSrq key f).groupSeen = s.groupSeen := rfl
@[simp] theorem State.modSrq_keys (s : State) (key : Nat) (f : Srq → Srq) : (s.modSrq key f).keys = s.keys := rfl
@[simp] theorem State.modSrq_variants (s : State) (key : Nat) (f : Srq → Srq) : (s.modSrq key f).variants = s.variants := rfl
@[simp] theorem State.modSrq_dying (s : State) (key : Nat) (f : Srq → Srq) : (s.modSrq key f).dying = s.dying := rfl
@[simp] theorem State.modSrq_tlb (s : State) (key : Nat) (f : Srq → Srq) : (s.modSrq key f).tlb = s.tlb := rfl
@[simp] theorem State.modSrq_misses (s : State) (key : Nat) (f : Srq → Srq) : (s.modSrq key f).misses = s.misses := rfl
@[simp] theorem State.modSrq_missNum (s : State) (key : Nat) (f : Srq → Srq) : (s.modSrq key f).missNum = s.missNum := rfl
@[simp] theorem State.modSrq_reads (s : State) (key : Nat) (f : Srq → Srq) : (s.modSrq key f).reads = s.reads := rfl
@[simp] theorem State.modSrq_pathA (s : State) (key : Nat) (f : Srq → Srq) : (s.modSrq key f).pathA = s.pathA := rfl
@[simp] theorem State.modSrq_pathB (s : State) (key : Nat) (f : Srq → Srq) : (s.modSrq key f).pathB = s.pathB := rfl
@[simp] theorem State.modSrq_wonA (s : State) (key : Nat) (f : Srq → Srq) : (s.modSrq key f).wonA = s.wonA := rfl
@[simp] theorem State.modSrq_wonB (s : State) (key : Nat) (f : Srq → Srq) : (s.modSrq key f).wonB = s.wonB := rfl
@[simp] theorem State.modSrq_store (s : State) (key : Nat) (f : Srq → Srq) : (s.modSrq key f).store = s.store := rfl
@[simp] theorem State.modSrq_storePoison (s : State) (key : Nat) (f : Srq → Srq) : (s.modSrq key f).storePoison = s.storePoison := rfl
@[simp] theorem State.modSrq_bulk (s : State) (key : Nat) (f : Srq → Srq) : (s.modSrq key f).bulk = s.bulk := rfl
@[simp] theorem State.modSrq_scrub (s : State) (key : Nat) (f : Srq → Srq) : (s.modSrq key f).scrub = s.scrub := rfl
@[simp] theorem State.modSrq_trees (s : State) (key : Nat) (f : Srq → Srq) : (s.modSrq key f).trees = s.trees := rfl
@[simp] theorem State.modSrq_inputs (s : State) (key : Nat) (f : Srq → Srq) : (s.modSrq key f).inputs = s.inputs := rfl
@[simp] theorem State.modSrq_pktNum (s : State) (key : Nat) (f : Srq → Srq) : (s.modSrq key f).pktNum = s.pktNum := rfl
@[simp] theorem State.modSrq_arrived (s : State) (key : Nat) (f : Srq → Srq) : (s.modSrq key f).arrived = s.arrived := rfl
@[simp] theorem State.modSrq_shaped (s : State) (key : Nat) (f : Srq → Srq) : (s.modSrq key f).shaped = s.shaped := rfl
@[simp] theorem State.modSrq_mcast (s : State) (key : Nat) (f : Srq → Srq) : (s.modSrq key f).mcast = s.mcast := rfl
@[simp] theorem State.modSrq_boards (s : State) (key : Nat) (f : Srq → Srq) : (s.modSrq key f).boards = s.boards := rfl
@[simp] theorem State.modSrq_rr (s : State) (key : Nat) (f : Srq → Srq) : (s.modSrq key f).rr = s.rr := rfl
@[simp] theorem State.modSrq_sched (s : State) (key : Nat) (f : Srq → Srq) : (s.modSrq key f).sched = s.sched := rfl
@[simp] theorem State.modSrq_buckets (s : State) (key : Nat) (f : Srq → Srq) : (s.modSrq key f).buckets = s.buckets := rfl
@[simp] theorem State.modSrq_samples (s : State) (key : Nat) (f : Srq → Srq) : (s.modSrq key f).samples = s.samples := rfl
@[simp] theorem State.modSrq_latch (s : State) (key : Nat) (f : Srq → Srq) : (s.modSrq key f).latch = s.latch := rfl
@[simp] theorem State.modSrq_pmem (s : State) (key : Nat) (f : Srq → Srq) : (s.modSrq key f).pmem = s.pmem := rfl
@[simp] theorem State.modSrq_links (s : State) (key : Nat) (f : Srq → Srq) : (s.modSrq key f).links = s.links := rfl
@[simp] theorem State.modSrq_ports (s : State) (key : Nat) (f : Srq → Srq) : (s.modSrq key f).ports = s.ports := rfl
@[simp] theorem State.modSrq_lanes (s : State) (key : Nat) (f : Srq → Srq) : (s.modSrq key f).lanes = s.lanes := rfl
@[simp] theorem State.modSrq_time (s : State) (key : Nat) (f : Srq → Srq) : (s.modSrq key f).time = s.time := rfl
@[simp] theorem State.modSrq_porter (s : State) (key : Nat) (f : Srq → Srq) : (s.modSrq key f).porter = s.porter := rfl
@[simp] theorem State.modSrq_lap (s : State) (key : Nat) (f : Srq → Srq) : (s.modSrq key f).lap = s.lap := rfl
@[simp] theorem State.modSrq_clerk (s : State) (key : Nat) (f : Srq → Srq) : (s.modSrq key f).clerk = s.clerk := rfl
@[simp] theorem State.modSrq_power (s : State) (key : Nat) (f : Srq → Srq) : (s.modSrq key f).power = s.power := rfl
@[simp] theorem State.modSrq_beadle (s : State) (key : Nat) (f : Srq → Srq) : (s.modSrq key f).beadle = s.beadle := rfl
@[simp] theorem State.modSrq_tally (s : State) (key : Nat) (f : Srq → Srq) : (s.modSrq key f).tally = s.tally := rfl
@[simp] theorem State.modSrq_wakeN (s : State) (key : Nat) (f : Srq → Srq) : (s.modSrq key f).wakeN = s.wakeN := rfl
@[simp] theorem State.modSrq_out (s : State) (key : Nat) (f : Srq → Srq) : (s.modSrq key f).out = s.out := rfl

/-! A context changes. -/

@[simp] theorem State.modCtx_pending (s : State) (key : Nat) (f : Ctx → Ctx) : (s.modCtx key f).pending = s.pending := rfl
@[simp] theorem State.modCtx_life (s : State) (key : Nat) (f : Ctx → Ctx) : (s.modCtx key f).life = s.life := rfl
@[simp] theorem State.modCtx_ticks (s : State) (key : Nat) (f : Ctx → Ctx) : (s.modCtx key f).ticks = s.ticks := rfl
@[simp] theorem State.modCtx_sub (s : State) (key : Nat) (f : Ctx → Ctx) : (s.modCtx key f).sub = s.sub := rfl
@[simp] theorem State.modCtx_switched (s : State) (key : Nat) (f : Ctx → Ctx) : (s.modCtx key f).switched = s.switched := rfl
@[simp] theorem State.modCtx_free (s : State) (key : Nat) (f : Ctx → Ctx) : (s.modCtx key f).free = s.free := rfl
@[simp] theorem State.modCtx_tags (s : State) (key : Nat) (f : Ctx → Ctx) : (s.modCtx key f).tags = s.tags := rfl
@[simp] theorem State.modCtx_deferred (s : State) (key : Nat) (f : Ctx → Ctx) : (s.modCtx key f).deferred = s.deferred := rfl
@[simp] theorem State.modCtx_ledger (s : State) (key : Nat) (f : Ctx → Ctx) : (s.modCtx key f).ledger = s.ledger := rfl
@[simp] theorem State.modCtx_staged (s : State) (key : Nat) (f : Ctx → Ctx) : (s.modCtx key f).staged = s.staged := rfl
@[simp] theorem State.modCtx_hostA (s : State) (key : Nat) (f : Ctx → Ctx) : (s.modCtx key f).hostA = s.hostA := rfl
@[simp] theorem State.modCtx_hostB (s : State) (key : Nat) (f : Ctx → Ctx) : (s.modCtx key f).hostB = s.hostB := rfl
@[simp] theorem State.modCtx_bootA (s : State) (key : Nat) (f : Ctx → Ctx) : (s.modCtx key f).bootA = s.bootA := rfl
@[simp] theorem State.modCtx_bootB (s : State) (key : Nat) (f : Ctx → Ctx) : (s.modCtx key f).bootB = s.bootB := rfl
@[simp] theorem State.modCtx_fns (s : State) (key : Nat) (f : Ctx → Ctx) : (s.modCtx key f).fns = s.fns := rfl
@[simp] theorem State.modCtx_cqs (s : State) (key : Nat) (f : Ctx → Ctx) : (s.modCtx key f).cqs = s.cqs := rfl
@[simp] theorem State.modCtx_eqs (s : State) (key : Nat) (f : Ctx → Ctx) : (s.modCtx key f).eqs = s.eqs := rfl
@[simp] theorem State.modCtx_srqs (s : State) (key : Nat) (f : Ctx → Ctx) : (s.modCtx key f).srqs = s.srqs := rfl
@[simp] theorem State.modCtx_qps (s : State) (key : Nat) (f : Ctx → Ctx) : (s.modCtx key f).qps = s.qps := rfl
@[simp] theorem State.modCtx_bench (s : State) (key : Nat) (f : Ctx → Ctx) : (s.modCtx key f).bench = s.bench := rfl
@[simp] theorem State.modCtx_landing (s : State) (key : Nat) (f : Ctx → Ctx) : (s.modCtx key f).landing = s.landing := rfl
@[simp] theorem State.modCtx_parked (s : State) (key : Nat) (f : Ctx → Ctx) : (s.modCtx key f).parked = s.parked := rfl
@[simp] theorem State.modCtx_groupRx (s : State) (key : Nat) (f : Ctx → Ctx) : (s.modCtx key f).groupRx = s.groupRx := rfl
@[simp] theorem State.modCtx_groupSeen (s : State) (key : Nat) (f : Ctx → Ctx) : (s.modCtx key f).groupSeen = s.groupSeen := rfl
@[simp] theorem State.modCtx_keys (s : State) (key : Nat) (f : Ctx → Ctx) : (s.modCtx key f).keys = s.keys := rfl
@[simp] theorem State.modCtx_variants (s : State) (key : Nat) (f : Ctx → Ctx) : (s.modCtx key f).variants = s.variants := rfl
@[simp] theorem State.modCtx_dying (s : State) (key : Nat) (f : Ctx → Ctx) : (s.modCtx key f).dying = s.dying := rfl
@[simp] theorem State.modCtx_tlb (s : State) (key : Nat) (f : Ctx → Ctx) : (s.modCtx key f).tlb = s.tlb := rfl
@[simp] theorem State.modCtx_misses (s : State) (key : Nat) (f : Ctx → Ctx) : (s.modCtx key f).misses = s.misses := rfl
@[simp] theorem State.modCtx_missNum (s : State) (key : Nat) (f : Ctx → Ctx) : (s.modCtx key f).missNum = s.missNum := rfl
@[simp] theorem State.modCtx_reads (s : State) (key : Nat) (f : Ctx → Ctx) : (s.modCtx key f).reads = s.reads := rfl
@[simp] theorem State.modCtx_pathA (s : State) (key : Nat) (f : Ctx → Ctx) : (s.modCtx key f).pathA = s.pathA := rfl
@[simp] theorem State.modCtx_pathB (s : State) (key : Nat) (f : Ctx → Ctx) : (s.modCtx key f).pathB = s.pathB := rfl
@[simp] theorem State.modCtx_wonA (s : State) (key : Nat) (f : Ctx → Ctx) : (s.modCtx key f).wonA = s.wonA := rfl
@[simp] theorem State.modCtx_wonB (s : State) (key : Nat) (f : Ctx → Ctx) : (s.modCtx key f).wonB = s.wonB := rfl
@[simp] theorem State.modCtx_store (s : State) (key : Nat) (f : Ctx → Ctx) : (s.modCtx key f).store = s.store := rfl
@[simp] theorem State.modCtx_storePoison (s : State) (key : Nat) (f : Ctx → Ctx) : (s.modCtx key f).storePoison = s.storePoison := rfl
@[simp] theorem State.modCtx_bulk (s : State) (key : Nat) (f : Ctx → Ctx) : (s.modCtx key f).bulk = s.bulk := rfl
@[simp] theorem State.modCtx_scrub (s : State) (key : Nat) (f : Ctx → Ctx) : (s.modCtx key f).scrub = s.scrub := rfl
@[simp] theorem State.modCtx_trees (s : State) (key : Nat) (f : Ctx → Ctx) : (s.modCtx key f).trees = s.trees := rfl
@[simp] theorem State.modCtx_inputs (s : State) (key : Nat) (f : Ctx → Ctx) : (s.modCtx key f).inputs = s.inputs := rfl
@[simp] theorem State.modCtx_pktNum (s : State) (key : Nat) (f : Ctx → Ctx) : (s.modCtx key f).pktNum = s.pktNum := rfl
@[simp] theorem State.modCtx_arrived (s : State) (key : Nat) (f : Ctx → Ctx) : (s.modCtx key f).arrived = s.arrived := rfl
@[simp] theorem State.modCtx_shaped (s : State) (key : Nat) (f : Ctx → Ctx) : (s.modCtx key f).shaped = s.shaped := rfl
@[simp] theorem State.modCtx_mcast (s : State) (key : Nat) (f : Ctx → Ctx) : (s.modCtx key f).mcast = s.mcast := rfl
@[simp] theorem State.modCtx_boards (s : State) (key : Nat) (f : Ctx → Ctx) : (s.modCtx key f).boards = s.boards := rfl
@[simp] theorem State.modCtx_rr (s : State) (key : Nat) (f : Ctx → Ctx) : (s.modCtx key f).rr = s.rr := rfl
@[simp] theorem State.modCtx_sched (s : State) (key : Nat) (f : Ctx → Ctx) : (s.modCtx key f).sched = s.sched := rfl
@[simp] theorem State.modCtx_buckets (s : State) (key : Nat) (f : Ctx → Ctx) : (s.modCtx key f).buckets = s.buckets := rfl
@[simp] theorem State.modCtx_samples (s : State) (key : Nat) (f : Ctx → Ctx) : (s.modCtx key f).samples = s.samples := rfl
@[simp] theorem State.modCtx_latch (s : State) (key : Nat) (f : Ctx → Ctx) : (s.modCtx key f).latch = s.latch := rfl
@[simp] theorem State.modCtx_pmem (s : State) (key : Nat) (f : Ctx → Ctx) : (s.modCtx key f).pmem = s.pmem := rfl
@[simp] theorem State.modCtx_links (s : State) (key : Nat) (f : Ctx → Ctx) : (s.modCtx key f).links = s.links := rfl
@[simp] theorem State.modCtx_ports (s : State) (key : Nat) (f : Ctx → Ctx) : (s.modCtx key f).ports = s.ports := rfl
@[simp] theorem State.modCtx_lanes (s : State) (key : Nat) (f : Ctx → Ctx) : (s.modCtx key f).lanes = s.lanes := rfl
@[simp] theorem State.modCtx_time (s : State) (key : Nat) (f : Ctx → Ctx) : (s.modCtx key f).time = s.time := rfl
@[simp] theorem State.modCtx_porter (s : State) (key : Nat) (f : Ctx → Ctx) : (s.modCtx key f).porter = s.porter := rfl
@[simp] theorem State.modCtx_lap (s : State) (key : Nat) (f : Ctx → Ctx) : (s.modCtx key f).lap = s.lap := rfl
@[simp] theorem State.modCtx_clerk (s : State) (key : Nat) (f : Ctx → Ctx) : (s.modCtx key f).clerk = s.clerk := rfl
@[simp] theorem State.modCtx_power (s : State) (key : Nat) (f : Ctx → Ctx) : (s.modCtx key f).power = s.power := rfl
@[simp] theorem State.modCtx_beadle (s : State) (key : Nat) (f : Ctx → Ctx) : (s.modCtx key f).beadle = s.beadle := rfl
@[simp] theorem State.modCtx_tally (s : State) (key : Nat) (f : Ctx → Ctx) : (s.modCtx key f).tally = s.tally := rfl
@[simp] theorem State.modCtx_wakeN (s : State) (key : Nat) (f : Ctx → Ctx) : (s.modCtx key f).wakeN = s.wakeN := rfl
@[simp] theorem State.modCtx_out (s : State) (key : Nat) (f : Ctx → Ctx) : (s.modCtx key f).out = s.out := rfl

/-! A tree node changes. -/

@[simp] theorem State.modTree_pending (s : State) (tree : Nat) (f : Tree → Tree) : (s.modTree tree f).pending = s.pending := rfl
@[simp] theorem State.modTree_life (s : State) (tree : Nat) (f : Tree → Tree) : (s.modTree tree f).life = s.life := rfl
@[simp] theorem State.modTree_ticks (s : State) (tree : Nat) (f : Tree → Tree) : (s.modTree tree f).ticks = s.ticks := rfl
@[simp] theorem State.modTree_sub (s : State) (tree : Nat) (f : Tree → Tree) : (s.modTree tree f).sub = s.sub := rfl
@[simp] theorem State.modTree_switched (s : State) (tree : Nat) (f : Tree → Tree) : (s.modTree tree f).switched = s.switched := rfl
@[simp] theorem State.modTree_free (s : State) (tree : Nat) (f : Tree → Tree) : (s.modTree tree f).free = s.free := rfl
@[simp] theorem State.modTree_tags (s : State) (tree : Nat) (f : Tree → Tree) : (s.modTree tree f).tags = s.tags := rfl
@[simp] theorem State.modTree_deferred (s : State) (tree : Nat) (f : Tree → Tree) : (s.modTree tree f).deferred = s.deferred := rfl
@[simp] theorem State.modTree_ledger (s : State) (tree : Nat) (f : Tree → Tree) : (s.modTree tree f).ledger = s.ledger := rfl
@[simp] theorem State.modTree_staged (s : State) (tree : Nat) (f : Tree → Tree) : (s.modTree tree f).staged = s.staged := rfl
@[simp] theorem State.modTree_hostA (s : State) (tree : Nat) (f : Tree → Tree) : (s.modTree tree f).hostA = s.hostA := rfl
@[simp] theorem State.modTree_hostB (s : State) (tree : Nat) (f : Tree → Tree) : (s.modTree tree f).hostB = s.hostB := rfl
@[simp] theorem State.modTree_bootA (s : State) (tree : Nat) (f : Tree → Tree) : (s.modTree tree f).bootA = s.bootA := rfl
@[simp] theorem State.modTree_bootB (s : State) (tree : Nat) (f : Tree → Tree) : (s.modTree tree f).bootB = s.bootB := rfl
@[simp] theorem State.modTree_fns (s : State) (tree : Nat) (f : Tree → Tree) : (s.modTree tree f).fns = s.fns := rfl
@[simp] theorem State.modTree_cqs (s : State) (tree : Nat) (f : Tree → Tree) : (s.modTree tree f).cqs = s.cqs := rfl
@[simp] theorem State.modTree_eqs (s : State) (tree : Nat) (f : Tree → Tree) : (s.modTree tree f).eqs = s.eqs := rfl
@[simp] theorem State.modTree_srqs (s : State) (tree : Nat) (f : Tree → Tree) : (s.modTree tree f).srqs = s.srqs := rfl
@[simp] theorem State.modTree_qps (s : State) (tree : Nat) (f : Tree → Tree) : (s.modTree tree f).qps = s.qps := rfl
@[simp] theorem State.modTree_ctxs (s : State) (tree : Nat) (f : Tree → Tree) : (s.modTree tree f).ctxs = s.ctxs := rfl
@[simp] theorem State.modTree_bench (s : State) (tree : Nat) (f : Tree → Tree) : (s.modTree tree f).bench = s.bench := rfl
@[simp] theorem State.modTree_landing (s : State) (tree : Nat) (f : Tree → Tree) : (s.modTree tree f).landing = s.landing := rfl
@[simp] theorem State.modTree_parked (s : State) (tree : Nat) (f : Tree → Tree) : (s.modTree tree f).parked = s.parked := rfl
@[simp] theorem State.modTree_groupRx (s : State) (tree : Nat) (f : Tree → Tree) : (s.modTree tree f).groupRx = s.groupRx := rfl
@[simp] theorem State.modTree_groupSeen (s : State) (tree : Nat) (f : Tree → Tree) : (s.modTree tree f).groupSeen = s.groupSeen := rfl
@[simp] theorem State.modTree_keys (s : State) (tree : Nat) (f : Tree → Tree) : (s.modTree tree f).keys = s.keys := rfl
@[simp] theorem State.modTree_variants (s : State) (tree : Nat) (f : Tree → Tree) : (s.modTree tree f).variants = s.variants := rfl
@[simp] theorem State.modTree_dying (s : State) (tree : Nat) (f : Tree → Tree) : (s.modTree tree f).dying = s.dying := rfl
@[simp] theorem State.modTree_tlb (s : State) (tree : Nat) (f : Tree → Tree) : (s.modTree tree f).tlb = s.tlb := rfl
@[simp] theorem State.modTree_misses (s : State) (tree : Nat) (f : Tree → Tree) : (s.modTree tree f).misses = s.misses := rfl
@[simp] theorem State.modTree_missNum (s : State) (tree : Nat) (f : Tree → Tree) : (s.modTree tree f).missNum = s.missNum := rfl
@[simp] theorem State.modTree_reads (s : State) (tree : Nat) (f : Tree → Tree) : (s.modTree tree f).reads = s.reads := rfl
@[simp] theorem State.modTree_pathA (s : State) (tree : Nat) (f : Tree → Tree) : (s.modTree tree f).pathA = s.pathA := rfl
@[simp] theorem State.modTree_pathB (s : State) (tree : Nat) (f : Tree → Tree) : (s.modTree tree f).pathB = s.pathB := rfl
@[simp] theorem State.modTree_wonA (s : State) (tree : Nat) (f : Tree → Tree) : (s.modTree tree f).wonA = s.wonA := rfl
@[simp] theorem State.modTree_wonB (s : State) (tree : Nat) (f : Tree → Tree) : (s.modTree tree f).wonB = s.wonB := rfl
@[simp] theorem State.modTree_store (s : State) (tree : Nat) (f : Tree → Tree) : (s.modTree tree f).store = s.store := rfl
@[simp] theorem State.modTree_storePoison (s : State) (tree : Nat) (f : Tree → Tree) : (s.modTree tree f).storePoison = s.storePoison := rfl
@[simp] theorem State.modTree_bulk (s : State) (tree : Nat) (f : Tree → Tree) : (s.modTree tree f).bulk = s.bulk := rfl
@[simp] theorem State.modTree_scrub (s : State) (tree : Nat) (f : Tree → Tree) : (s.modTree tree f).scrub = s.scrub := rfl
@[simp] theorem State.modTree_inputs (s : State) (tree : Nat) (f : Tree → Tree) : (s.modTree tree f).inputs = s.inputs := rfl
@[simp] theorem State.modTree_pktNum (s : State) (tree : Nat) (f : Tree → Tree) : (s.modTree tree f).pktNum = s.pktNum := rfl
@[simp] theorem State.modTree_arrived (s : State) (tree : Nat) (f : Tree → Tree) : (s.modTree tree f).arrived = s.arrived := rfl
@[simp] theorem State.modTree_shaped (s : State) (tree : Nat) (f : Tree → Tree) : (s.modTree tree f).shaped = s.shaped := rfl
@[simp] theorem State.modTree_mcast (s : State) (tree : Nat) (f : Tree → Tree) : (s.modTree tree f).mcast = s.mcast := rfl
@[simp] theorem State.modTree_boards (s : State) (tree : Nat) (f : Tree → Tree) : (s.modTree tree f).boards = s.boards := rfl
@[simp] theorem State.modTree_rr (s : State) (tree : Nat) (f : Tree → Tree) : (s.modTree tree f).rr = s.rr := rfl
@[simp] theorem State.modTree_sched (s : State) (tree : Nat) (f : Tree → Tree) : (s.modTree tree f).sched = s.sched := rfl
@[simp] theorem State.modTree_buckets (s : State) (tree : Nat) (f : Tree → Tree) : (s.modTree tree f).buckets = s.buckets := rfl
@[simp] theorem State.modTree_samples (s : State) (tree : Nat) (f : Tree → Tree) : (s.modTree tree f).samples = s.samples := rfl
@[simp] theorem State.modTree_latch (s : State) (tree : Nat) (f : Tree → Tree) : (s.modTree tree f).latch = s.latch := rfl
@[simp] theorem State.modTree_pmem (s : State) (tree : Nat) (f : Tree → Tree) : (s.modTree tree f).pmem = s.pmem := rfl
@[simp] theorem State.modTree_links (s : State) (tree : Nat) (f : Tree → Tree) : (s.modTree tree f).links = s.links := rfl
@[simp] theorem State.modTree_ports (s : State) (tree : Nat) (f : Tree → Tree) : (s.modTree tree f).ports = s.ports := rfl
@[simp] theorem State.modTree_lanes (s : State) (tree : Nat) (f : Tree → Tree) : (s.modTree tree f).lanes = s.lanes := rfl
@[simp] theorem State.modTree_time (s : State) (tree : Nat) (f : Tree → Tree) : (s.modTree tree f).time = s.time := rfl
@[simp] theorem State.modTree_porter (s : State) (tree : Nat) (f : Tree → Tree) : (s.modTree tree f).porter = s.porter := rfl
@[simp] theorem State.modTree_lap (s : State) (tree : Nat) (f : Tree → Tree) : (s.modTree tree f).lap = s.lap := rfl
@[simp] theorem State.modTree_clerk (s : State) (tree : Nat) (f : Tree → Tree) : (s.modTree tree f).clerk = s.clerk := rfl
@[simp] theorem State.modTree_power (s : State) (tree : Nat) (f : Tree → Tree) : (s.modTree tree f).power = s.power := rfl
@[simp] theorem State.modTree_beadle (s : State) (tree : Nat) (f : Tree → Tree) : (s.modTree tree f).beadle = s.beadle := rfl
@[simp] theorem State.modTree_tally (s : State) (tree : Nat) (f : Tree → Tree) : (s.modTree tree f).tally = s.tally := rfl
@[simp] theorem State.modTree_wakeN (s : State) (tree : Nat) (f : Tree → Tree) : (s.modTree tree f).wakeN = s.wakeN := rfl
@[simp] theorem State.modTree_out (s : State) (tree : Nat) (f : Tree → Tree) : (s.modTree tree f).out = s.out := rfl

/-! The link layer of a port changes. -/

@[simp] theorem State.modLink_pending (s : State) (q : Nat) (f : Link → Link) : (s.modLink q f).pending = s.pending := rfl
@[simp] theorem State.modLink_life (s : State) (q : Nat) (f : Link → Link) : (s.modLink q f).life = s.life := rfl
@[simp] theorem State.modLink_ticks (s : State) (q : Nat) (f : Link → Link) : (s.modLink q f).ticks = s.ticks := rfl
@[simp] theorem State.modLink_sub (s : State) (q : Nat) (f : Link → Link) : (s.modLink q f).sub = s.sub := rfl
@[simp] theorem State.modLink_switched (s : State) (q : Nat) (f : Link → Link) : (s.modLink q f).switched = s.switched := rfl
@[simp] theorem State.modLink_free (s : State) (q : Nat) (f : Link → Link) : (s.modLink q f).free = s.free := rfl
@[simp] theorem State.modLink_tags (s : State) (q : Nat) (f : Link → Link) : (s.modLink q f).tags = s.tags := rfl
@[simp] theorem State.modLink_deferred (s : State) (q : Nat) (f : Link → Link) : (s.modLink q f).deferred = s.deferred := rfl
@[simp] theorem State.modLink_ledger (s : State) (q : Nat) (f : Link → Link) : (s.modLink q f).ledger = s.ledger := rfl
@[simp] theorem State.modLink_staged (s : State) (q : Nat) (f : Link → Link) : (s.modLink q f).staged = s.staged := rfl
@[simp] theorem State.modLink_hostA (s : State) (q : Nat) (f : Link → Link) : (s.modLink q f).hostA = s.hostA := rfl
@[simp] theorem State.modLink_hostB (s : State) (q : Nat) (f : Link → Link) : (s.modLink q f).hostB = s.hostB := rfl
@[simp] theorem State.modLink_bootA (s : State) (q : Nat) (f : Link → Link) : (s.modLink q f).bootA = s.bootA := rfl
@[simp] theorem State.modLink_bootB (s : State) (q : Nat) (f : Link → Link) : (s.modLink q f).bootB = s.bootB := rfl
@[simp] theorem State.modLink_fns (s : State) (q : Nat) (f : Link → Link) : (s.modLink q f).fns = s.fns := rfl
@[simp] theorem State.modLink_cqs (s : State) (q : Nat) (f : Link → Link) : (s.modLink q f).cqs = s.cqs := rfl
@[simp] theorem State.modLink_eqs (s : State) (q : Nat) (f : Link → Link) : (s.modLink q f).eqs = s.eqs := rfl
@[simp] theorem State.modLink_srqs (s : State) (q : Nat) (f : Link → Link) : (s.modLink q f).srqs = s.srqs := rfl
@[simp] theorem State.modLink_qps (s : State) (q : Nat) (f : Link → Link) : (s.modLink q f).qps = s.qps := rfl
@[simp] theorem State.modLink_ctxs (s : State) (q : Nat) (f : Link → Link) : (s.modLink q f).ctxs = s.ctxs := rfl
@[simp] theorem State.modLink_bench (s : State) (q : Nat) (f : Link → Link) : (s.modLink q f).bench = s.bench := rfl
@[simp] theorem State.modLink_landing (s : State) (q : Nat) (f : Link → Link) : (s.modLink q f).landing = s.landing := rfl
@[simp] theorem State.modLink_parked (s : State) (q : Nat) (f : Link → Link) : (s.modLink q f).parked = s.parked := rfl
@[simp] theorem State.modLink_groupRx (s : State) (q : Nat) (f : Link → Link) : (s.modLink q f).groupRx = s.groupRx := rfl
@[simp] theorem State.modLink_groupSeen (s : State) (q : Nat) (f : Link → Link) : (s.modLink q f).groupSeen = s.groupSeen := rfl
@[simp] theorem State.modLink_keys (s : State) (q : Nat) (f : Link → Link) : (s.modLink q f).keys = s.keys := rfl
@[simp] theorem State.modLink_variants (s : State) (q : Nat) (f : Link → Link) : (s.modLink q f).variants = s.variants := rfl
@[simp] theorem State.modLink_dying (s : State) (q : Nat) (f : Link → Link) : (s.modLink q f).dying = s.dying := rfl
@[simp] theorem State.modLink_tlb (s : State) (q : Nat) (f : Link → Link) : (s.modLink q f).tlb = s.tlb := rfl
@[simp] theorem State.modLink_misses (s : State) (q : Nat) (f : Link → Link) : (s.modLink q f).misses = s.misses := rfl
@[simp] theorem State.modLink_missNum (s : State) (q : Nat) (f : Link → Link) : (s.modLink q f).missNum = s.missNum := rfl
@[simp] theorem State.modLink_reads (s : State) (q : Nat) (f : Link → Link) : (s.modLink q f).reads = s.reads := rfl
@[simp] theorem State.modLink_pathA (s : State) (q : Nat) (f : Link → Link) : (s.modLink q f).pathA = s.pathA := rfl
@[simp] theorem State.modLink_pathB (s : State) (q : Nat) (f : Link → Link) : (s.modLink q f).pathB = s.pathB := rfl
@[simp] theorem State.modLink_wonA (s : State) (q : Nat) (f : Link → Link) : (s.modLink q f).wonA = s.wonA := rfl
@[simp] theorem State.modLink_wonB (s : State) (q : Nat) (f : Link → Link) : (s.modLink q f).wonB = s.wonB := rfl
@[simp] theorem State.modLink_store (s : State) (q : Nat) (f : Link → Link) : (s.modLink q f).store = s.store := rfl
@[simp] theorem State.modLink_storePoison (s : State) (q : Nat) (f : Link → Link) : (s.modLink q f).storePoison = s.storePoison := rfl
@[simp] theorem State.modLink_bulk (s : State) (q : Nat) (f : Link → Link) : (s.modLink q f).bulk = s.bulk := rfl
@[simp] theorem State.modLink_scrub (s : State) (q : Nat) (f : Link → Link) : (s.modLink q f).scrub = s.scrub := rfl
@[simp] theorem State.modLink_trees (s : State) (q : Nat) (f : Link → Link) : (s.modLink q f).trees = s.trees := rfl
@[simp] theorem State.modLink_inputs (s : State) (q : Nat) (f : Link → Link) : (s.modLink q f).inputs = s.inputs := rfl
@[simp] theorem State.modLink_pktNum (s : State) (q : Nat) (f : Link → Link) : (s.modLink q f).pktNum = s.pktNum := rfl
@[simp] theorem State.modLink_arrived (s : State) (q : Nat) (f : Link → Link) : (s.modLink q f).arrived = s.arrived := rfl
@[simp] theorem State.modLink_shaped (s : State) (q : Nat) (f : Link → Link) : (s.modLink q f).shaped = s.shaped := rfl
@[simp] theorem State.modLink_mcast (s : State) (q : Nat) (f : Link → Link) : (s.modLink q f).mcast = s.mcast := rfl
@[simp] theorem State.modLink_boards (s : State) (q : Nat) (f : Link → Link) : (s.modLink q f).boards = s.boards := rfl
@[simp] theorem State.modLink_rr (s : State) (q : Nat) (f : Link → Link) : (s.modLink q f).rr = s.rr := rfl
@[simp] theorem State.modLink_sched (s : State) (q : Nat) (f : Link → Link) : (s.modLink q f).sched = s.sched := rfl
@[simp] theorem State.modLink_buckets (s : State) (q : Nat) (f : Link → Link) : (s.modLink q f).buckets = s.buckets := rfl
@[simp] theorem State.modLink_samples (s : State) (q : Nat) (f : Link → Link) : (s.modLink q f).samples = s.samples := rfl
@[simp] theorem State.modLink_latch (s : State) (q : Nat) (f : Link → Link) : (s.modLink q f).latch = s.latch := rfl
@[simp] theorem State.modLink_pmem (s : State) (q : Nat) (f : Link → Link) : (s.modLink q f).pmem = s.pmem := rfl
@[simp] theorem State.modLink_ports (s : State) (q : Nat) (f : Link → Link) : (s.modLink q f).ports = s.ports := rfl
@[simp] theorem State.modLink_lanes (s : State) (q : Nat) (f : Link → Link) : (s.modLink q f).lanes = s.lanes := rfl
@[simp] theorem State.modLink_time (s : State) (q : Nat) (f : Link → Link) : (s.modLink q f).time = s.time := rfl
@[simp] theorem State.modLink_porter (s : State) (q : Nat) (f : Link → Link) : (s.modLink q f).porter = s.porter := rfl
@[simp] theorem State.modLink_lap (s : State) (q : Nat) (f : Link → Link) : (s.modLink q f).lap = s.lap := rfl
@[simp] theorem State.modLink_clerk (s : State) (q : Nat) (f : Link → Link) : (s.modLink q f).clerk = s.clerk := rfl
@[simp] theorem State.modLink_power (s : State) (q : Nat) (f : Link → Link) : (s.modLink q f).power = s.power := rfl
@[simp] theorem State.modLink_beadle (s : State) (q : Nat) (f : Link → Link) : (s.modLink q f).beadle = s.beadle := rfl
@[simp] theorem State.modLink_tally (s : State) (q : Nat) (f : Link → Link) : (s.modLink q f).tally = s.tally := rfl
@[simp] theorem State.modLink_wakeN (s : State) (q : Nat) (f : Link → Link) : (s.modLink q f).wakeN = s.wakeN := rfl
@[simp] theorem State.modLink_out (s : State) (q : Nat) (f : Link → Link) : (s.modLink q f).out = s.out := rfl

/-! The training state of a port changes. -/

@[simp] theorem State.modPort_pending (s : State) (q : Nat) (f : LanePort → LanePort) : (s.modPort q f).pending = s.pending := rfl
@[simp] theorem State.modPort_life (s : State) (q : Nat) (f : LanePort → LanePort) : (s.modPort q f).life = s.life := rfl
@[simp] theorem State.modPort_ticks (s : State) (q : Nat) (f : LanePort → LanePort) : (s.modPort q f).ticks = s.ticks := rfl
@[simp] theorem State.modPort_sub (s : State) (q : Nat) (f : LanePort → LanePort) : (s.modPort q f).sub = s.sub := rfl
@[simp] theorem State.modPort_switched (s : State) (q : Nat) (f : LanePort → LanePort) : (s.modPort q f).switched = s.switched := rfl
@[simp] theorem State.modPort_free (s : State) (q : Nat) (f : LanePort → LanePort) : (s.modPort q f).free = s.free := rfl
@[simp] theorem State.modPort_tags (s : State) (q : Nat) (f : LanePort → LanePort) : (s.modPort q f).tags = s.tags := rfl
@[simp] theorem State.modPort_deferred (s : State) (q : Nat) (f : LanePort → LanePort) : (s.modPort q f).deferred = s.deferred := rfl
@[simp] theorem State.modPort_ledger (s : State) (q : Nat) (f : LanePort → LanePort) : (s.modPort q f).ledger = s.ledger := rfl
@[simp] theorem State.modPort_staged (s : State) (q : Nat) (f : LanePort → LanePort) : (s.modPort q f).staged = s.staged := rfl
@[simp] theorem State.modPort_hostA (s : State) (q : Nat) (f : LanePort → LanePort) : (s.modPort q f).hostA = s.hostA := rfl
@[simp] theorem State.modPort_hostB (s : State) (q : Nat) (f : LanePort → LanePort) : (s.modPort q f).hostB = s.hostB := rfl
@[simp] theorem State.modPort_bootA (s : State) (q : Nat) (f : LanePort → LanePort) : (s.modPort q f).bootA = s.bootA := rfl
@[simp] theorem State.modPort_bootB (s : State) (q : Nat) (f : LanePort → LanePort) : (s.modPort q f).bootB = s.bootB := rfl
@[simp] theorem State.modPort_fns (s : State) (q : Nat) (f : LanePort → LanePort) : (s.modPort q f).fns = s.fns := rfl
@[simp] theorem State.modPort_cqs (s : State) (q : Nat) (f : LanePort → LanePort) : (s.modPort q f).cqs = s.cqs := rfl
@[simp] theorem State.modPort_eqs (s : State) (q : Nat) (f : LanePort → LanePort) : (s.modPort q f).eqs = s.eqs := rfl
@[simp] theorem State.modPort_srqs (s : State) (q : Nat) (f : LanePort → LanePort) : (s.modPort q f).srqs = s.srqs := rfl
@[simp] theorem State.modPort_qps (s : State) (q : Nat) (f : LanePort → LanePort) : (s.modPort q f).qps = s.qps := rfl
@[simp] theorem State.modPort_ctxs (s : State) (q : Nat) (f : LanePort → LanePort) : (s.modPort q f).ctxs = s.ctxs := rfl
@[simp] theorem State.modPort_bench (s : State) (q : Nat) (f : LanePort → LanePort) : (s.modPort q f).bench = s.bench := rfl
@[simp] theorem State.modPort_landing (s : State) (q : Nat) (f : LanePort → LanePort) : (s.modPort q f).landing = s.landing := rfl
@[simp] theorem State.modPort_parked (s : State) (q : Nat) (f : LanePort → LanePort) : (s.modPort q f).parked = s.parked := rfl
@[simp] theorem State.modPort_groupRx (s : State) (q : Nat) (f : LanePort → LanePort) : (s.modPort q f).groupRx = s.groupRx := rfl
@[simp] theorem State.modPort_groupSeen (s : State) (q : Nat) (f : LanePort → LanePort) : (s.modPort q f).groupSeen = s.groupSeen := rfl
@[simp] theorem State.modPort_keys (s : State) (q : Nat) (f : LanePort → LanePort) : (s.modPort q f).keys = s.keys := rfl
@[simp] theorem State.modPort_variants (s : State) (q : Nat) (f : LanePort → LanePort) : (s.modPort q f).variants = s.variants := rfl
@[simp] theorem State.modPort_dying (s : State) (q : Nat) (f : LanePort → LanePort) : (s.modPort q f).dying = s.dying := rfl
@[simp] theorem State.modPort_tlb (s : State) (q : Nat) (f : LanePort → LanePort) : (s.modPort q f).tlb = s.tlb := rfl
@[simp] theorem State.modPort_misses (s : State) (q : Nat) (f : LanePort → LanePort) : (s.modPort q f).misses = s.misses := rfl
@[simp] theorem State.modPort_missNum (s : State) (q : Nat) (f : LanePort → LanePort) : (s.modPort q f).missNum = s.missNum := rfl
@[simp] theorem State.modPort_reads (s : State) (q : Nat) (f : LanePort → LanePort) : (s.modPort q f).reads = s.reads := rfl
@[simp] theorem State.modPort_pathA (s : State) (q : Nat) (f : LanePort → LanePort) : (s.modPort q f).pathA = s.pathA := rfl
@[simp] theorem State.modPort_pathB (s : State) (q : Nat) (f : LanePort → LanePort) : (s.modPort q f).pathB = s.pathB := rfl
@[simp] theorem State.modPort_wonA (s : State) (q : Nat) (f : LanePort → LanePort) : (s.modPort q f).wonA = s.wonA := rfl
@[simp] theorem State.modPort_wonB (s : State) (q : Nat) (f : LanePort → LanePort) : (s.modPort q f).wonB = s.wonB := rfl
@[simp] theorem State.modPort_store (s : State) (q : Nat) (f : LanePort → LanePort) : (s.modPort q f).store = s.store := rfl
@[simp] theorem State.modPort_storePoison (s : State) (q : Nat) (f : LanePort → LanePort) : (s.modPort q f).storePoison = s.storePoison := rfl
@[simp] theorem State.modPort_bulk (s : State) (q : Nat) (f : LanePort → LanePort) : (s.modPort q f).bulk = s.bulk := rfl
@[simp] theorem State.modPort_scrub (s : State) (q : Nat) (f : LanePort → LanePort) : (s.modPort q f).scrub = s.scrub := rfl
@[simp] theorem State.modPort_trees (s : State) (q : Nat) (f : LanePort → LanePort) : (s.modPort q f).trees = s.trees := rfl
@[simp] theorem State.modPort_inputs (s : State) (q : Nat) (f : LanePort → LanePort) : (s.modPort q f).inputs = s.inputs := rfl
@[simp] theorem State.modPort_pktNum (s : State) (q : Nat) (f : LanePort → LanePort) : (s.modPort q f).pktNum = s.pktNum := rfl
@[simp] theorem State.modPort_arrived (s : State) (q : Nat) (f : LanePort → LanePort) : (s.modPort q f).arrived = s.arrived := rfl
@[simp] theorem State.modPort_shaped (s : State) (q : Nat) (f : LanePort → LanePort) : (s.modPort q f).shaped = s.shaped := rfl
@[simp] theorem State.modPort_mcast (s : State) (q : Nat) (f : LanePort → LanePort) : (s.modPort q f).mcast = s.mcast := rfl
@[simp] theorem State.modPort_boards (s : State) (q : Nat) (f : LanePort → LanePort) : (s.modPort q f).boards = s.boards := rfl
@[simp] theorem State.modPort_rr (s : State) (q : Nat) (f : LanePort → LanePort) : (s.modPort q f).rr = s.rr := rfl
@[simp] theorem State.modPort_sched (s : State) (q : Nat) (f : LanePort → LanePort) : (s.modPort q f).sched = s.sched := rfl
@[simp] theorem State.modPort_buckets (s : State) (q : Nat) (f : LanePort → LanePort) : (s.modPort q f).buckets = s.buckets := rfl
@[simp] theorem State.modPort_samples (s : State) (q : Nat) (f : LanePort → LanePort) : (s.modPort q f).samples = s.samples := rfl
@[simp] theorem State.modPort_latch (s : State) (q : Nat) (f : LanePort → LanePort) : (s.modPort q f).latch = s.latch := rfl
@[simp] theorem State.modPort_pmem (s : State) (q : Nat) (f : LanePort → LanePort) : (s.modPort q f).pmem = s.pmem := rfl
@[simp] theorem State.modPort_links (s : State) (q : Nat) (f : LanePort → LanePort) : (s.modPort q f).links = s.links := rfl
@[simp] theorem State.modPort_lanes (s : State) (q : Nat) (f : LanePort → LanePort) : (s.modPort q f).lanes = s.lanes := rfl
@[simp] theorem State.modPort_time (s : State) (q : Nat) (f : LanePort → LanePort) : (s.modPort q f).time = s.time := rfl
@[simp] theorem State.modPort_porter (s : State) (q : Nat) (f : LanePort → LanePort) : (s.modPort q f).porter = s.porter := rfl
@[simp] theorem State.modPort_lap (s : State) (q : Nat) (f : LanePort → LanePort) : (s.modPort q f).lap = s.lap := rfl
@[simp] theorem State.modPort_clerk (s : State) (q : Nat) (f : LanePort → LanePort) : (s.modPort q f).clerk = s.clerk := rfl
@[simp] theorem State.modPort_power (s : State) (q : Nat) (f : LanePort → LanePort) : (s.modPort q f).power = s.power := rfl
@[simp] theorem State.modPort_beadle (s : State) (q : Nat) (f : LanePort → LanePort) : (s.modPort q f).beadle = s.beadle := rfl
@[simp] theorem State.modPort_tally (s : State) (q : Nat) (f : LanePort → LanePort) : (s.modPort q f).tally = s.tally := rfl
@[simp] theorem State.modPort_wakeN (s : State) (q : Nat) (f : LanePort → LanePort) : (s.modPort q f).wakeN = s.wakeN := rfl
@[simp] theorem State.modPort_out (s : State) (q : Nat) (f : LanePort → LanePort) : (s.modPort q f).out = s.out := rfl

/-! A lane changes. -/

@[simp] theorem State.modLane_pending (s : State) (l : Nat) (f : Lane → Lane) : (s.modLane l f).pending = s.pending := rfl
@[simp] theorem State.modLane_life (s : State) (l : Nat) (f : Lane → Lane) : (s.modLane l f).life = s.life := rfl
@[simp] theorem State.modLane_ticks (s : State) (l : Nat) (f : Lane → Lane) : (s.modLane l f).ticks = s.ticks := rfl
@[simp] theorem State.modLane_sub (s : State) (l : Nat) (f : Lane → Lane) : (s.modLane l f).sub = s.sub := rfl
@[simp] theorem State.modLane_switched (s : State) (l : Nat) (f : Lane → Lane) : (s.modLane l f).switched = s.switched := rfl
@[simp] theorem State.modLane_free (s : State) (l : Nat) (f : Lane → Lane) : (s.modLane l f).free = s.free := rfl
@[simp] theorem State.modLane_tags (s : State) (l : Nat) (f : Lane → Lane) : (s.modLane l f).tags = s.tags := rfl
@[simp] theorem State.modLane_deferred (s : State) (l : Nat) (f : Lane → Lane) : (s.modLane l f).deferred = s.deferred := rfl
@[simp] theorem State.modLane_ledger (s : State) (l : Nat) (f : Lane → Lane) : (s.modLane l f).ledger = s.ledger := rfl
@[simp] theorem State.modLane_staged (s : State) (l : Nat) (f : Lane → Lane) : (s.modLane l f).staged = s.staged := rfl
@[simp] theorem State.modLane_hostA (s : State) (l : Nat) (f : Lane → Lane) : (s.modLane l f).hostA = s.hostA := rfl
@[simp] theorem State.modLane_hostB (s : State) (l : Nat) (f : Lane → Lane) : (s.modLane l f).hostB = s.hostB := rfl
@[simp] theorem State.modLane_bootA (s : State) (l : Nat) (f : Lane → Lane) : (s.modLane l f).bootA = s.bootA := rfl
@[simp] theorem State.modLane_bootB (s : State) (l : Nat) (f : Lane → Lane) : (s.modLane l f).bootB = s.bootB := rfl
@[simp] theorem State.modLane_fns (s : State) (l : Nat) (f : Lane → Lane) : (s.modLane l f).fns = s.fns := rfl
@[simp] theorem State.modLane_cqs (s : State) (l : Nat) (f : Lane → Lane) : (s.modLane l f).cqs = s.cqs := rfl
@[simp] theorem State.modLane_eqs (s : State) (l : Nat) (f : Lane → Lane) : (s.modLane l f).eqs = s.eqs := rfl
@[simp] theorem State.modLane_srqs (s : State) (l : Nat) (f : Lane → Lane) : (s.modLane l f).srqs = s.srqs := rfl
@[simp] theorem State.modLane_qps (s : State) (l : Nat) (f : Lane → Lane) : (s.modLane l f).qps = s.qps := rfl
@[simp] theorem State.modLane_ctxs (s : State) (l : Nat) (f : Lane → Lane) : (s.modLane l f).ctxs = s.ctxs := rfl
@[simp] theorem State.modLane_bench (s : State) (l : Nat) (f : Lane → Lane) : (s.modLane l f).bench = s.bench := rfl
@[simp] theorem State.modLane_landing (s : State) (l : Nat) (f : Lane → Lane) : (s.modLane l f).landing = s.landing := rfl
@[simp] theorem State.modLane_parked (s : State) (l : Nat) (f : Lane → Lane) : (s.modLane l f).parked = s.parked := rfl
@[simp] theorem State.modLane_groupRx (s : State) (l : Nat) (f : Lane → Lane) : (s.modLane l f).groupRx = s.groupRx := rfl
@[simp] theorem State.modLane_groupSeen (s : State) (l : Nat) (f : Lane → Lane) : (s.modLane l f).groupSeen = s.groupSeen := rfl
@[simp] theorem State.modLane_keys (s : State) (l : Nat) (f : Lane → Lane) : (s.modLane l f).keys = s.keys := rfl
@[simp] theorem State.modLane_variants (s : State) (l : Nat) (f : Lane → Lane) : (s.modLane l f).variants = s.variants := rfl
@[simp] theorem State.modLane_dying (s : State) (l : Nat) (f : Lane → Lane) : (s.modLane l f).dying = s.dying := rfl
@[simp] theorem State.modLane_tlb (s : State) (l : Nat) (f : Lane → Lane) : (s.modLane l f).tlb = s.tlb := rfl
@[simp] theorem State.modLane_misses (s : State) (l : Nat) (f : Lane → Lane) : (s.modLane l f).misses = s.misses := rfl
@[simp] theorem State.modLane_missNum (s : State) (l : Nat) (f : Lane → Lane) : (s.modLane l f).missNum = s.missNum := rfl
@[simp] theorem State.modLane_reads (s : State) (l : Nat) (f : Lane → Lane) : (s.modLane l f).reads = s.reads := rfl
@[simp] theorem State.modLane_pathA (s : State) (l : Nat) (f : Lane → Lane) : (s.modLane l f).pathA = s.pathA := rfl
@[simp] theorem State.modLane_pathB (s : State) (l : Nat) (f : Lane → Lane) : (s.modLane l f).pathB = s.pathB := rfl
@[simp] theorem State.modLane_wonA (s : State) (l : Nat) (f : Lane → Lane) : (s.modLane l f).wonA = s.wonA := rfl
@[simp] theorem State.modLane_wonB (s : State) (l : Nat) (f : Lane → Lane) : (s.modLane l f).wonB = s.wonB := rfl
@[simp] theorem State.modLane_store (s : State) (l : Nat) (f : Lane → Lane) : (s.modLane l f).store = s.store := rfl
@[simp] theorem State.modLane_storePoison (s : State) (l : Nat) (f : Lane → Lane) : (s.modLane l f).storePoison = s.storePoison := rfl
@[simp] theorem State.modLane_bulk (s : State) (l : Nat) (f : Lane → Lane) : (s.modLane l f).bulk = s.bulk := rfl
@[simp] theorem State.modLane_scrub (s : State) (l : Nat) (f : Lane → Lane) : (s.modLane l f).scrub = s.scrub := rfl
@[simp] theorem State.modLane_trees (s : State) (l : Nat) (f : Lane → Lane) : (s.modLane l f).trees = s.trees := rfl
@[simp] theorem State.modLane_inputs (s : State) (l : Nat) (f : Lane → Lane) : (s.modLane l f).inputs = s.inputs := rfl
@[simp] theorem State.modLane_pktNum (s : State) (l : Nat) (f : Lane → Lane) : (s.modLane l f).pktNum = s.pktNum := rfl
@[simp] theorem State.modLane_arrived (s : State) (l : Nat) (f : Lane → Lane) : (s.modLane l f).arrived = s.arrived := rfl
@[simp] theorem State.modLane_shaped (s : State) (l : Nat) (f : Lane → Lane) : (s.modLane l f).shaped = s.shaped := rfl
@[simp] theorem State.modLane_mcast (s : State) (l : Nat) (f : Lane → Lane) : (s.modLane l f).mcast = s.mcast := rfl
@[simp] theorem State.modLane_boards (s : State) (l : Nat) (f : Lane → Lane) : (s.modLane l f).boards = s.boards := rfl
@[simp] theorem State.modLane_rr (s : State) (l : Nat) (f : Lane → Lane) : (s.modLane l f).rr = s.rr := rfl
@[simp] theorem State.modLane_sched (s : State) (l : Nat) (f : Lane → Lane) : (s.modLane l f).sched = s.sched := rfl
@[simp] theorem State.modLane_buckets (s : State) (l : Nat) (f : Lane → Lane) : (s.modLane l f).buckets = s.buckets := rfl
@[simp] theorem State.modLane_samples (s : State) (l : Nat) (f : Lane → Lane) : (s.modLane l f).samples = s.samples := rfl
@[simp] theorem State.modLane_latch (s : State) (l : Nat) (f : Lane → Lane) : (s.modLane l f).latch = s.latch := rfl
@[simp] theorem State.modLane_pmem (s : State) (l : Nat) (f : Lane → Lane) : (s.modLane l f).pmem = s.pmem := rfl
@[simp] theorem State.modLane_links (s : State) (l : Nat) (f : Lane → Lane) : (s.modLane l f).links = s.links := rfl
@[simp] theorem State.modLane_ports (s : State) (l : Nat) (f : Lane → Lane) : (s.modLane l f).ports = s.ports := rfl
@[simp] theorem State.modLane_time (s : State) (l : Nat) (f : Lane → Lane) : (s.modLane l f).time = s.time := rfl
@[simp] theorem State.modLane_porter (s : State) (l : Nat) (f : Lane → Lane) : (s.modLane l f).porter = s.porter := rfl
@[simp] theorem State.modLane_lap (s : State) (l : Nat) (f : Lane → Lane) : (s.modLane l f).lap = s.lap := rfl
@[simp] theorem State.modLane_clerk (s : State) (l : Nat) (f : Lane → Lane) : (s.modLane l f).clerk = s.clerk := rfl
@[simp] theorem State.modLane_power (s : State) (l : Nat) (f : Lane → Lane) : (s.modLane l f).power = s.power := rfl
@[simp] theorem State.modLane_beadle (s : State) (l : Nat) (f : Lane → Lane) : (s.modLane l f).beadle = s.beadle := rfl
@[simp] theorem State.modLane_tally (s : State) (l : Nat) (f : Lane → Lane) : (s.modLane l f).tally = s.tally := rfl
@[simp] theorem State.modLane_wakeN (s : State) (l : Nat) (f : Lane → Lane) : (s.modLane l f).wakeN = s.wakeN := rfl
@[simp] theorem State.modLane_out (s : State) (l : Nat) (f : Lane → Lane) : (s.modLane l f).out = s.out := rfl

/-! A Porter channel changes. -/

@[simp] theorem State.modChan_pending (s : State) (ch : Nat) (f : Channel → Channel) : (s.modChan ch f).pending = s.pending := rfl
@[simp] theorem State.modChan_life (s : State) (ch : Nat) (f : Channel → Channel) : (s.modChan ch f).life = s.life := rfl
@[simp] theorem State.modChan_ticks (s : State) (ch : Nat) (f : Channel → Channel) : (s.modChan ch f).ticks = s.ticks := rfl
@[simp] theorem State.modChan_sub (s : State) (ch : Nat) (f : Channel → Channel) : (s.modChan ch f).sub = s.sub := rfl
@[simp] theorem State.modChan_switched (s : State) (ch : Nat) (f : Channel → Channel) : (s.modChan ch f).switched = s.switched := rfl
@[simp] theorem State.modChan_free (s : State) (ch : Nat) (f : Channel → Channel) : (s.modChan ch f).free = s.free := rfl
@[simp] theorem State.modChan_tags (s : State) (ch : Nat) (f : Channel → Channel) : (s.modChan ch f).tags = s.tags := rfl
@[simp] theorem State.modChan_deferred (s : State) (ch : Nat) (f : Channel → Channel) : (s.modChan ch f).deferred = s.deferred := rfl
@[simp] theorem State.modChan_ledger (s : State) (ch : Nat) (f : Channel → Channel) : (s.modChan ch f).ledger = s.ledger := rfl
@[simp] theorem State.modChan_staged (s : State) (ch : Nat) (f : Channel → Channel) : (s.modChan ch f).staged = s.staged := rfl
@[simp] theorem State.modChan_hostA (s : State) (ch : Nat) (f : Channel → Channel) : (s.modChan ch f).hostA = s.hostA := rfl
@[simp] theorem State.modChan_hostB (s : State) (ch : Nat) (f : Channel → Channel) : (s.modChan ch f).hostB = s.hostB := rfl
@[simp] theorem State.modChan_bootA (s : State) (ch : Nat) (f : Channel → Channel) : (s.modChan ch f).bootA = s.bootA := rfl
@[simp] theorem State.modChan_bootB (s : State) (ch : Nat) (f : Channel → Channel) : (s.modChan ch f).bootB = s.bootB := rfl
@[simp] theorem State.modChan_fns (s : State) (ch : Nat) (f : Channel → Channel) : (s.modChan ch f).fns = s.fns := rfl
@[simp] theorem State.modChan_cqs (s : State) (ch : Nat) (f : Channel → Channel) : (s.modChan ch f).cqs = s.cqs := rfl
@[simp] theorem State.modChan_eqs (s : State) (ch : Nat) (f : Channel → Channel) : (s.modChan ch f).eqs = s.eqs := rfl
@[simp] theorem State.modChan_srqs (s : State) (ch : Nat) (f : Channel → Channel) : (s.modChan ch f).srqs = s.srqs := rfl
@[simp] theorem State.modChan_qps (s : State) (ch : Nat) (f : Channel → Channel) : (s.modChan ch f).qps = s.qps := rfl
@[simp] theorem State.modChan_ctxs (s : State) (ch : Nat) (f : Channel → Channel) : (s.modChan ch f).ctxs = s.ctxs := rfl
@[simp] theorem State.modChan_bench (s : State) (ch : Nat) (f : Channel → Channel) : (s.modChan ch f).bench = s.bench := rfl
@[simp] theorem State.modChan_landing (s : State) (ch : Nat) (f : Channel → Channel) : (s.modChan ch f).landing = s.landing := rfl
@[simp] theorem State.modChan_parked (s : State) (ch : Nat) (f : Channel → Channel) : (s.modChan ch f).parked = s.parked := rfl
@[simp] theorem State.modChan_groupRx (s : State) (ch : Nat) (f : Channel → Channel) : (s.modChan ch f).groupRx = s.groupRx := rfl
@[simp] theorem State.modChan_groupSeen (s : State) (ch : Nat) (f : Channel → Channel) : (s.modChan ch f).groupSeen = s.groupSeen := rfl
@[simp] theorem State.modChan_keys (s : State) (ch : Nat) (f : Channel → Channel) : (s.modChan ch f).keys = s.keys := rfl
@[simp] theorem State.modChan_variants (s : State) (ch : Nat) (f : Channel → Channel) : (s.modChan ch f).variants = s.variants := rfl
@[simp] theorem State.modChan_dying (s : State) (ch : Nat) (f : Channel → Channel) : (s.modChan ch f).dying = s.dying := rfl
@[simp] theorem State.modChan_tlb (s : State) (ch : Nat) (f : Channel → Channel) : (s.modChan ch f).tlb = s.tlb := rfl
@[simp] theorem State.modChan_misses (s : State) (ch : Nat) (f : Channel → Channel) : (s.modChan ch f).misses = s.misses := rfl
@[simp] theorem State.modChan_missNum (s : State) (ch : Nat) (f : Channel → Channel) : (s.modChan ch f).missNum = s.missNum := rfl
@[simp] theorem State.modChan_reads (s : State) (ch : Nat) (f : Channel → Channel) : (s.modChan ch f).reads = s.reads := rfl
@[simp] theorem State.modChan_pathA (s : State) (ch : Nat) (f : Channel → Channel) : (s.modChan ch f).pathA = s.pathA := rfl
@[simp] theorem State.modChan_pathB (s : State) (ch : Nat) (f : Channel → Channel) : (s.modChan ch f).pathB = s.pathB := rfl
@[simp] theorem State.modChan_wonA (s : State) (ch : Nat) (f : Channel → Channel) : (s.modChan ch f).wonA = s.wonA := rfl
@[simp] theorem State.modChan_wonB (s : State) (ch : Nat) (f : Channel → Channel) : (s.modChan ch f).wonB = s.wonB := rfl
@[simp] theorem State.modChan_store (s : State) (ch : Nat) (f : Channel → Channel) : (s.modChan ch f).store = s.store := rfl
@[simp] theorem State.modChan_storePoison (s : State) (ch : Nat) (f : Channel → Channel) : (s.modChan ch f).storePoison = s.storePoison := rfl
@[simp] theorem State.modChan_bulk (s : State) (ch : Nat) (f : Channel → Channel) : (s.modChan ch f).bulk = s.bulk := rfl
@[simp] theorem State.modChan_scrub (s : State) (ch : Nat) (f : Channel → Channel) : (s.modChan ch f).scrub = s.scrub := rfl
@[simp] theorem State.modChan_trees (s : State) (ch : Nat) (f : Channel → Channel) : (s.modChan ch f).trees = s.trees := rfl
@[simp] theorem State.modChan_inputs (s : State) (ch : Nat) (f : Channel → Channel) : (s.modChan ch f).inputs = s.inputs := rfl
@[simp] theorem State.modChan_pktNum (s : State) (ch : Nat) (f : Channel → Channel) : (s.modChan ch f).pktNum = s.pktNum := rfl
@[simp] theorem State.modChan_arrived (s : State) (ch : Nat) (f : Channel → Channel) : (s.modChan ch f).arrived = s.arrived := rfl
@[simp] theorem State.modChan_shaped (s : State) (ch : Nat) (f : Channel → Channel) : (s.modChan ch f).shaped = s.shaped := rfl
@[simp] theorem State.modChan_mcast (s : State) (ch : Nat) (f : Channel → Channel) : (s.modChan ch f).mcast = s.mcast := rfl
@[simp] theorem State.modChan_boards (s : State) (ch : Nat) (f : Channel → Channel) : (s.modChan ch f).boards = s.boards := rfl
@[simp] theorem State.modChan_rr (s : State) (ch : Nat) (f : Channel → Channel) : (s.modChan ch f).rr = s.rr := rfl
@[simp] theorem State.modChan_sched (s : State) (ch : Nat) (f : Channel → Channel) : (s.modChan ch f).sched = s.sched := rfl
@[simp] theorem State.modChan_buckets (s : State) (ch : Nat) (f : Channel → Channel) : (s.modChan ch f).buckets = s.buckets := rfl
@[simp] theorem State.modChan_samples (s : State) (ch : Nat) (f : Channel → Channel) : (s.modChan ch f).samples = s.samples := rfl
@[simp] theorem State.modChan_latch (s : State) (ch : Nat) (f : Channel → Channel) : (s.modChan ch f).latch = s.latch := rfl
@[simp] theorem State.modChan_pmem (s : State) (ch : Nat) (f : Channel → Channel) : (s.modChan ch f).pmem = s.pmem := rfl
@[simp] theorem State.modChan_links (s : State) (ch : Nat) (f : Channel → Channel) : (s.modChan ch f).links = s.links := rfl
@[simp] theorem State.modChan_ports (s : State) (ch : Nat) (f : Channel → Channel) : (s.modChan ch f).ports = s.ports := rfl
@[simp] theorem State.modChan_lanes (s : State) (ch : Nat) (f : Channel → Channel) : (s.modChan ch f).lanes = s.lanes := rfl
@[simp] theorem State.modChan_time (s : State) (ch : Nat) (f : Channel → Channel) : (s.modChan ch f).time = s.time := rfl
@[simp] theorem State.modChan_lap (s : State) (ch : Nat) (f : Channel → Channel) : (s.modChan ch f).lap = s.lap := rfl
@[simp] theorem State.modChan_clerk (s : State) (ch : Nat) (f : Channel → Channel) : (s.modChan ch f).clerk = s.clerk := rfl
@[simp] theorem State.modChan_power (s : State) (ch : Nat) (f : Channel → Channel) : (s.modChan ch f).power = s.power := rfl
@[simp] theorem State.modChan_beadle (s : State) (ch : Nat) (f : Channel → Channel) : (s.modChan ch f).beadle = s.beadle := rfl
@[simp] theorem State.modChan_tally (s : State) (ch : Nat) (f : Channel → Channel) : (s.modChan ch f).tally = s.tally := rfl
@[simp] theorem State.modChan_wakeN (s : State) (ch : Nat) (f : Channel → Channel) : (s.modChan ch f).wakeN = s.wakeN := rfl
@[simp] theorem State.modChan_out (s : State) (ch : Nat) (f : Channel → Channel) : (s.modChan ch f).out = s.out := rfl

/-! Time goes on inside the bell. -/

@[simp] theorem State.later_pending (s : State) : (s.later).pending = s.pending := rfl
@[simp] theorem State.later_life (s : State) : (s.later).life = s.life := rfl
@[simp] theorem State.later_ticks (s : State) : (s.later).ticks = s.ticks := rfl
@[simp] theorem State.later_switched (s : State) : (s.later).switched = s.switched := rfl
@[simp] theorem State.later_tags (s : State) : (s.later).tags = s.tags := rfl
@[simp] theorem State.later_deferred (s : State) : (s.later).deferred = s.deferred := rfl
@[simp] theorem State.later_ledger (s : State) : (s.later).ledger = s.ledger := rfl
@[simp] theorem State.later_staged (s : State) : (s.later).staged = s.staged := rfl
@[simp] theorem State.later_hostA (s : State) : (s.later).hostA = s.hostA := rfl
@[simp] theorem State.later_hostB (s : State) : (s.later).hostB = s.hostB := rfl
@[simp] theorem State.later_bootA (s : State) : (s.later).bootA = s.bootA := rfl
@[simp] theorem State.later_bootB (s : State) : (s.later).bootB = s.bootB := rfl
@[simp] theorem State.later_fns (s : State) : (s.later).fns = s.fns := rfl
@[simp] theorem State.later_cqs (s : State) : (s.later).cqs = s.cqs := rfl
@[simp] theorem State.later_eqs (s : State) : (s.later).eqs = s.eqs := rfl
@[simp] theorem State.later_srqs (s : State) : (s.later).srqs = s.srqs := rfl
@[simp] theorem State.later_qps (s : State) : (s.later).qps = s.qps := rfl
@[simp] theorem State.later_ctxs (s : State) : (s.later).ctxs = s.ctxs := rfl
@[simp] theorem State.later_bench (s : State) : (s.later).bench = s.bench := rfl
@[simp] theorem State.later_landing (s : State) : (s.later).landing = s.landing := rfl
@[simp] theorem State.later_parked (s : State) : (s.later).parked = s.parked := rfl
@[simp] theorem State.later_groupRx (s : State) : (s.later).groupRx = s.groupRx := rfl
@[simp] theorem State.later_groupSeen (s : State) : (s.later).groupSeen = s.groupSeen := rfl
@[simp] theorem State.later_keys (s : State) : (s.later).keys = s.keys := rfl
@[simp] theorem State.later_variants (s : State) : (s.later).variants = s.variants := rfl
@[simp] theorem State.later_dying (s : State) : (s.later).dying = s.dying := rfl
@[simp] theorem State.later_tlb (s : State) : (s.later).tlb = s.tlb := rfl
@[simp] theorem State.later_misses (s : State) : (s.later).misses = s.misses := rfl
@[simp] theorem State.later_missNum (s : State) : (s.later).missNum = s.missNum := rfl
@[simp] theorem State.later_reads (s : State) : (s.later).reads = s.reads := rfl
@[simp] theorem State.later_pathA (s : State) : (s.later).pathA = s.pathA := rfl
@[simp] theorem State.later_pathB (s : State) : (s.later).pathB = s.pathB := rfl
@[simp] theorem State.later_wonA (s : State) : (s.later).wonA = s.wonA := rfl
@[simp] theorem State.later_wonB (s : State) : (s.later).wonB = s.wonB := rfl
@[simp] theorem State.later_store (s : State) : (s.later).store = s.store := rfl
@[simp] theorem State.later_storePoison (s : State) : (s.later).storePoison = s.storePoison := rfl
@[simp] theorem State.later_bulk (s : State) : (s.later).bulk = s.bulk := rfl
@[simp] theorem State.later_scrub (s : State) : (s.later).scrub = s.scrub := rfl
@[simp] theorem State.later_trees (s : State) : (s.later).trees = s.trees := rfl
@[simp] theorem State.later_inputs (s : State) : (s.later).inputs = s.inputs := rfl
@[simp] theorem State.later_pktNum (s : State) : (s.later).pktNum = s.pktNum := rfl
@[simp] theorem State.later_arrived (s : State) : (s.later).arrived = s.arrived := rfl
@[simp] theorem State.later_shaped (s : State) : (s.later).shaped = s.shaped := rfl
@[simp] theorem State.later_mcast (s : State) : (s.later).mcast = s.mcast := rfl
@[simp] theorem State.later_boards (s : State) : (s.later).boards = s.boards := rfl
@[simp] theorem State.later_rr (s : State) : (s.later).rr = s.rr := rfl
@[simp] theorem State.later_sched (s : State) : (s.later).sched = s.sched := rfl
@[simp] theorem State.later_buckets (s : State) : (s.later).buckets = s.buckets := rfl
@[simp] theorem State.later_samples (s : State) : (s.later).samples = s.samples := rfl
@[simp] theorem State.later_latch (s : State) : (s.later).latch = s.latch := rfl
@[simp] theorem State.later_pmem (s : State) : (s.later).pmem = s.pmem := rfl
@[simp] theorem State.later_links (s : State) : (s.later).links = s.links := rfl
@[simp] theorem State.later_ports (s : State) : (s.later).ports = s.ports := rfl
@[simp] theorem State.later_lanes (s : State) : (s.later).lanes = s.lanes := rfl
@[simp] theorem State.later_time (s : State) : (s.later).time = s.time := rfl
@[simp] theorem State.later_porter (s : State) : (s.later).porter = s.porter := rfl
@[simp] theorem State.later_lap (s : State) : (s.later).lap = s.lap := rfl
@[simp] theorem State.later_clerk (s : State) : (s.later).clerk = s.clerk := rfl
@[simp] theorem State.later_power (s : State) : (s.later).power = s.power := rfl
@[simp] theorem State.later_beadle (s : State) : (s.later).beadle = s.beadle := rfl
@[simp] theorem State.later_tally (s : State) : (s.later).tally = s.tally := rfl
@[simp] theorem State.later_wakeN (s : State) : (s.later).wakeN = s.wakeN := rfl
@[simp] theorem State.later_out (s : State) : (s.later).out = s.out := rfl

/-! What is written is read back, and the rest of the table stands. -/

@[simp] theorem State.emit_out (s : State) (o : Output) : (s.emit o).out = s.out ++ [o] := rfl
@[simp] theorem State.setFn_fn (s : State) (fn : Nat) (f : Fn → Fn) : (s.setFn fn f).fn fn = f (s.fn fn) := Tab.getD_put_self ..
@[simp] theorem State.modLink_link (s : State) (q : Nat) (f : Link → Link) : (s.modLink q f).link q = f (s.link q) := Tab.getD_put_self ..
@[simp] theorem State.modPort_lport (s : State) (q : Nat) (f : LanePort → LanePort) : (s.modPort q f).lport q = f (s.lport q) :=
  Tab.getD_put_self ..
@[simp] theorem State.modLane_lane (s : State) (l : Nat) (f : Lane → Lane) : (s.modLane l f).lane l = f (s.lane l) := Tab.getD_put_self ..
@[simp] theorem State.modChan_chan (s : State) (ch : Nat) (f : Channel → Channel) : (s.modChan ch f).chan ch = f (s.chan ch) :=
  Tab.getD_put_self ..
theorem State.setFn_fn_ne (s : State) {fn g : Nat} (f : Fn → Fn) (h : g ≠ fn) : (s.setFn fn f).fn g = s.fn g := Tab.getD_put_ne _ _ _ h
theorem State.modLink_link_ne (s : State) {q r : Nat} (f : Link → Link) (h : r ≠ q) : (s.modLink q f).link r = s.link r :=
  Tab.getD_put_ne _ _ _ h
theorem State.modPort_lport_ne (s : State) {q r : Nat} (f : LanePort → LanePort) (h : r ≠ q) : (s.modPort q f).lport r = s.lport r :=
  Tab.getD_put_ne _ _ _ h
theorem State.modLane_lane_ne (s : State) {l m : Nat} (f : Lane → Lane) (h : m ≠ l) : (s.modLane l f).lane m = s.lane m :=
  Tab.getD_put_ne _ _ _ h
theorem State.modChan_chan_ne (s : State) {c d : Nat} (f : Channel → Channel) (h : d ≠ c) : (s.modChan c f).chan d = s.chan d :=
  Tab.getD_put_ne _ _ _ h
theorem State.modQp_qps (s : State) (qpn : Nat) (f : Qp → Qp) : Tab.look (s.modQp qpn f).qps qpn = (Tab.look s.qps qpn).map f :=
  Tab.look_mod_self ..
theorem State.modSrq_srqs (s : State) (key : Nat) (f : Srq → Srq) : Tab.look (s.modSrq key f).srqs key = (Tab.look s.srqs key).map f :=
  Tab.look_mod_self ..
theorem State.modCtx_ctxs (s : State) (key : Nat) (f : Ctx → Ctx) : Tab.look (s.modCtx key f).ctxs key = (Tab.look s.ctxs key).map f :=
  Tab.look_mod_self ..
theorem State.modTree_trees (s : State) (tree : Nat) (f : Tree → Tree) :
    Tab.look (s.modTree tree f).trees tree = (Tab.look s.trees tree).map f := Tab.look_mod_self ..

/-! The two host ports and their paths. -/

@[simp] theorem State.setPort_port (s : State) (p : HPort) (f : HostPort → HostPort) : (s.setPort p f).port p = f (s.port p) := by
  cases p <;> rfl
@[simp] theorem State.setPath_path (s : State) (p : HPort) (l : List HostUnit) : (s.setPath p l).path p = l := by cases p <;> rfl
theorem State.setPort_port_ne (s : State) {p r : HPort} (f : HostPort → HostPort) (h : r ≠ p) : (s.setPort p f).port r = s.port r := by
  cases p <;> cases r <;> first | rfl | exact absurd rfl h
theorem State.setPath_path_ne (s : State) {p r : HPort} (l : List HostUnit) (h : r ≠ p) : (s.setPath p l).path r = s.path r := by
  cases p <;> cases r <;> first | rfl | exact absurd rfl h

end Sys2Proof.Machine
end

