-- ==== Sys2Proof/Laws/Step.lean ====
section
/-!
SUPPORT. What a command keeps, taken together: the queue it was given, and the canonical form of both byte memories.
-/
set_option maxRecDepth 4096

namespace Sys2Proof.Machine

theorem exec_held (q : List Instr) (i : Instr) (s : State) (hq : Held q s.kept) : HeldO q (exec i s) := by
  cases i with
  | bellBoundary at_ => exact execBellBoundary_kept q at_ s hq
  | bellOverrun domain => exact heldO_of (execBellOverrun_kept domain s) hq
  | rwBellApply => exact execRwBellApply_kept q s hq
  | quietPeriodExit source => exact heldO_of (execQuietPeriodExit_kept source s) hq
  | throttleChange => exact execThrottleChange_kept q s hq
  | thermalHold => exact execThermalHold_kept q s hq
  | thermalRelease => exact execThermalRelease_kept q s hq
  | perstDeassert p link => exact execPerstDeassert_kept q p link s hq
  | portReset p why => exact execPortReset_kept q p why s hq
  | surpriseDown p => exact execSurpriseDown_kept q p s hq
  | fatalError p => exact execFatalError_kept q p s hq
  | freeze p => exact execFreeze_kept q p s hq
  | thaw p => exact execThaw_kept q p s hq
  | freezeCauseClear p mask => exact execFreezeCauseClear_kept q p mask s hq
  | freezeRequest via p data => exact execFreezeRequest_kept q via p data s hq
  | autoThaw p => exact execAutoThaw_kept q p s hq
  | thawComplete p => exact execThawComplete_kept q p s hq
  | flr fn => exact execFlr_kept q fn s hq
  | flrComplete fn => exact heldO_of (execFlrComplete_kept fn s) hq
  | numvfsWrite p n => exact execNumvfsWrite_kept q p n s hq
  | powerStateWrite fn d3hot pmeEn => exact heldO_of (execPowerStateWrite_kept fn d3hot pmeEn s) hq
  | msixUnmask fn vector => exact heldO_of (execMsixUnmask_kept fn vector s) hq
  | l1Idle p => exact heldO_of (execL1Idle_kept p s) hq
  | deviceStoreRead p off len eccAt => exact heldO_of (execDeviceStoreRead_kept p off len eccAt s) hq
  | deviceStoreWrite p off data poisoned => exact execDeviceStoreWrite_kept q p off data poisoned s hq
  | deviceStoreAtomic p bar off op operand compare => exact execDeviceStoreAtomic_kept q p bar off op operand compare s hq
  | registerWrite fn bar off data poisoned => exact execRegisterWrite_kept q fn bar off data poisoned s hq
  | completionTimeout tag => exact execCompletionTimeout_kept q tag s hq
  | hostReadComplete tag data poisoned => exact execHostReadComplete_kept q tag data poisoned s hq
  | hostReadError tag => exact execHostReadError_kept q tag s hq
  | sqDoorbell d => exact heldO_of (execSqDoorbell_kept d s) hq
  | rqDoorbell d => exact heldO_of (execRqDoorbell_kept d s) hq
  | srqDoorbell d => exact heldO_of (execSrqDoorbell_kept d s) hq
  | cqDoorbell d => exact heldO_of (execCqDoorbell_kept d s) hq
  | cqArm d => exact heldO_of (execCqArm_kept d s) hq
  | cqArmSolicited d => exact heldO_of (execCqArmSolicited_kept d s) hq
  | eqDoorbell d => exact heldO_of (execEqDoorbell_kept d s) hq
  | adminSqDoorbell d => exact heldO_of (execAdminSqDoorbell_kept d s) hq
  | adminCqDoorbell d => exact heldO_of (execAdminCqDoorbell_kept d s) hq
  | cqReservationGrant fn cq => exact heldO_of (execCqReservationGrant_kept fn cq s) hq
  | eqModerationExpiry fn eq => exact heldO_of (execEqModerationExpiry_kept fn eq s) hq
  | adminEnable fn cfg => exact heldO_of (execAdminEnable_kept fn cfg s) hq
  | adminDisable fn cfg => exact heldO_of (execAdminDisable_kept fn cfg s) hq
  | createCq fn => exact heldO_of (execCreateCq_kept fn s) hq
  | destroyCq fn => exact heldO_of (execDestroyCq_kept fn s) hq
  | createEq fn => exact heldO_of (execCreateEq_kept fn s) hq
  | destroyEq fn => exact heldO_of (execDestroyEq_kept fn s) hq
  | bindAdminCq fn => exact heldO_of (execBindAdminCq_kept fn s) hq
  | createQp fn => exact heldO_of (execCreateQp_kept fn s) hq
  | modifyQp fn => exact heldO_of (execModifyQp_kept fn s) hq
  | destroyQp fn => exact heldO_of (execDestroyQp_kept fn s) hq
  | createSrq fn => exact heldO_of (execCreateSrq_kept fn s) hq
  | destroySrq fn => exact heldO_of (execDestroySrq_kept fn s) hq
  | recallQueue fn => exact heldO_of (execRecall_kept fn s) hq
  | queueAbort fn => exact heldO_of (execQueueAbort_kept fn s) hq
  | queryQueue fn => exact heldO_of (execQueryQueue_kept fn s) hq
  | createPd fn => exact heldO_of (execCreatePd_kept fn s) hq
  | destroyPd fn => exact heldO_of (execDestroyPd_kept fn s) hq
  | registerRegion fn => exact execRegisterRegion_kept q fn s hq
  | pageListReadComplete tag answer => exact execPageListReadComplete_kept q tag answer s hq
  | createAsk fn => exact execCreateAsk_kept q fn s hq
  | destroyKey fn => exact heldO_of (execDestroyKey_kept fn s) hq
  | destroyKeyComplete fn => exact execDestroyKeyComplete_kept q fn s hq
  | invalidate fn => exact execInvalidate_kept q fn s hq
  | invalidateComplete fn => exact heldO_of (execInvalidateComplete_kept fn s) hq
  | createMissQueue fn => exact heldO_of (execCreateMissQueue_kept fn s) hq
  | destroyMissQueue fn => exact heldO_of (execDestroyMissQueue_kept fn s) hq
  | createTree fn => exact heldO_of (execCreateTree_kept fn s) hq
  | destroyTree fn => exact heldO_of (execDestroyTree_kept fn s) hq
  | replaceTree fn => exact heldO_of (execReplaceTree_kept fn s) hq
  | porterBind fn => exact execPorterBind_kept q fn s hq
  | porterUnbind fn => exact heldO_of (execPorterUnbind_kept fn s) hq
  | porterPause fn => exact heldO_of (execPorterPause_kept fn s) hq
  | porterDrain fn => exact heldO_of (execPorterDrain_kept fn s) hq
  | porterResume fn => exact heldO_of (execPorterResume_kept fn s) hq
  | porterAbort fn => exact heldO_of (execPorterAbort_kept fn s) hq
  | imageLoad fn image => exact execImageLoad_kept q fn image s hq
  | firmwareStage fn => exact heldO_of (execFirmwareStage_kept fn s) hq
  | firmwareSwitch fn => exact execFirmwareSwitch_kept q fn s hq
  | loadFirmware p seq => exact heldO_of (execLoadFirmware_kept p seq s) hq
  | stageFirmware p seq => exact heldO_of (execStageFirmware_kept p seq s) hq
  | readLog p seq => exact heldO_of (execReadLog_kept p seq s) hq
  | ping p seq => exact heldO_of (execPing_kept p seq s) hq
  | bootUnknownCommand p seq cmd => exact heldO_of (execBootUnknownCommand_kept p seq cmd s) hq
  | firmwareLoaded r => exact execFirmwareLoaded_kept q r s hq
  | stagingDone r => exact execStagingDone_kept q r s hq
  | walkReadComplete tag answer => exact execWalkReadComplete_kept q tag answer s hq
  | walkCasComplete tag answer => exact execWalkCasComplete_kept q tag answer s hq
  | missTimeout miss => exact execMissTimeout_kept q miss s hq
  | missRingDoorbell d => exact heldO_of (execMissRingDoorbell_kept d s) hq
  | fillRingDoorbell d => exact heldO_of (execFillRingDoorbell_kept d s) hq
  | fill fn => exact execFill_kept q fn s hq
  | fault fn => exact execFault_kept q fn s hq
  | send qpn => exact heldO_of (execSend_kept qpn s) hq
  | put qpn => exact heldO_of (execPut_kept qpn s) hq
  | putFlag qpn => exact heldO_of (execPutFlag_kept qpn s) hq
  | get qpn => exact heldO_of (execGet_kept qpn s) hq
  | atomic qpn => exact heldO_of (execAtomic_kept qpn s) hq
  | durablePut qpn => exact heldO_of (execDurablePut_kept qpn s) hq
  | replDurablePut qpn => exact heldO_of (execReplDurablePut_kept qpn s) hq
  | mcastPut qpn => exact heldO_of (execMcastPut_kept qpn s) hq
  | sendAtTimeRelease qpn => exact heldO_of (execSendAtTimeRelease_kept qpn s) hq
  | tsend qpn => exact heldO_of (execTsend_kept qpn s) hq
  | trecv fn srq => exact heldO_of (execTrecv_kept fn srq s) hq
  | tbuf fn srq => exact heldO_of (execTbuf_kept fn srq s) hq
  | tcancel fn srq => exact heldO_of (execTcancel_kept fn srq s) hq
  | barrier qpn => exact heldO_of (execBarrier_kept qpn s) hq
  | bcast qpn => exact heldO_of (execBcast_kept qpn s) hq
  | reduce qpn => exact heldO_of (execReduce_kept qpn s) hq
  | allreduce qpn => exact heldO_of (execAllreduce_kept qpn s) hq
  | vote qpn => exact heldO_of (execVote_kept qpn s) hq
  | sendPacket p => exact heldO_of (execSendPacket_kept p s) hq
  | putPacket p => exact heldO_of (execPutPacket_kept p s) hq
  | putFlagData p => exact heldO_of (execPutFlagData_kept p s) hq
  | getReq p => exact heldO_of (execGetReq_kept p s) hq
  | atomicReq p => exact heldO_of (execAtomicReq_kept p s) hq
  | durablePutPacket p => exact heldO_of (execDurablePutPacket_kept p s) hq
  | replDurablePutPacket p => exact heldO_of (execReplDurablePutPacket_kept p s) hq
  | mcastPutPacket p => exact heldO_of (execMcastPutPacket_kept p s) hq
  | getResp p => exact heldO_of (execGetResp_kept p s) hq
  | atomicResp p => exact heldO_of (execAtomicResp_kept p s) hq
  | flag p => exact heldO_of (execFlag_kept p s) hq
  | durableConf p => exact heldO_of (execDurableConf_kept p s) hq
  | memberReply p => exact heldO_of (execMemberReply_kept p s) hq
  | tsendEager p => exact heldO_of (execTsendEager_kept p s) hq
  | tsendRts p => exact heldO_of (execTsendRts_kept p s) hq
  | cts p => exact heldO_of (execCts_kept p s) hq
  | rndvData p => exact heldO_of (execRndvData_kept p s) hq
  | collSeg p => exact heldO_of (execCollSeg_kept p s) hq
  | collHeartbeat p => exact heldO_of (execCollHeartbeat_kept p s) hq
  | collBreak p => exact heldO_of (execCollBreak_kept p s) hq
  | ack p => exact heldO_of (execAck_kept p s) hq
  | nak p => exact heldO_of (execNak_kept p s) hq
  | refuse p => exact heldO_of (execRefuse_kept p s) hq
  | spillWritesIssued ctx => exact heldO_of (execSpillWritesIssued_kept ctx s) hq
  | contextFetchComplete tag answer => exact execContextFetchComplete_kept q tag answer s hq
  | retransmitTimerExpiry ctx => exact heldO_of (execRetransmitTimerExpiry_kept ctx s) hq
  | refusalBackoffExpiry ctx psn => exact heldO_of (execRefusalBackoffExpiry_kept ctx psn s) hq
  | durableConfTimeout ctx num => exact heldO_of (execDurableConfTimeout_kept ctx num s) hq
  | peerGoneExpiry ctx => exact heldO_of (execPeerGoneExpiry_kept ctx s) hq
  | flushReadComplete tag answer => exact execFlushReadComplete_kept q tag answer s hq
  | targetAtomicComplete tag answer => exact execTargetAtomicComplete_kept q tag answer s hq
  | groupDeadlineExpiry qpn => exact heldO_of (execGroupDeadlineExpiry_kept qpn s) hq
  | msnHoldExpiry fn srq stream => exact heldO_of (execMsnHoldExpiry_kept fn srq stream s) hq
  | ctsWaitExpiry qpn => exact heldO_of (execCtsWaitExpiry_kept qpn s) hq
  | heartbeatDue tree dev => exact heldO_of (execHeartbeatDue_kept tree dev s) hq
  | edgeDead tree dev => exact heldO_of (execEdgeDead_kept tree dev s) hq
  | treeWrite via data => exact execTreeWrite_kept q via data s hq
  | treeDestroy via data => exact execTreeDestroy_kept q via data s hq
  | transitPacket inp vc => exact heldO_of (execTransitPacket_kept inp vc s) hq
  | priceBoard port f => exact heldO_of (execPriceBoard_kept port f s) hq
  | tc3StaleDiscard inp => exact heldO_of (execTc3StaleDiscard_kept inp s) hq
  | routingStall inp vc => exact heldO_of (execRoutingStall_kept inp vc s) hq
  | mcastWrite via data => exact execMcastWrite_kept q via data s hq
  | auctionCall site => exact heldO_of (execAuctionCall_kept site s) hq
  | dataFlit port f => exact heldO_of (execDataFlit_kept port f s) hq
  | idleFlit port f => exact heldO_of (execIdleFlit_kept port f s) hq
  | flitCrcFailure port => exact heldO_of (execFlitCrcFailure_kept port s) hq
  | creditSync port f => exact heldO_of (execCreditSync_kept port f s) hq
  | undefinedControlFlit port f => exact heldO_of (execUndefinedControlFlit_kept port f s) hq
  | replayTimeout port => exact heldO_of (execReplayTimeout_kept port s) hq
  | symbolLockLost lane => exact heldO_of (execSymbolLockLost_kept lane s) hq
  | symbolLockRegained lane => exact heldO_of (execSymbolLockRegained_kept lane s) hq
  | lockLossExpiry lane => exact heldO_of (execLockLossExpiry_kept lane s) hq
  | receiverDetect port lanes => exact heldO_of (execReceiverDetect_kept port lanes s) hq
  | signonSymbols port lanes => exact heldO_of (execSignonSymbols_kept port lanes s) hq
  | commaLock lane inverted => exact heldO_of (execCommaLock_kept lane inverted s) hq
  | capabilityFrame lane record => exact heldO_of (execCapabilityFrame_kept lane record s) hq
  | rateSwitch port => exact heldO_of (execRateSwitch_kept port s) hq
  | rateLock port lanes => exact heldO_of (execRateLock_kept port lanes s) hq
  | eqStep lane step => exact heldO_of (execEqStep_kept lane step s) hq
  | equaliseComplete port peerDone => exact heldO_of (execEqualiseComplete_kept port peerDone s) hq
  | trainingStageTimeout port => exact heldO_of (execTrainingStageTimeout_kept port s) hq
  | portRetrain via port data => exact execPortRetrain_kept q via port data s hq
  | laneRequest port f => exact heldO_of (execLaneRequest_kept port f s) hq
  | laneOrder port f => exact heldO_of (execLaneOrder_kept port f s) hq
  | laneDone port f => exact heldO_of (execLaneDone_kept port f s) hq
  | switchMarker port lanes => exact heldO_of (execSwitchMarker_kept port lanes s) hq
  | laneRetrained lane fom => exact heldO_of (execLaneRetrained_kept lane fom s) hq
  | laneDegrade lane => exact heldO_of (execLaneDegrade_kept lane s) hq
  | widthRestore port tx => exact heldO_of (execWidthRestore_kept port tx s) hq
  | p1Idle port => exact heldO_of (execP1Idle_kept port s) hq
  | p1Wake port => exact heldO_of (execP1Wake_kept port s) hq
  | timeSync port f arrival => exact execTimeSync_kept q port f arrival s hq
  | upstreamSilent => exact execUpstreamSilent_kept q s hq
  | timeLock => exact execTimeLock_kept q s hq
  | timeUnlock => exact execTimeUnlock_kept q s hq
  | ppsInEdge stamp localStamp => exact execPpsInEdge_kept q stamp localStamp s hq
  | referenceLost => exact execReferenceLost_kept q s hq
  | refSecondsWrite via data => exact execRefSecondsWrite_kept q via data s hq
  | ppsOutPulse => exact heldO_of (execPpsOutPulse_kept s) hq
  | ppsOutEnd => exact heldO_of (execPpsOutEnd_kept s) hq
  | porterDoorbell d => exact heldO_of (execPorterDoorbell_kept d s) hq
  | descriptorStart ch => exact heldO_of (execDescriptorStart_kept ch s) hq
  | pieceIssue ch => exact execPieceIssue_kept q ch s hq
  | descriptorWriteBack ch => exact heldO_of (execDescriptorWriteBack_kept ch s) hq
  | porterPaused ch => exact heldO_of (execPorterPaused_kept ch s) hq
  | mailboxRead fn len seq => exact execMailboxRead_kept q fn len seq s hq
  | mailboxWrite fn len seq => exact execMailboxWrite_kept q fn len seq s hq
  | mailboxBadOp fn len seq op => exact heldO_of (execMailboxBadOp_kept fn len seq op s) hq
  | lapRead f => exact execLapRead_kept q f s hq
  | lapWrite f => exact execLapWrite_kept q f s hq
  | lapBlock f => exact execLapBlock_kept q f s hq
  | lapRate f => exact heldO_of (execLapRate_kept f s) hq
  | lapPing f => exact heldO_of (execLapPing_kept f s) hq
  | lapForeignFrame f => exact heldO_of (execLapForeignFrame_kept f s) hq
  | lapRateSwitch => exact heldO_of (execLapRateSwitch_kept s) hq
  | lapRateFallback => exact heldO_of (execLapRateFallback_kept s) hq
  | busOff => exact heldO_of (execBusOff_kept s) hq
  | busOffRecovered => exact heldO_of (execBusOffRecovered_kept s) hq
  | lapTxAbandon => exact execLapTxAbandon_kept q s hq
  | mgmtReq port p => exact execMgmtReq_kept q port p s hq
  | mgmtResp port p => exact heldO_of (execMgmtResp_kept port p s) hq
  | directorySelect via data => exact execDirectorySelect_kept q via data s hq
  | mgmtKeyWrite via data => exact execMgmtKeyWrite_kept q via data s hq
  | bulkLoadImage via => exact execBulkLoadImage_kept q via s hq
  | bulkLoadFirmware via => exact execBulkLoadFirmware_kept q via s hq
  | bulkStageFirmware via => exact execBulkStageFirmware_kept q via s hq
  | switchBellWrite via data => exact execSwitchBellWrite_kept q via data s hq
  | changeoverStart => exact heldO_of (execChangeoverStart_kept s) hq
  | changeoverReady => exact heldO_of (execChangeoverReady_kept s) hq
  | changeoverFallback => exact heldO_of (execChangeoverFallback_kept s) hq
  | changeoverResume => exact execChangeoverResume_kept q s hq
  | resetRelease maddr testMode => exact execResetRelease_kept q maddr testMode s hq
  | orderViolation => exact execOrderViolation_kept q s hq
  | railOutOfRange => exact execRailOutOfRange_kept q s hq
  | refclkStop => exact execRefclkStop_kept q s hq
  | pmemReady => exact heldO_of (execPmemReady_kept s) hq
  | agentsReady => exact heldO_of (execAgentsReady_kept s) hq
  | requestOpen via data => exact execRequestOpen_kept q via data s hq
  | enterOpen => exact execEnterOpen_kept q s hq
  | deviceReset via data => exact execDeviceReset_kept q via data s hq
  | pwrfailNFall => exact execPwrfailNFall_kept q s hq
  | pwrfailLow => exact execPwrfailLow_kept q s hq
  | pwrfailNRise => exact execPwrfailNRise_kept q s hq
  | drainDone => exact execDrainDone_kept q s hq
  | drainLimit => exact execDrainLimit_kept q s hq
  | autoRestart => exact execAutoRestart_kept q s hq
  | beadleSelect via data => exact execBeadleSelect_kept q via data s hq
  | beadleClear via data => exact execBeadleClear_kept q via data s hq
  | tallyDump => exact heldO_of (execTallyDump_kept s) hq
  | tallyCountWrite via counter data => exact execTallyCountWrite_kept q via counter data s hq
  | tallyDumpEnable via data => exact execTallyDumpEnable_kept q via data s hq
  | tallyDumpCi via data => exact execTallyDumpCi_kept q via data s hq
  | dataLinkUp p link => exact execDataLinkUp_kept q p link s hq
  | flitTime port => exact heldO_of (execFlitTime_kept port s) hq
  | lapBitError e => exact execLapBitError_kept q e s hq
  | thermalLimitExceeded => exact heldO_of (execThermalLimitExceeded_kept s) hq
  | pmPmeRepeat fn => exact heldO_of (execPmPmeRepeat_kept fn s) hq
  | pmeStatusClear fn => exact heldO_of (execPmeStatusClear_kept fn s) hq

end Sys2Proof.Machine
end

