-- ==== Sys2Proof/Laws/Word.lean ====
section
/-!
SUPPORT. Bytes and fields: little-endian bytes read back as the number, and a field placed is the field read.
-/
namespace Sys2Proof

@[simp] theorem leBytes_length (n v : Nat) : (leBytes n v).length = n := by
  induction n generalizing v with
  | zero => rfl
  | succ n ih => simp [leBytes, ih]

@[simp] theorem leNat_leBytes (n v : Nat) : leNat (leBytes n v) = v % 256 ^ n := by
  induction n generalizing v with
  | zero => simp [leBytes, leNat, Nat.mod_one]
  | succ n ih =>
    simp only [leBytes, leNat, ih, BitVec.toNat_ofNat]
    show v % 256 + 256 * (v / 256 % 256 ^ n) = v % 256 ^ (n + 1)
    rw [Nat.pow_succ', Nat.mod_mul]

theorem bits_place (off lo w v : Nat) : bits (place off lo w v) off lo w = v % 2 ^ w := by
  unfold bits place
  rw [Nat.mul_div_cancel _ (Nat.two_pow_pos _), Nat.mod_mod]

theorem leNat_drop (d : Bytes) (n : Nat) : leNat d / 256 ^ n = leNat (d.drop n) := by
  induction n generalizing d with
  | zero => simp
  | succ n ih =>
    cases d with
    | nil => simp [leNat]
    | cons b d =>
      have hb := b.isLt
      rw [List.drop_succ_cons, ← ih, Nat.pow_succ', ← Nat.div_div_eq_div_mul]
      congr 1
      show (b.toNat + 256 * leNat d) / 256 = leNat d
      omega

theorem leNat_take (d : Bytes) (n : Nat) : leNat d % 256 ^ n = leNat (d.take n) := by
  induction n generalizing d with
  | zero => simp [Nat.mod_one, leNat]
  | succ n ih =>
    cases d with
    | nil => simp [leNat]
    | cons b d =>
      have hb := b.isLt
      rw [List.take_succ_cons, Nat.pow_succ', Nat.mod_mul]
      show (b.toNat + 256 * leNat d) % 256 + 256 * ((b.toNat + 256 * leNat d) / 256 % 256 ^ n) = b.toNat + 256 * leNat (d.take n)
      rw [← ih, show (b.toNat + 256 * leNat d) / 256 = leNat d by omega]
      omega

/-- A field of whole bytes of a record is the number that those bytes give. -/
theorem bits_leNat (d : Bytes) (off n : Nat) : bits (leNat d) off 0 (8 * n) = leNat ((d.drop off).take n) := by
  unfold bits
  rw [Nat.add_zero, Nat.pow_mul, Nat.pow_mul, show (2 ^ 8 : Nat) = 256 from rfl, leNat_drop, leNat_take]

theorem bits_lt (r off lo w : Nat) : bits r off lo w < 2 ^ w := Nat.mod_lt _ (Nat.two_pow_pos _)

end Sys2Proof
end

