-- ==== Sys2Proof/Tests/Slice0.lean ====
section
/-!
SUPPORT. Tests: ill-formed commands that the checks refuse, single steps with the results that the spec gives, and for each
statement states and operands that meet its hypotheses, clause by clause.
-/
section Tests

-- Each theorem is checked before the next begins: together their evaluations would ask for too many threads.
set_option Elab.async false
open Sys2Proof Sys2Proof.Machine

namespace Sys2Proof.Tests

/-! ## Ill-formed commands -/

/-- A packet and a flit that are well formed. -/
def goodPacket : Packet := Packet.blank
def goodFlit : Flit := ⟨0, 0, 0, false, false, 0, 0, 0, 0, 0, 0, List.replicate 240 0⟩
def goodBell : BellInputs := ⟨0xFFFF, 0, List.replicate 16 25, List.replicate 8 900, [], [], []⟩

theorem test_wf_takes : WellFormed.packet goodPacket = true ∧ WellFormed.flit goodFlit = true ∧ WellFormed.bell goodBell = true ∧
    (Instr.flr 255).wf = true ∧ (Instr.flitTime 63).wf = true ∧ (Instr.laneDegrade 127).wf = true ∧ (Instr.pieceIssue 15).wf = true ∧
    (Instr.send 16777215).wf = true ∧ (Instr.trecv 0 65535).wf = true := by decide +kernel

theorem test_wf_refuses_numbers : (Instr.flr 256).wf = false ∧ (Instr.flitTime 64).wf = false ∧ (Instr.laneDegrade 128).wf = false ∧
    (Instr.pieceIssue 16).wf = false ∧ (Instr.send 16777216).wf = false ∧ (Instr.trecv 0 65536).wf = false ∧
    (Instr.trecv 256 0).wf = false ∧ (Instr.quietPeriodExit 65536).wf = false ∧ (Instr.numvfsWrite .A 128).wf = false ∧
    (Instr.bellOverrun 0).wf = false ∧ (Instr.bellOverrun 17).wf = false ∧ (Instr.heartbeatDue 65536 0).wf = false ∧
    (Instr.edgeDead 0 262144).wf = false ∧ (Instr.transitPacket 65 0).wf = false ∧ (Instr.routingStall 0 16).wf = false ∧
    (Instr.tc3StaleDiscard 65).wf = false ∧ (Instr.msixUnmask 0 (some 256)).wf = false ∧ (Instr.ping .A 256).wf = false ∧
    (Instr.bootUnknownCommand .A 0 4).wf = false ∧ (Instr.bootUnknownCommand .A 0 256).wf = false := by decide +kernel

theorem test_wf_refuses_packets : (∀ p ∈ [{ goodPacket with ptype := 256 }, { goodPacket with tc := 4 }, { goodPacket with esc := 4 },
      { goodPacket with mode := 4 }, { goodPacket with tenant := 65536 }, { goodPacket with destDev := 262144 },
      { goodPacket with destFn := 256 }, { goodPacket with hops := 64 }, { goodPacket with srcDev := 262144 },
      { goodPacket with srcFn := 256 }, { goodPacket with flow := 65536 }, { goodPacket with qpn := 16777216 },
      { goodPacket with inc := 4294967296 }, { goodPacket with via := 1024 }, { goodPacket with destQueue := 65536 },
      { goodPacket with ts := 2 ^ 64 }, { goodPacket with ext := 2 ^ 192 }, { goodPacket with payload := List.replicate 4097 0 },
      { goodPacket with byteCount := 8192 }, { goodPacket with crc := 4294967296 }], WellFormed.packet p = false) ∧
    (Instr.putPacket { goodPacket with ptype := 1 }).wf = false ∧
    (Instr.nak { goodPacket with ptype := 0x30, payload := List.replicate 160 0 }).wf = false ∧
    (Instr.mgmtReq 64 { goodPacket with ptype := 0x40 }).wf = false := by decide +kernel

theorem test_wf_refuses_flits : (∀ f ∈ [{ goodFlit with kind := 4 }, { goodFlit with start := 256 }, { goodFlit with fillAt := 256 },
      { goodFlit with pool := 16 }, { goodFlit with crVc := 16 }, { goodFlit with crPool := 2 }, { goodFlit with crCount := 128 },
      { goodFlit with body := [] }], WellFormed.flit f = false) ∧
    (Instr.dataFlit 0 { goodFlit with kind := 1 }).wf = false ∧ (Instr.idleFlit 0 goodFlit).wf = false ∧
    (Instr.priceBoard 0 { goodFlit with kind := 2, seq := 2 }).wf = false ∧
    (Instr.undefinedControlFlit 0 { goodFlit with kind := 2, seq := 2 }).wf = false ∧ (Instr.idleFlit 64 { goodFlit with kind := 1 }).wf = false ∧
    (Instr.timeSync 0 { goodFlit with kind := 2, seq := 16 } (2 ^ 96)).wf = false := by decide +kernel

theorem test_wf_refuses_host : (∀ d ∈ [(⟨256, 0, 0, 4, 0, false⟩ : Doorbell), ⟨0, 65536, 0, 4, 0, false⟩, ⟨0, 0, 64, 4, 0, false⟩, ⟨0, 0, 0, 65, 0, false⟩,
      ⟨0, 0, 0, 4, 2 ^ 32, false⟩],
      WellFormed.doorbell d = false) ∧
    (Instr.deviceStoreRead .A 34359738368 1 none).wf = false ∧ (Instr.deviceStoreWrite .A 34359738368 [0] false).wf = false ∧
    (Instr.deviceStoreAtomic .A 1 0 0 0 0).wf = false ∧ (Instr.deviceStoreAtomic .A 0 2 0 0 0).wf = false ∧
    (Instr.deviceStoreAtomic .A 0 0 6 0 0).wf = false ∧ (Instr.deviceStoreAtomic .A 0 8 5 0 0).wf = false ∧
    (Instr.registerWrite 0 1 0 [] false).wf = false ∧ (Instr.registerWrite 0 0 65536 [0] false).wf = false ∧
    (Instr.registerWrite 0 2 4194304 [0] false).wf = false := by decide +kernel

theorem test_wf_refuses_inputs : (Instr.bellBoundary { goodBell with finish := 65536 }).wf = false ∧
    (Instr.bellBoundary { goodBell with tempsMc := [] }).wf = false ∧ (Instr.bellBoundary { goodBell with railsMv := [] }).wf = false ∧
    (Instr.bellBoundary { goodBell with foms := [(128, 0)] }).wf = false ∧ (Instr.bellBoundary { goodBell with foms := [(0, 401)] }).wf = false ∧
    (Instr.bellBoundary { goodBell with corrected := [(2, 16)] }).wf = false ∧
    (Instr.bellBoundary { goodBell with uncorrectable := [(2, 0, 0)] }).wf = false ∧
    (Instr.auctionCall (.output 68)).wf = false ∧ (Instr.auctionCall (.pmem 16 [])).wf = false ∧
    (Instr.auctionCall (.pmem 0 [⟨7, []⟩])).wf = false ∧ (Instr.auctionCall (.pmem 0 [⟨0, [9]⟩])).wf = false ∧
    (Instr.receiverDetect 0 16).wf = false ∧ (Instr.capabilityFrame 0 []).wf = false ∧ (Instr.eqStep 0 ⟨true, true, 401, 0⟩).wf = false ∧
    (Instr.laneRetrained 0 401).wf = false ∧ (Instr.ppsInEdge (2 ^ 96) 0).wf = false ∧ (Instr.resetRelease 128 false).wf = false := by
  decide +kernel

theorem test_wf_refuses_ledger : (Instr.treeWrite (.mailbox 256 0) []).wf = false ∧ (Instr.treeWrite (.mailbox 0 256) []).wf = false ∧
    (Instr.treeWrite (.lap 128 0) []).wf = false ∧ (Instr.treeWrite (.lap 0 256) []).wf = false ∧
    (Instr.treeWrite (.inband 262144 0) []).wf = false ∧ (Instr.treeWrite (.inband 0 65536) []).wf = false ∧
    (Instr.treeWrite (.lap 0 0) (List.replicate 2049 0)).wf = false ∧ (Instr.mailboxRead 0 65536 0).wf = false ∧
    (Instr.mailboxBadOp 0 0 0 2).wf = false ∧ (Instr.mailboxBadOp 0 0 0 256).wf = false ∧ (Instr.lapRead ⟨2048, []⟩).wf = false ∧
    (Instr.lapRead ⟨0, List.replicate 65 0⟩).wf = false ∧ (Instr.tallyCountWrite (.lap 0 0) 512 []).wf = false := by decide +kernel

/-! ## Single steps -/

/-- The check value of CRC-32C (R323 names the polynomial): the digits 1 to 9. -/
theorem test_crc32c : crc32c [0x31, 0x32, 0x33, 0x34, 0x35, 0x36, 0x37, 0x38, 0x39] = 0xE3069283 := by decide +kernel

/-- A step on a queue of two commands runs the first and leaves the second (the block's queue is first in, first out). -/
theorem test_step_takes_front : step { State.reset with pending := [.timeLock, .timeUnlock] } = exec .timeLock { State.reset with pending := [.timeUnlock] } :=
  rfl

/-- No row of the table gives bits, so no word spells a command. -/
theorem test_no_words : decodeTableWord 32 0 = none ∧ (State.reset.withFetchWord 32 0).pending = [] := by decide +kernel

/-- What is stored little-endian is read back at the bits at which it stands. -/
theorem test_little_endian : leBytes 4 0x11223344 = [0x44, 0x33, 0x22, 0x11] ∧ bits (leNat [0x44, 0x33, 0x22, 0x11]) 1 0 8 = 0x33 := by decide +kernel


/-! ## States for the witnesses -/

/-- A host port that is UP. -/
def up : HostPort := { HostPort.fresh with state := .up, linkUp := true, link := ⟨16, 6, true, []⟩ }

/-- A device in OPEN at bell 5,000, with both host ports UP. -/
def dev : State := { State.reset with life := .open_, ticks := 5000, hostA := up, hostB := up, power := { Power.fresh with entered := true } }

/-- A device in SETUP whose agents are ready. -/
def setup : State := { dev with life := .setup, clerk := { Clerk.fresh with pmemReady := true, agentsReady := true } }

/-- What a bell brings where nothing is measured. -/
def bell : BellInputs := ⟨0xFFFF, 100000, [], [], [], [], []⟩

/-- The next state of an outcome. -/
def got (o : Host.Outcome State Fault Refusal) : State := match o with
  | .next t => t
  | _ => State.reset

/-- A completion queue without an event queue. -/
def cq0 : Cq := Cq.fresh 4096 8 none

/-- An event queue. -/
def eq0 : EventQ := { base := 8192, log2 := 8, pi := 0, ci := 0, vector := 1, mod := 16, lastMsg := none, owed := false, marks := [] }

/-- A shared receive queue. -/
def srq0 : Srq :=
  { base := 12288, log2 := 8, pi := 0, ci := 0, fetching := false, short := false, shadow := 65536, cq := 2, pd := 5, lowLimit := 0,
    eventEq := none, lowArmed := false, pool := [], inUse := 0, postHeld := none, postNew := false, posted := [], matched := [],
    stored := [], streams := [], tbufs := [], postNum := 0, eligNum := 0, tbufNum := 0 }

/-- A queue pair that is CT and READY, of function 0. -/
def qp0 : Qp :=
  { Qp.fresh 0 0 with state := .ready, pd := 5, cq := 2, rqCq := 2, peerDev := 9, peerQpn := 7, sq := Sq.fresh 16384 4 16,
                      srq := none, rq := some (Rq.fresh 20480 4 17) }

/-- An entry of a send queue that waits. -/
def wq : Wqe := ⟨0, 1, 0, .fetched, false, 0, 0, 0, 0, []⟩

/-- A key of the whole address space, made by registering. -/
def key0 : Key := ⟨7, false, 0, 5, 0, 1048576, 0, 63, false, 0, 0, 0⟩

/-- A channel of function 0 that is ACTIVE. -/
def chan0 : Channel := { Channel.fresh with state := .active, pd := 5, slot := 20 }

/-- A miss in progress. -/
def miss0 : Miss := ⟨1, 0, 1, 0, 4, [], 1, 0, 0, 0, 3, false, 0⟩

/-- Function 0 with its administrative queue on, a protection domain and a miss queue. -/
def fn0 : Fn := { Fn.fresh with admOn := true, pds := [5], missq := some ⟨6, 24576, 4, 0, 0, 28672, 4, 0, 0, false, [], 3, false⟩ }

/-- An open device with one object of each kind. -/
def devQ : State :=
  { dev with fns := [(0, fn0)], cqs := [(1, cq0), (2, cq0)], eqs := [(3, eq0)], srqs := [(4, srq0)], qps := [(100, qp0)],
             keys := [(1, key0)], porter := [(2, chan0)] }

/-- The state with an administrative command in progress at function 0. -/
def doing (c : AdminCmd) (s : State := devQ) : State := s.setFn 0 (fun f => { f with admCur := some c })

/-- An administrative command just fetched, and one that waits. -/
def cmd (raw : Nat) : AdminCmd := ⟨0, 2, raw, false, 0, 0⟩
def cmdW (raw : Nat) : AdminCmd := ⟨0, 2, raw, true, 0, 0⟩

/-- An outstanding read of two bytes. -/
def hr (f : ReadFor) : HostRead := ⟨.A, f, 4096, 2, 0, none, some 0, 1⟩

/-- A firmware image of 124 bytes whose key identifier is the part's. -/
def image0 : Bytes :=
  leBytes 4 0x57465154 ++ leBytes 4 5 ++ leBytes 4 124 ++ leBytes 4 0 ++ leBytes 4 0 ++ leBytes 4 Config.keyId.toNat ++ leBytes 4 1 ++
  List.replicate 96 0
theorem image0_good : fwResult (some image0) true = 0 := by
  have hl : image0.length = 124 := by simp [image0]
  have hk : leNat (leBytes 4 Config.keyId.toNat) = Config.keyId.toNat := by
    rw [leNat_leBytes]; exact Nat.mod_eq_of_lt Config.keyId.isLt
  have a : bits (leNat (image0.take 0x1C)) 0 0 32 = 0x57465154 := bits_leNat _ 0 4
  have b : bits (leNat (image0.take 0x1C)) 8 0 32 = 124 := bits_leNat _ 8 4
  have c : bits (leNat (image0.take 0x1C)) 0x0C 0 32 = 0 := bits_leNat _ 0x0C 4
  have d : bits (leNat (image0.take 0x1C)) 0x10 0 32 = 0 := bits_leNat _ 0x10 4
  have e : bits (leNat (image0.take 0x1C)) 0x14 0 32 = Config.keyId.toNat := (bits_leNat _ 0x14 4).trans hk
  have f : bits (leNat (image0.take 0x1C)) 0x18 0 16 = 1 := bits_leNat _ 0x18 2
  simp [fwResult, a, b, c, d, e, f, hl]

/-- The node record of tree 0x77 at an EPOCH: a root with one child, device 9. -/
def node0 (epoch : Nat) : Nat := place 0 0 16 0x77 + place 0 16 16 epoch + place 4 18 1 1 + place 8 0 6 1 + place 0x120 0 18 9

/-- A node of tree 0x77, installed by function 0. -/
def tree0 : Tree := ⟨node0 1, some 0, false, [], 0, [], []⟩

/-- A leaf that permits writing. -/
def leaf0 : Nat := 0x423A145003

/-- A fill of page 0 of the key `0x20000107`, for miss 9. -/
def fill0 : Nat := 0x101 + place 4 0 32 0x20000107 + place 0x10 0 64 leaf0 + place 0x18 0 16 9

/-- Where a number is free and a context may be had, a QPN is found. -/
theorem freshQpn_finds (s : State) (fn : Nat) (st : Bool) (i : Nat) (hi : i < s.ctSlots (fnPort fn))
    (h : (Tab.has s.qps (portNum (fnPort fn) * 2 ^ 23 + i) || !s.qpRoom fn (portNum (fnPort fn) * 2 ^ 23 + i) st) = false) :
    ∃ q s', s.freshQpn fn st = (some q, s') ∧ s' = { s with free := s.free + 1 } := by
  obtain ⟨x, s', e, -, r⟩ := State.choose_finds s (fun q => Tab.has s.qps q || !s.qpRoom fn q st) (portNum (fnPort fn) * 2 ^ 23) _ i hi h
  exact ⟨x, s', e, r⟩

/-- A context of function 0's queue pair 100, in use. -/
def ctx0 : Ctx := { State.freshCtx dev 1 .A 9 0 with slot := true, rcvFresh := false }

/-- A translation of the first mebibyte of key 1. -/
def tlb0 : Tlb := ⟨1, 0, 256, 65536, true, true, true, 5000, true, true⟩

/-- An entry that may start. -/
def went (raw : Nat) : Wqe := { wq with raw := raw, reserved := true }

/-- An entry that has started. -/
def wrun (raw : Nat) : Wqe := { went raw with stage := .started }

/-- The queue pair with one entry. -/
def qpw (w : Wqe) : Qp := { qp0 with sq := { qp0.sq with pi := 1, next := 1, ents := [w] } }

/-- The device with that queue pair and its context. -/
def devT (w : Wqe) : State := { devQ with ctxs := [(100, ctx0)], tlb := [tlb0], qps := [(100, qpw w)], ledger := [(0xE02002, 4096), (0x111001, 1)] }

/-- The local and the remote side of an entry of 64 bytes. -/
def sides : Nat := 1 + place 0x10 0 32 0x10000107 + place 0x14 0 32 64 + place 0x18 0 64 4096 + place 0x20 0 32 0x10000107 + place 0x28 0 64 8192

/-- A message of entry 0 of queue pair 100. -/
def msg0 (t : Nat) : TxMsg := { TxMsg.blank with id := 3, ptype := t, owner := some (100, 0) }

/-- The device with a started entry and its message. -/
def devM (w : Wqe) (m : TxMsg) : State := { devT w with ctxs := [(100, { ctx0 with msgs := [m] })] }

/-- A packet for queue pair 100. -/
def pkt (t ext : Nat) (payload : Bytes) : Packet := Packet.sealed { Packet.blank with ptype := t, qpn := 100, srcDev := 9, ext := ext, payload := payload }

/-- The state with a packet that has come. -/
def arriving (s : State) (p : Packet) : State := { s with arrived := [p] }

/-- The fields of a packet of a range: MSG_LEN, key and address. -/
def range (len : Nat) : Nat := extAt 0x2C 0 32 len + extAt 0x34 0 32 0x10000107 + extAt 0x38 0 64 4096

/-- The state after a landing. -/
def landed3 (x : (Verdict × State) ⊕ (Nat × Option Nat × State)) : State := match x with
  | .inl (_, u) => u
  | .inr (_, _, u) => u
def landed2 (x : (Verdict × State) ⊕ (Nat × State)) : State := match x with
  | .inl (_, u) => u
  | .inr (_, u) => u

/-- The node of tree 0x77 with one local member too. -/
def tree1 : Tree := ⟨node0 1 + place 8 8 5 1 + place 0x20 16 16 5, some 0, false, [0], 0, [], []⟩

theorem later_sub (s : State) (h : s.sub = 0) : s.later.sub < 4096 := by
  have : s.later.sub = 0 + (Config.draw s.free).toNat % 4096 := by unfold State.later; rw [h]
  rw [this, Nat.zero_add]; exact Nat.mod_lt _ (by decide)

theorem signed_sub (x y : Nat) (hx : x < 2 ^ 63) (hy : y < 2 ^ 63) :
    toSigned 64 ((x + 2 ^ 64 - y % 2 ^ 64 % 2 ^ 64) % 2 ^ 64) = (x : Int) - y := by
  rw [Nat.mod_mod, Nat.mod_eq_of_lt (a := y) (by omega)]
  unfold toSigned
  by_cases h : y ≤ x
  · rw [show (x + 2 ^ 64 - y) % 2 ^ 64 = x - y by omega, if_pos (by omega)]; omega
  · rw [show (x + 2 ^ 64 - y) % 2 ^ 64 = x + 2 ^ 64 - y by omega, if_neg (by omega)]; omega

/-- How far an entry's time lies ahead, once time has moved on inside the bell. -/
theorem ahead_later (r v b : Nat) (s : State) (h : s.sub = 0) (hb : s.time.now / 2 ^ 28 * 2 ^ 12 = b) (hv : Ent.atValue r = v) (hv' : v < 2 ^ 63)
    (hb' : b < 2 ^ 62) : ∃ d : Nat, d < 4096 ∧ atAhead r s.later.shortTime = (v : Int) - (b + d : Nat) := by
  refine ⟨s.later.sub, later_sub s h, ?_⟩
  have := later_sub s h
  rw [← signed_sub v (b + s.later.sub) hv' (by omega), ← hb, ← hv]
  rfl

/-- The record of a SACK. -/
def sack (cum kind code ref ce : Nat) : Bytes :=
  leBytes 160 (place 0 0 32 cum + place 4 0 2 kind + place 4 8 8 code + place 4 16 16 ce + place 8 0 32 ref)

/-- A packet of a context of queue pair 100 that is not acknowledged. -/
def sent0 : SentPkt := ⟨0, pkt 2 (range 8) (List.replicate 8 5), 3, 0, false, false, none⟩

/-- The context with one packet on its way. -/
def ctxS : Ctx := { ctx0 with sndNxt := 1, msgs := [{ msg0 2 with unacked := 1 }], sent := [sent0], timer := some 0 }

/-- The device with it. -/
def devS : State := { devT (wrun (0x200 + sides)) with ctxs := [(100, ctxS)] }

/-- A packet of a group: 8 bytes for group 3. -/
def gpkt (t : Nat) : Packet :=
  Packet.sealed { Packet.blank with ptype := t, tc := 2, mode := 2, destQueue := 3, srcDev := 9, ext := extAt 0x2C 0 32 8 + extAt 0x30 0 24 200,
                                    payload := List.replicate 8 5 }

/-- The reply of a member to queue pair 100. -/
def mreply : Packet := Packet.sealed { Packet.blank with ptype := 0x0D, tc := 1, qpn := 100, srcDev := 9 }

/-- Group 3, of which the device is a member. -/
def group3 : Nat := place 8 0 32 0x10000107 + place 0x0C 12 2 3

/-- A packet of tree 0x77 from its child. -/
def tpkt (t epoch : Nat) : Packet :=
  Packet.sealed { Packet.blank with ptype := t, tc := 2, mode := 2, inc := epoch, srcDev := 9, ext := extAt 0x2C 0 16 0x77 }

/-- The device with the tree and its edge's context. -/
def devE : State := { devT wq with trees := [(0x77, { tree0 with edges := [(9, ⟨0, 0⟩)] })], ctxs := [(edgeKey 0x77 9, { ctx0 with kind := Kind.edge })] }

/-- A message held for its place in a stream. -/
def stored0 : Stored := ⟨100, 0, 9, 0, 5, 6, 1, 3, 8, true, none, 0, none, false, false, false⟩

/-- The device with a tagged entry read from the shared receive queue. -/
def devX (raw : Nat) (q : Srq := srq0) : State := { devT wq with srqs := [(4, { q with postHeld := some (0, raw), postNew := true })] }

/-- A posted receive and a message for it. -/
def recv0 : Nat := 0x1101 + place 4 0 16 2 + place 0x10 0 32 0x10000107 + place 0x14 0 32 64 + place 0x18 0 64 4096 + place 0x20 0 32 1 + place 0x28 0 32 5 + place 0x2C 0 16 6

theorem srqEntryDone_some (s v : State) (key cq : Nat) (i : BitVec 16) (raw st : Nat) (h : s.reserve (key / 65536) cq = some v) :
    ∃ u, s.srqEntryDone key cq i raw st = some u := by
  unfold State.srqEntryDone
  rw [h]
  exact ⟨_, rfl⟩

/-- The message and the state of an opened one. -/
def opened (x : (Verdict × State) ⊕ (RxMsg × State)) : RxMsg × State := match x with
  | .inl (_, u) => (newRx Packet.blank .none 0, u)
  | .inr y => y

theorem opened_inr (x : (Verdict × State) ⊕ (RxMsg × State)) (h : x.isRight = true) : x = .inr ((opened x).1, (opened x).2) := by
  cases x with
  | inl => cases h
  | inr => rfl

theorem landed_inr (x : (Verdict × State) ⊕ (Nat × State)) (h : x.isRight = true) : ∃ k v, x = .inr (k, v) := by
  cases x with
  | inl => cases h
  | inr y => exact ⟨y.1, y.2, rfl⟩

/-- A receive entry of 64 bytes. -/
def recv1 : Nat := 0x4001 + place 0x10 0 32 0x10000107 + place 0x14 0 32 64 + place 0x18 0 64 4096

/-- The device with a receive posted, on the queue pair or on the shared queue. -/
def devR : State := { devT wq with qps := [(100, { qpw wq with rq := some { Rq.fresh 20480 4 17 with pool := [(0, recv1)] } })] }
def devRS : State := { devT wq with qps := [(100, { qpw wq with srq := some 4, rq := none })], srqs := [(4, { srq0 with pool := [(0, recv1)] })] }

/-- A packet of a SEND of 8 bytes. -/
def spkt : Packet := pkt 1 (extAt 0x2C 0 32 8) (List.replicate 8 5)

/-- A tagged packet of 8 bytes. -/
def tagged (t : Nat) (d : Bytes) : Packet :=
  Packet.sealed { pkt t (extAt 0x2C 0 32 8 + extAt 0x34 0 32 5 + extAt 0x38 0 32 1 + extAt 0x3C 0 16 6) d with destQueue := 4 }

/-- The device with a posted tagged receive. -/
def devG : State := { devT wq with srqs := [(4, { srq0 with posted := [⟨0, 9, recv0⟩] })] }

/-- What the first packet of a tagged message leads to. -/
def firstOf (p : Packet) : Dest × State := (State.firstTagged ((arriving devG p).without p) 4 100 p).getD (.none, devG)

/-- The state in which its bytes land. -/
def landing (p : Packet) : State := (firstOf p).2.putRx 100 (newRx p (.trecv 4 0) 0)

/-- The receive that was matched. -/
def match0 : Matched := ⟨0, 9, recv0, 100, 0, 9, 0, 5, 1, 8, 8, 0, 0, none, 0, none, false, false⟩

theorem full_matching : State.matchRoom (devX recv0 { srq0 with streams := List.replicate 4194304 (1, ⟨9, 0, 5, 6, 0⟩) }) = false := by
  have h : ∀ l : Tab Stream, State.matchUsed (devX recv0 { srq0 with streams := l }) =
      0 + 0 + 0 + l.length + (State.references (devX recv0 { srq0 with streams := l })).foldl (fun n e => n + chainsOf e.2) 0 := fun _ => rfl
  exact decide_eq_false (by rw [h, List.length_replicate]; unfold matchEntries; omega)

/-- An entry that posts a buffer of 4,096 bytes. -/
def tbuf0 : Nat := 0x1201 + place 4 0 16 2 + place 0x10 0 32 0x10000107 + place 0x14 0 32 4096 + place 0x18 0 64 4096

/-- A cancel entry. -/
def cancel0 : Nat := 0x1301 + place 4 0 16 2

/-- The device with a cancel entry and the receive that it names. -/
def devC : State := devX cancel0 { srq0 with posted := [⟨0, 9, recv0⟩] }

theorem cancel_twice : ∃ u v, devC.srqEntryDone 4 2 9 recv0 Status.cancelled = some u ∧ u.srqEntryDone 4 2 0 cancel0 Status.ok = some v := by
  obtain ⟨u, hu⟩ := srqEntryDone_some devC _ 4 2 9 recv0 Status.cancelled rfl
  have hr : (u.reserve 0 2).isSome = true := by
    have e : u = (devC.srqEntryDone 4 2 9 recv0 Status.cancelled).getD dev := by rw [hu]; rfl
    rw [e]; decide +kernel
  obtain ⟨w, hw⟩ := Option.isSome_iff_exists.mp hr
  obtain ⟨v, hv⟩ := srqEntryDone_some u w 4 2 0 cancel0 Status.ok hw
  exact ⟨u, v, hu, hv⟩

/-- A management request from device 9, and a response to this device. -/
def mreq (t reqId : Nat) (payload : Bytes) : Packet :=
  Packet.sealed { Packet.blank with ptype := t, tc := 3, srcDev := 9, ext := extAt 0x30 16 16 reqId, payload := payload }

/-- The device with in-band management enabled. -/
def devB : State := { dev with ledger := [(0x001002, 1)] }

/-- An answer that is kept. -/
def kept0 (inband : Bool) (who : Nat) : Kpt := ⟨inband, who, 7, 5000, [], some Packet.blank⟩

/-- The device with an address on the management bus. -/
def devL : State := { dev with lap := Lap.fresh 5, ledger := [(0xF80004, 1), (0xF80005, 1)] }

/-- A frame on the device's own identifier. -/
def frame (op tid src seg addr : Nat) (d : Bytes) : LapFrame :=
  ⟨State.lapOwn devL, leBytes 8 (place 0 0 8 op + place 1 0 8 tid + place 2 0 8 src + place 3 0 8 seg + place 4 0 24 addr) ++ d⟩

/-- A frame that waits to be sent. -/
def tx0 : LapTx := ⟨⟨5, []⟩, 0, 0⟩

/-- An ACTIVE link with a flit kept for replay. -/
def flit0 (k n : Nat) : Flit := { plainFlit k n [] with ack := 100 }
def keptF (n : Nat) : Kept := ⟨flit0 0 n, false, false, 0⟩
def link0 : Link := { Link.fresh.started 4992 with seq := 8, kept := [keptF 7] }

/-- A port of device `0x101` that is usable, with an ACTIVE link to device `0x102`, and the routes by it. -/
def devK : State :=
  { dev with links := [(0, link0)], boards := [(0, ⟨0x102, true, []⟩)], ports := [(0, { LanePort.fresh with stage := .active })],
             ledger := [(0x101001, 0x101), (0x800101, 1), (0x810002, 1), (0x811002, 1), (0x801001, 1), (0x801004, 1)] }

/-- A packet in the input buffer of port 4. -/
def inp0 (p : Packet) (routed : Bool) : InPkt := ⟨4, 1, 0, 2, p, routed, [], 0, 5000, 0, p, [], 3, 0, 0⟩
def dataPkt (dst : Nat) : Packet := { Packet.blank with srcDev := 0x101, destDev := dst }

theorem draw_one (s : State) : s.draw 1 = (0, { s with free := s.free + 1 }) := by
  unfold State.draw; rw [Nat.mod_one]

/-- A flush read that waits at port A. -/
def unitF : HostUnit := ⟨0, 0, 0, .clerk, [], .flush 5 4096, none, 0, 0⟩

/-- The same port with a board of device `0x200`, by way of which a packet for group 3 may go. -/
def devV : State := { devK with boards := [(0, ⟨0x200, true, []⟩)] }

/-- A record of a lane of the peer, with its check. -/
def recd (img : Nat) : Bytes := leBytes 28 img ++ leBytes 4 (crc32c (leBytes 28 img))

/-- Port 0 in a training stage; port 2 in EXCHANGE with lane 4 locked and acknowledged. -/
def devZ (p : LanePort) (x : Lane := { Lane.fresh with locked := true }) (q : Nat := 0) : State :=
  { dev with ports := [(q, p)], lanes := [(2 * q, x)], links := [(q, link0)] }

theorem hold_of (s : State) (q l r : Nat) (hp : bits r 0 19 5 ≠ q / 2) (hs : (bits r 0 2 1 == 1) = s.isSplit (q / 2)) :
    ((s.takeRecord q l r).lport q).hold = 0 := by
  unfold State.takeRecord State.modPort State.lport
  simp [hp, hs]

theorem leader_of (s : State) (q l r : Nat) (hp : bits r 0 19 5 < q / 2) (hs : bits r 4 0 64 = 0) :
    ((s.takeRecord q l r).lport q).leader = true := by
  unfold State.takeRecord State.modPort State.lport
  simp only [Tab.getD_put_self, hs, hp]
  rcases Nat.eq_zero_or_pos Config.serial.toNat with h | h <;> simp [h]

theorem follower_of (s : State) (q l r : Nat) (hp : q / 2 ≤ bits r 0 19 5) (hs : bits r 4 0 64 = 2 ^ 64 - 1) :
    ((s.takeRecord q l r).lport q).leader = false := by
  unfold State.takeRecord State.modPort State.lport
  simp only [Tab.getD_put_self, hs]
  have := Config.serial.isLt
  simp; omega

/-- A lane control flit with its word. -/
def ctl (ctype w : Nat) : Flit := { flit0 2 ctype with body := body240 (leBytes 4 w) }

/-- The state after the header of a flit on port 0. -/
def after (s : State) (f : Flit) : State := (s.takeHeader 0 f).1

/-- A port in ACTIVE with all four lanes in use. -/
def act0 : LanePort := { LanePort.fresh with stage := .active, txSet := 15, rxSet := 15, rate := 1 }
def devA (p : LanePort) (x : Lane := { Lane.fresh with locked := true, done := true, fom := 300 }) : State :=
  { devK with ports := [(0, p)], lanes := [(0, x), (1, x), (2, x), (3, x)] }

/-- The open device with a time unit. -/
def devY (t : TimeUnit) (ps : Tab Nat := [(0xC02001, 1)]) : State := { dev with time := t, ledger := ps }
def unit0 : TimeUnit := { TimeUnit.fresh with ports := [(0, { TimePort.fresh with syncAt := some 5000, sampleAt := some 5000, rootClass := 1, rootPriority := 1, rootSerial := 4, distance := 1, state := 2 })] }

/-- A descriptor that moves 64 bytes from the Device Store to host memory. -/
def desc0 : Nat := 1 + place 0 2 2 1 + place 0x14 0 32 0x10000107 + place 0x20 0 64 4096 + place 0x28 0 32 64 + place 0x2C 0 32 64
def descH : Nat := 1 + place 0 4 2 1 + place 0x10 0 32 0x10000107 + place 0x18 0 64 4096 + place 0x28 0 32 64 + place 0x2C 0 32 64

/-- The device with a channel. -/
def devP (c : Channel) : State := { devT wq with porter := [(2, c)] }
def chanD : Channel := { chan0 with cur := some desc0, pi := 1 }

/-- The device with a dump due. -/
def devD : State := { devT wq with tally := { Tally.fresh with due := some (5, []) }, ledger := [(0xF01002, 4), (0xF01006, 1)] }

end Sys2Proof.Tests

/-! ## Witnesses of the statements -/

open Sys2Proof.Tests

theorem witness_StepRunsFrontCommand :
    (∃ (s : State) (c : Instr) (rest : List Instr), (s.pending = c :: rest)) ∧
    (∃ (s : State), (s.pending = [])) := by
  refine ⟨?_, ?_⟩
  · exact ⟨{ dev with pending := [.pmemReady, .agentsReady] }, .pmemReady, [.agentsReady], (by decide +kernel)⟩
  · exact ⟨dev, (by decide +kernel)⟩

theorem witness_StepKeepsSafe :
    ∃ (s : State) (t : State), (s.safe = true) ∧ (step s = .next t) :=
  ⟨{ dev with pending := [.pmemReady] }, got (step { dev with pending := [.pmemReady] }), (by decide), (rfl)⟩

theorem witness_CoreFrame :
    (∃ (c : Instr) (s : State) (t : State), (c.leavesCore = true) ∧ (exec c s = .next t)) ∧
    (∃ (c : Instr) (s : State) (t : State), (c.leavesCore = true) ∧ (exec c s = .next t)) ∧
    (∃ (c : Instr) (s : State) (t : State), (c.leavesCore = true) ∧ (exec c s = .next t)) := by
  refine ⟨?_, ?_, ?_⟩
  · exact ⟨.pmemReady, dev, { dev with clerk := { dev.clerk with pmemReady := true } }, (by decide), (rfl)⟩
  · exact ⟨.pmemReady, dev, { dev with clerk := { dev.clerk with pmemReady := true } }, (by decide), (rfl)⟩
  · exact ⟨.pmemReady, dev, { dev with clerk := { dev.clerk with pmemReady := true } }, (by decide), (rfl)⟩

theorem witness_BellBoundaries :
    (∃ (s : State), (s.life ≠ .dark) ∧ (s.switched = false) ∧ (s.power.resetAfter = none)) ∧
    (∃ (s : State), (s.life ≠ .dark) ∧ (s.switched = true) ∧ (s.power.resetAfter = none)) ∧
    (∃ (s : State), (s.life = .dark)) ∧
    (∃ (s : State), (s.life ≠ .dark) ∧ (s.switched = false) ∧ ((∃ x ∈ s.staged, x.bell ≤ s.endBell.nextBoundary.bell))) := by
  refine ⟨?_, ?_, ?_, ?_⟩
  · exact ⟨dev, (by decide +kernel), (by decide +kernel), (by decide +kernel)⟩
  · exact ⟨{ dev with switched := true }, (by decide +kernel), (by decide +kernel), (by decide +kernel)⟩
  · exact ⟨{ dev with life := .dark }, (by decide +kernel)⟩
  · exact ⟨{ dev with staged := [⟨0, 0x800101, 1, true⟩] }, (by decide), (by decide), (⟨_, by simp; rfl, by decide⟩)⟩

theorem witness_BellTasks :
    (∃ (s : State) (d : Nat), (Tab.getD s.deferred d [] ≠ []) ∧ (Tab.num s.tally.counted d ≤ s.ticks) ∧
       (s.comes (s.ticks * 4096 + s.openParam (0x110000 + d) * 16) = true)) ∧
    (∃ (s : State) (i : BellInputs) (d : Nat), (s.paused = false) ∧ (bitAt i.finish (d - 1) = false)) ∧
    (∃ (s : State) (i : BellInputs) (d : Nat), (s.paused = false) ∧ (bitAt i.finish (d - 1) = true) ∧ (s.deferred = [])) ∧
    (∃ (s : State), (s.paused = true)) := by
  refine ⟨?_, ?_, ?_, ?_⟩
  · exact ⟨{ dev with deferred := [(9, [(3, bell)])], sub := 4095 }, 9, (by decide +kernel), (by decide +kernel), (by decide +kernel)⟩
  · exact ⟨dev, { bell with finish := 0xFFFE }, 1, (by decide +kernel), (by decide +kernel)⟩
  · exact ⟨dev, bell, 1, (by decide +kernel), (by decide +kernel), (by decide +kernel)⟩
  · exact ⟨{ dev with clerk := { dev.clerk with pausedAt := some 4990 } }, (by decide +kernel)⟩

theorem witness_LifecycleCommands :
    (∃ (s : State), (s.life = .dark) ∧ (s.power.violation = false)) ∧
    (∃ (s : State), (s.life = .dark)) ∧
    (∃ (c : Instr), (c = .railOutOfRange ∨ c = .refclkStop)) ∧
    (∃ (s : State), (s.life ≠ .dark)) ∧
    (∃ (s : State), (s.life ≠ .dark) ∧ (s.life ≠ .sealed)) ∧
    (∃ (s : State), (s.life = .setup) ∧ (s.power.openPending = true) ∧ ((s.param 0xE00002 = 0 ∨ s.time.state = .locked)) ∧ (s.sub = 0)) ∧
    (∃ (s : State), (s.power.pwrfailN = false)) ∧
    (∃ (s : State), (s.power.pwrfailN = true) ∧ (s.power.pwrfail = false) ∧ (s.comes (s.power.fallAt + nsUnits 2000) = true)) ∧
    (∃ (s : State), (s.power.pwrfailN = true) ∧ (s.power.pwrfail = false) ∧ (s.life ≠ .dark)) ∧
    (∃ (s : State), (s.power.pwrfailN = true) ∧ (s.power.pwrfail = true)) ∧
    (∃ (s : State), (s.life = .shutter) ∧ (s.durableLeft = false) ∧ (s.power.flushed = true) ∧ ((∀ r ∈ s.reads, ∀ p, r.2.for_ ≠ .drain p))) ∧
    (∃ (s : State), (s.life = .shutter) ∧ (s.durableLeft = false) ∧ (s.power.flushed = false) ∧ (s.hostA.dirty = none) ∧
       (s.hostB.dirty = none) ∧ ((∀ r ∈ s.reads, ∀ p, r.2.for_ ≠ .drain p))) ∧
    (∃ (s : State), (s.life = .shutter) ∧ (s.comes (s.power.fallAt + nsUnits (s.openParam 0xE02003 * 1000)) = true)) ∧
    (∃ (s : State), (s.life = .shut) ∧ (s.power.pwrfailN = false) ∧ (s.power.pwrfail = false) ∧ (s.flag 0xE02004 = true) ∧
       (s.comes (s.power.riseAt + nsUnits (s.param 0xE02005 * 1000000)) = true)) := by
  refine ⟨?_, ?_, ?_, ?_, ?_, ?_, ?_, ?_, ?_, ?_, ?_, ?_, ?_, ?_⟩
  · exact ⟨{ dev with life := .dark }, (by decide +kernel), (by decide +kernel)⟩
  · exact ⟨{ dev with life := .dark }, (by decide +kernel)⟩
  · exact ⟨.railOutOfRange, (by decide +kernel)⟩
  · exact ⟨dev, (by decide +kernel)⟩
  · exact ⟨dev, (by decide +kernel), (by decide +kernel)⟩
  · exact ⟨{ setup with power := { Power.fresh with openPending := true }, ledger := [(0xE00002, 0)] }, (by decide +kernel),
        (by decide +kernel), (by decide +kernel), (by decide +kernel)⟩
  · exact ⟨dev, (by decide +kernel)⟩
  · exact ⟨{ dev with power := { dev.power with pwrfailN := true, fallAt := 100 } }, (by decide +kernel), (by decide +kernel),
        (by decide +kernel)⟩
  · exact ⟨{ dev with power := { dev.power with pwrfailN := true } }, (by decide +kernel), (by decide +kernel), (by decide +kernel)⟩
  · exact ⟨{ dev with power := { dev.power with pwrfailN := true, pwrfail := true } }, (by decide +kernel), (by decide +kernel)⟩
  · exact ⟨{ dev with life := .shutter, power := { dev.power with flushed := true } }, (by decide), (by decide), (by decide), (by intro r hr; cases hr)⟩
  · exact ⟨{ dev with life := .shutter }, (by decide), (by decide), (by decide), (by decide), (by decide), (by intro r hr; cases hr)⟩
  · exact ⟨{ dev with life := .shutter, ticks := 500000000 }, (by decide +kernel), (by decide +kernel)⟩
  · exact ⟨{ dev with life := .shut, ticks := 500000000, ledger := [(0xE02004, 1)] }, (by decide +kernel), (by decide +kernel),
        (by decide +kernel), (by decide +kernel), (by decide +kernel)⟩

theorem witness_HostPortStateMachine :
    (∃ (s : State) (p : HPort), ((s.port p).state = .reset)) ∧
    (∃ (s : State) (p : HPort), ((s.port p).perst = false)) ∧
    (∃ (s : State) (p : HPort) (c : Instr) (bit : _), ((c = .freeze p ∧ bit = 16 ∨ c = .fatalError p ∧ bit = 2 ∨ c = .surpriseDown p ∧
       (s.port p).linkUp = true ∧ bit = 8)) ∧ ((s.port p).state = .up)) ∧
    (∃ (s : State) (p : HPort) (c : Instr) (bit : _), ((c = .freeze p ∧ bit = 16 ∨ c = .fatalError p ∧ bit = 2 ∨ c = .surpriseDown p ∧
       (s.port p).linkUp = true ∧ bit = 8)) ∧ ((s.port p).state = .frozen)) ∧
    (∃ (s : State) (p : HPort), ((s.port p).state = .frozen) ∧ ((s.port p).linkUp = true) ∧ ((s.port p).cause = 0) ∧
       ((s.port p).holdOver s.ticks = true)) ∧
    (∃ (s : State) (p : HPort), ((s.port p).state = .frozen) ∧ ((s.port p).linkUp = true) ∧ ((s.port p).holdOver s.ticks = true) ∧
       (s.param 0x203004 ≠ 0) ∧ (s.onTime 3 = true)) ∧
    (∃ (s : State) (p : HPort), ((s.port p).state = .thawing) ∧ (s.thawed p = true)) ∧
    (∃ (s : State) (p : HPort), (s.param 0x205001 ≠ 0) ∧ ((s.port p).state = .up) ∧ ((s.port p).l1 = false) ∧ (s.path p = []) ∧
       ((∀ r ∈ s.reads, r.2.port ≠ p))) ∧
    (∃ (s : State) (p : HPort), (((s.port p).state ≠ .frozen ∨ (s.port p).linkUp = false ∨ (s.port p).cause ≠ 0 ∨
       s.ticks < (s.port p).frozenAt + (s.port p).hold))) := by
  refine ⟨?_, ?_, ?_, ?_, ?_, ?_, ?_, ?_, ?_⟩
  · exact ⟨State.reset, .B, (by decide +kernel)⟩
  · exact ⟨State.reset, .B, (by decide +kernel)⟩
  · exact ⟨dev, .A, .surpriseDown .A, 8, (by decide +kernel), (by decide +kernel)⟩
  · exact ⟨{ dev with hostA := { up with state := .frozen } }, .A, .freeze .A, 16, (by decide +kernel), (by decide +kernel)⟩
  · exact ⟨{ dev with hostA := { up with state := .frozen, frozenAt := 0, hold := 5000 } }, .A, (by decide +kernel), (by decide +kernel),
        (by decide +kernel), (by decide +kernel)⟩
  · exact ⟨{ dev with hostA := { up with state := .frozen, frozenAt := 0, hold := 5000, cause := 3 }, ledger := [(0x203004, 1)] }, .A,
        (by decide +kernel), (by decide +kernel), (by decide +kernel), (by decide +kernel), (by decide +kernel)⟩
  · exact ⟨{ dev with hostB := { up with state := .thawing } }, .B, (by decide +kernel), (by decide +kernel)⟩
  · exact ⟨{ dev with ledger := [(0x205001, 1)] }, .A, (by decide), (by decide), (by decide), (by decide), (by intro r hr; cases hr)⟩
  · exact ⟨dev, .A, (by decide +kernel)⟩

theorem witness_RequestsFollowPortState :
    (∃ (s : State) (u : HostUnit), ((s.port (fnPort u.fn)).state = .up ∨ (s.port (fnPort u.fn)).state = .thawing)) ∧
    (∃ (s : State) (u : HostUnit), ((s.port (fnPort u.fn)).state = .frozen) ∧ (u.op.held = true)) ∧
    (∃ (s : State) (u : HostUnit), ((s.port (fnPort u.fn)).state = .frozen) ∧ (u.op.held = false)) ∧
    (∃ (s : State) (u : HostUnit), ((s.port (fnPort u.fn)).state = .reset)) := by
  refine ⟨?_, ?_, ?_, ?_⟩
  · exact ⟨dev, { fn := 0, cls := 1, req := 0, src := .clerk, after := [], op := .msix 0 3, acc := none, losses := 0, since := 0 },
        (by decide +kernel)⟩
  · exact ⟨{ dev with hostA := { up with state := .frozen } },
        { fn := 0, cls := 1, req := 0, src := .clerk, after := [], op := .msix 0 3, acc := none, losses := 0, since := 0 },
        (by decide +kernel), (by decide +kernel)⟩
  · exact ⟨{ dev with hostA := { up with state := .frozen } },
        { fn := 0, cls := 1, req := 0, src := .clerk, after := [], op := .read 0 4096 64, acc := none, losses := 0, since := 0 },
        (by decide +kernel), (by decide +kernel)⟩
  · exact ⟨State.reset, { fn := 0, cls := 1, req := 0, src := .clerk, after := [], op := .msix 0 3, acc := none, losses := 0, since := 0 },
        (by decide +kernel)⟩

theorem witness_FunctionCommands :
    (∃ (s : State) (fn : Nat), (s.fnExists fn = true) ∧ ((s.port (fnPort fn)).state ≠ .reset)) ∧
    (∃ (s : State) (fn : Nat), ((s.fn fn).flr = true)) ∧
    (∃ (s : State) (p : _) (n : _), (n ≤ 127) ∧ ((s.port p).state ≠ .reset)) ∧
    (∃ (s : State) (fn : Nat), (s.fnExists fn = true) ∧ ((s.port (fnPort fn)).state ≠ .reset)) ∧
    (∃ (s : State) (fn : Nat), (s.fnExists fn = true) ∧ ((s.port (fnPort fn)).state ≠ .reset) ∧ (fnIsPf fn = false) ∧
       ((s.fn (portPf (fnPort fn))).d3hot = false) ∧ ((∀ f ∈ (s.port (fnPort fn)).wake, f = fn))) ∧
    (∃ (s : State) (fn : Nat) (v : _), (s.fnExists fn = true) ∧ (v < fnVectors fn) ∧ (v ∈ (s.fn fn).pba) ∧ ((s.fn fn).msixOn = true) ∧
       (s.awake fn = true)) ∧
    (∃ (s : State) (fn : Nat), (s.fnExists fn = true) ∧ ((s.fn fn).pba = [])) ∧
    (∃ (s : State) (fn : Nat), ((s.fn fn).pmeStatus = true) ∧ ((s.fn fn).d3hot = true) ∧ ((s.port (fnPort fn)).state ≠ .reset)) ∧
    (∃ (s : State) (fn : Nat), (s.fnExists fn = true)) := by
  refine ⟨?_, ?_, ?_, ?_, ?_, ?_, ?_, ?_, ?_⟩
  · exact ⟨dev, 0, (by decide +kernel), (by decide +kernel)⟩
  · exact ⟨{ dev with fns := [(0, { Fn.fresh with flr := true })] }, 0, (by decide +kernel)⟩
  · exact ⟨dev, .A, 127, (by decide +kernel), (by decide +kernel)⟩
  · exact ⟨dev, 0, (by decide +kernel), (by decide +kernel)⟩
  · exact ⟨{ dev with hostA := { up with numVfs := 3, wake := [1] } }, 1, (by decide +kernel), (by decide +kernel), (by decide +kernel),
        (by decide +kernel), (by decide +kernel)⟩
  · exact ⟨{ dev with fns := [(0, { Fn.fresh with msixOn := true, pba := [2, 0], vectors := [(0, 1)] })] }, 0, 0, (by decide +kernel),
        (by decide +kernel), (by decide +kernel), (by decide +kernel), (by decide +kernel)⟩
  · exact ⟨dev, 0, (by decide +kernel), (by decide +kernel)⟩
  · exact ⟨{ dev with fns := [(0, { Fn.fresh with pmeStatus := true, d3hot := true })] }, 0, (by decide +kernel), (by decide +kernel),
        (by decide +kernel)⟩
  · exact ⟨dev, 0, (by decide +kernel)⟩

theorem witness_DeviceStoreWindow :
    (∃ (s : State) (p : HPort) (off : Nat) (len : _), (s.portLive p = true) ∧ (s.inStore p off len = true)) ∧
    (∃ (s : State) (p : HPort) (off : Nat) (len : _), (s.portLive p = true) ∧ (s.inStore p off len = true)) ∧
    (∃ (s : State) (p : HPort) (off : Nat) (len : _), (s.portLive p = true) ∧ (s.inStore p off len = false)) ∧
    (∃ (s : State) (p : HPort) (off : Nat) (data : Bytes), (s.portLive p = true) ∧ (s.inStore p off data.length = true) ∧
       (Cells.wf s.store = true)) ∧
    (∃ (s : State) (p : HPort) (off : Nat) (data : Bytes), (s.portLive p = true) ∧ (s.inStore p off data.length = false)) ∧
    (∃ (s : State) (p : HPort) (off : Nat) (op : _), (s.portLive p = true) ∧ (s.inStore p off (atomicSize op) = true) ∧
       (Cells.wf s.store = true)) ∧
    (∃ (s : State) (p : HPort) (off : Nat) (bar : _) (op : _), (s.portLive p = true) ∧ (bar ≠ 4 ∨ s.inStore p off (atomicSize op) = false)) := by
  refine ⟨?_, ?_, ?_, ?_, ?_, ?_, ?_⟩
  · exact ⟨{ dev with store := [(3, 7)], storePoison := [0], ledger := [(0x111002, 1)] }, .A, 0, 64, (by decide +kernel), (by decide +kernel)⟩
  · exact ⟨{ dev with store := [(3, 7)], ledger := [(0x111002, 1)] }, .A, 0, 64, (by decide +kernel), (by decide +kernel)⟩
  · exact ⟨dev, .B, 1099511627776, 64, (by decide +kernel), (by decide +kernel)⟩
  · exact ⟨{ dev with store := [(3, 7)], ledger := [(0x111002, 1)] }, .A, 1073741820, [1, 2, 3, 4], (by decide +kernel), (by decide +kernel),
        (by decide +kernel)⟩
  · exact ⟨dev, .A, 1099511627776, [1, 2, 3, 4], (by decide +kernel), (by decide +kernel)⟩
  · exact ⟨{ dev with store := [(8, 7)], ledger := [(0x111002, 1)] }, .A, 8, 0, (by decide +kernel), (by decide +kernel), (by decide +kernel)⟩
  · exact ⟨dev, .A, 8, 2, 0, (by decide), (.inl (by decide))⟩

theorem witness_RegisterWrites :
    (∃ (s : State), (s.life ≠ .dark)) ∧
    (∃ (s : State) (fn : Nat), (s.reachableFn fn = false)) ∧
    (∃ (s : State) (fn : Nat), (s.reachableFn fn = true)) ∧
    (∃ (s : State) (fn : Nat), (s.reachableFn fn = true) ∧ (fnIsPf fn = true)) ∧
    (∃ (s : State) (fn : Nat) (b : _), (b < 2 ^ 52) ∧ (s.reachableFn fn = true) ∧ (s.life ≠ .sealed) ∧ ((s.fn fn).admOn = false) ∧
       ((s.fn fn).admCqBase < 2 ^ 52)) := by
  refine ⟨?_, ?_, ?_, ?_, ?_⟩
  · exact ⟨dev, (by decide +kernel)⟩
  · exact ⟨State.reset, 0, (by decide +kernel)⟩
  · exact ⟨dev, 0, (by decide +kernel)⟩
  · exact ⟨{ dev with hostA := { up with cause := 3 } }, 0, (by decide +kernel), (by decide +kernel)⟩
  · exact ⟨dev, 0, 0x12345, (by decide +kernel), (by decide +kernel), (by decide +kernel), (by decide +kernel), (by decide +kernel)⟩

theorem witness_FaultRecords :
    (∃ (code : Nat) (inst : Nat) (k : _), (k ≠ code * 256 + inst)) ∧
    (∃ (b : Beadle) (k : Nat) (r : FaultRec), (Tab.look b.sources k = some r) ∧ (r.active = true)) ∧
    (∃ (b : Beadle) (k : Nat) (r : FaultRec) (j : _), (Tab.look b.sources k = some r) ∧ (r.active = true) ∧ (j ≠ k)) ∧
    (∃ (b : Beadle) (k : Nat) (r : FaultRec), (Tab.look b.sources k = some r) ∧ (r.active = true)) ∧
    (∃ (l : List Nat), (l.length ≤ 1024)) ∧
    (∃ (l : List Nat) (i : _), (l.length ≤ 1024) ∧ (i < l.length) ∧ (l.length < 1024)) ∧
    (∃ (l : List Nat) (i : _), (l.length ≤ 1024) ∧ (i < l.length) ∧ (l.length = 1024) ∧ (i < 1023)) := by
  refine ⟨?_, ?_, ?_, ?_, ?_, ?_, ?_⟩
  · exact ⟨1, 2, 9, (by decide +kernel)⟩
  · exact ⟨{ Beadle.fresh with sources := [(258, { FaultRec.fresh with active := true, occurrences := 2 })], faultN := false }, 258,
        { FaultRec.fresh with active := true, occurrences := 2 }, (by decide +kernel), (by decide +kernel)⟩
  · exact ⟨{ Beadle.fresh with sources := [(258, { FaultRec.fresh with active := true, occurrences := 2 })], faultN := false }, 258,
        { FaultRec.fresh with active := true, occurrences := 2 }, 7, (by decide +kernel), (by decide +kernel), (by decide +kernel)⟩
  · exact ⟨{ Beadle.fresh with sources := [(258, { FaultRec.fresh with active := true, occurrences := 2 })], faultN := false }, 258,
        { FaultRec.fresh with active := true, occurrences := 2 }, (by decide +kernel), (by decide +kernel)⟩
  · exact ⟨[1, 2], (by decide +kernel)⟩
  · exact ⟨[1, 2], 1, (by decide +kernel), (by decide +kernel), (by decide +kernel)⟩
  · exact ⟨List.replicate 1024 7, 1022, (Nat.le_of_eq List.length_replicate), (by rw [List.length_replicate]; exact (by decide : 1022 < 1024)), (List.length_replicate), (by decide)⟩

theorem witness_FaultAndPowerCommands :
    (∃ (s : State) (k : _) (r : _), (Tab.look s.beadle.sources k = some r) ∧ (r.active = true) ∧ (r.lastTick + s.param 0xE10001 < s.ticks) ∧
       (s.onTime 15 = true)) ∧
    (∃ (s : State) (k : _) (r : _), (Tab.look s.beadle.sources k = some r) ∧ (s.ticks ≤ r.lastTick + s.param 0xE10001)) ∧
    (∃ (s : State), ((∀ t, s.power.throttleAt = some t → t + 1024 ≤ s.ticks)) ∧ (s.onTime 15 = true) ∧ (s.aboveCap = true) ∧
       (s.power.throttle < 12)) ∧
    (∃ (s : State), ((∀ t, s.power.throttleAt = some t → t + 1024 ≤ s.ticks)) ∧ (s.onTime 15 = true) ∧ (s.belowCap = true) ∧
       (s.aboveCap = false) ∧ (0 < s.power.throttle)) ∧
    (∃ (s : State) (t : _), (s.power.throttleAt = some t) ∧ (s.ticks < t + 1024)) ∧
    (∃ (s : State), (8 ≤ s.power.hotRun)) ∧
    (∃ (s : State), ((∀ x ∈ s.power.tempsMc, x ≤ 108000))) ∧
    (∃ (s : State), ((∃ x ∈ s.power.tempsMc, 108000 < x))) ∧
    (∃ (s : State), (s.tooHot = true) ∧ ((Tab.getD s.beadle.sources (FaultCode.thermal * 256) FaultRec.fresh).active = false)) := by
  refine ⟨?_, ?_, ?_, ?_, ?_, ?_, ?_, ?_, ?_⟩
  · exact ⟨{ dev with ticks := 50000000, beadle := { Beadle.fresh with sources := [(256, { FaultRec.fresh with active := true })], faultN := false } },
        256, { FaultRec.fresh with active := true }, (by decide +kernel), (by decide +kernel), (by decide +kernel), (by decide +kernel)⟩
  · exact ⟨{ dev with ticks := 100, beadle := { Beadle.fresh with sources := [(256, { FaultRec.fresh with active := true, lastTick := 100 })], faultN := false } },
        256, { FaultRec.fresh with active := true, lastTick := 100 }, (by decide +kernel), (by decide +kernel)⟩
  · exact ⟨{ dev with ledger := [(0xE01001, 200)], power := { dev.power with samples := [300000], throttle := 11, throttleAt := some 3000, capRun := 100 } }, (fun _ h => by cases h; decide), (by decide), (by decide), (by decide)⟩
  · exact ⟨{ dev with ledger := [(0xE01001, 200)], power := { dev.power with samples := [100000], throttle := 1, throttleAt := none } },
        (fun _ h => by cases h), (by decide), (by decide), (by decide), (by decide)⟩
  · exact ⟨{ dev with power := { dev.power with throttleAt := some 4000 } }, 4000, (by decide +kernel), (by decide +kernel)⟩
  · exact ⟨{ dev with power := { dev.power with hotRun := 8 } }, (by decide +kernel)⟩
  · exact ⟨{ dev with power := { dev.power with tempsMc := [108000, 40000] } }, (by decide +kernel)⟩
  · exact ⟨{ dev with power := { dev.power with tempsMc := [108001, 40000] } }, (⟨_, .head _, by decide⟩)⟩
  · exact ⟨{ dev with power := { dev.power with tempsMc := [120001, 40000] } }, (by decide +kernel), (by decide +kernel)⟩

theorem witness_HostAnswers :
    (∃ (s : State) (tag : Nat) (r : HostRead) (d : _), (Tab.look s.reads tag = some r) ∧ (s.answers r (.data d) = true)) ∧
    (∃ (s : State) (tag : Nat) (r : HostRead) (d : _), (Tab.look s.reads tag = some r) ∧ (s.answers r (.poisoned d) = true)) ∧
    (∃ (s : State) (tag : Nat) (r : HostRead), (Tab.look s.reads tag = some r) ∧ (s.answers r .error = true)) ∧
    (∃ (s : State) (tag : Nat) (r : HostRead), (Tab.look s.reads tag = some r) ∧ (s.answers r .timeout = true) ∧ (s.onTime 3 = true)) ∧
    (∃ (s : State) (tag : Nat) (r : HostRead) (fn : _) (d : _), (Tab.look s.reads tag = some r) ∧ (r.for_ = .pageList fn) ∧
       (s.answers r (.data d) = true)) ∧
    (∃ (s : State) (tag : Nat) (r : HostRead) (m : _) (d : _), (Tab.look s.reads tag = some r) ∧ (r.for_ = .walk m) ∧
       (s.answers r (.data d) = true)) ∧
    (∃ (s : State) (tag : Nat) (r : HostRead) (m : _) (d : _), (Tab.look s.reads tag = some r) ∧ (r.for_ = .cas m) ∧
       (s.answers r (.data d) = true)) ∧
    (∃ (s : State) (tag : Nat) (r : HostRead) (k : _) (d : _), (Tab.look s.reads tag = some r) ∧ (r.for_ = .context k) ∧
       (s.answers r (.data d) = true)) ∧
    (∃ (s : State) (tag : Nat) (r : HostRead) (k : _) (n : _) (d : _), (Tab.look s.reads tag = some r) ∧ (r.for_ = .flush k n) ∧
       (s.answers r (.data d) = true)) ∧
    (∃ (s : State) (tag : Nat) (r : HostRead) (g : _) (d : _), (Tab.look s.reads tag = some r) ∧ (r.for_ = .groupFlush g) ∧
       (s.answers r (.data d) = true)) ∧
    (∃ (s : State) (tag : Nat) (r : HostRead) (p : _) (d : _), (Tab.look s.reads tag = some r) ∧ (r.for_ = .drain p) ∧
       (s.answers r (.data d) = true)) ∧
    (∃ (s : State) (tag : Nat) (r : HostRead) (k : _) (n : _) (z : _) (d : _), (Tab.look s.reads tag = some r) ∧ (r.for_ = .atomic k n z) ∧
       (s.answers r (.data d) = true)) ∧
    (∃ (s : State) (p : HPort), ((s.port p).state = .up) ∧ (s.param 0x203002 ≤ (s.port p).timeouts)) ∧
    (∃ (s : State) (p : HPort), ((s.port p).state = .up) ∧ (s.param 0x203005 ≤ (s.port p).poisons)) ∧
    (∃ (s : State) (p : HPort), ((s.port p).state = .up) ∧ ((s.port p).timeouts < s.param 0x203002)) := by
  refine ⟨?_, ?_, ?_, ?_, ?_, ?_, ?_, ?_, ?_, ?_, ?_, ?_, ?_, ?_, ?_⟩
  · exact ⟨{ dev with reads := [(5, hr (.sq 100))] }, 5, hr (.sq 100), [1, 2], (by decide +kernel), (by decide +kernel)⟩
  · exact ⟨{ dev with reads := [(5, hr (.sq 100))], ledger := [(0x203005, 1)] }, 5, hr (.sq 100), [1, 2], (by decide +kernel),
        (by decide +kernel)⟩
  · exact ⟨{ dev with reads := [(5, hr (.sq 100))] }, 5, hr (.sq 100), (by decide +kernel), (by decide +kernel)⟩
  · exact ⟨{ dev with reads := [(5, hr (.walk 7))], misses := [(7, miss0)], keys := [(1, key0)], ledger := [(0x203002, 1)] }, 5, hr (.walk 7),
        (by decide +kernel), (by decide +kernel), (by decide +kernel)⟩
  · exact ⟨{ dev with reads := [(5, hr (.pageList 0))] }, 5, hr (.pageList 0), 0, [1, 2], (by decide +kernel), (by decide +kernel),
        (by decide +kernel)⟩
  · exact ⟨{ dev with reads := [(5, hr (.walk 7))], misses := [(7, miss0)], keys := [(1, key0)] }, 5, hr (.walk 7), 7, [1, 2],
        (by decide +kernel), (by decide +kernel), (by decide +kernel)⟩
  · exact ⟨{ dev with reads := [(5, hr (.cas 7))], misses := [(7, miss0)], keys := [(1, key0)] }, 5, hr (.cas 7), 7, [1, 2],
        (by decide +kernel), (by decide +kernel), (by decide +kernel)⟩
  · exact ⟨{ dev with reads := [(5, hr (.context 16777316))] }, 5, hr (.context 16777316), 16777316, [1, 2], (by decide +kernel),
        (by decide +kernel), (by decide +kernel)⟩
  · exact ⟨{ dev with reads := [(5, hr (.flush 100 3))] }, 5, hr (.flush 100 3), 100, 3, [1, 2], (by decide +kernel), (by decide +kernel),
        (by decide +kernel)⟩
  · exact ⟨{ dev with reads := [(5, hr (.groupFlush 3))] }, 5, hr (.groupFlush 3), 3, [1, 2], (by decide +kernel), (by decide +kernel),
        (by decide +kernel)⟩
  · exact ⟨{ dev with reads := [(5, hr (.drain HPort.A))] }, 5, hr (.drain HPort.A), HPort.A, [1, 2], (by decide +kernel), (by decide +kernel),
        (by decide +kernel)⟩
  · exact ⟨{ dev with reads := [(5, hr (.atomic 100 3 8))] }, 5, hr (.atomic 100 3 8), 100, 3, 8, [1, 2, 3, 4, 5, 6, 7, 8], (by decide +kernel),
        (by decide +kernel), (by decide +kernel)⟩
  · exact ⟨{ dev with hostA := { up with timeouts := 9 }, ledger := [(0x203002, 9)] }, .A, (by decide +kernel), (by decide +kernel)⟩
  · exact ⟨{ dev with hostB := { up with poisons := 1 }, ledger := [(0x203005, 1)] }, .B, (by decide +kernel), (by decide +kernel)⟩
  · exact ⟨{ dev with hostA := { up with timeouts := 8 }, ledger := [(0x203002, 9)] }, .A, (by decide +kernel), (by decide +kernel)⟩

theorem witness_Doorbells :
    (∃ (s : State) (d : Doorbell) (n : _), (WellFormed.doorbell d = true) ∧ (s.takesBell d (.sq n))) ∧
    (∃ (s : State) (d : Doorbell) (n : _), (WellFormed.doorbell d = true) ∧ (s.takesBell d (.rq n))) ∧
    (∃ (s : State) (d : Doorbell) (h : _), (WellFormed.doorbell d = true) ∧ (s.takesBell d (.srq h))) ∧
    (∃ (s : State) (d : Doorbell) (h : _) (q : _), (WellFormed.doorbell d = true) ∧ (s.takesBell d (.cq h)) ∧ (h ≠ 1) ∧
       (bits d.value 2 0 2 = 0) ∧ (Tab.look s.cqs (qkey d.fn h) = some q)) ∧
    (∃ (s : State) (d : Doorbell) (h : _) (q : _), (WellFormed.doorbell d = true) ∧ (s.takesBell d (.cq h)) ∧ (bits d.value 2 0 2 = 1) ∧
       (Tab.look s.cqs (qkey d.fn h) = some q) ∧ (q.pi = d.index)) ∧
    (∃ (s : State) (d : Doorbell) (h : _) (q : _), (WellFormed.doorbell d = true) ∧ (s.takesBell d (.cq h)) ∧ (bits d.value 2 0 2 = 2) ∧
       (Tab.look s.cqs (qkey d.fn h) = some q) ∧ (q.pi = d.index)) ∧
    (∃ (s : State) (d : Doorbell) (h : _) (q : _), (WellFormed.doorbell d = true) ∧ (s.takesBell d (.cq h)) ∧ (bits d.value 2 0 2 = 1) ∧
       (Tab.look s.cqs (qkey d.fn h) = some q) ∧ (q.pi ≠ d.index)) ∧
    (∃ (s : State) (d : Doorbell) (h : _) (q : _), (WellFormed.doorbell d = true) ∧ (s.takesBell d (.eq h)) ∧
       (Tab.look s.eqs (qkey d.fn h) = some q)) ∧
    (∃ (s : State) (d : Doorbell), (WellFormed.doorbell d = true) ∧ (s.takesBell d .adminSq) ∧ (d.slot = 0)) ∧
    (∃ (s : State) (d : Doorbell) (q : _), (WellFormed.doorbell d = true) ∧ (s.takesBell d (.cq 1)) ∧ (d.slot = 1) ∧
       (bits d.value 2 0 2 = 0) ∧ (Tab.look s.cqs (qkey d.fn 1) = some q)) ∧
    (∃ (s : State) (d : Doorbell), (WellFormed.doorbell d = true) ∧ (s.takesBell d .missRing)) ∧
    (∃ (s : State) (d : Doorbell), (WellFormed.doorbell d = true) ∧ (s.takesBell d .fillRing)) ∧
    (∃ (s : State) (d : Doorbell) (ch : _), (WellFormed.doorbell d = true) ∧ (s.takesBell d (.porter ch))) ∧
    (∃ (s : State) (d : Doorbell), ((s.fnExists d.fn = false ∨ fnSlots d.fn ≤ d.slot ∨ (s.port (fnPort d.fn)).state = .reset))) ∧
    (∃ (s : State) (d : Doorbell), (d.poisoned = false) ∧ ((s.doorbellForm d = false ∨ s.life = .shutter ∨ s.life = .shut))) ∧
    (∃ (s : State) (d : Doorbell) (r : _), (WellFormed.doorbell d = true) ∧ (s.fnExists d.fn = true) ∧ (d.slot < fnSlots d.fn) ∧
       ((s.port (fnPort d.fn)).state ≠ .reset) ∧ (d.poisoned = false) ∧ (s.doorbellForm d = true) ∧ (s.life ≠ .shutter) ∧ (s.life ≠ .shut) ∧
       (s.ringOf d = some r) ∧ (((s.port (fnPort d.fn)).state = .frozen ∨ doorbellRsv (s.isIndexed d.fn d.slot) r d.value = false ∨
       s.indexFits d.fn r d.index = false ∨ s.ringTakes r = false))) := by
  refine ⟨?_, ?_, ?_, ?_, ?_, ?_, ?_, ?_, ?_, ?_, ?_, ?_, ?_, ?_, ?_, ?_⟩
  · exact ⟨devQ, ⟨0, 16, 0, 8, 3, false⟩, 100, (by decide +kernel), (by unfold State.takesBell; decide +kernel)⟩
  · exact ⟨devQ, ⟨0, 17, 0, 8, 3, false⟩, 100, (by decide +kernel), (by unfold State.takesBell; decide +kernel)⟩
  · exact ⟨devQ, ⟨0, 4, 0, 8, 3, false⟩, 4, (by decide +kernel), (by unfold State.takesBell; decide +kernel)⟩
  · exact ⟨{ devQ with cqs := [(1, cq0), (2, { cq0 with pi := 3, solicited := [1, 2] })] }, ⟨0, 2, 0, 8, 2, false⟩, 2,
        { cq0 with pi := 3, solicited := [1, 2] }, (by decide +kernel), (by unfold State.takesBell; decide +kernel), (by decide +kernel),
        (by decide +kernel), (by decide +kernel)⟩
  · exact ⟨{ devQ with cqs := [(1, cq0), (2, { cq0 with pi := 3, solicited := [1, 2] })] }, ⟨0, 2, 0, 8, 0x10003, false⟩, 2,
        { cq0 with pi := 3, solicited := [1, 2] }, (by decide +kernel), (by unfold State.takesBell; decide +kernel), (by decide +kernel),
        (by decide +kernel), (by decide +kernel)⟩
  · exact ⟨{ devQ with cqs := [(1, cq0), (2, { cq0 with pi := 3, solicited := [1, 2] })] }, ⟨0, 2, 0, 8, 0x20003, false⟩, 2,
        { cq0 with pi := 3, solicited := [1, 2] }, (by decide +kernel), (by unfold State.takesBell; decide +kernel), (by decide +kernel),
        (by decide +kernel), (by decide +kernel)⟩
  · exact ⟨{ devQ with cqs := [(1, cq0), (2, { cq0 with pi := 3, eq := some 3, solicited := [1, 2] })] }, ⟨0, 2, 0, 8, 0x10001, false⟩, 2,
        { cq0 with pi := 3, eq := some 3, solicited := [1, 2] }, (by decide +kernel), (by unfold State.takesBell; decide +kernel),
        (by decide +kernel), (by decide +kernel), (by decide +kernel)⟩
  · exact ⟨{ devQ with eqs := [(3, { eq0 with pi := 2, marks := [⟨1, 2, 0, 0⟩] })] }, ⟨0, 3, 0, 8, 2, false⟩, 3,
        { eq0 with pi := 2, marks := [⟨1, 2, 0, 0⟩] }, (by decide +kernel), (by unfold State.takesBell; decide +kernel),
        (by decide +kernel)⟩
  · exact ⟨devQ, ⟨0, 0, 0, 4, 1, false⟩, (by decide +kernel), (by unfold State.takesBell; decide +kernel), (by decide +kernel)⟩
  · exact ⟨{ devQ with cqs := [(1, { cq0 with pi := 1 }), (2, cq0)] }, ⟨0, 1, 0, 4, 1, false⟩, { cq0 with pi := 1 }, (by decide +kernel),
        (by unfold State.takesBell; decide +kernel), (by decide +kernel), (by decide +kernel), (by decide +kernel)⟩
  · exact ⟨devQ, ⟨0, 6, 0, 4, 0, false⟩, (by decide +kernel), (by unfold State.takesBell; decide +kernel)⟩
  · exact ⟨devQ, ⟨0, 7, 0, 4, 1, false⟩, (by decide +kernel), (by unfold State.takesBell; decide +kernel)⟩
  · exact ⟨devQ, ⟨0, 20, 0, 4, 1, false⟩, 2, (by decide +kernel), (by unfold State.takesBell; decide +kernel)⟩
  · exact ⟨devQ, ⟨5, 20, 0, 4, 1, false⟩, (by decide +kernel)⟩
  · exact ⟨devQ, ⟨0, 20, 4, 4, 1, false⟩, (by decide +kernel), (by decide +kernel)⟩
  · exact ⟨{ devQ with hostA := { up with state := .frozen } }, ⟨0, 16, 0, 8, 3, false⟩, Ring.sq 100, (by decide +kernel), (by decide +kernel),
        (by decide +kernel), (by decide +kernel), (by decide +kernel), (by decide +kernel), (by decide +kernel), (by decide +kernel),
        (by decide +kernel), (by decide +kernel)⟩

theorem witness_QueueService :
    (∃ (s : State) (fn : Nat) (h : _) (c : _) (n : _) (rest : _) (x : _) (w : _), (Tab.look s.cqs (qkey fn h) = some c) ∧ (c.room = true) ∧
       (c.waiters = .sq n :: rest) ∧ (Tab.look s.qps n = some x) ∧ (x.sq.firstWaiting = some w)) ∧
    (∃ (s : State) (fn : Nat) (h : _) (c : _), (Tab.look s.cqs (qkey fn h) = some c) ∧ (c.room = false)) ∧
    (∃ (s : State) (fn : Nat) (h : _) (e : _), (Tab.look s.eqs (qkey fn h) = some e) ∧ (e.owed = true) ∧ (s.onTime 4 = true) ∧ ((∀ t,
       e.lastMsg = some t → t + e.mod ≤ s.ticks))) ∧
    (∃ (s : State) (fn : Nat) (cfg : BitVec 32), (s.fnExists fn = true) ∧ ((s.port (fnPort fn)).state ≠ .reset) ∧ (s.life ≠ .sealed) ∧
       ((s.fn fn).admOn = false) ∧ (bits cfg.toNat 0 16 1 = 1)) ∧
    (∃ (s : State), (s.life = .sealed)) ∧
    (∃ (s : State) (fn : Nat) (cfg : BitVec 32), (s.fnExists fn = true) ∧ ((s.port (fnPort fn)).state ≠ .reset) ∧ (s.life ≠ .sealed) ∧
       ((s.fn fn).admOn = true) ∧ (bits cfg.toNat 0 16 1 = 0) ∧ ((s.fn fn).admCur = none)) ∧
    (∃ (s : State) (fn : Nat) (cfg : BitVec 32) (c : _), (s.fnExists fn = true) ∧ ((s.port (fnPort fn)).state ≠ .reset) ∧
       (s.life ≠ .sealed) ∧ ((s.fn fn).admOn = true) ∧ (bits cfg.toNat 0 16 1 = 0) ∧ ((s.fn fn).admCur = some c)) := by
  refine ⟨?_, ?_, ?_, ?_, ?_, ?_, ?_⟩
  · exact ⟨{ devQ with cqs := [(2, { cq0 with waiters := [.sq 100] })], qps := [(100, { qp0 with sq := { qp0.sq with ents := [wq] } })] }, 0, 2,
        { cq0 with waiters := [.sq 100] }, 100, [], { qp0 with sq := { qp0.sq with ents := [wq] } }, wq, (by decide +kernel),
        (by decide +kernel), (by decide +kernel), (by decide +kernel), (by decide +kernel)⟩
  · exact ⟨{ devQ with cqs := [(2, { cq0 with pi := 256, waiters := [.sq 100] })] }, 0, 2, { cq0 with pi := 256, waiters := [.sq 100] },
        (by decide +kernel), (by decide +kernel)⟩
  · exact ⟨{ devQ with eqs := [(3, { eq0 with owed := true, lastMsg := some 4984 })] }, 0, 3, { eq0 with owed := true, lastMsg := some 4984 }, (by decide +kernel), (by decide +kernel), (by decide +kernel), (by intro t h; cases h; decide)⟩
  · exact ⟨dev, 0, 0x10044, (by decide +kernel), (by decide +kernel), (by decide +kernel), (by decide +kernel), (by decide +kernel)⟩
  · exact ⟨State.reset, (by decide +kernel)⟩
  · exact ⟨devQ, 0, 0x44, (by decide +kernel), (by decide +kernel), (by decide +kernel), (by decide +kernel), (by decide +kernel),
        (by decide +kernel)⟩
  · exact ⟨doing (cmd 0x200), 0, 0x44, cmd 0x200, (by decide +kernel), (by decide +kernel), (by decide +kernel), (by decide +kernel),
        (by decide +kernel), (by decide +kernel)⟩

theorem witness_AdminCommands :
    (∃ (s : State) (fn : Nat) (op : Nat) (form : Nat → Bool) (c : _), (s.adminHas fn op c) ∧ (form c.raw = false)) ∧
    (∃ (s : State) (fn : Nat) (op : Nat) (form : Nat → Bool) (results : Nat → List Nat) (c : _) (l : List Nat) (r : _) (l' : List Nat),
       (s.adminHas fn op c) ∧ (form c.raw = true) ∧ (results c.raw = l ++ r :: l') ∧ ((∀ x ∈ l, x = Res.done)) ∧ (r ≠ Res.done)) ∧
    (∃ (s : State) (fn : Nat) (op : Nat) (form : Nat → Bool) (results : Nat → List Nat) (c : _), (s.adminHas fn op c) ∧ (form c.raw = true) ∧
       ((∀ x ∈ results c.raw, x = Res.done))) ∧
    (∃ (s : State) (fn : Nat) (op : Nat), ((∀ c, ¬ s.adminHas fn op c))) ∧
    (∃ (s : State) (fn : Nat) (c : AdminCmd) (q : Cq), ((s.fn fn).admCur = some c) ∧ ((s.fn fn).admStop = false) ∧
       (Tab.look s.cqs (qkey fn 1) = some q) ∧ (q.eq = none) ∧ ((s.port (fnPort fn)).state = .up)) := by
  refine ⟨?_, ?_, ?_, ?_, ?_⟩
  · exact ⟨doing (cmd 0x200), 0, 2, fun _ => false, cmd 0x200, (by unfold State.adminHas; decide +kernel), (by decide +kernel)⟩
  · exact ⟨doing (cmd 0x200), 0, 2, fun _ => true, fun _ => [0, 3], cmd 0x200, [0], 3, [], (by unfold State.adminHas; decide +kernel), (rfl),
        (rfl), (by decide), (by decide)⟩
  · exact ⟨doing (cmd 0x200), 0, 2, fun _ => true, fun _ => [0], cmd 0x200, (by unfold State.adminHas; decide +kernel), (by decide +kernel),
        (by decide +kernel)⟩
  · exact ⟨dev, 0, 2, (fun c h => nomatch h.1)⟩
  · exact ⟨doing (cmd 0x200), 0, cmd 0x200, cq0, (by decide +kernel), (by decide +kernel), (by decide +kernel), (by decide +kernel),
        (by decide +kernel)⟩

theorem witness_QueueObjectCommands :
    (∃ (s : State) (fn : Nat) (c : AdminCmd) (h : _) (s' : _), (s.freshHandle fn 1 = (some h, s')) ∧ (s.adminHas fn 0x01 c) ∧
       (Ent.arg c.raw = 0) ∧ (Cmd.ringOnly c.raw = true) ∧ (Cmd.ring2Base c.raw = 0) ∧ (Cmd.vector c.raw = 0) ∧ (Cmd.mod c.raw = 0) ∧
       (Cmd.bind2 c.raw = 0) ∧ (Cmd.eventEq c.raw = 0) ∧ (s.lookupOpt fn (Cmd.bind c.raw) .eq = Res.done) ∧
       (s.eqFull fn (Cmd.bind c.raw) = Res.done)) ∧
    (∃ (s : State) (fn : Nat) (c : AdminCmd), (s.adminHas fn 0x02 c) ∧ (Cmd.argOk c.raw false = true) ∧ (s.objNamed fn c.raw = some .cq) ∧
       (s.cqBound fn (bits c.raw 4 0 16) = false)) ∧
    (∃ (s : State) (fn : Nat) (c : AdminCmd) (h : _) (s' : _), (s.freshHandle fn 1 = (some h, s')) ∧ (s.adminHas fn 0x03 c) ∧
       (Ent.arg c.raw = 0) ∧ (Cmd.ringOnly c.raw = true) ∧ (Cmd.ring2Base c.raw = 0) ∧ (1 ≤ Cmd.vector c.raw) ∧
       (Cmd.vector c.raw < fnVectors fn) ∧ (Cmd.bind c.raw = 0) ∧ (Cmd.bind2 c.raw = 0) ∧ (Cmd.eventEq c.raw = 0) ∧
       (s.param 0x303001 ≤ Cmd.mod c.raw)) ∧
    (∃ (s : State) (fn : Nat) (c : AdminCmd), (s.adminHas fn 0x04 c) ∧ (Cmd.argOk c.raw false = true) ∧ (s.objNamed fn c.raw = some .eq) ∧
       (s.eqBound fn (bits c.raw 4 0 16) = false)) ∧
    (∃ (s : State) (fn : Nat) (c : AdminCmd), (s.adminHas fn 0x05 c) ∧ (bits c.raw 4 16 16 = 0) ∧
       (s.lookupOpt fn (bits c.raw 4 0 16) .eq = Res.done) ∧ (s.eqFull fn (bits c.raw 4 0 16) = Res.done)) ∧
    (∃ (s : State) (fn : Nat) (c : AdminCmd) (qpn : _) (s' : _), (s.adminHas fn 0x06 c) ∧ (Cmd.createQpOk fn c.raw = true) ∧
       (s.lookup fn (Cmd.bind c.raw) .cq = Res.done) ∧ (s.lookup fn (Cmd.bind2 c.raw) (if Cmd.usesSrq c.raw then .srq else .cq) = Res.done) ∧
       (s.lookupOpt fn (Cmd.eventEq c.raw) .eq = Res.done) ∧ (Tb.pd c.raw 0x80 ∈ (s.fn fn).pds) ∧ (s.slotsFree fn c.raw = Res.done) ∧
       (Tb.transport c.raw 0x80 = 1) ∧ (s.freshQpn fn true = (some qpn, s'))) ∧
    (∃ (s : State) (fn : Nat) (c : AdminCmd) (qpn : _) (s' : _), (s.adminHas fn 0x06 c) ∧ (Cmd.createQpOk fn c.raw = true) ∧
       (s.lookup fn (Cmd.bind c.raw) .cq = Res.done) ∧ (s.lookup fn (Cmd.bind2 c.raw) (if Cmd.usesSrq c.raw then .srq else .cq) = Res.done) ∧
       (s.lookupOpt fn (Cmd.eventEq c.raw) .eq = Res.done) ∧ (Tb.pd c.raw 0x80 ∈ (s.fn fn).pds) ∧ (s.slotsFree fn c.raw = Res.done) ∧
       (Tb.transport c.raw 0x80 = 0) ∧ (s.freshQpn fn false = (some qpn, s'))) ∧
    (∃ (s : State) (fn : Nat) (c : AdminCmd) (h : _) (s' : _), (s.freshHandle fn 1 = (some h, s')) ∧ (s.adminHas fn 0x09 c) ∧
       (bits c.raw 4 16 16 = 0) ∧ (Cmd.ringOnly c.raw = true) ∧ (Cmd.ring2Base c.raw % 8 = 0) ∧ (Cmd.vector c.raw = 0) ∧
       (Cmd.mod c.raw = 0) ∧ (s.lookup fn (Cmd.bind2 c.raw) .cq = Res.done) ∧ (s.lookupOpt fn (Cmd.eventEq c.raw) .eq = Res.done) ∧
       (bits c.raw 4 0 16 ∈ (s.fn fn).pds)) ∧
    (∃ (s : State) (fn : Nat) (c : AdminCmd), (s.adminHas fn 0x0A c) ∧ (Cmd.argOk c.raw false = true) ∧ (s.objNamed fn c.raw = some .srq) ∧
       (s.srqBound fn (bits c.raw 4 0 16) = false)) ∧
    (∃ (s : State) (fn : Nat) (c : AdminCmd) (n : _) (q : _), (s.adminHas fn 0x0D c) ∧ (Cmd.argOk c.raw true = true) ∧
       (bits c.raw 0x40 0 6 = 0) ∧ (bits c.raw 0x48 0 448 = 0) ∧ (s.objNamed fn c.raw = some (.qp n)) ∧ (bits c.raw 4 30 1 = 0) ∧
       (Tab.look s.qps n = some q)) := by
  refine ⟨?_, ?_, ?_, ?_, ?_, ?_, ?_, ?_, ?_, ?_⟩
  · obtain ⟨h, s', e, -⟩ := State.freshHandle_finds (doing (cmd (0x100 + place 0x40 0 64 4096 + place 0x50 0 4 8 + place 0x54 0 16 3))) 0 1 9 (by decide) (by decide) (by decide) (by decide) (by decide +kernel)
    exact ⟨doing (cmd (0x100 + place 0x40 0 64 4096 + place 0x50 0 4 8 + place 0x54 0 16 3)), 0, cmd (0x100 + place 0x40 0 64 4096 + place 0x50 0 4 8 + place 0x54 0 16 3), h, s', (e), (by unfold State.adminHas; decide +kernel), (by decide +kernel), (by decide +kernel), (by decide +kernel), (by decide +kernel), (by decide +kernel), (by decide +kernel), (by decide +kernel), (by decide +kernel), (by decide +kernel)⟩
  · exact ⟨doing (cmd (0x200 + place 4 0 16 2)) { devQ with qps := [], srqs := [] }, 0, cmd (0x200 + place 4 0 16 2),
        (by unfold State.adminHas; decide +kernel), (by decide +kernel), (by decide +kernel), (by decide +kernel)⟩
  · obtain ⟨h, s', e, -⟩ := State.freshHandle_finds (doing (cmd (0x300 + place 0x40 0 64 4096 + place 0x50 0 4 8 + place 0x50 8 8 2 + place 0x50 16 16 64))) 0 1 9 (by decide) (by decide) (by decide) (by decide) (by decide +kernel)
    exact ⟨doing (cmd (0x300 + place 0x40 0 64 4096 + place 0x50 0 4 8 + place 0x50 8 8 2 + place 0x50 16 16 64)), 0, cmd (0x300 + place 0x40 0 64 4096 + place 0x50 0 4 8 + place 0x50 8 8 2 + place 0x50 16 16 64), h, s', (e), (by unfold State.adminHas; decide +kernel), (by decide +kernel), (by decide +kernel), (by decide +kernel), (by decide +kernel), (by decide +kernel), (by decide +kernel), (by decide +kernel), (by decide +kernel), (by decide +kernel)⟩
  · exact ⟨doing (cmd (0x400 + place 4 0 16 3)) { devQ with fns := [(0, { fn0 with missq := none })] }, 0, cmd (0x400 + place 4 0 16 3),
        (by unfold State.adminHas; decide +kernel), (by decide +kernel), (by decide +kernel), (by decide +kernel)⟩
  · exact ⟨doing (cmd (0x500 + place 4 0 16 3)), 0, cmd (0x500 + place 4 0 16 3), (by unfold State.adminHas; decide +kernel),
        (by decide +kernel), (by decide +kernel), (by decide +kernel)⟩
  · obtain ⟨q, s', e, -⟩ := freshQpn_finds (doing (cmd (0x600 + place 0x40 0 64 4096 + place 0x48 0 64 8192 + place 0x50 0 4 8 + place 0x50 4 4 8 + place 0x54 0 16 2 + place 0x54 16 16 2 + place 0x58 0 16 30 + place 0x58 16 16 31 + place 0x5C 0 16 3 + place 0x80 0 2 1 + place 0x80 16 16 5))) 0 true 50 (by decide +kernel) (by decide +kernel)
    exact ⟨doing (cmd (0x600 + place 0x40 0 64 4096 + place 0x48 0 64 8192 + place 0x50 0 4 8 + place 0x50 4 4 8 + place 0x54 0 16 2 + place 0x54 16 16 2 + place 0x58 0 16 30 + place 0x58 16 16 31 + place 0x5C 0 16 3 + place 0x80 0 2 1 + place 0x80 16 16 5)), 0, cmd (0x600 + place 0x40 0 64 4096 + place 0x48 0 64 8192 + place 0x50 0 4 8 + place 0x50 4 4 8 + place 0x54 0 16 2 + place 0x54 16 16 2 + place 0x58 0 16 30 + place 0x58 16 16 31 + place 0x5C 0 16 3 + place 0x80 0 2 1 + place 0x80 16 16 5), q, s', (by unfold State.adminHas; decide +kernel), (by decide +kernel), (by decide +kernel), (by decide +kernel), (by decide +kernel), (by decide +kernel), (by decide +kernel), (by decide +kernel), (e)⟩
  · obtain ⟨q, s', e, -⟩ := freshQpn_finds (doing (cmd (0x600 + place 0x40 0 64 4096 + place 0x48 0 64 8192 + place 0x50 0 4 8 + place 0x50 4 4 8 + place 0x54 0 16 2 + place 0x54 16 16 2 + place 0x58 0 16 30 + place 0x58 16 16 31 + place 0x5C 0 16 3 + place 0x80 0 2 0 + place 0x80 16 16 5))) 0 false 50 (by decide +kernel) (by decide +kernel)
    exact ⟨doing (cmd (0x600 + place 0x40 0 64 4096 + place 0x48 0 64 8192 + place 0x50 0 4 8 + place 0x50 4 4 8 + place 0x54 0 16 2 + place 0x54 16 16 2 + place 0x58 0 16 30 + place 0x58 16 16 31 + place 0x5C 0 16 3 + place 0x80 0 2 0 + place 0x80 16 16 5)), 0, cmd (0x600 + place 0x40 0 64 4096 + place 0x48 0 64 8192 + place 0x50 0 4 8 + place 0x50 4 4 8 + place 0x54 0 16 2 + place 0x54 16 16 2 + place 0x58 0 16 30 + place 0x58 16 16 31 + place 0x5C 0 16 3 + place 0x80 0 2 0 + place 0x80 16 16 5), q, s', (by unfold State.adminHas; decide +kernel), (by decide +kernel), (by decide +kernel), (by decide +kernel), (by decide +kernel), (by decide +kernel), (by decide +kernel), (by decide +kernel), (e)⟩
  · obtain ⟨h, s', e, -⟩ := State.freshHandle_finds (doing (cmd (0x900 + place 4 0 16 5 + place 0x40 0 64 4096 + place 0x48 0 64 8192 + place 0x50 0 4 8 + place 0x54 16 16 2 + place 0x5C 0 16 3))) 0 1 9 (by decide) (by decide) (by decide) (by decide) (by decide +kernel)
    exact ⟨doing (cmd (0x900 + place 4 0 16 5 + place 0x40 0 64 4096 + place 0x48 0 64 8192 + place 0x50 0 4 8 + place 0x54 16 16 2 + place 0x5C 0 16 3)), 0, cmd (0x900 + place 4 0 16 5 + place 0x40 0 64 4096 + place 0x48 0 64 8192 + place 0x50 0 4 8 + place 0x54 16 16 2 + place 0x5C 0 16 3), h, s', (e), (by unfold State.adminHas; decide +kernel), (by decide +kernel), (by decide +kernel), (by decide +kernel), (by decide +kernel), (by decide +kernel), (by decide +kernel), (by decide +kernel), (by decide +kernel)⟩
  · exact ⟨doing (cmd (0xA00 + place 4 0 16 4)), 0, cmd (0xA00 + place 4 0 16 4), (by unfold State.adminHas; decide +kernel),
        (by decide +kernel), (by decide +kernel), (by decide +kernel)⟩
  · exact ⟨doing (cmd (0xD00 + place 4 31 1 1 + place 4 0 24 100 + place 0x40 0 64 65536)), 0,
        cmd (0xD00 + place 4 31 1 1 + place 4 0 24 100 + place 0x40 0 64 65536), 100, qp0, (by unfold State.adminHas; decide +kernel),
        (by decide +kernel), (by decide +kernel), (by decide +kernel), (by decide +kernel), (by decide +kernel), (by decide +kernel)⟩

theorem witness_QueuePairCommands :
    (∃ (s : State) (fn : Nat) (c : AdminCmd) (n : Nat) (q : Qp), (Tab.look s.qps n = some q) ∧ (q.fn = fn) ∧ (s.adminHas fn 0x07 c) ∧
       (bits c.raw 4 24 8 = 0) ∧ (bits c.raw 4 0 24 = n) ∧ (Tb.ok c.raw 0x40 q.st = true) ∧ (Tb.target c.raw 0x40 = 0) ∧ (q.state = .ready) ∧
       (q.sameAs c.raw = true)) ∧
    (∃ (s : State) (fn : Nat) (c : AdminCmd) (n : Nat) (q : Qp), (Tab.look s.qps n = some q) ∧ (q.fn = fn) ∧ (s.adminHas fn 0x07 c) ∧
       (bits c.raw 4 24 8 = 0) ∧ (bits c.raw 4 0 24 = n) ∧ (Tb.ok c.raw 0x40 q.st = true) ∧ (Tb.target c.raw 0x40 = 1) ∧ (q.state = .idle)) ∧
    (∃ (s : State) (fn : Nat) (c : AdminCmd) (n : Nat) (q : Qp), (Tab.look s.qps n = some q) ∧ (q.fn = fn) ∧ (s.adminHas fn 0x07 c) ∧
       (bits c.raw 4 24 8 = 0) ∧ (bits c.raw 4 0 24 = n) ∧ (Tb.ok c.raw 0x40 q.st = true) ∧ (Tb.target c.raw 0x40 = 2) ∧ (q.state = .ready)) ∧
    (∃ (s : State) (fn : Nat) (c : AdminCmd) (n : Nat) (q : Qp), (Tab.look s.qps n = some q) ∧ (q.fn = fn) ∧ (s.adminHas fn 0x07 c) ∧
       (bits c.raw 4 24 8 = 0) ∧ (bits c.raw 4 0 24 = n) ∧ (Tb.ok c.raw 0x40 q.st = true) ∧ (Tb.target c.raw 0x40 = 3) ∧
       (q.state = .flushed)) ∧
    (∃ (s : State) (fn : Nat) (c : AdminCmd) (n : Nat) (q : Qp), (Tab.look s.qps n = some q) ∧ (q.fn = fn) ∧ (s.adminHas fn 0x07 c) ∧
       (bits c.raw 4 24 8 = 0) ∧ (bits c.raw 4 0 24 = n) ∧ (Tb.ok c.raw 0x40 q.st = true) ∧ ((Tb.target c.raw 0x40 = 1 ∧ q.state ≠ .idle ∨
       Tb.target c.raw 0x40 = 2 ∧ q.state ≠ .ready ∨ Tb.target c.raw 0x40 = 3 ∧ q.state ≠ .flushed))) ∧
    (∃ (s : State) (fn : Nat) (c : AdminCmd) (n : Nat) (q : Qp), (Tab.look s.qps n = some q) ∧ (q.fn = fn) ∧ (s.adminHas fn 0x08 c) ∧
       (Cmd.argOk c.raw false = true) ∧ (Cmd.qpn c.raw = some n)) ∧
    (∃ (s : State) (fn : Nat) (c : AdminCmd) (n : Nat) (q : Qp), (Tab.look s.qps n = some q) ∧ (q.fn = fn) ∧ (s.adminHas fn 0x0B c) ∧
       (Cmd.argOk c.raw true = true) ∧ (Cmd.qpn c.raw = some n) ∧ (bits c.raw 4 30 1 = 0) ∧ (q.state = .ready ∨ q.state = .idle)) ∧
    (∃ (s : State) (fn : Nat) (c : AdminCmd) (n : Nat) (q : Qp) (r : _), (Tab.look s.qps n = some q) ∧ (q.fn = fn) ∧ (s.adminHas fn 0x0B c) ∧
       (Cmd.argOk c.raw true = true) ∧ (Cmd.qpn c.raw = some n) ∧ (bits c.raw 4 30 1 = 1) ∧ (q.state = .ready ∨ q.state = .idle) ∧
       (q.rq = some r)) ∧
    (∃ (s : State) (fn : Nat) (c : AdminCmd) (n : Nat) (q : Qp), (Tab.look s.qps n = some q) ∧ (q.fn = fn) ∧ (s.adminHas fn 0x0C c) ∧
       (Cmd.argOk c.raw false = true) ∧ (Cmd.qpn c.raw = some n)) ∧
    (∃ (q : Sq) (w : Wqe), (w ∈ q.recall.ents)) := by
  refine ⟨?_, ?_, ?_, ?_, ?_, ?_, ?_, ?_, ?_, ?_⟩
  · exact ⟨doing (cmd (0x700 + place 4 0 24 100 + place 0x40 16 16 5 + place 0x44 0 18 9 + place 0x48 0 24 7 + place 0x54 0 8 3)), 0,
        cmd (0x700 + place 4 0 24 100 + place 0x40 16 16 5 + place 0x44 0 18 9 + place 0x48 0 24 7 + place 0x54 0 8 3), 100, qp0,
        (by decide +kernel), (by decide +kernel), (by unfold State.adminHas; decide +kernel), (by decide +kernel), (by decide +kernel),
        (by decide +kernel), (by decide +kernel), (by decide +kernel), (by decide +kernel)⟩
  · exact ⟨doing (cmd (0x700 + place 4 0 24 100 + place 0x40 4 2 1 + place 0x44 0 18 9)) { devQ with qps := [(100, { qp0 with state := .idle })] },
        0, cmd (0x700 + place 4 0 24 100 + place 0x40 4 2 1 + place 0x44 0 18 9), 100, { qp0 with state := .idle }, (by decide +kernel),
        (by decide +kernel), (by unfold State.adminHas; decide +kernel), (by decide +kernel), (by decide +kernel), (by decide +kernel),
        (by decide +kernel), (by decide +kernel)⟩
  · exact ⟨doing (cmd (0x700 + place 4 0 24 100 + place 0x40 4 2 2)), 0, cmd (0x700 + place 4 0 24 100 + place 0x40 4 2 2), 100, qp0,
        (by decide +kernel), (by decide +kernel), (by unfold State.adminHas; decide +kernel), (by decide +kernel), (by decide +kernel),
        (by decide +kernel), (by decide +kernel), (by decide +kernel)⟩
  · exact ⟨doing (cmd (0x700 + place 4 0 24 100 + place 0x40 4 2 3)) { devQ with qps := [(100, { qp0 with state := .flushed })] }, 0,
        cmd (0x700 + place 4 0 24 100 + place 0x40 4 2 3), 100, { qp0 with state := .flushed }, (by decide +kernel), (by decide +kernel),
        (by unfold State.adminHas; decide +kernel), (by decide +kernel), (by decide +kernel), (by decide +kernel), (by decide +kernel),
        (by decide +kernel)⟩
  · exact ⟨doing (cmd (0x700 + place 4 0 24 100 + place 0x40 4 2 1)), 0, cmd (0x700 + place 4 0 24 100 + place 0x40 4 2 1), 100, qp0,
        (by decide +kernel), (by decide +kernel), (by unfold State.adminHas; decide +kernel), (by decide +kernel), (by decide +kernel),
        (by decide +kernel), (by decide +kernel)⟩
  · exact ⟨doing (cmd (0x800 + place 4 31 1 1 + place 4 0 24 100)), 0, cmd (0x800 + place 4 31 1 1 + place 4 0 24 100), 100, qp0,
        (by decide +kernel), (by decide +kernel), (by unfold State.adminHas; decide +kernel), (by decide +kernel), (by decide +kernel)⟩
  · exact ⟨doing (cmd (0xB00 + place 4 31 1 1 + place 4 0 24 100)), 0, cmd (0xB00 + place 4 31 1 1 + place 4 0 24 100), 100, qp0,
        (by decide +kernel), (by decide +kernel), (by unfold State.adminHas; decide +kernel), (by decide +kernel), (by decide +kernel),
        (by decide +kernel), (by decide +kernel)⟩
  · exact ⟨doing (cmd (0xB00 + place 4 30 2 3 + place 4 0 24 100)), 0, cmd (0xB00 + place 4 30 2 3 + place 4 0 24 100), 100, qp0,
        Rq.fresh 20480 4 17, (by decide +kernel), (by decide +kernel), (by unfold State.adminHas; decide +kernel), (by decide +kernel),
        (by decide +kernel), (by decide +kernel), (by decide +kernel), (by decide +kernel)⟩
  · exact ⟨doing (cmd (0xC00 + place 4 31 1 1 + place 4 0 24 100)), 0, cmd (0xC00 + place 4 31 1 1 + place 4 0 24 100), 100, qp0,
        (by decide +kernel), (by decide +kernel), (by unfold State.adminHas; decide +kernel), (by decide +kernel), (by decide +kernel)⟩
  · exact ⟨{ qp0.sq with ents := [{ wq with stage := .started }] }, { wq with stage := .started }, (.head _)⟩

theorem witness_NewKeysAreFresh :
    (∃ (s : State) (s' : State) (k : Key) (idx : Nat), (s.newKey k = some (idx, s'))) ∧
    (∃ (s : State) (s' : State) (k : Key) (idx : Nat) (j : _), (s.newKey k = some (idx, s')) ∧ (j ≠ idx)) ∧
    (∃ (s : State) (s' : State) (k : Key) (idx : Nat), (s.newKey k = some (idx, s'))) := by
  refine ⟨?_, ?_, ?_⟩
  · obtain ⟨x, v, s', e, h⟩ := State.newKey_finds devQ key0 3 (by decide) (by decide +kernel) (fun _ => rfl)
    exact ⟨devQ, s', key0, x, (e)⟩
  · obtain ⟨x, v, s', e, h⟩ := State.newKey_finds devQ key0 3 (by decide) (by decide +kernel) (fun _ => rfl)
    exact ⟨devQ, s', key0, x, x + 1, (e), (Nat.succ_ne_self x)⟩
  · obtain ⟨x, v, s', e, h⟩ := State.newKey_finds devQ key0 3 (by decide) (by decide +kernel) (fun _ => rfl)
    exact ⟨devQ, s', key0, x, (e)⟩

theorem witness_ProtectionCommands :
    (∃ (s : State) (fn : Nat) (c : AdminCmd) (k : _) (s' : _), (s.adminHas fn 0x10 c) ∧ (Ent.arg c.raw = 0) ∧ (s.pdCount < 65536) ∧
       (s.choose (fun k => (s.fn fn).pds.contains k) 0 65536 = (some k, s'))) ∧
    (∃ (s : State) (fn : Nat) (c : AdminCmd), (s.adminHas fn 0x10 c) ∧ (Ent.arg c.raw = 0) ∧ (65536 ≤ s.pdCount)) ∧
    (∃ (s : State) (fn : Nat) (c : AdminCmd), (s.adminHas fn 0x11 c) ∧ (bits c.raw 4 16 16 = 0) ∧ (bits c.raw 4 0 16 ∈ (s.fn fn).pds) ∧
       (s.pdInUse fn (bits c.raw 4 0 16) = false)) ∧
    (∃ (s : State) (fn : Nat) (c : AdminCmd), (s.adminHas fn 0x11 c) ∧ (bits c.raw 4 16 16 = 0) ∧ (bits c.raw 4 0 16 ∈ (s.fn fn).pds) ∧
       (s.pdInUse fn (bits c.raw 4 0 16) = true)) ∧
    (∃ (s : State) (fn : Nat) (c : AdminCmd) (idx : _) (k : _) (s' : _), (s.adminHas fn 0x12 c) ∧ (Prot.keyOk c.raw = true) ∧
       (Prot.auxBase c.raw = 0) ∧ (Prot.limit c.raw = 0) ∧ (Prot.handler c.raw = 0) ∧ (Prot.len c.raw = 0) ∧
       (Prot.pd c.raw ∈ (s.fn fn).pds) ∧ (s.keys.length < 1048576) ∧ (s.newKey (s.keyFrom fn c.raw false) = some (idx, s')) ∧
       (Tab.look s'.keys idx = some k)) ∧
    (∃ (s : State) (fn : Nat) (c : AdminCmd), (s.adminHas fn 0x12 c) ∧ (Prot.keyOk c.raw = true) ∧ (Prot.auxBase c.raw = 0) ∧
       (Prot.limit c.raw = 0) ∧ (Prot.handler c.raw = 0) ∧ (Prot.len c.raw ≠ 0) ∧ (Prot.table c.raw % 8 = 0) ∧
       (Prot.pd c.raw ∈ (s.fn fn).pds) ∧ (s.keys.length < 1048576)) ∧
    (∃ (s : State) (fn : Nat) (c : AdminCmd) (d : _) (l : _) (idx : _) (k : _) (s' : _), ((s.fn fn).admCur = some c) ∧ (c.waiting = true) ∧
       (Ent.opcode c.raw = 0x12) ∧ (l = pagesOf (Prot.va c.raw / 4096) (listEntries d (regionPages (Prot.va c.raw) (Prot.len c.raw)))) ∧
       ((∀ x ∈ l, Pte.leafOk x.2 = true ∧ s.leafClear x.2 x.1 = true)) ∧ (s.keys.length < 1048576) ∧
       (s.pinned + (pinnedGroups l []).length ≤ s.openParam 0x402003) ∧ (s.newKey (s.keyFrom fn c.raw false) = some (idx, s')) ∧
       (Tab.look s'.keys idx = some k)) ∧
    (∃ (s : State) (fn : Nat) (c : AdminCmd) (idx : _) (k : _) (s' : _), (s.adminHas fn 0x13 c) ∧ (Prot.keyOk c.raw = true) ∧
       (Prot.table c.raw % 4096 = 0) ∧ (Prot.pd c.raw ∈ (s.fn fn).pds) ∧ ((Prot.handler c.raw = 1 → (s.fn fn).missq ≠ none)) ∧
       (s.keys.length < 1048576) ∧ (s.newKey (s.keyFrom fn c.raw true) = some (idx, s')) ∧ (Tab.look s'.keys idx = some k)) ∧
    (∃ (s : State) (fn : Nat) (c : AdminCmd) (k : _), (s.adminHas fn 0x14 c) ∧ (s.keyOf (Ent.arg c.raw) = some k) ∧ (k.fn = fn)) ∧
    (∃ (s : State) (fn : Nat) (c : AdminCmd), ((s.fn fn).admCur = some c) ∧ (c.waiting = true) ∧ (Ent.opcode c.raw = 0x14) ∧
       (s.keyBusy (Ent.arg c.raw) = false)) ∧
    (∃ (s : State) (fn : Nat) (c : AdminCmd), ((s.fn fn).admCur = some c) ∧ (c.waiting = true) ∧ (Ent.opcode c.raw = 0x14) ∧
       (s.keyBusy (Ent.arg c.raw) = true)) ∧
    (∃ (s : State) (fn : Nat) (c : AdminCmd) (k : Key), (s.adminHas fn 0x15 c) ∧ (Prot.table c.raw = 0) ∧ (Prot.auxBase c.raw = 0) ∧
       (Prot.limit c.raw = 0) ∧ (Prot.result c.raw = 0) ∧ (bits c.raw 0x70 0 128 = 0) ∧ (s.keyOf (Ent.arg c.raw) = some k) ∧ (k.fn = fn) ∧
       (k.ask = true)) ∧
    (∃ (s : State) (fn : Nat) (c : AdminCmd), ((s.fn fn).admCur = some c) ∧ (c.waiting = true) ∧ (Ent.opcode c.raw = 0x15) ∧
       (s.accessing (fun a => a.1 == Ent.arg c.raw) = false)) ∧
    (∃ (s : State) (fn : Nat) (c : AdminCmd) (h : _) (s' : _), (s.adminHas fn 0x16 c) ∧ (Ent.arg c.raw = 0) ∧ (Prot.va c.raw = 0) ∧
       (Prot.len c.raw = 0) ∧ (Prot.limit c.raw = 0) ∧ (Prot.result c.raw = 0) ∧ (bits c.raw 0x70 0 24 = 0) ∧ (Prot.tail c.raw = 0) ∧
       (ringOk (Prot.table c.raw) (Prot.log2 c.raw) = true) ∧ (ringOk (Prot.auxBase c.raw) (Prot.log2b c.raw) = true) ∧
       (s.lookup fn (Prot.eq c.raw) .eq = Res.done) ∧ ((s.fn fn).missq = none) ∧ (s.freshHandle fn 2 = (some h, s'))) ∧
    (∃ (s : State) (fn : Nat) (c : AdminCmd), (s.adminHas fn 0x17 c) ∧ (bits c.raw 4 16 16 = 0) ∧
       (s.lookupMiss fn (bits c.raw 4 0 16) = Res.done) ∧ ((∀ e ∈ s.keys, e.2.fn = fn → e.2.handler = false))) ∧
    (∃ (s : State) (v : Nat) (r : Nat) (e : Tlb), (s.misses = []) ∧ (e ∈ (s.invalidateRange v r).tlb) ∧ (e.index = keyIndex v)) ∧
    (∃ (s : State) (v : Nat) (r : Nat) (e : Tlb), (s.misses = []) ∧ (e ∈ s.tlb) ∧ (e.index ≠ keyIndex v ∨ Prot.len r ≠ 0 ∧
       ((e.page + e.pages) * 4096 ≤ Prot.va r ∨ Prot.va r + Prot.len r ≤ e.page * 4096))) := by
  refine ⟨?_, ?_, ?_, ?_, ?_, ?_, ?_, ?_, ?_, ?_, ?_, ?_, ?_, ?_, ?_, ?_, ?_⟩
  · obtain ⟨k, s', e, -, -⟩ := State.choose_finds (doing (cmd 0x1000)) (fun k => ((doing (cmd 0x1000)).fn 0).pds.contains k) 0 65536 3 (by decide) (by decide +kernel)
    exact ⟨doing (cmd 0x1000), 0, cmd 0x1000, k, s', (by unfold State.adminHas; decide +kernel), (by decide +kernel), (by decide +kernel), (e)⟩
  · exact ⟨doing (cmd 0x1000) { dev with fns := [(0, { Fn.fresh with pds := List.replicate 65536 7 })] }, 0, cmd 0x1000, (by unfold State.adminHas; decide +kernel), (by decide +kernel), (by have h : ∀ (l : List Nat), State.pdCount (doing (cmd 0x1000) { dev with fns := [(0, { Fn.fresh with pds := l })] }) = 0 + l.length := fun _ => rfl; rw [h, List.length_replicate]; all_goals omega)⟩
  · exact ⟨doing (cmd (0x1100 + place 4 0 16 8)) { devQ with fns := [(0, { fn0 with pds := [5, 8] })] }, 0, cmd (0x1100 + place 4 0 16 8),
        (by unfold State.adminHas; decide +kernel), (by decide +kernel), (by decide +kernel), (by decide +kernel)⟩
  · exact ⟨doing (cmd (0x1100 + place 4 0 16 5)), 0, cmd (0x1100 + place 4 0 16 5), (by unfold State.adminHas; decide +kernel),
        (by decide +kernel), (by decide +kernel), (by decide +kernel)⟩
  · obtain ⟨x, v, s', e, h⟩ := State.newKey_finds (doing (cmd (0x1200 + place 0x70 0 16 5 + place 0x70 16 6 3))) (State.keyFrom (doing (cmd (0x1200 + place 0x70 0 16 5 + place 0x70 16 6 3))) 0 (cmd (0x1200 + place 0x70 0 16 5 + place 0x70 16 6 3)).raw false) 3 (by decide) (by decide +kernel) (fun _ => rfl)
    exact ⟨doing (cmd (0x1200 + place 0x70 0 16 5 + place 0x70 16 6 3)), 0, cmd (0x1200 + place 0x70 0 16 5 + place 0x70 16 6 3), x, v, s', (by unfold State.adminHas; decide +kernel), (by decide +kernel), (by decide +kernel), (by decide +kernel), (by decide +kernel), (by decide +kernel), (by decide +kernel), (by decide +kernel), (e), (h)⟩
  · exact ⟨doing (cmd (0x1200 + place 0x40 0 64 4096 + place 0x48 0 64 8192 + place 0x50 0 64 65536 + place 0x70 0 16 5 + place 0x70 16 6 3)),
        0, cmd (0x1200 + place 0x40 0 64 4096 + place 0x48 0 64 8192 + place 0x50 0 64 65536 + place 0x70 0 16 5 + place 0x70 16 6 3),
        (by unfold State.adminHas; decide +kernel), (by decide +kernel), (by decide +kernel), (by decide +kernel), (by decide +kernel),
        (by decide +kernel), (by decide +kernel), (by decide +kernel), (by decide +kernel)⟩
  · obtain ⟨x, v, s', e, h⟩ := State.newKey_finds (doing (cmdW (0x1200 + place 0x40 0 64 4096 + place 0x48 0 64 4096 + place 0x50 0 64 65536 + place 0x70 0 16 5 + place 0x70 16 6 3))) (State.keyFrom (doing (cmdW (0x1200 + place 0x40 0 64 4096 + place 0x48 0 64 4096 + place 0x50 0 64 65536 + place 0x70 0 16 5 + place 0x70 16 6 3))) 0 (cmdW (0x1200 + place 0x40 0 64 4096 + place 0x48 0 64 4096 + place 0x50 0 64 65536 + place 0x70 0 16 5 + place 0x70 16 6 3)).raw false) 3 (by decide) (by decide +kernel) (fun _ => rfl)
    exact ⟨doing (cmdW (0x1200 + place 0x40 0 64 4096 + place 0x48 0 64 4096 + place 0x50 0 64 65536 + place 0x70 0 16 5 + place 0x70 16 6 3)), 0, cmdW (0x1200 + place 0x40 0 64 4096 + place 0x48 0 64 4096 + place 0x50 0 64 65536 + place 0x70 0 16 5 + place 0x70 16 6 3), leBytes 8 leaf0, [(1, leaf0)], x, v, s', (by decide +kernel), (by decide +kernel), (by decide +kernel), (by decide +kernel), (by decide +kernel), (by decide +kernel), (by decide +kernel), (e), (h)⟩
  · obtain ⟨x, v, s', e, h⟩ := State.newKey_finds (doing (cmd (0x1300 + place 0x50 0 64 65536 + place 0x60 0 64 1048575 + place 0x70 0 16 5 + place 0x70 16 6 3))) (State.keyFrom (doing (cmd (0x1300 + place 0x50 0 64 65536 + place 0x60 0 64 1048575 + place 0x70 0 16 5 + place 0x70 16 6 3))) 0 (cmd (0x1300 + place 0x50 0 64 65536 + place 0x60 0 64 1048575 + place 0x70 0 16 5 + place 0x70 16 6 3)).raw true) 3 (by decide) (by decide +kernel) (fun _ => rfl)
    exact ⟨doing (cmd (0x1300 + place 0x50 0 64 65536 + place 0x60 0 64 1048575 + place 0x70 0 16 5 + place 0x70 16 6 3)), 0, cmd (0x1300 + place 0x50 0 64 65536 + place 0x60 0 64 1048575 + place 0x70 0 16 5 + place 0x70 16 6 3), x, v, s', (by unfold State.adminHas; decide +kernel), (by decide +kernel), (by decide +kernel), (by decide +kernel), (by decide +kernel), (by decide +kernel), (e), (h)⟩
  · exact ⟨doing (cmd (0x1400 + place 4 0 32 0x10000107)), 0, cmd (0x1400 + place 4 0 32 0x10000107), key0,
        (by unfold State.adminHas; decide +kernel), (by decide +kernel), (by decide +kernel)⟩
  · exact ⟨doing (cmdW (0x1400 + place 4 0 32 0x10000107)), 0, cmdW (0x1400 + place 4 0 32 0x10000107), (by decide +kernel),
        (by decide +kernel), (by decide +kernel), (by decide +kernel)⟩
  · exact ⟨doing (cmdW (0x1400 + place 4 0 32 0x10000107)) { devQ with misses := [(7, miss0)] }, 0, cmdW (0x1400 + place 4 0 32 0x10000107),
        (by decide +kernel), (by decide +kernel), (by decide +kernel), (by decide +kernel)⟩
  · exact ⟨doing (cmd (0x1500 + place 4 0 32 0x20000107)) { devQ with keys := [(1, { key0 with ask := true })] }, 0,
        cmd (0x1500 + place 4 0 32 0x20000107), { key0 with ask := true }, (by unfold State.adminHas; decide +kernel), (by decide +kernel),
        (by decide +kernel), (by decide +kernel), (by decide +kernel), (by decide +kernel), (by decide +kernel), (by decide +kernel),
        (by decide +kernel)⟩
  · exact ⟨doing (cmdW (0x1500 + place 4 0 32 0x20000107)) { devQ with keys := [(1, { key0 with ask := true })] }, 0,
        cmdW (0x1500 + place 4 0 32 0x20000107), (by decide +kernel), (by decide +kernel), (by decide +kernel), (by decide +kernel)⟩
  · obtain ⟨h, s', e, -⟩ := State.freshHandle_finds (doing (cmd (0x1600 + place 0x50 0 64 65536 + place 0x58 0 64 131072 + place 0x70 24 4 4 + place 0x70 28 4 4 + place 0x74 0 16 3)) { devQ with fns := [(0, { fn0 with missq := none })] }) 0 2 9 (by decide) (by decide) (by decide) (by decide) (by decide +kernel)
    exact ⟨doing (cmd (0x1600 + place 0x50 0 64 65536 + place 0x58 0 64 131072 + place 0x70 24 4 4 + place 0x70 28 4 4 + place 0x74 0 16 3)) { devQ with fns := [(0, { fn0 with missq := none })] }, 0, cmd (0x1600 + place 0x50 0 64 65536 + place 0x58 0 64 131072 + place 0x70 24 4 4 + place 0x70 28 4 4 + place 0x74 0 16 3), h, s', (by unfold State.adminHas; decide +kernel), (by decide +kernel), (by decide +kernel), (by decide +kernel), (by decide +kernel), (by decide +kernel), (by decide +kernel), (by decide +kernel), (by decide +kernel), (by decide +kernel), (by decide +kernel), (by decide +kernel), (e)⟩
  · exact ⟨doing (cmd (0x1700 + place 4 0 16 6)), 0, cmd (0x1700 + place 4 0 16 6), (by unfold State.adminHas; decide +kernel),
        (by decide +kernel), (by decide +kernel), (by decide +kernel)⟩
  · exact ⟨{ devQ with tlb := [⟨1, 0, 1, 5, true, false, false, 0, false, true⟩] }, 0x10000107, place 0x40 0 64 4096 + place 0x48 0 64 4096, ⟨1,
        0, 1, 5, true, false, false, 0, false, true⟩, (by decide +kernel), (by decide +kernel), (by decide +kernel)⟩
  · exact ⟨{ devQ with tlb := [⟨1, 0, 1, 5, true, false, false, 0, false, true⟩] }, 0x10000107, place 0x40 0 64 4096 + place 0x48 0 64 4096, ⟨1,
        0, 1, 5, true, false, false, 0, false, true⟩, (by decide +kernel), (by decide +kernel), (by decide +kernel)⟩

theorem witness_TreeCommands :
    (∃ (s : State) (fn : Nat) (c : AdminCmd), (s.adminHas fn 0x20 c) ∧ (Ent.arg c.raw = 0) ∧ (s.nodeOk (Cmd.node c.raw) = true) ∧
       (s.membersOk fn (Cmd.node c.raw) = Res.done) ∧ (Tab.look s.trees (Node.tree (Cmd.node c.raw)) = none) ∧ (s.trees.length < 4096) ∧
       (s.stagingFits (Cmd.node c.raw) = Res.done)) ∧
    (∃ (s : State) (fn : Nat) (c : AdminCmd) (t : _), (s.adminHas fn 0x20 c) ∧ (Ent.arg c.raw = 0) ∧ (s.nodeOk (Cmd.node c.raw) = true) ∧
       (s.membersOk fn (Cmd.node c.raw) = Res.done) ∧ (Tab.look s.trees (Node.tree (Cmd.node c.raw)) = some t)) ∧
    (∃ (s : State) (fn : Nat) (c : AdminCmd) (t : _), (s.adminHas fn 0x21 c) ∧ (bits c.raw 4 16 16 = 0) ∧
       (Tab.look s.trees (bits c.raw 4 0 16) = some t) ∧ (t.owner = some fn)) ∧
    (∃ (s : State) (fn : Nat) (c : AdminCmd) (t : _), (s.adminHas fn 0x21 c) ∧ (bits c.raw 4 16 16 = 0) ∧
       (Tab.look s.trees (bits c.raw 4 0 16) = some t) ∧ (t.owner ≠ some fn)) ∧
    (∃ (s : State) (fn : Nat) (c : AdminCmd) (t : _), (s.adminHas fn 0x22 c) ∧ (Ent.arg c.raw = 0) ∧ (s.nodeOk (Cmd.node c.raw) = true) ∧
       (s.membersOk fn (Cmd.node c.raw) = Res.done) ∧ (Tab.look s.trees (Node.tree (Cmd.node c.raw)) = some t) ∧ (t.owner = some fn) ∧
       (t.broken = true) ∧ (Node.epoch t.raw ≠ Node.epoch (Cmd.node c.raw)) ∧ (s.stagingFits (Cmd.node c.raw) = Res.done)) ∧
    (∃ (r : Nat) (dev : _), (dev ∈ Node.edges r)) ∧
    (∃ (r : Nat) (k : _), (k ≠ Node.tree r)) := by
  refine ⟨?_, ?_, ?_, ?_, ?_, ?_, ?_⟩
  · exact ⟨doing (cmd (0x2000 + place 0x40 0 4096 (node0 1))) { devQ with ledger := [(0x111001, 1)] }, 0,
        cmd (0x2000 + place 0x40 0 4096 (node0 1)), (by unfold State.adminHas; decide +kernel), (by decide +kernel), (by decide +kernel),
        (by decide +kernel), (by decide +kernel), (by decide +kernel), (by decide +kernel)⟩
  · exact ⟨doing (cmd (0x2000 + place 0x40 0 4096 (node0 1))) { devQ with trees := [(0x77, tree0)] }, 0,
        cmd (0x2000 + place 0x40 0 4096 (node0 1)), tree0, (by unfold State.adminHas; decide +kernel), (by decide +kernel),
        (by decide +kernel), (by decide +kernel), (by decide +kernel)⟩
  · exact ⟨doing (cmd (0x2100 + place 4 0 16 0x77)) { devQ with trees := [(0x77, tree0)] }, 0, cmd (0x2100 + place 4 0 16 0x77), tree0,
        (by unfold State.adminHas; decide +kernel), (by decide +kernel), (by decide +kernel), (by decide +kernel)⟩
  · exact ⟨doing (cmd (0x2100 + place 4 0 16 0x77)) { devQ with trees := [(0x77, { tree0 with owner := none })] }, 0,
        cmd (0x2100 + place 4 0 16 0x77), { tree0 with owner := none }, (by unfold State.adminHas; decide +kernel), (by decide +kernel),
        (by decide +kernel), (by decide +kernel)⟩
  · exact ⟨doing (cmd (0x2200 + place 0x40 0 4096 (node0 2))) { devQ with ledger := [(0x111001, 1)], trees := [(0x77, { tree0 with broken := true })] },
        0, cmd (0x2200 + place 0x40 0 4096 (node0 2)), { tree0 with broken := true }, (by unfold State.adminHas; decide +kernel),
        (by decide +kernel), (by decide +kernel), (by decide +kernel), (by decide +kernel), (by decide +kernel), (by decide +kernel),
        (by decide +kernel), (by decide +kernel)⟩
  · exact ⟨node0 1, 9, (by decide +kernel)⟩
  · exact ⟨node0 1, 5, (by decide +kernel)⟩

theorem witness_PorterChannelCommands :
    (∃ (s : State) (fn : Nat) (c : AdminCmd) (ch : _) (s' : _), (s.adminHas fn 0x28 c) ∧ (Bind.ok fn c.raw = true) ∧
       (Bind.pd c.raw ∈ (s.fn fn).pds) ∧ (s.lookupOpt fn (Bind.eq c.raw) .eq = Res.done) ∧ (s.slotInUse fn (Bind.slot c.raw) = false) ∧
       (s.choose (fun ch => (s.chan ch).state != .unbound) 0 16 = (some ch, s'))) ∧
    (∃ (s : State) (fn : Nat) (c : AdminCmd) (ch : _), (bits c.raw 4 0 4 = ch) ∧ (bits c.raw 4 4 28 = 0) ∧ ((s.chan ch).state ≠ .unbound) ∧
       ((s.chan ch).fn = fn) ∧ (s.adminHas fn 0x29 c) ∧ ((s.chan ch).idle = true)) ∧
    (∃ (s : State) (fn : Nat) (c : AdminCmd) (ch : _), (bits c.raw 4 0 4 = ch) ∧ (bits c.raw 4 4 28 = 0) ∧ ((s.chan ch).state ≠ .unbound) ∧
       ((s.chan ch).fn = fn) ∧ (s.adminHas fn 0x29 c) ∧ ((s.chan ch).idle = false)) ∧
    (∃ (s : State) (fn : Nat) (c : AdminCmd) (ch : _), (bits c.raw 4 0 4 = ch) ∧ (bits c.raw 4 4 28 = 0) ∧ ((s.chan ch).state ≠ .unbound) ∧
       ((s.chan ch).fn = fn) ∧ (s.adminHas fn 0x2A c) ∧ ((s.chan ch).halted = true)) ∧
    (∃ (s : State) (fn : Nat) (c : AdminCmd) (ch : _), (bits c.raw 4 0 4 = ch) ∧ (bits c.raw 4 4 28 = 0) ∧ ((s.chan ch).state ≠ .unbound) ∧
       ((s.chan ch).fn = fn) ∧ (s.adminHas fn 0x2A c) ∧ ((s.chan ch).halted = false)) ∧
    (∃ (s : State) (fn : Nat) (c : AdminCmd) (ch : _), (bits c.raw 4 0 4 = ch) ∧ (bits c.raw 4 4 28 = 0) ∧ ((s.chan ch).state ≠ .unbound) ∧
       ((s.chan ch).fn = fn) ∧ (s.adminHas fn 0x2B c) ∧ ((s.chan ch).halted = true)) ∧
    (∃ (s : State) (fn : Nat) (c : AdminCmd) (ch : _), (bits c.raw 4 0 4 = ch) ∧ (bits c.raw 4 4 28 = 0) ∧ ((s.chan ch).state ≠ .unbound) ∧
       ((s.chan ch).fn = fn) ∧ (s.adminHas fn 0x2B c) ∧ ((s.chan ch).halted = false)) ∧
    (∃ (s : State) (fn : Nat) (c : AdminCmd) (ch : _), (bits c.raw 4 0 4 = ch) ∧ (bits c.raw 4 4 28 = 0) ∧ ((s.chan ch).state ≠ .unbound) ∧
       ((s.chan ch).fn = fn) ∧ (s.adminHas fn 0x2C c) ∧ ((s.chan ch).halted = true)) ∧
    (∃ (s : State) (fn : Nat) (c : AdminCmd) (ch : _), (bits c.raw 4 0 4 = ch) ∧ (bits c.raw 4 4 28 = 0) ∧ ((s.chan ch).state ≠ .unbound) ∧
       ((s.chan ch).fn = fn) ∧ (s.adminHas fn 0x2C c) ∧ ((s.chan ch).halted = false)) ∧
    (∃ (s : State) (fn : Nat) (c : AdminCmd) (ch : _), (bits c.raw 4 0 4 = ch) ∧ (bits c.raw 4 4 28 = 0) ∧ ((s.chan ch).state ≠ .unbound) ∧
       ((s.chan ch).fn = fn) ∧ (s.adminHas fn 0x2D c) ∧ ((s.chan ch).halted = true)) ∧
    (∃ (s : State) (fn : Nat) (c : AdminCmd) (ch : _), (bits c.raw 4 0 4 = ch) ∧ (bits c.raw 4 4 28 = 0) ∧ ((s.chan ch).state ≠ .unbound) ∧
       ((s.chan ch).fn = fn) ∧ (s.adminHas fn 0x2D c) ∧ ((s.chan ch).halted = false)) := by
  refine ⟨?_, ?_, ?_, ?_, ?_, ?_, ?_, ?_, ?_, ?_, ?_⟩
  · obtain ⟨x, s', e, -, -⟩ := State.choose_finds (doing (cmd (0x2800 + place 0x40 0 64 4096 + place 0x48 0 4 8 + place 0x48 8 9 256 + place 0x4C 0 16 5 + place 0x4C 16 16 3 + place 0x50 0 16 21))) (fun ch => ((doing (cmd (0x2800 + place 0x40 0 64 4096 + place 0x48 0 4 8 + place 0x48 8 9 256 + place 0x4C 0 16 5 + place 0x4C 16 16 3 + place 0x50 0 16 21))).chan ch).state != .unbound) 0 16 3 (by decide) (by decide +kernel)
    exact ⟨doing (cmd (0x2800 + place 0x40 0 64 4096 + place 0x48 0 4 8 + place 0x48 8 9 256 + place 0x4C 0 16 5 + place 0x4C 16 16 3 + place 0x50 0 16 21)), 0, cmd (0x2800 + place 0x40 0 64 4096 + place 0x48 0 4 8 + place 0x48 8 9 256 + place 0x4C 0 16 5 + place 0x4C 16 16 3 + place 0x50 0 16 21), x, s', (by unfold State.adminHas; decide +kernel), (by decide +kernel), (by decide +kernel), (by decide +kernel), (by decide +kernel), (e)⟩
  · exact ⟨doing (cmd (0x2900 + place 4 0 4 2)), 0, cmd (0x2900 + place 4 0 4 2), 2, (by decide +kernel), (by decide +kernel),
        (by decide +kernel), (by decide +kernel), (by unfold State.adminHas; decide +kernel), (by decide +kernel)⟩
  · exact ⟨doing (cmd (0x2900 + place 4 0 4 2)) { devQ with porter := [(2, { chan0 with pi := 3 })] }, 0, cmd (0x2900 + place 4 0 4 2), 2,
        (by decide +kernel), (by decide +kernel), (by decide +kernel), (by decide +kernel), (by unfold State.adminHas; decide +kernel),
        (by decide +kernel)⟩
  · exact ⟨doing (cmd (0x2A00 + place 4 0 4 2)) { devQ with porter := [(2, { chan0 with state := .stopped })] }, 0,
        cmd (0x2A00 + place 4 0 4 2), 2, (by decide +kernel), (by decide +kernel), (by decide +kernel), (by decide +kernel),
        (by unfold State.adminHas; decide +kernel), (by decide +kernel)⟩
  · exact ⟨doing (cmd (0x2A00 + place 4 0 4 2)), 0, cmd (0x2A00 + place 4 0 4 2), 2, (by decide +kernel), (by decide +kernel),
        (by decide +kernel), (by decide +kernel), (by unfold State.adminHas; decide +kernel), (by decide +kernel)⟩
  · exact ⟨doing (cmd (0x2B00 + place 4 0 4 2)) { devQ with porter := [(2, { chan0 with state := .paused })] }, 0, cmd (0x2B00 + place 4 0 4 2),
        2, (by decide +kernel), (by decide +kernel), (by decide +kernel), (by decide +kernel), (by unfold State.adminHas; decide +kernel),
        (by decide +kernel)⟩
  · exact ⟨doing (cmd (0x2B00 + place 4 0 4 2)) { devQ with porter := [(2, { chan0 with pi := 3 })] }, 0, cmd (0x2B00 + place 4 0 4 2), 2,
        (by decide +kernel), (by decide +kernel), (by decide +kernel), (by decide +kernel), (by unfold State.adminHas; decide +kernel),
        (by decide +kernel)⟩
  · exact ⟨doing (cmd (0x2C00 + place 4 0 4 2)) { devQ with porter := [(2, { chan0 with state := .paused })] }, 0, cmd (0x2C00 + place 4 0 4 2),
        2, (by decide +kernel), (by decide +kernel), (by decide +kernel), (by decide +kernel), (by unfold State.adminHas; decide +kernel),
        (by decide +kernel)⟩
  · exact ⟨doing (cmd (0x2C00 + place 4 0 4 2)), 0, cmd (0x2C00 + place 4 0 4 2), 2, (by decide +kernel), (by decide +kernel),
        (by decide +kernel), (by decide +kernel), (by unfold State.adminHas; decide +kernel), (by decide +kernel)⟩
  · exact ⟨doing (cmd (0x2D00 + place 4 0 4 2)) { devQ with porter := [(2, { chan0 with state := .paused, pi := 3 })] }, 0,
        cmd (0x2D00 + place 4 0 4 2), 2, (by decide +kernel), (by decide +kernel), (by decide +kernel), (by decide +kernel),
        (by unfold State.adminHas; decide +kernel), (by decide +kernel)⟩
  · exact ⟨doing (cmd (0x2D00 + place 4 0 4 2)) { devQ with porter := [(2, { chan0 with pi := 3 })] }, 0, cmd (0x2D00 + place 4 0 4 2), 2,
        (by decide +kernel), (by decide +kernel), (by decide +kernel), (by decide +kernel), (by unfold State.adminHas; decide +kernel),
        (by decide +kernel)⟩

theorem witness_BootChannelCommands :
    (∃ (s : State) (p : HPort) (seq : Nat) (c : Instr) (n : _), (s.reachableFn (portPf p) = true) ∧ (c = .loadFirmware p seq ∧ n = 1 ∨
       c = .stageFirmware p seq ∧ n = 2 ∨ c = .readLog p seq ∧ n = 3 ∨ c = .ping p seq ∧ n = 4 ∨ c = .bootUnknownCommand p seq n) ∧
       ((s.boot p).running ≠ none)) ∧
    (∃ (s : State) (p : HPort), (s.reachableFn (portPf p) = true) ∧ ((s.boot p).running = none)) ∧
    (∃ (s : State) (p : HPort), (s.reachableFn (portPf p) = true) ∧ ((s.boot p).running = none)) ∧
    (∃ (s : State) (p : HPort), (s.reachableFn (portPf p) = true) ∧ ((s.boot p).running = none) ∧ (s.life = .sealed) ∧
       ((s.boot p).lenOk = true) ∧ (s.clerk.loader = none) ∧ (s.awake (portPf p) = true)) ∧
    (∃ (s : State) (p : HPort), (s.reachableFn (portPf p) = true) ∧ ((s.boot p).running = none) ∧ (s.life ≠ .sealed)) ∧
    (∃ (s : State) (p : HPort), (s.reachableFn (portPf p) = true) ∧ ((s.boot p).running = none) ∧ (s.stagingCode = Lres.ok) ∧
       ((s.boot p).lenOk = true) ∧ (s.awake (portPf p) = true)) ∧
    (∃ (s : State) (p : HPort), (s.reachableFn (portPf p) = true) ∧ ((s.boot p).running = none) ∧ ((s.boot p).lenOk = true) ∧
       (s.awake (portPf p) = true) ∧ (s.beadle.log ≠ [])) ∧
    (∃ (s : State) (p : HPort), (s.reachableFn (portPf p) = true) ∧ ((s.boot p).running = none) ∧ ((s.boot p).lenOk = false)) := by
  refine ⟨?_, ?_, ?_, ?_, ?_, ?_, ?_, ?_⟩
  · exact ⟨{ dev with bootA := { Boot.fresh with running := some (1, 5) } }, .A, 7, .ping .A 7, 4, (by decide +kernel), (by decide +kernel),
        (by decide +kernel)⟩
  · exact ⟨dev, .A, (by decide +kernel), (by decide +kernel)⟩
  · exact ⟨dev, .A, (by decide +kernel), (by decide +kernel)⟩
  · exact ⟨{ State.reset with hostB := up, bootB := { Boot.fresh with len := 124 } }, .B, (by decide +kernel), (by decide +kernel),
        (by decide +kernel), (by decide +kernel), (by decide +kernel), (by decide +kernel)⟩
  · exact ⟨dev, .A, (by decide +kernel), (by decide +kernel), (by decide +kernel)⟩
  · exact ⟨{ dev with bootA := { Boot.fresh with len := 124 } }, .A, (by decide +kernel), (by decide +kernel), (by decide +kernel),
        (by decide +kernel), (by decide +kernel)⟩
  · exact ⟨{ dev with bootA := { Boot.fresh with len := 124 }, beadle := { Beadle.fresh with log := [1] } }, .A, (by decide +kernel),
        (by decide +kernel), (by decide +kernel), (by decide +kernel), (by decide +kernel)⟩
  · exact ⟨dev, .A, (by decide +kernel), (by decide +kernel), (by decide +kernel)⟩

theorem witness_FirmwareLoadsAndChangeover :
    (∃ (s : State) (r : FwRead), (s.loading = true) ∧ (s.clerk.pmemReady = true) ∧ (s.life = .sealed) ∧
       (fwResult (s.loadedBytes r) r.signatureOk = 0)) ∧
    (∃ (s : State) (r : FwRead), (s.loading = true) ∧ (s.clerk.pmemReady = true) ∧ (s.life = .sealed) ∧
       (fwResult (s.loadedBytes r) r.signatureOk ≠ 0)) ∧
    (∃ (s : State), (s.loading = true) ∧ (s.life = .setup ∨ s.life = .open_)) ∧
    (∃ (s : State) (p : _) (cmd : _) (seq : _), (s.clerk.loader = some (.boot p)) ∧ ((s.boot p).running = some (cmd, seq))) ∧
    (∃ (d : _) (ok_ : _), (fwResult (some d) ok_ = 0)) ∧
    (∃ (s : State) (b : _), (s.clerk.switchBell = some b) ∧ (b ≤ s.bell) ∧ (s.clerk.pausedAt = none)) ∧
    (∃ (s : State) (b : _), (s.clerk.switchBell = some b) ∧ (s.bell < b)) ∧
    (∃ (s : State) (t : _), (s.clerk.pausedAt = some t) ∧ (s.clerk.switchBell ≠ none) ∧ (s.ticks < t + 3)) ∧
    (∃ (s : State) (t : _), (s.clerk.pausedAt = some t) ∧ (s.clerk.switchBell ≠ none) ∧ (t + 3 ≤ s.ticks)) ∧
    (∃ (s : State) (t : _), (s.clerk.pausedAt = some t) ∧ (t + 4 ≤ s.ticks) ∧ (s.clerk.switchBell = none) ∧ (s.clerk.queue = []) ∧
       (s.deferred = [])) ∧
    (∃ (s : State) (t : _), (s.clerk.pausedAt = some t) ∧ (s.ticks < t + 4)) := by
  refine ⟨?_, ?_, ?_, ?_, ?_, ?_, ?_, ?_, ?_, ?_, ?_⟩
  · exact ⟨{ State.reset with hostB := up, bootB := { Boot.fresh with len := 124, running := some (1, 7) }, clerk := { Clerk.fresh with pmemReady := true, loader := some (.boot .B) } },
        ⟨some image0, true⟩, (by decide +kernel), (by decide +kernel), (by decide +kernel), (image0_good)⟩
  · exact ⟨{ State.reset with hostB := up, bootB := { Boot.fresh with len := 124, running := some (1, 7) }, clerk := { Clerk.fresh with pmemReady := true, loader := some (.boot .B) } },
        ⟨some [], true⟩, (by decide +kernel), (by decide +kernel), (by decide +kernel), (by decide +kernel)⟩
  · exact ⟨{ dev with bootA := { Boot.fresh with len := 124, running := some (2, 7) }, clerk := { Clerk.fresh with loader := some (.boot .A) } },
        (by decide +kernel), (by decide +kernel)⟩
  · exact ⟨{ dev with bootA := { Boot.fresh with len := 124, running := some (2, 7) }, clerk := { Clerk.fresh with loader := some (.boot .A) } },
        HPort.A, 2, 7, (by decide +kernel), (by decide +kernel)⟩
  · exact ⟨image0, true, (image0_good)⟩
  · exact ⟨{ dev with clerk := { Clerk.fresh with switchBell := some 0, staged := 2 } }, 0, (by decide +kernel), (by decide +kernel),
        (by decide +kernel)⟩
  · exact ⟨{ dev with clerk := { Clerk.fresh with switchBell := some 1, staged := 2 } }, 1, (by decide +kernel), (by decide +kernel)⟩
  · exact ⟨{ dev with clerk := { Clerk.fresh with switchBell := some 4998, staged := 2, pausedAt := some 4998, stagedVersion := 5 } }, 4998,
        (by decide +kernel), (by decide +kernel), (by decide +kernel)⟩
  · exact ⟨{ dev with clerk := { Clerk.fresh with switchBell := some 4997, staged := 2, pausedAt := some 4997, stagedVersion := 5 } }, 4997,
        (by decide +kernel), (by decide +kernel), (by decide +kernel)⟩
  · exact ⟨{ dev with clerk := { Clerk.fresh with pausedAt := some 4996 } }, 4996, (by decide +kernel), (by decide +kernel),
        (by decide +kernel), (by decide +kernel), (by decide +kernel)⟩
  · exact ⟨{ dev with clerk := { Clerk.fresh with pausedAt := some 4997 } }, 4997, (by decide +kernel), (by decide +kernel)⟩

theorem witness_LedgerAdminCommands :
    (∃ (s : State) (fn : Nat) (c : AdminCmd), (fnIsPf fn = true) ∧ (Lcmd.clean c.raw = true) ∧ (s.adminHas fn 0x30 c) ∧
       (Lcmd.report c.raw % 8 = 0) ∧ (s.clerk.pausedAt = none)) ∧
    (∃ (s : State) (fn : Nat) (c : AdminCmd) (t : _), (fnIsPf fn = true) ∧ (Lcmd.clean c.raw = true) ∧ (s.adminHas fn 0x30 c) ∧
       (Lcmd.report c.raw % 8 = 0) ∧ (s.clerk.pausedAt = some t)) ∧
    (∃ (s : State) (fn : Nat) (c : AdminCmd), (fnIsPf fn = true) ∧ (Lcmd.clean c.raw = true) ∧ (s.adminHas fn 0x31 c) ∧
       (Lcmd.report c.raw = 0) ∧ (s.stagingCode = Lres.ok)) ∧
    (∃ (s : State) (fn : Nat) (c : AdminCmd), (fnIsPf fn = true) ∧ (Lcmd.clean c.raw = true) ∧ (s.adminHas fn 0x31 c) ∧
       (Lcmd.report c.raw = 0) ∧ (s.life ≠ .setup) ∧ (s.life ≠ .open_)) ∧
    (∃ (s : State) (fn : Nat) (c : AdminCmd), (fnIsPf fn = true) ∧ (Lcmd.clean c.raw = true) ∧ (s.adminHas fn 0x32 c) ∧
       (Lcmd.report c.raw = 0) ∧ (Lcmd.len c.raw = 0) ∧ (s.clerk.staged = 2) ∧ (s.life = .setup ∨ s.life = .open_) ∧
       (s.clerk.switchBell = none) ∧ (s.bell + 16 ≤ Lcmd.addr c.raw)) ∧
    (∃ (s : State) (fn : Nat) (c : AdminCmd), (fnIsPf fn = true) ∧ (Lcmd.clean c.raw = true) ∧ (s.adminHas fn 0x32 c) ∧
       (Lcmd.report c.raw = 0) ∧ (Lcmd.len c.raw = 0) ∧ (s.clerk.staged = 2) ∧ (s.life = .setup ∨ s.life = .open_) ∧
       (s.clerk.switchBell = none) ∧ (Lcmd.addr c.raw < s.bell + 16)) := by
  refine ⟨?_, ?_, ?_, ?_, ?_, ?_⟩
  · exact ⟨doing (cmd (0x3000 + place 0x40 0 64 65536 + place 0x48 0 32 40 + place 0x50 0 64 131072)), 0,
        cmd (0x3000 + place 0x40 0 64 65536 + place 0x48 0 32 40 + place 0x50 0 64 131072), (by decide +kernel), (by decide +kernel),
        (by unfold State.adminHas; decide +kernel), (by decide +kernel), (by decide +kernel)⟩
  · exact ⟨doing (cmd (0x3000 + place 0x40 0 64 65536 + place 0x48 0 32 40 + place 0x50 0 64 131072)) { devQ with clerk := { Clerk.fresh with pausedAt := some 4999 } },
        0, cmd (0x3000 + place 0x40 0 64 65536 + place 0x48 0 32 40 + place 0x50 0 64 131072), 4999, (by decide +kernel),
        (by decide +kernel), (by unfold State.adminHas; decide +kernel), (by decide +kernel), (by decide +kernel)⟩
  · exact ⟨doing (cmd (0x3100 + place 0x40 0 64 65536 + place 0x48 0 32 124)), 0, cmd (0x3100 + place 0x40 0 64 65536 + place 0x48 0 32 124),
        (by decide +kernel), (by decide +kernel), (by unfold State.adminHas; decide +kernel), (by decide +kernel), (by decide +kernel)⟩
  · exact ⟨doing (cmd (0x3100 + place 0x40 0 64 65536 + place 0x48 0 32 124)) { devQ with life := .shutter }, 0,
        cmd (0x3100 + place 0x40 0 64 65536 + place 0x48 0 32 124), (by decide +kernel), (by decide +kernel),
        (by unfold State.adminHas; decide +kernel), (by decide +kernel), (by decide +kernel), (by decide +kernel)⟩
  · exact ⟨doing (cmd (0x3200 + place 0x40 0 64 16)) { devQ with clerk := { Clerk.fresh with staged := 2 } }, 0,
        cmd (0x3200 + place 0x40 0 64 16), (by decide +kernel), (by decide +kernel), (by unfold State.adminHas; decide +kernel),
        (by decide +kernel), (by decide +kernel), (by decide +kernel), (by decide +kernel), (by decide +kernel), (by decide +kernel)⟩
  · exact ⟨doing (cmd (0x3200 + place 0x40 0 64 15)) { devQ with clerk := { Clerk.fresh with staged := 2 } }, 0,
        cmd (0x3200 + place 0x40 0 64 15), (by decide +kernel), (by decide +kernel), (by unfold State.adminHas; decide +kernel),
        (by decide +kernel), (by decide +kernel), (by decide +kernel), (by decide +kernel), (by decide +kernel), (by decide +kernel)⟩

theorem witness_TranslationMisses :
    (∃ (s : State) (id : _) (m : _), (Tab.look s.misses id = some m) ∧ (m.raised + m.limit * 4096 ≤ s.ticks * 4096)) ∧
    (∃ (s : State) (id : _) (m : _), (Tab.look s.misses id = some m) ∧ (s.ticks * 4096 < m.raised + m.limit * 4096)) ∧
    (∃ (s : State) (fn : Nat) (q : MissQueue) (r : _) (rest : _) (k : Key), ((s.fn fn).missq = some q) ∧ (q.fills = r :: rest) ∧
       (Fill.opcode r = 1) ∧ (s.keyOf (Fill.key r) = some k) ∧ (k.ask = true) ∧ (k.handler = true) ∧ (k.fn = fn) ∧
       (Pte.leafOk (Fill.leaf r) = true) ∧ (s.leafClear (Fill.leaf r) (Fill.va r / 4096) = true) ∧ (Fill.va r / 4096 < 2 ^ 36) ∧
       (Fill.miss r ∉ Tab.keys s.misses)) ∧
    (∃ (s : State) (fn : Nat) (q : MissQueue) (r : _) (rest : _) (k : Key) (m : _), ((s.fn fn).missq = some q) ∧ (q.fills = r :: rest) ∧
       (Fill.opcode r = 1) ∧ (s.keyOf (Fill.key r) = some k) ∧ (k.ask = true) ∧ (k.handler = true) ∧ (k.fn = fn) ∧
       (Pte.leafOk (Fill.leaf r) = true) ∧ (s.leafClear (Fill.leaf r) (Fill.va r / 4096) = true) ∧ (Fill.va r / 4096 < 2 ^ 36) ∧
       (Tab.look s.misses (Fill.miss r) = some m) ∧ (m.key = keyIndex (Fill.key r))) ∧
    (∃ (s : State) (fn : Nat) (q : MissQueue) (r : _) (rest : _) (k : Key) (m : _), ((s.fn fn).missq = some q) ∧ (q.fills = r :: rest) ∧
       (Fill.opcode r = 2) ∧ (s.keyOf (Fill.key r) = some k) ∧ (k.ask = true) ∧ (k.handler = true) ∧ (k.fn = fn) ∧
       (Tab.look s.misses (Fill.miss r) = some m) ∧ (m.key = keyIndex (Fill.key r))) ∧
    (∃ (s : State) (fn : Nat) (c : Instr) (q : MissQueue) (r : _) (rest : _), ((c = .fill fn ∧ Fill.opcode r = 1 ∨ c = .fault fn ∧
       Fill.opcode r = 2)) ∧ ((s.fn fn).missq = some q) ∧ (q.fills = r :: rest) ∧ (s.keyOf (Fill.key r) = none)) ∧
    (∃ (s : State), (s.tlb.length < 2097152)) ∧
    (∃ (s : State) (e : Tlb) (x : Tlb), (x ∈ (s.loadTlb e).tlb)) ∧
    (∃ (s : State) (e : Tlb) (x : Tlb), (x ∈ (s.loadTlb e).tlb) ∧ (x.index = e.index)) := by
  refine ⟨?_, ?_, ?_, ?_, ?_, ?_, ?_, ?_, ?_⟩
  · exact ⟨{ devQ with misses := [(7, miss0)] }, 7, miss0, (by decide +kernel), (by decide +kernel)⟩
  · exact ⟨{ devQ with misses := [(7, { miss0 with raised := 20480000 })] }, 7, { miss0 with raised := 20480000 }, (by decide +kernel),
        (by decide +kernel)⟩
  · exact ⟨{ devQ with keys := [(1, { key0 with ask := true, handler := true })], fns := [(0, { fn0 with missq := some ⟨6, 24576, 4, 0, 0, 28672, 4, 1, 0, false, [fill0], 3, false⟩ })] },
        0, ⟨6, 24576, 4, 0, 0, 28672, 4, 1, 0, false, [fill0], 3, false⟩, fill0, [], { key0 with ask := true, handler := true },
        (by decide +kernel), (by decide +kernel), (by decide +kernel), (by decide +kernel), (by decide +kernel), (by decide +kernel),
        (by decide +kernel), (by decide +kernel), (by decide +kernel), (by decide +kernel), (by decide +kernel)⟩
  · exact ⟨{ devQ with misses := [(9, miss0)], keys := [(1, { key0 with ask := true, handler := true })], fns := [(0, { fn0 with missq := some ⟨6, 24576, 4, 0, 0, 28672, 4, 1, 0, false, [fill0], 3, false⟩ })] },
        0, ⟨6, 24576, 4, 0, 0, 28672, 4, 1, 0, false, [fill0], 3, false⟩, fill0, [], { key0 with ask := true, handler := true }, miss0,
        (by decide +kernel), (by decide +kernel), (by decide +kernel), (by decide +kernel), (by decide +kernel), (by decide +kernel),
        (by decide +kernel), (by decide +kernel), (by decide +kernel), (by decide +kernel), (by decide +kernel), (by decide +kernel)⟩
  · exact ⟨{ devQ with misses := [(9, miss0)], keys := [(1, { key0 with ask := true, handler := true })], fns := [(0, { fn0 with missq := some ⟨6, 24576, 4, 0, 0, 28672, 4, 1, 0, false, [fill0 + 256], 3, false⟩ })] },
        0, ⟨6, 24576, 4, 0, 0, 28672, 4, 1, 0, false, [fill0 + 256], 3, false⟩, fill0 + 256, [], { key0 with ask := true, handler := true },
        miss0, (by decide +kernel), (by decide +kernel), (by decide +kernel), (by decide +kernel), (by decide +kernel), (by decide +kernel),
        (by decide +kernel), (by decide +kernel), (by decide +kernel)⟩
  · exact ⟨{ devQ with keys := [], fns := [(0, { fn0 with missq := some ⟨6, 24576, 4, 0, 0, 28672, 4, 1, 0, false, [fill0], 3, false⟩ })] }, 0,
        .fill 0, ⟨6, 24576, 4, 0, 0, 28672, 4, 1, 0, false, [fill0], 3, false⟩, fill0, [], (by decide +kernel), (by decide +kernel),
        (by decide +kernel), (by decide +kernel)⟩
  · exact ⟨{ devQ with tlb := [⟨1, 0, 2, 5, true, false, false, 0, false, true⟩] }, (by decide +kernel)⟩
  · exact ⟨{ devQ with tlb := [⟨1, 0, 1, 5, true, false, false, 0, false, true⟩] }, ⟨1, 1, 1, 9, true, false, false, 0, false, true⟩, ⟨1, 0, 1,
        5, true, false, false, 0, false, true⟩, (by decide +kernel)⟩
  · exact ⟨{ devQ with tlb := [⟨1, 0, 1, 5, true, false, false, 0, false, true⟩] }, ⟨1, 1, 1, 9, true, false, false, 0, false, true⟩, ⟨1, 0, 1,
        5, true, false, false, 0, false, true⟩, (by decide +kernel), (by decide +kernel)⟩

theorem witness_EntriesStart :
    (∃ (s : State) (n : Nat) (q : Qp) (w : Wqe) (c : Instr), ((c = .send n ∧ Ent.opcode w.raw = 0x01 ∨ c = .put n ∧ Ent.opcode w.raw = 0x02 ∨
       c = .putFlag n ∧ Ent.opcode w.raw = 0x03 ∨ c = .get n ∧ Ent.opcode w.raw = 0x04 ∨ c = .atomic n ∧ Ent.opcode w.raw = 0x05 ∨
       c = .tsend n ∧ Ent.opcode w.raw = 0x10 ∨ c = .durablePut n ∧ Ent.opcode w.raw = 0x06 ∧
       s.durableInit + Ent.len w.raw ≤ s.openParam 0xE02001)) ∧ (s.ripe n .fetched = some (q, w)) ∧ (Ent.atTime w.raw = 0) ∧
       (s.localOk q w = Status.ok) ∧ (q.st = false) ∧ (s.resident (ctKey n) = true)) ∧
    (∃ (s : State) (n : Nat) (q : Qp) (w : Wqe) (c : Instr) (u : _), ((c = .send n ∧ Ent.opcode w.raw = 0x01 ∨ c = .put n ∧
       Ent.opcode w.raw = 0x02 ∨ c = .putFlag n ∧ Ent.opcode w.raw = 0x03 ∨ c = .get n ∧ Ent.opcode w.raw = 0x04 ∨ c = .atomic n ∧
       Ent.opcode w.raw = 0x05 ∨ c = .tsend n ∧ Ent.opcode w.raw = 0x10 ∨ c = .durablePut n ∧ Ent.opcode w.raw = 0x06 ∧
       s.durableInit + Ent.len w.raw ≤ s.openParam 0xE02001)) ∧ (s.ripe n .fetched = some (q, w)) ∧ (Ent.atTime w.raw = 0) ∧
       (s.localOk q w = Status.ok) ∧ (q.st = true) ∧ (s.needSt (fnPort q.fn) (Ent.destDev w.raw) q.tc = some u) ∧
       (u.resident (stKey (fnPort q.fn) (Ent.destDev w.raw) q.tc) = true)) ∧
    (∃ (s : State) (n : Nat) (q : Qp) (w : Wqe) (c : Instr), ((c = .send n ∧ Ent.opcode w.raw = 0x01 ∨ c = .put n ∧ Ent.opcode w.raw = 0x02 ∨
       c = .putFlag n ∧ Ent.opcode w.raw = 0x03 ∨ c = .get n ∧ Ent.opcode w.raw = 0x04 ∨ c = .atomic n ∧ Ent.opcode w.raw = 0x05 ∨
       c = .tsend n ∧ Ent.opcode w.raw = 0x10 ∨ c = .durablePut n ∧ Ent.opcode w.raw = 0x06 ∧
       s.durableInit + Ent.len w.raw ≤ s.openParam 0xE02001)) ∧ (s.ripe n .fetched = some (q, w)) ∧ (Ent.atTime w.raw = 0) ∧
       (s.localOk q w ≠ Status.ok)) ∧
    (∃ (q : Qp), (q.st = false)) ∧
    (∃ (q : Qp), (q.st = true)) ∧
    (∃ (w : Wqe) (t : _), ((t = 0x01 ∨ t = 0x02 ∨ t = 0x03 ∨ t = 0x04 ∨ t = 0x05 ∨ t = 0x06)) ∧ (Ent.opcode w.raw = t)) ∧
    (∃ (w : Wqe), (Ent.opcode w.raw = 0x10)) ∧
    (∃ (w : Wqe) (t : _), ((t = 0x01 ∨ t = 0x02 ∨ t = 0x06)) ∧ (Ent.opcode w.raw = t)) ∧
    (∃ (w : Wqe) (t : _), ((t = 0x01 ∨ t = 0x02 ∨ t = 0x06)) ∧ (Ent.opcode w.raw = t) ∧ (Ent.inline w.raw = 1)) ∧
    (∃ (w : Wqe) (t : _), ((t = 0x01 ∨ t = 0x02 ∨ t = 0x06)) ∧ (Ent.opcode w.raw = t) ∧ (Ent.inline w.raw ≠ 1)) := by
  refine ⟨?_, ?_, ?_, ?_, ?_, ?_, ?_, ?_, ?_, ?_⟩
  · exact ⟨devT (went (0x200 + sides)), 100, qpw (went (0x200 + sides)), went (0x200 + sides), .put 100, (by decide +kernel),
        (by decide +kernel), (by decide +kernel), (by decide +kernel), (by decide +kernel), (by decide +kernel)⟩
  · exact ⟨{ devT (went (0x200 + sides + place 0x24 0 18 9)) with qps := [(100, { qpw (went (0x200 + sides + place 0x24 0 18 9)) with st := true })], ctxs := [(0x1000012, ctx0)] },
        100, { qpw (went (0x200 + sides + place 0x24 0 18 9)) with st := true }, went (0x200 + sides + place 0x24 0 18 9), .put 100,
        { devT (went (0x200 + sides + place 0x24 0 18 9)) with qps := [(100, { qpw (went (0x200 + sides + place 0x24 0 18 9)) with st := true })], ctxs := [(0x1000012, ctx0)] },
        (by decide +kernel), (by decide +kernel), (by decide +kernel), (by decide +kernel), (by decide +kernel), (by decide +kernel),
        (by decide +kernel)⟩
  · exact ⟨{ devT (went (0x500 + sides)) with keys := [] }, 100, qpw (went (0x500 + sides)), went (0x500 + sides), .atomic 100,
        (by decide +kernel), (by decide +kernel), (by decide +kernel), (by decide +kernel)⟩
  · exact ⟨qp0, (by decide +kernel)⟩
  · exact ⟨{ qp0 with st := true }, (by decide +kernel)⟩
  · exact ⟨went (0x400 + sides), 4, (by decide +kernel), (by decide +kernel)⟩
  · exact ⟨went (0x1000 + sides), (by decide +kernel)⟩
  · exact ⟨went (0x100 + sides), 1, (by decide +kernel), (by decide +kernel)⟩
  · exact ⟨went (0x40100 + sides), 1, (by decide +kernel), (by decide +kernel), (by decide +kernel)⟩
  · exact ⟨went (0x600 + sides), 6, (by decide +kernel), (by decide +kernel), (by decide +kernel)⟩

theorem witness_PacketsCoverTheMessage :
    (∃ (t : Nat) (raddr : Nat) (len : Nat) (x : _), (x ∈ cutMessage t raddr len)) ∧
    (∃ (t : Nat) (raddr : Nat) (len : Nat) (x : _), (x ∈ cutMessage t raddr len) ∧ (len ≠ 0)) ∧
    (∃ (t : Nat) (raddr : Nat) (len : Nat) (x : _), (x ∈ cutMessage t raddr len)) ∧
    (∃ (t : Nat) (raddr : Nat) (len : Nat) (i : _) (x : _) (y : _), ((cutMessage t raddr len)[i]? = some x) ∧
       ((cutMessage t raddr len)[i + 1]? = some y)) ∧
    (∃ (t : Nat) (raddr : Nat) (len : Nat) (p : Packet), (rangeType t = true) ∧ (p.ptype = t) ∧ (Packet.raddr p = raddr) ∧
       (Packet.msgLen p = len) ∧ ((Packet.offset p, p.payload.length) ∈ cutMessage t raddr len)) := by
  refine ⟨?_, ?_, ?_, ?_, ?_⟩
  · exact ⟨2, 100, 5000, (3996, 1004), (by decide +kernel)⟩
  · exact ⟨2, 100, 5000, (3996, 1004), (by decide +kernel), (by decide +kernel)⟩
  · exact ⟨1, 100, 5000, (4096, 904), (by decide +kernel)⟩
  · exact ⟨2, 100, 5000, 0, (0, 3996), (3996, 1004), (by decide +kernel), (by decide +kernel)⟩
  · exact ⟨2, 4096, 64, pkt 2 (range 64) (List.replicate 64 5), (by decide +kernel), (by decide +kernel), (by decide +kernel),
        (by decide +kernel), (by decide +kernel)⟩

theorem witness_OtherEntriesStart :
    (∃ (s : State) (n : Nat) (q : Qp) (w : Wqe) (c : Instr) (t : Nat), ((c = .replDurablePut n ∧ Ent.opcode w.raw = 0x07 ∧ t = 7 ∧
       Ent.k w.raw ≤ Mcast.count (Tab.num s.mcast (Ent.destQueue w.raw)) ∧ s.durableInit + Ent.len w.raw ≤ s.openParam 0xE02001 ∨
       c = .mcastPut n ∧ Ent.opcode w.raw = 0x08 ∧ t = 8)) ∧ (s.ripe n .fetched = some (q, w)) ∧ (Ent.atTime w.raw = 0) ∧
       (Mcast.valid (Tab.num s.mcast (Ent.destQueue w.raw)) = true) ∧ (s.localOk q w = Status.ok) ∧ (Tab.has s.ctxs (groupKey n) = true)) ∧
    (∃ (s : State) (n : Nat) (q : Qp) (w : Wqe) (c : Instr) (t : Nat), ((c = .replDurablePut n ∧ Ent.opcode w.raw = 0x07 ∧ t = 7 ∧
       Ent.k w.raw ≤ Mcast.count (Tab.num s.mcast (Ent.destQueue w.raw)) ∧ s.durableInit + Ent.len w.raw ≤ s.openParam 0xE02001 ∨
       c = .mcastPut n ∧ Ent.opcode w.raw = 0x08 ∧ t = 8)) ∧ (s.ripe n .fetched = some (q, w)) ∧ (Ent.atTime w.raw = 0) ∧
       (Mcast.valid (Tab.num s.mcast (Ent.destQueue w.raw)) = false)) ∧
    (∃ (s : State) (n : Nat) (q : Qp) (w : Wqe) (c : Instr), ((c = .barrier n ∧ Ent.opcode w.raw = 0x20 ∨ c = .bcast n ∧
       Ent.opcode w.raw = 0x21 ∨ c = .reduce n ∧ Ent.opcode w.raw = 0x22 ∨ c = .allreduce n ∧ Ent.opcode w.raw = 0x23 ∨ c = .vote n ∧
       Ent.opcode w.raw = 0x24)) ∧ (s.ripe n .fetched = some (q, w)) ∧ (Ent.atTime w.raw = 0) ∧ (Tab.look s.trees (Coll.tree w.raw) = none)) ∧
    (∃ (s : State) (n : Nat) (q : Qp) (w : Wqe) (c : Instr) (t : _), ((c = .barrier n ∧ Ent.opcode w.raw = 0x20 ∨ c = .bcast n ∧
       Ent.opcode w.raw = 0x21 ∨ c = .reduce n ∧ Ent.opcode w.raw = 0x22 ∨ c = .allreduce n ∧ Ent.opcode w.raw = 0x23 ∨ c = .vote n ∧
       Ent.opcode w.raw = 0x24)) ∧ (s.ripe n .fetched = some (q, w)) ∧ (Ent.atTime w.raw = 0) ∧
       (Tab.look s.trees (Coll.tree w.raw) = some t) ∧ (Node.locals t.raw ≤ Coll.member w.raw ∨ Node.fn t.raw (Coll.member w.raw) ≠ q.fn ∨
       Node.pd t.raw (Coll.member w.raw) ≠ q.pd)) ∧
    (∃ (s : State) (n : Nat) (q : Qp) (w : Wqe) (c : Instr) (t : _), ((c = .barrier n ∧ Ent.opcode w.raw = 0x20 ∨ c = .bcast n ∧
       Ent.opcode w.raw = 0x21 ∨ c = .reduce n ∧ Ent.opcode w.raw = 0x22 ∨ c = .allreduce n ∧ Ent.opcode w.raw = 0x23 ∨ c = .vote n ∧
       Ent.opcode w.raw = 0x24)) ∧ (s.ripe n .fetched = some (q, w)) ∧ (Ent.atTime w.raw = 0) ∧
       (Tab.look s.trees (Coll.tree w.raw) = some t) ∧ (Coll.member w.raw < Node.locals t.raw) ∧ (Node.fn t.raw (Coll.member w.raw) = q.fn) ∧
       (Node.pd t.raw (Coll.member w.raw) = q.pd) ∧ (t.broken = true)) ∧
    (∃ (s : State) (n : Nat) (q : Qp) (w : Wqe) (c : Instr) (t : _), ((c = .barrier n ∧ Ent.opcode w.raw = 0x20 ∨ c = .bcast n ∧
       Ent.opcode w.raw = 0x21 ∨ c = .reduce n ∧ Ent.opcode w.raw = 0x22 ∨ c = .allreduce n ∧ Ent.opcode w.raw = 0x23 ∨ c = .vote n ∧
       Ent.opcode w.raw = 0x24)) ∧ (s.ripe n .fetched = some (q, w)) ∧ (Ent.atTime w.raw = 0) ∧
       (Tab.look s.trees (Coll.tree w.raw) = some t) ∧ (Coll.member w.raw < Node.locals t.raw) ∧ (Node.fn t.raw (Coll.member w.raw) = q.fn) ∧
       (Node.pd t.raw (Coll.member w.raw) = q.pd) ∧ (t.broken = false) ∧ (BitVec.ofNat 32 (Coll.osn w.raw) ≠ nth t.next (Coll.member w.raw))) ∧
    (∃ (s : State) (n : Nat) (q : Qp) (w : Wqe) (c : Instr) (t : _), ((c = .barrier n ∧ Ent.opcode w.raw = 0x20 ∨ c = .bcast n ∧
       Ent.opcode w.raw = 0x21 ∨ c = .reduce n ∧ Ent.opcode w.raw = 0x22 ∨ c = .allreduce n ∧ Ent.opcode w.raw = 0x23 ∨ c = .vote n ∧
       Ent.opcode w.raw = 0x24)) ∧ (s.ripe n .fetched = some (q, w)) ∧ (Ent.atTime w.raw = 0) ∧
       (Tab.look s.trees (Coll.tree w.raw) = some t) ∧ (Coll.member w.raw < Node.locals t.raw) ∧ (Node.fn t.raw (Coll.member w.raw) = q.fn) ∧
       (Node.pd t.raw (Coll.member w.raw) = q.pd) ∧ (t.broken = false) ∧
       (BitVec.ofNat 32 (Coll.osn w.raw) = nth t.next (Coll.member w.raw)) ∧ (4 ≤ (BitVec.ofNat 32 (Coll.osn w.raw) - t.oldest).toNat)) ∧
    (∃ (s : State) (n : Nat) (q : Qp) (w : Wqe) (c : Instr) (t : _), ((c = .barrier n ∧ Ent.opcode w.raw = 0x20 ∨ c = .bcast n ∧
       Ent.opcode w.raw = 0x21 ∨ c = .reduce n ∧ Ent.opcode w.raw = 0x22 ∨ c = .allreduce n ∧ Ent.opcode w.raw = 0x23 ∨ c = .vote n ∧
       Ent.opcode w.raw = 0x24)) ∧ (s.ripe n .fetched = some (q, w)) ∧ (Ent.atTime w.raw = 0) ∧
       (Tab.look s.trees (Coll.tree w.raw) = some t) ∧ (Coll.member w.raw < Node.locals t.raw) ∧ (Node.fn t.raw (Coll.member w.raw) = q.fn) ∧
       (Node.pd t.raw (Coll.member w.raw) = q.pd) ∧ (t.broken = false) ∧
       (BitVec.ofNat 32 (Coll.osn w.raw) = nth t.next (Coll.member w.raw)) ∧ ((BitVec.ofNat 32 (Coll.osn w.raw) - t.oldest).toNat < 4) ∧
       (s.localCheck q.pd q.fn (Ent.lkey w.raw) (Ent.laddr w.raw) (if (newMember (Coll.member w.raw) n w.idx w.raw).gives t.raw && Ent.opcode w.raw != 0x24 then Ent.len w.raw else 0) false = Status.ok) ∧
       (s.localCheck q.pd q.fn (Coll.resKey w.raw) (Coll.resAddr w.raw) (if (newMember (Coll.member w.raw) n w.idx w.raw).receives t.raw then (if Ent.opcode w.raw = 0x24 then 8 else Ent.len w.raw) else 0) true = Status.ok)) ∧
    (∃ (s : State) (n : Nat) (q : Qp) (w : Wqe) (c : Instr), (c = .send n ∧ Ent.opcode w.raw = 0x01 ∨ c = .put n ∧ Ent.opcode w.raw = 0x02) ∧
       (s.ripe n .fetched = some (q, w)) ∧ (Ent.atTime w.raw = 1) ∧ (0 < atAhead w.raw s.later.shortTime) ∧
       (atAhead w.raw s.later.shortTime ≤ 2 ^ 32 - 1) ∧ (s.later.localOk q w = Status.ok)) ∧
    (∃ (s : State) (n : Nat) (q : Qp) (w : Wqe) (c : Instr), (c = .send n ∧ Ent.opcode w.raw = 0x01 ∨ c = .put n ∧ Ent.opcode w.raw = 0x02) ∧
       (s.ripe n .fetched = some (q, w)) ∧ (Ent.atTime w.raw = 1) ∧ (atAhead w.raw s.later.shortTime ≤ 0)) ∧
    (∃ (s : State) (n : Nat) (q : Qp) (w : Wqe), (s.ripe n .waitTime = some (q, w)) ∧ (atAhead w.raw s.shortTime ≤ 0)) ∧
    (∃ (s : State) (n : Nat) (q : Qp) (w : Wqe), (s.ripe n .waitTime = some (q, w)) ∧ (0 < atAhead w.raw s.shortTime) ∧
       (atAhead w.raw s.shortTime < 4096 - s.sub)) ∧
    (∃ (s : State) (n : Nat) (q : Qp) (w : Wqe), (s.ripe n .waitTime = some (q, w)) ∧ (0 < atAhead w.raw s.shortTime) ∧
       (4096 - (s.sub : Int) ≤ atAhead w.raw s.shortTime)) := by
  refine ⟨?_, ?_, ?_, ?_, ?_, ?_, ?_, ?_, ?_, ?_, ?_, ?_, ?_⟩
  · exact ⟨{ devT (went (0x800 + sides + place 0x38 0 16 3)) with mcast := [(3, place 0x0C 13 1 1)], ctxs := [(0x4000064, ctx0)] }, 100,
        qpw (went (0x800 + sides + place 0x38 0 16 3)), went (0x800 + sides + place 0x38 0 16 3), .mcastPut 100, 8, (by decide +kernel),
        (by decide +kernel), (by decide +kernel), (by decide +kernel), (by decide +kernel), (by decide +kernel)⟩
  · exact ⟨devT (went (0x800 + sides + place 0x38 0 16 3)), 100, qpw (went (0x800 + sides + place 0x38 0 16 3)),
        went (0x800 + sides + place 0x38 0 16 3), .mcastPut 100, 8, (by decide +kernel), (by decide +kernel), (by decide +kernel),
        (by decide +kernel)⟩
  · exact ⟨devT (went (0x2001 + place 0x24 0 16 0x77)), 100, qpw (went (0x2001 + place 0x24 0 16 0x77)), went (0x2001 + place 0x24 0 16 0x77),
        .barrier 100, (by decide +kernel), (by decide +kernel), (by decide +kernel), (by decide +kernel)⟩
  · exact ⟨{ devT (went (0x2001 + place 0x24 0 16 0x77)) with trees := [(0x77, tree0)] }, 100, qpw (went (0x2001 + place 0x24 0 16 0x77)),
        went (0x2001 + place 0x24 0 16 0x77), .barrier 100, tree0, (by decide +kernel), (by decide +kernel), (by decide +kernel),
        (by decide +kernel), (by decide +kernel)⟩
  · exact ⟨{ devT (went (0x2001 + place 0x24 0 16 0x77)) with trees := [(0x77, { tree1 with broken := true })] }, 100,
        qpw (went (0x2001 + place 0x24 0 16 0x77)), went (0x2001 + place 0x24 0 16 0x77), .barrier 100, { tree1 with broken := true },
        (by decide +kernel), (by decide +kernel), (by decide +kernel), (by decide +kernel), (by decide +kernel), (by decide +kernel),
        (by decide +kernel), (by decide +kernel)⟩
  · exact ⟨{ devT (went (0x2401 + place 0x24 0 16 0x77 + place 0x38 0 32 1)) with trees := [(0x77, tree1)] }, 100,
        qpw (went (0x2401 + place 0x24 0 16 0x77 + place 0x38 0 32 1)), went (0x2401 + place 0x24 0 16 0x77 + place 0x38 0 32 1), .vote 100,
        tree1, (by decide +kernel), (by decide +kernel), (by decide +kernel), (by decide +kernel), (by decide +kernel), (by decide +kernel),
        (by decide +kernel), (by decide +kernel), (by decide +kernel)⟩
  · exact ⟨{ devT (went (0x2401 + place 0x24 0 16 0x77 + place 0x38 0 32 4)) with trees := [(0x77, { tree1 with next := [4] })] }, 100,
        qpw (went (0x2401 + place 0x24 0 16 0x77 + place 0x38 0 32 4)), went (0x2401 + place 0x24 0 16 0x77 + place 0x38 0 32 4), .vote 100,
        { tree1 with next := [4] }, (by decide +kernel), (by decide +kernel), (by decide +kernel), (by decide +kernel), (by decide +kernel),
        (by decide +kernel), (by decide +kernel), (by decide +kernel), (by decide +kernel), (by decide +kernel)⟩
  · exact ⟨{ devT (went (0x2001 + place 0x24 0 16 0x77 + place 0x38 0 32 3)) with trees := [(0x77, { tree1 with next := [3] })] }, 100,
        qpw (went (0x2001 + place 0x24 0 16 0x77 + place 0x38 0 32 3)), went (0x2001 + place 0x24 0 16 0x77 + place 0x38 0 32 3),
        .barrier 100, { tree1 with next := [3] }, (by decide +kernel), (by decide +kernel), (by decide +kernel), (by decide +kernel),
        (by decide +kernel), (by decide +kernel), (by decide +kernel), (by decide +kernel), (by decide +kernel), (by decide +kernel),
        (by decide +kernel), (by decide +kernel)⟩
  · obtain ⟨d, hd, hl⟩ := ahead_later (went (0x200 + sides + place 4 31 1 1 + place 0x30 0 64 10000)).raw 10000 0 (devT (went (0x200 + sides + place 4 31 1 1 + place 0x30 0 64 10000))) rfl (by decide +kernel) (by decide +kernel) (by decide) (by decide)
    exact ⟨devT (went (0x200 + sides + place 4 31 1 1 + place 0x30 0 64 10000)), 100, qpw (went (0x200 + sides + place 4 31 1 1 + place 0x30 0 64 10000)), went (0x200 + sides + place 4 31 1 1 + place 0x30 0 64 10000), .put 100, (by decide +kernel), (by decide +kernel), (by decide +kernel), (by omega), (by omega), (by decide +kernel)⟩
  · obtain ⟨d, hd, hl⟩ := ahead_later (went (0x200 + sides + place 4 31 1 1 + place 0x30 0 64 1)).raw 1 16777216 ({ devT (went (0x200 + sides + place 4 31 1 1 + place 0x30 0 64 1)) with time := { TimeUnit.fresh with now := 2 ^ 40 } }) rfl (by decide +kernel) (by decide +kernel) (by decide) (by decide)
    exact ⟨{ devT (went (0x200 + sides + place 4 31 1 1 + place 0x30 0 64 1)) with time := { TimeUnit.fresh with now := 2 ^ 40 } }, 100, qpw (went (0x200 + sides + place 4 31 1 1 + place 0x30 0 64 1)), went (0x200 + sides + place 4 31 1 1 + place 0x30 0 64 1), .put 100, (by decide +kernel), (by decide +kernel), (by decide +kernel), (by omega)⟩
  · exact ⟨{ devT { went (0x200 + sides + place 4 31 1 1 + place 0x30 0 64 1) with stage := .waitTime } with time := { TimeUnit.fresh with now := 2 ^ 40 } },
        100, qpw { went (0x200 + sides + place 4 31 1 1 + place 0x30 0 64 1) with stage := .waitTime },
        { went (0x200 + sides + place 4 31 1 1 + place 0x30 0 64 1) with stage := .waitTime }, (by decide +kernel), (by decide +kernel)⟩
  · exact ⟨devT { went (0x200 + sides + place 4 31 1 1 + place 0x30 0 64 100) with stage := .waitTime }, 100,
        qpw { went (0x200 + sides + place 4 31 1 1 + place 0x30 0 64 100) with stage := .waitTime },
        { went (0x200 + sides + place 4 31 1 1 + place 0x30 0 64 100) with stage := .waitTime }, (by decide +kernel), (by decide +kernel),
        (by decide +kernel)⟩
  · exact ⟨devT { went (0x200 + sides + place 4 31 1 1 + place 0x30 0 64 10000) with stage := .waitTime }, 100,
        qpw { went (0x200 + sides + place 4 31 1 1 + place 0x30 0 64 10000) with stage := .waitTime },
        { went (0x200 + sides + place 4 31 1 1 + place 0x30 0 64 10000) with stage := .waitTime }, (by decide +kernel), (by decide +kernel),
        (by decide +kernel)⟩

theorem witness_ArrivalsAreDelivered :
    ∃ (s : State) (p : Packet) (x : Ctx) (c : Instr) (v : _) (u : _), (s.takesPacket p x) ∧ (((s.without p).deliver (rxKey p) p) = (v, u)) ∧
      ((c = .sendPacket p ∧ p.ptype = 0x01 ∨ c = .putPacket p ∧ p.ptype = 0x02 ∨ c = .putFlagData p ∧ p.ptype = 0x03 ∨ c = .getReq p ∧
      p.ptype = 0x04 ∨ c = .atomicReq p ∧ p.ptype = 0x05 ∨ c = .durablePutPacket p ∧ p.ptype = 0x06 ∨ c = .getResp p ∧ p.ptype = 0x09 ∨
      c = .atomicResp p ∧ p.ptype = 0x0A ∨ c = .flag p ∧ p.ptype = 0x0B ∨ c = .durableConf p ∧ p.ptype = 0x0C ∨ c = .tsendEager p ∧
      p.ptype = 0x10 ∨ c = .tsendRts p ∧ p.ptype = 0x11 ∨ c = .cts p ∧ p.ptype = 0x12 ∨ c = .rndvData p ∧ p.ptype = 0x13)) :=
  ⟨arriving (devT (went (0x200 + sides))) (pkt 2 (range 8) (List.replicate 8 5)), pkt 2 (range 8) (List.replicate 8 5), ctx0, .putPacket (pkt 2 (range 8) (List.replicate 8 5)), (State.deliver ((arriving (devT (went (0x200 + sides))) (pkt 2 (range 8) (List.replicate 8 5))).without (pkt 2 (range 8) (List.replicate 8 5))) 100 (pkt 2 (range 8) (List.replicate 8 5))).1, (State.deliver ((arriving (devT (went (0x200 + sides))) (pkt 2 (range 8) (List.replicate 8 5))).without (pkt 2 (range 8) (List.replicate 8 5))) 100 (pkt 2 (range 8) (List.replicate 8 5))).2, (by unfold State.takesPacket; decide +kernel), (rfl), (by decide +kernel)⟩

theorem witness_OneSidedArrivals :
    (∃ (s : State) (p : Packet) (x : Ctx) (k : Key) (sp : _) (u : _), (s.takesPacket p x) ∧ ((s.without p).keyRaw (Packet.key p) = some k) ∧
       (p.ptype = 0x02) ∧ ((s.without p).remoteCheck (Packet.key p) p.tenant (Packet.raddr p + Packet.offset p) p.payload.length .write = Status.ok) ∧
       ((s.without p).reachKey (Packet.key p) (Packet.raddr p + Packet.offset p) p.payload.length .write false = (.ok sp, u)) ∧
       (Tab.look u.ctxs (rxKey p) = some x)) ∧
    (∃ (s : State) (p : Packet) (x : Ctx) (k : Key) (st : _), (s.takesPacket p x) ∧ ((s.without p).keyRaw (Packet.key p) = some k) ∧
       (p.ptype = 0x02) ∧ (st ≠ Status.ok) ∧
       ((s.without p).remoteCheck (Packet.key p) p.tenant (Packet.raddr p + Packet.offset p) p.payload.length .write = st)) ∧
    (∃ (s : State) (p : Packet) (x : Ctx) (k : Key) (u : _) (fn : _) (last : _), (s.takesPacket p x) ∧
       ((s.without p).keyRaw (Packet.key p) = some k) ∧ (p.ptype = 0x03) ∧ (x.rxOf (Packet.msgNum p) = none) ∧
       ((s.without p).landRemote (rxKey p) p (Packet.key p) (Packet.raddr p + Packet.offset p) .write none = .inr (fn, last, u))) ∧
    (∃ (s : State) (p : Packet) (x : Ctx) (k : Key) (sp : _) (u : _), (s.takesPacket p x) ∧ ((s.without p).keyRaw (Packet.key p) = some k) ∧
       (p.ptype = 0x0B) ∧ (x.rxOf (Packet.msgNum p) = none) ∧
       ((s.without p).remoteCheck (Packet.key p) p.tenant (Packet.raddr p) 8 .write = Status.ok) ∧
       ((s.without p).reachKey (Packet.key p) (Packet.raddr p) 8 .write false = (.ok sp, u))) ∧
    (∃ (s : State) (p : Packet) (x : Ctx) (k : Key) (sp : _) (u : _), (s.takesPacket p x) ∧ ((s.without p).keyRaw (Packet.key p) = some k) ∧
       (p.ptype = 0x04) ∧ ((s.without p).remoteCheck (Packet.key p) p.tenant (Packet.raddr p) (Packet.msgLen p) .read = Status.ok) ∧
       ((s.without p).reachKey (Packet.key p) (Packet.raddr p) (Packet.msgLen p) .read false = (.ok sp, u)) ∧
       (u.keyRaw (Packet.key p) = some k)) ∧
    (∃ (s : State) (p : Packet) (x : Ctx) (k : Key) (a : _) (n : _) (t : List (Nat × Nat)) (u : _), (s.takesPacket p x) ∧
       ((s.without p).keyRaw (Packet.key p) = some k) ∧ (p.ptype = 0x05) ∧ (p.poison = false) ∧
       ((s.without p).remoteCheck (Packet.key p) p.tenant (Packet.raddr p) (atomicSize (Packet.ext p 0x2C 0 4)) .atomic = Status.ok) ∧
       ((s.without p).reachKey (Packet.key p) (Packet.raddr p) (atomicSize (Packet.ext p 0x2C 0 4)) .atomic false = (.ok ((a, n) :: t), u)) ∧
       (u.keyRaw (Packet.key p) = some k)) ∧
    (∃ (s : State) (p : Packet) (x : Ctx) (k : Key) (u : _) (fn : _) (last : _), (s.takesPacket p x) ∧
       ((s.without p).keyRaw (Packet.key p) = some k) ∧ (p.ptype = 0x06) ∧ (p.poison = false) ∧ (x.rxOf (Packet.msgNum p) = none) ∧
       ((s.without p).durableTarget + Packet.msgLen p ≤ s.openParam 0xE02002) ∧ (Packet.msgLen p ≤ p.payload.length) ∧
       ((s.without p).landRemote (rxKey p) p (Packet.key p) (Packet.raddr p + Packet.offset p) .durable none = .inr (fn, last, u))) ∧
    (∃ (s : State) (p : Packet) (x : Ctx) (k : Key), (s.takesPacket p x) ∧ ((s.without p).keyRaw (Packet.key p) = some k) ∧
       (p.ptype = 0x06) ∧ (x.rxOf (Packet.msgNum p) = none) ∧ (s.openParam 0xE02002 < (s.without p).durableTarget + Packet.msgLen p)) := by
  refine ⟨?_, ?_, ?_, ?_, ?_, ?_, ?_, ?_⟩
  · exact ⟨arriving (devT (went (0x200 + sides))) (pkt 2 (range 8) (List.replicate 8 5)), pkt 2 (range 8) (List.replicate 8 5), ctx0, key0,
        [(69632, 8)], (State.reachKey ((arriving (devT (went (0x200 + sides))) (pkt 2 (range 8) (List.replicate 8 5))).without (pkt 2 (range 8) (List.replicate 8 5))) 0x10000107 4096 8 .write false).2,
        (by unfold State.takesPacket; decide +kernel), (by decide +kernel), (by decide +kernel), (by decide +kernel), (by decide +kernel),
        (by decide +kernel)⟩
  · exact ⟨arriving { devT (went (0x200 + sides)) with keys := [(1, { key0 with rights := 1 })] } (pkt 2 (range 8) (List.replicate 8 5)),
        pkt 2 (range 8) (List.replicate 8 5), ctx0, { key0 with rights := 1 }, Status.remoteBounds,
        (by unfold State.takesPacket; decide +kernel), (by decide +kernel), (by decide +kernel), (by decide +kernel), (by decide +kernel)⟩
  · exact ⟨arriving (devT (went (0x200 + sides))) (pkt 3 (range 8) (List.replicate 8 5)), pkt 3 (range 8) (List.replicate 8 5), ctx0, key0,
        landed3 (State.landRemote ((arriving (devT (went (0x200 + sides))) (pkt 3 (range 8) (List.replicate 8 5))).without (pkt 3 (range 8) (List.replicate 8 5))) 100 (pkt 3 (range 8) (List.replicate 8 5)) 0x10000107 4096 .write none),
        0, some 69639, (by unfold State.takesPacket; decide +kernel), (by decide +kernel), (by decide +kernel), (by decide +kernel),
        (by decide +kernel)⟩
  · exact ⟨arriving (devT (went (0x200 + sides))) (pkt 0x0B (range 0) (List.replicate 8 5)), pkt 0x0B (range 0) (List.replicate 8 5), ctx0,
        key0, [(69632, 8)], (State.reachKey ((arriving (devT (went (0x200 + sides))) (pkt 0x0B (range 0) (List.replicate 8 5))).without (pkt 0x0B (range 0) (List.replicate 8 5))) 0x10000107 4096 8 .write false).2,
        (by unfold State.takesPacket; decide +kernel), (by decide +kernel), (by decide +kernel), (by decide +kernel), (by decide +kernel),
        (by decide +kernel)⟩
  · exact ⟨arriving (devT (went (0x200 + sides))) (pkt 4 (range 64) []), pkt 4 (range 64) [], ctx0, key0, [(69632, 64)],
        (State.reachKey ((arriving (devT (went (0x200 + sides))) (pkt 4 (range 64) [])).without (pkt 4 (range 64) [])) 0x10000107 4096 64 .read false).2,
        (by unfold State.takesPacket; decide +kernel), (by decide +kernel), (by decide +kernel), (by decide +kernel), (by decide +kernel),
        (by decide +kernel)⟩
  · exact ⟨arriving (devT (went (0x200 + sides))) (pkt 5 (range 0) (List.replicate 8 5)), pkt 5 (range 0) (List.replicate 8 5), ctx0, key0,
        69632, 4, [], (State.reachKey ((arriving (devT (went (0x200 + sides))) (pkt 5 (range 0) (List.replicate 8 5))).without (pkt 5 (range 0) (List.replicate 8 5))) 0x10000107 4096 4 .atomic false).2,
        (by unfold State.takesPacket; decide +kernel), (by decide +kernel), (by decide +kernel), (by decide +kernel), (by decide +kernel),
        (by decide +kernel), (by decide +kernel)⟩
  · exact ⟨arriving (devT (went (0x200 + sides))) (pkt 6 (range 8) (List.replicate 8 5)), pkt 6 (range 8) (List.replicate 8 5), ctx0, key0,
        landed3 (State.landRemote ((arriving (devT (went (0x200 + sides))) (pkt 6 (range 8) (List.replicate 8 5))).without (pkt 6 (range 8) (List.replicate 8 5))) 100 (pkt 6 (range 8) (List.replicate 8 5)) 0x10000107 4096 .durable none),
        0, some 69639, (by unfold State.takesPacket; decide +kernel), (by decide +kernel), (by decide +kernel), (by decide +kernel),
        (by decide +kernel), (by decide +kernel), (by decide +kernel), (by decide +kernel)⟩
  · exact ⟨arriving { devT (went (0x200 + sides)) with ledger := [(0xE02002, 4)] } (pkt 6 (range 8) (List.replicate 8 5)),
        pkt 6 (range 8) (List.replicate 8 5), ctx0, key0, (by unfold State.takesPacket; decide +kernel), (by decide +kernel),
        (by decide +kernel), (by decide +kernel), (by decide +kernel)⟩

theorem witness_ResponsesCompleteEntries :
    (∃ (s : State) (p : Packet) (x : Ctx) (m : TxMsg) (n : Nat) (q : Qp) (w : Wqe) (k : _) (u : _), (s.takesPacket p x) ∧
       ((s.without p).ownerOf m = some (n, q, w)) ∧ (p.ptype = 0x09) ∧ (p.poison = false) ∧ (m.repFail = 0) ∧
       (x.asked 4 (Packet.msgNum p) = some m) ∧
       ((s.without p).landLocal (rxKey p) p q.fn q.pd (Ent.lkey w.raw) (Ent.laddr w.raw) (Ent.len w.raw) false = .inr (k, u)) ∧
       (Ent.len w.raw ≤ m.respCount + p.payload.length)) ∧
    (∃ (s : State) (p : Packet) (x : Ctx) (m : TxMsg) (n : Nat) (q : Qp) (w : Wqe) (k : _) (u : _), (s.takesPacket p x) ∧
       ((s.without p).ownerOf m = some (n, q, w)) ∧ (p.ptype = 0x09) ∧ (p.poison = false) ∧ (m.repFail = 0) ∧
       (x.asked 4 (Packet.msgNum p) = some m) ∧
       ((s.without p).landLocal (rxKey p) p q.fn q.pd (Ent.lkey w.raw) (Ent.laddr w.raw) (Ent.len w.raw) false = .inr (k, u)) ∧
       (m.respCount + p.payload.length < Ent.len w.raw)) ∧
    (∃ (s : State) (p : Packet) (x : Ctx) (m : TxMsg) (n : Nat) (q : Qp) (w : Wqe) (k : _) (u : _), (s.takesPacket p x) ∧
       ((s.without p).ownerOf m = some (n, q, w)) ∧ (p.ptype = 0x0A) ∧ (x.asked 5 (Packet.msgNum p) = some m) ∧
       ((s.without p).landLocal (rxKey p) { p with payload := p.payload.take (atomicSize (Ent.atomicOp w.raw)) } q.fn q.pd (Ent.lkey w.raw) (Ent.laddr w.raw) (atomicSize (Ent.atomicOp w.raw)) false = .inr (k,
       u))) ∧
    (∃ (s : State) (p : Packet) (x : Ctx) (m : TxMsg) (n : Nat) (q : Qp) (w : Wqe) (i : _), (s.takesPacket p x) ∧
       ((s.without p).ownerOf m = some (n, q, w)) ∧ (p.ptype = 0x0C) ∧ (x.asked 6 (Packet.msgNum p) = some m) ∧ (m.owner = some (n, i)) ∧
       (m.fail = none)) ∧
    (∃ (s : State) (p : Packet) (x : Ctx) (m : TxMsg) (n : Nat) (q : Qp) (w : Wqe), (s.takesPacket p x) ∧
       ((s.without p).ownerOf m = some (n, q, w)) ∧ (p.ptype = 0x0C) ∧ (x.asked 6 (Packet.msgNum p) = none)) ∧
    (∃ (s : State) (p : Packet) (x : Ctx) (m : TxMsg) (n : Nat) (q : Qp) (w : Wqe), (s.takesPacket p x) ∧
       ((s.without p).ownerOf m = some (n, q, w)) ∧ (p.ptype = 0x12) ∧ (x.asked 0x11 (Packet.msgNum p) = some m) ∧
       (Packet.ext p 0x2C 0 32 = 0)) ∧
    (∃ (s : State) (p : Packet) (x : Ctx) (m : TxMsg) (n : Nat) (q : Qp) (w : Wqe), (s.takesPacket p x) ∧
       ((s.without p).ownerOf m = some (n, q, w)) ∧ (p.ptype = 0x12) ∧ (x.asked 0x11 (Packet.msgNum p) = some m) ∧
       (Packet.ext p 0x2C 0 32 ≠ 0) ∧ (Ent.inline w.raw = 0)) := by
  refine ⟨?_, ?_, ?_, ?_, ?_, ?_, ?_⟩
  · exact ⟨arriving (devM (wrun (0x400 + sides)) (msg0 4)) (pkt 9 (extAt 0x2C 0 32 64 + extAt 0x38 0 64 4096) (List.replicate 64 5)),
        pkt 9 (extAt 0x2C 0 32 64 + extAt 0x38 0 64 4096) (List.replicate 64 5), { ctx0 with msgs := [msg0 4] }, msg0 4, 100,
        qpw (wrun (0x400 + sides)), wrun (0x400 + sides), 64,
        landed2 (State.landLocal ((arriving (devM (wrun (0x400 + sides)) (msg0 4)) (pkt 9 (extAt 0x2C 0 32 64 + extAt 0x38 0 64 4096) (List.replicate 64 5))).without (pkt 9 (extAt 0x2C 0 32 64 + extAt 0x38 0 64 4096) (List.replicate 64 5))) 100 (pkt 9 (extAt 0x2C 0 32 64 + extAt 0x38 0 64 4096) (List.replicate 64 5)) 0 5 0x10000107 4096 64 false),
        (by unfold State.takesPacket; decide +kernel), (by decide +kernel), (by decide +kernel), (by decide +kernel), (by decide +kernel),
        (by decide +kernel), (by decide +kernel), (by decide +kernel)⟩
  · exact ⟨arriving (devM (wrun (0x400 + sides + place 0x15 0 8 1)) (msg0 4)) (pkt 9 (extAt 0x2C 0 32 64 + extAt 0x38 0 64 4096) (List.replicate 64 5)),
        pkt 9 (extAt 0x2C 0 32 64 + extAt 0x38 0 64 4096) (List.replicate 64 5), { ctx0 with msgs := [msg0 4] }, msg0 4, 100,
        qpw (wrun (0x400 + sides + place 0x15 0 8 1)), wrun (0x400 + sides + place 0x15 0 8 1), 64,
        landed2 (State.landLocal ((arriving (devM (wrun (0x400 + sides + place 0x15 0 8 1)) (msg0 4)) (pkt 9 (extAt 0x2C 0 32 64 + extAt 0x38 0 64 4096) (List.replicate 64 5))).without (pkt 9 (extAt 0x2C 0 32 64 + extAt 0x38 0 64 4096) (List.replicate 64 5))) 100 (pkt 9 (extAt 0x2C 0 32 64 + extAt 0x38 0 64 4096) (List.replicate 64 5)) 0 5 0x10000107 4096 320 false),
        (by unfold State.takesPacket; decide +kernel), (by decide +kernel), (by decide +kernel), (by decide +kernel), (by decide +kernel),
        (by decide +kernel), (by decide +kernel), (by decide +kernel)⟩
  · exact ⟨arriving (devM (wrun (0x500 + sides)) (msg0 5)) (pkt 0x0A 0 (List.replicate 8 5)), pkt 0x0A 0 (List.replicate 8 5),
        { ctx0 with msgs := [msg0 5] }, msg0 5, 100, qpw (wrun (0x500 + sides)), wrun (0x500 + sides), 4,
        landed2 (State.landLocal ((arriving (devM (wrun (0x500 + sides)) (msg0 5)) (pkt 0x0A 0 (List.replicate 8 5))).without (pkt 0x0A 0 (List.replicate 8 5))) 100 { pkt 0x0A 0 (List.replicate 8 5) with payload := (pkt 0x0A 0 (List.replicate 8 5)).payload.take 4 } 0 5 0x10000107 4096 4 false),
        (by unfold State.takesPacket; decide +kernel), (by decide +kernel), (by decide +kernel), (by decide +kernel), (by decide +kernel)⟩
  · exact ⟨arriving (devM (wrun (0x600 + sides)) (msg0 6)) (pkt 0x0C 0 []), pkt 0x0C 0 [], { ctx0 with msgs := [msg0 6] }, msg0 6, 100,
        qpw (wrun (0x600 + sides)), wrun (0x600 + sides), 0, (by unfold State.takesPacket; decide +kernel), (by decide +kernel),
        (by decide +kernel), (by decide +kernel), (by decide +kernel), (by decide +kernel)⟩
  · exact ⟨arriving (devM (wrun (0x600 + sides)) { msg0 6 with num := 5 }) (pkt 0x0C 0 []), pkt 0x0C 0 [],
        { ctx0 with msgs := [{ msg0 6 with num := 5 }] }, { msg0 6 with num := 5 }, 100, qpw (wrun (0x600 + sides)), wrun (0x600 + sides),
        (by unfold State.takesPacket; decide +kernel), (by decide +kernel), (by decide +kernel), (by decide +kernel)⟩
  · exact ⟨arriving (devM (wrun (0x1000 + sides)) (msg0 0x11)) (pkt 0x12 0 []), pkt 0x12 0 [], { ctx0 with msgs := [msg0 0x11] }, msg0 0x11,
        100, qpw (wrun (0x1000 + sides)), wrun (0x1000 + sides), (by unfold State.takesPacket; decide +kernel), (by decide +kernel),
        (by decide +kernel), (by decide +kernel), (by decide +kernel)⟩
  · exact ⟨arriving (devM (wrun (0x1000 + sides)) (msg0 0x11)) (pkt 0x12 (extAt 0x2C 0 32 64) []), pkt 0x12 (extAt 0x2C 0 32 64) [],
        { ctx0 with msgs := [msg0 0x11] }, msg0 0x11, 100, qpw (wrun (0x1000 + sides)), wrun (0x1000 + sides),
        (by unfold State.takesPacket; decide +kernel), (by decide +kernel), (by decide +kernel), (by decide +kernel), (by decide +kernel),
        (by decide +kernel)⟩

theorem witness_TwoSidedArrivals :
    (∃ (s : State) (p : Packet) (x : Ctx) (m : _) (u : _) (n : _) (i : _) (raw : _) (q : _) (k : _) (v : _), (s.takesPacket p x) ∧
       (p.ptype = 0x01) ∧ ((s.without p).openSend (rxKey p) x p = .inr (m, u)) ∧ (m.failed = none) ∧ (m.dest = .rq n i raw) ∧
       (Tab.look u.qps n = some q) ∧ (u.landLocal (rxKey p) p q.fn q.pd (Ent.lkey raw) (Ent.laddr raw) (Ent.len raw) false = .inr (k, v))) ∧
    (∃ (s : State) (p : Packet) (x : Ctx) (m : _) (u : _) (srq : _) (i : _) (raw : _) (k : _) (v : _), (s.takesPacket p x) ∧
       (p.ptype = 0x01) ∧ ((s.without p).openSend (rxKey p) x p = .inr (m, u)) ∧ (m.failed = none) ∧ (m.dest = .srq srq i raw) ∧
       (u.landLocal (rxKey p) p (srq / 65536) (u.srqPd srq) (Ent.lkey raw) (Ent.laddr raw) (Ent.len raw) false = .inr (k, v))) ∧
    (∃ (s : State) (p : Packet) (x : Ctx) (q : _) (r : _), (s.takesPacket p x) ∧ (p.ptype = 0x01) ∧ (p.st = false) ∧
       (x.rxOf (Packet.msgNum p) = none) ∧ (Tab.look s.qps p.qpn = some q) ∧ (q.srq = none) ∧ (q.rq = some r) ∧ (r.pool = []) ∧
       ((s.without p).allBefore (rxKey p) x p.psn = true)) ∧
    (∃ (s : State) (p : Packet) (x : Ctx) (h : _) (u : _) (k : _) (r : _) (v : _), (s.takesPacket p x) ∧ (p.ptype = 0x10) ∧
       (x.rxOf (Packet.msgNum p) = none) ∧ (Tab.has s.srqs (qkey p.destFn p.destQueue) = true) ∧
       ((s.without p).firstTagged (qkey p.destFn p.destQueue) (rxKey p) p = some (.trecv (qkey p.destFn p.destQueue) h, u)) ∧
       ((u.putRx (rxKey p) (newRx p (.trecv (qkey p.destFn p.destQueue) h) 0)).matchedOf (qkey p.destFn p.destQueue) h = some r) ∧
       ((u.putRx (rxKey p) (newRx p (.trecv (qkey p.destFn p.destQueue) h) 0)).landLocal (rxKey p) p (qkey p.destFn p.destQueue / 65536) (u.srqPd (qkey p.destFn p.destQueue)) (Ent.lkey r.raw) (Ent.laddr r.raw) (Ent.len r.raw) false = .inr (k,
       v)) ∧ (((newRx p (.trecv (qkey p.destFn p.destQueue) h) 0).took p k).whole = true)) ∧
    (∃ (s : State) (p : Packet) (x : Ctx), (s.takesPacket p x) ∧ (p.ptype = 0x10) ∧ (x.rxOf (Packet.msgNum p) = none) ∧
       (Tab.has s.srqs (qkey p.destFn p.destQueue) = true) ∧ ((s.without p).firstTagged (qkey p.destFn p.destQueue) (rxKey p) p = none)) ∧
    (∃ (s : State) (p : Packet) (x : Ctx) (u : _), (s.takesPacket p x) ∧ (p.ptype = 0x11) ∧
       (Tab.has s.srqs (qkey p.destFn p.destQueue) = true) ∧
       ((s.without p).firstTagged (qkey p.destFn p.destQueue) (rxKey p) p = some (.none, u))) ∧
    (∃ (s : State) (p : Packet) (x : Ctx) (h : _) (u : _) (r : _), (s.takesPacket p x) ∧ (p.ptype = 0x11) ∧
       (Tab.has s.srqs (qkey p.destFn p.destQueue) = true) ∧ (u.matchedOf (qkey p.destFn p.destQueue) h = some r) ∧ (r.need ≠ 0) ∧
       ((s.without p).firstTagged (qkey p.destFn p.destQueue) (rxKey p) p = some (.trecv (qkey p.destFn p.destQueue) h, u))) ∧
    (∃ (s : State) (p : Packet) (x : Ctx) (q : _), (s.takesPacket p x) ∧ (p.ptype = 0x13) ∧ (x.rxOf (Packet.msgNum p) = none) ∧
       ((s.without p).landingOf p.destFn (Packet.ext p 0x34 0 24) = some q)) ∧
    (∃ (s : State) (p : Packet) (x : Ctx), (s.takesPacket p x) ∧ (p.ptype = 0x13) ∧ (x.rxOf (Packet.msgNum p) = none) ∧
       ((s.without p).landingOf p.destFn (Packet.ext p 0x34 0 24) = none)) := by
  refine ⟨?_, ?_, ?_, ?_, ?_, ?_, ?_, ?_, ?_⟩
  · obtain ⟨k, v, e⟩ := landed_inr ((opened (State.openSend ((arriving devR spkt).without spkt) 100 ctx0 spkt)).2.landLocal 100 spkt 0 5 0x10000107 4096 64 false) (by decide +kernel)
    exact ⟨arriving devR spkt, spkt, ctx0, (opened (State.openSend ((arriving devR spkt).without spkt) 100 ctx0 spkt)).1, (opened (State.openSend ((arriving devR spkt).without spkt) 100 ctx0 spkt)).2, 100, 0, recv1, (Tab.look (opened (State.openSend ((arriving devR spkt).without spkt) 100 ctx0 spkt)).2.qps 100).getD qp0, k, v, (by unfold State.takesPacket; decide +kernel), (by decide +kernel), (opened_inr _ (by decide +kernel)), (by decide +kernel), (by decide +kernel), (by decide +kernel), (e)⟩
  · obtain ⟨k, v, e⟩ := landed_inr ((opened (State.openSend ((arriving devRS spkt).without spkt) 100 ctx0 spkt)).2.landLocal 100 spkt 0 ((opened (State.openSend ((arriving devRS spkt).without spkt) 100 ctx0 spkt)).2.srqPd 4) 0x10000107 4096 64 false) (by decide +kernel)
    exact ⟨arriving devRS spkt, spkt, ctx0, (opened (State.openSend ((arriving devRS spkt).without spkt) 100 ctx0 spkt)).1, (opened (State.openSend ((arriving devRS spkt).without spkt) 100 ctx0 spkt)).2, 4, 0, recv1, k, v, (by unfold State.takesPacket; decide +kernel), (by decide +kernel), (opened_inr _ (by decide +kernel)), (by decide +kernel), (by decide +kernel), (e)⟩
  · exact ⟨arriving (devT wq) (pkt 1 (extAt 0x2C 0 32 8) (List.replicate 8 5)), pkt 1 (extAt 0x2C 0 32 8) (List.replicate 8 5), ctx0, qpw wq,
        Rq.fresh 20480 4 17, (by unfold State.takesPacket; decide +kernel), (by decide +kernel), (by decide +kernel), (by decide +kernel),
        (by decide +kernel), (by decide +kernel), (by decide +kernel), (by decide +kernel), (by decide +kernel)⟩
  · exact ⟨arriving devG (tagged 0x10 (List.replicate 8 5)), tagged 0x10 (List.replicate 8 5), ctx0, 0,
        (firstOf (tagged 0x10 (List.replicate 8 5))).2, 8, match0,
        landed2 (State.landLocal (landing (tagged 0x10 (List.replicate 8 5))) 100 (tagged 0x10 (List.replicate 8 5)) 0 5 0x10000107 4096 64 false),
        (by unfold State.takesPacket; decide +kernel), (by decide +kernel), (by decide +kernel), (by decide +kernel), (by decide +kernel),
        (by decide +kernel), (by decide +kernel), (by decide +kernel)⟩
  · exact ⟨arriving { devT wq with srqs := [(4, srq0)], cqs := [] } (Packet.sealed { pkt 0x10 (extAt 0x2C 0 32 8 + extAt 0x34 0 32 5) (List.replicate 8 5) with destQueue := 4 }),
        Packet.sealed { pkt 0x10 (extAt 0x2C 0 32 8 + extAt 0x34 0 32 5) (List.replicate 8 5) with destQueue := 4 }, ctx0,
        (by unfold State.takesPacket; decide +kernel), (by decide +kernel), (by decide +kernel), (by decide +kernel), (by decide +kernel)⟩
  · exact ⟨arriving { devG with srqs := [(4, srq0)] } (tagged 0x11 []), tagged 0x11 [], ctx0,
        ((State.firstTagged ((arriving { devG with srqs := [(4, srq0)] } (tagged 0x11 [])).without (tagged 0x11 [])) 4 100 (tagged 0x11 [])).getD (.none,
        devG)).2, (by unfold State.takesPacket; decide +kernel), (by decide +kernel), (by decide +kernel), (by decide +kernel)⟩
  · exact ⟨arriving devG (tagged 0x11 []), tagged 0x11 [], ctx0, 0, (firstOf (tagged 0x11 [])).2, match0,
        (by unfold State.takesPacket; decide +kernel), (by decide +kernel), (by decide +kernel), (by decide +kernel), (by decide +kernel),
        (rfl)⟩
  · exact ⟨arriving { devT wq with srqs := [(4, { srq0 with matched := [match0] })] } (pkt 0x13 (extAt 0x2C 0 32 8) (List.replicate 8 5)),
        pkt 0x13 (extAt 0x2C 0 32 8) (List.replicate 8 5), ctx0, 4, (by unfold State.takesPacket; decide +kernel), (by decide +kernel),
        (by decide +kernel), (by decide +kernel)⟩
  · exact ⟨arriving (devT wq) (pkt 0x13 (extAt 0x2C 0 32 8 + extAt 0x34 0 24 77) (List.replicate 8 5)),
        pkt 0x13 (extAt 0x2C 0 32 8 + extAt 0x34 0 24 77) (List.replicate 8 5), ctx0, (by unfold State.takesPacket; decide +kernel),
        (by decide +kernel), (by decide +kernel), (by decide +kernel)⟩

theorem witness_GroupPackets :
    (∃ (s : State) (p : Packet) (g : Packet) (c : Instr) (st : _), ((c = .replDurablePutPacket p ∧ p.ptype = 7 ∨ c = .mcastPutPacket p ∧
       p.ptype = 8)) ∧ (s.life.opened = true) ∧ (Packet.arrivalCheck p = 0) ∧
       (g = { p with destFn := Mcast.fn (Tab.num s.mcast p.destQueue) }) ∧ ((s.without p).groupMemory g = some st)) ∧
    (∃ (s : State) (p : Packet) (g : Packet) (c : Instr), ((c = .replDurablePutPacket p ∧ p.ptype = 7 ∨ c = .mcastPutPacket p ∧
       p.ptype = 8)) ∧ (s.life.opened = true) ∧ (Packet.arrivalCheck p = 0) ∧
       (g = { p with destFn := Mcast.fn (Tab.num s.mcast p.destQueue) }) ∧ ((s.without p).groupMemory g = none) ∧
       ((s.without p).groupOpen g = false) ∧
       ((Mcast.valid (Tab.num s.mcast p.destQueue) && Mcast.member (Tab.num s.mcast p.destQueue)) = false)) ∧
    (∃ (s : State) (p : Packet) (g : Packet) (c : Instr) (k : _) (sp : _) (u : _), ((c = .replDurablePutPacket p ∧ p.ptype = 7 ∨
       c = .mcastPutPacket p ∧ p.ptype = 8)) ∧ (s.life.opened = true) ∧ (Packet.arrivalCheck p = 0) ∧
       (g = { p with destFn := Mcast.fn (Tab.num s.mcast p.destQueue) }) ∧ ((s.without p).groupMemory g = none) ∧
       ((s.without p).groupOpen g = false) ∧ (s.life = .open_) ∧ ((s.port (fnPort g.destFn)).state = .up) ∧ (s.fnExists g.destFn = true) ∧
       ((s.fn g.destFn).flr = false) ∧ (s.asleep g.destFn = false) ∧ (Mcast.valid (Tab.num s.mcast p.destQueue) = true) ∧
       (Mcast.member (Tab.num s.mcast p.destQueue) = true) ∧ ((p.ptype = 7 → s.durableTarget + p.payload.length ≤ s.openParam 0xE02002)) ∧
       (s.keyOf (Mcast.key (Tab.num s.mcast p.destQueue)) = some k) ∧
       ((s.without p).remoteCheck (Mcast.key (Tab.num s.mcast p.destQueue)) p.tenant (k.va + Packet.raddr p) p.payload.length (if p.ptype = 7 then .durable else .write) = Status.ok) ∧
       ((s.without p).reachKey (Mcast.key (Tab.num s.mcast p.destQueue)) (k.va + Packet.raddr p) p.payload.length .write (p.ptype == 7) = (.ok sp,
       u))) ∧
    (∃ (s : State) (p : Packet) (x : _) (m : _), (p.ptype = 0x0D) ∧ (s.life.opened = true) ∧ (Packet.arrivalCheck p = 0) ∧
       (Tab.has s.qps p.qpn = true) ∧ (Tab.look s.ctxs (groupKey p.qpn) = some x) ∧
       (x.msgs.find? (fun (m : TxMsg) => m.num == Packet.msgNum p && m.owner.isSome) = some m)) ∧
    (∃ (s : State) (p : Packet) (x : _), (p.ptype = 0x0D) ∧ (s.life.opened = true) ∧ (Packet.arrivalCheck p = 0) ∧
       (Tab.has s.qps p.qpn = true) ∧ (Tab.look s.ctxs (groupKey p.qpn) = some x) ∧ ((∀ m ∈ x.msgs, m.num ≠ Packet.msgNum p))) ∧
    (∃ (s : State) (p : Packet), (p.ptype = 0x0D) ∧ (s.life.opened = true) ∧ (Packet.arrivalCheck p = 0) ∧ (Tab.has s.qps p.qpn = false)) := by
  refine ⟨?_, ?_, ?_, ?_, ?_, ?_⟩
  · exact ⟨arriving { devT wq with mcast := [(3, group3)], groupSeen := [(groupStall (gpkt 7), 9, 200, 0, 0)] } (gpkt 7), gpkt 7, gpkt 7,
        .replDurablePutPacket (gpkt 7), 0, (by decide +kernel), (by decide +kernel), (by decide +kernel), (by decide +kernel),
        (by decide +kernel)⟩
  · exact ⟨arriving (devT wq) (gpkt 8), gpkt 8, gpkt 8, .mcastPutPacket (gpkt 8), (by decide +kernel), (by decide +kernel), (by decide +kernel),
        (by decide +kernel), (by decide +kernel), (by decide +kernel), (by decide +kernel)⟩
  · exact ⟨arriving { devT wq with mcast := [(3, group3)] } (gpkt 8), gpkt 8, gpkt 8, .mcastPutPacket (gpkt 8), key0, [(65536, 8)],
        (State.reachKey ((arriving { devT wq with mcast := [(3, group3)] } (gpkt 8)).without (gpkt 8)) 0x10000107 0 8 .write false).2,
        (by decide +kernel), (by decide +kernel), (by decide +kernel), (by decide +kernel), (by decide +kernel), (by decide +kernel),
        (by decide +kernel), (by decide +kernel), (by decide +kernel), (by decide +kernel), (by decide +kernel), (by decide +kernel),
        (by decide +kernel), (by decide +kernel), (by decide +kernel), (by decide +kernel), (by decide +kernel)⟩
  · exact ⟨arriving { devT wq with ctxs := [(groupKey 100, { ctx0 with msgs := [{ msg0 8 with members := [9], count := 1 }] })] } mreply,
        mreply, { ctx0 with msgs := [{ msg0 8 with members := [9], count := 1 }] }, { msg0 8 with members := [9], count := 1 },
        (by decide +kernel), (by decide +kernel), (by decide +kernel), (by decide +kernel), (by decide +kernel), (by decide +kernel)⟩
  · exact ⟨arriving { devT wq with ctxs := [(groupKey 100, { ctx0 with msgs := [{ msg0 8 with num := 4 }] })] } mreply, mreply,
        { ctx0 with msgs := [{ msg0 8 with num := 4 }] }, (by decide +kernel), (by decide +kernel), (by decide +kernel),
        (by decide +kernel), (by decide +kernel), (by decide +kernel)⟩
  · exact ⟨arriving { devT wq with qps := [] } mreply, mreply, (by decide +kernel), (by decide +kernel), (by decide +kernel),
        (by decide +kernel)⟩

theorem witness_CollectiveArrivals :
    (∃ (s : State) (p : Packet) (t : _) (x : _) (v : _) (u : _), (Packet.arrivalCheck p = 0) ∧ (p.ptype = 0x20) ∧ (s.life = .open_) ∧
       (Tab.look s.trees (packetTree p) = some t) ∧ (p.srcDev ∈ Node.edges t.raw) ∧ (epochAhead p t = 0) ∧ (t.broken = false) ∧
       (Tab.look s.ctxs (edgeKey (packetTree p) p.srcDev) = some x) ∧ (s.psnPlace (edgeKey (packetTree p) p.srcDev) x p.psn = .fresh) ∧
       (((s.without p).hearEdge (packetTree p) p.srcDev).admitSeg (packetTree p) t p = (v, u))) ∧
    (∃ (s : State) (p : Packet), (Packet.arrivalCheck p = 0) ∧ (p.ptype = 0x20) ∧ (s.life = .shutter ∨ s.life = .shut)) ∧
    (∃ (s : State) (p : Packet) (c : Instr) (t : _), (Packet.arrivalCheck p = 0) ∧ ((c = .collSeg p ∧ p.ptype = 0x20 ∧ s.life = .open_ ∨
       c = .collHeartbeat p ∧ p.ptype = 0x21 ∧ s.life.opened = true ∨ c = .collBreak p ∧ p.ptype = 0x22 ∧ s.life.opened = true)) ∧
       (Tab.look s.trees (packetTree p) = some t) ∧ (p.srcDev ∈ Node.edges t.raw) ∧ (2 ^ 15 ≤ epochAhead p t)) ∧
    (∃ (s : State) (p : Packet) (t : _), (Packet.arrivalCheck p = 0) ∧ (p.ptype = 0x21) ∧ (s.life.opened = true) ∧
       (Tab.look s.trees (packetTree p) = some t) ∧ (p.srcDev ∈ Node.edges t.raw) ∧ (epochAhead p t = 0)) ∧
    (∃ (s : State) (p : Packet) (t : _), (Packet.arrivalCheck p = 0) ∧ (p.ptype = 0x22) ∧ (s.life.opened = true) ∧
       (Tab.look s.trees (packetTree p) = some t) ∧ (p.srcDev ∈ Node.edges t.raw) ∧ (epochAhead p t < 2 ^ 15)) ∧
    (∃ (s : State) (p : Packet) (tree : _) (dev : _) (t : _) (e : Edge), (Packet.arrivalCheck p = 0) ∧ (Tab.look s.trees tree = some t) ∧
       (Tab.look t.edges dev = some e)) := by
  refine ⟨?_, ?_, ?_, ?_, ?_, ?_⟩
  · obtain ⟨v, u, e⟩ : ∃ v u, ((((arriving devE (tpkt 0x20 1)).without (tpkt 0x20 1)).hearEdge (packetTree (tpkt 0x20 1)) (tpkt 0x20 1).srcDev).admitSeg (packetTree (tpkt 0x20 1)) { tree0 with edges := [(9, ⟨0, 0⟩)] } (tpkt 0x20 1)) = (v, u) := ⟨_, _, rfl⟩
    exact ⟨arriving devE (tpkt 0x20 1), tpkt 0x20 1, { tree0 with edges := [(9, ⟨0, 0⟩)] }, { ctx0 with kind := Kind.edge }, v, u, (by decide +kernel), (by decide +kernel), (by decide +kernel), (by decide +kernel), (by decide +kernel), (by decide +kernel), (by decide +kernel), (by decide +kernel), (by decide +kernel), (e)⟩
  · exact ⟨arriving { devE with life := .shutter } (tpkt 0x20 1), tpkt 0x20 1, (by decide +kernel), (by decide +kernel), (by decide +kernel)⟩
  · exact ⟨arriving devE (tpkt 0x21 0), tpkt 0x21 0, .collHeartbeat (tpkt 0x21 0), { tree0 with edges := [(9, ⟨0, 0⟩)] }, (by decide +kernel),
        (by decide +kernel), (by decide +kernel), (by decide +kernel), (by decide +kernel)⟩
  · exact ⟨arriving devE (tpkt 0x21 1), tpkt 0x21 1, { tree0 with edges := [(9, ⟨0, 0⟩)] }, (by decide +kernel), (by decide +kernel),
        (by decide +kernel), (by decide +kernel), (by decide +kernel), (by decide +kernel)⟩
  · exact ⟨arriving devE (tpkt 0x22 1), tpkt 0x22 1, { tree0 with edges := [(9, ⟨0, 0⟩)] }, (by decide +kernel), (by decide +kernel),
        (by decide +kernel), (by decide +kernel), (by decide +kernel), (by decide +kernel)⟩
  · exact ⟨devE, tpkt 0x22 1, 0x77, 9, { tree0 with edges := [(9, ⟨0, 0⟩)] }, ⟨0, 0⟩, (by decide +kernel), (by decide +kernel),
        (by decide +kernel)⟩

theorem witness_Acknowledgements :
    (∃ (s : State) (p : Packet) (c : Instr) (n : Nat) (x : _), ((c = .ack p ∧ n = 0 ∨ c = .nak p ∧ n = 1 ∨ c = .refuse p ∧ n = 2)) ∧
       (p.ptype = 0x30) ∧ ((sackOf p.payload).kind = n) ∧ (sackOk p.payload = true) ∧ (s.life.opened = true) ∧ (Packet.arrivalCheck p = 0) ∧
       (p.tc ≠ 2) ∧ (Tab.look s.ctxs (rxKey p) = some x) ∧ (s.sackFits p = true) ∧ ((n = 1 → ∀ m, x.msgAt (sackOf p.payload).ref = some m →
       m.ptype ≠ 0x12))) ∧
    (∃ (s : State) (p : Packet) (c : Instr) (n : Nat), ((c = .ack p ∧ n = 0 ∨ c = .nak p ∧ n = 1 ∨ c = .refuse p ∧ n = 2)) ∧
       (p.ptype = 0x30) ∧ ((sackOf p.payload).kind = n) ∧ (sackOk p.payload = true) ∧ (s.life.opened = true) ∧ (Packet.arrivalCheck p = 0) ∧
       (p.tc ≠ 2) ∧ (Tab.look s.ctxs (rxKey p) = none)) ∧
    (∃ (s : State) (key : Nat) (x : Ctx) (a : Sack), (Tab.look s.ctxs key = some x) ∧ (x.kind = Kind.st) ∧ (a.inc ≠ x.inc.toNat)) ∧
    (∃ (s : State) (key : Nat) (x : Ctx) (a : Sack), (Tab.look s.ctxs key = some x) ∧ (x.kind = Kind.st) ∧ (a.inc = x.inc.toNat) ∧
       (a.kind = 2) ∧ (a.code = 4)) ∧
    (∃ (s : State) (key : Nat) (x : Ctx) (a : Sack), (Tab.look s.ctxs key = some x) ∧ (Ctx.current x a = true) ∧ (a.kind = 0) ∧
       (a.noCtx = false) ∧ ((a.cum - x.sndUna).toNat ≤ (x.sndNxt - x.sndUna).toNat)) ∧
    (∃ (s : State) (key : Nat) (x : Ctx) (a : Sack), (Tab.look s.ctxs key = some x) ∧ (Ctx.current x a = true) ∧ (a.kind = 0) ∧
       (a.noCtx = false) ∧ ((x.sndNxt - x.sndUna).toNat < (a.cum - x.sndUna).toNat)) ∧
    (∃ (c : Ctx) (a : Sack), (a.cum ≠ c.sndUna)) ∧
    (∃ (c : Ctx) (a : Sack), (a.cum = c.sndUna)) ∧
    (∃ (c : Ctx) (a : Sack) (p : _), (p ∈ (Ctx.markSacked c a).sent)) ∧
    (∃ (c : Ctx) (a : Sack), (c.kind ≠ Kind.edge) ∧ (a.ce = 0) ∧ (a.kind ≠ 2)) ∧
    (∃ (s : State) (c : Ctx) (a : Sack), (c.kind ≠ Kind.edge) ∧ (0 < a.ce) ∧ (c.cutAt ≠ some s.ticks)) ∧
    (∃ (s : State) (c : Ctx) (a : Sack), (c.kind ≠ Kind.edge) ∧ (0 < a.ce) ∧ (c.cutAt = some s.ticks)) := by
  refine ⟨?_, ?_, ?_, ?_, ?_, ?_, ?_, ?_, ?_, ?_, ?_, ?_⟩
  · exact ⟨arriving devS (pkt 0x30 0 (sack 1 0 0 0 0)), pkt 0x30 0 (sack 1 0 0 0 0), .ack (pkt 0x30 0 (sack 1 0 0 0 0)), 0, ctxS,
        (by decide +kernel), (by decide +kernel), (by decide +kernel), (by decide +kernel), (by decide +kernel), (by decide +kernel),
        (by decide +kernel), (by decide +kernel), (by decide +kernel), (fun h => nomatch h)⟩
  · exact ⟨arriving { devS with ctxs := [] } (pkt 0x30 0 (sack 1 0 0 0 0)), pkt 0x30 0 (sack 1 0 0 0 0), .ack (pkt 0x30 0 (sack 1 0 0 0 0)), 0,
        (by decide +kernel), (by decide +kernel), (by decide +kernel), (by decide +kernel), (by decide +kernel), (by decide +kernel),
        (by decide +kernel), (by decide +kernel)⟩
  · exact ⟨{ devS with ctxs := [(100, { ctxS with kind := Kind.st, inc := 7 })] }, 100, { ctxS with kind := Kind.st, inc := 7 },
        sackOf (sack 1 0 0 0 0), (by decide +kernel), (by decide +kernel), (by decide +kernel)⟩
  · exact ⟨{ devS with ctxs := [(100, { ctxS with kind := Kind.st })] }, 100, { ctxS with kind := Kind.st }, sackOf (sack 0 2 4 0 0),
        (by decide +kernel), (by decide +kernel), (by decide +kernel), (by decide +kernel), (by decide +kernel)⟩
  · exact ⟨devS, 100, ctxS, sackOf (sack 1 0 0 0 0), (by decide +kernel), (by decide +kernel), (by decide +kernel), (by decide +kernel),
        (by decide +kernel)⟩
  · exact ⟨devS, 100, ctxS, sackOf (sack 2 0 0 0 0), (by decide +kernel), (by decide +kernel), (by decide +kernel), (by decide +kernel),
        (by decide +kernel)⟩
  · exact ⟨ctxS, sackOf (sack 1 0 0 0 0), (by decide +kernel)⟩
  · exact ⟨ctxS, sackOf (sack 0 0 0 0 0), (by decide +kernel)⟩
  · exact ⟨ctxS, sackOf (sack 0 0 0 0 0), sent0, (by decide +kernel)⟩
  · exact ⟨ctxS, sackOf (sack 1 0 0 0 0), (by decide +kernel), (by decide +kernel), (by decide +kernel)⟩
  · exact ⟨devS, ctxS, sackOf (sack 1 0 0 0 1), (by decide +kernel), (by decide +kernel), (by decide +kernel)⟩
  · exact ⟨devS, { ctxS with cutAt := some 5000 }, sackOf (sack 1 0 0 0 1), (by decide +kernel), (by decide +kernel), (by decide +kernel)⟩

theorem witness_TransportTimers :
    (∃ (s : State) (key : Nat) (x : Ctx), (Tab.look s.ctxs key = some x) ∧ (x.res = .spilling) ∧ (s.unitsOf (.stall key) = 0) ∧
       ((∀ b ∈ s.bench, b.2.2 ≠ .context key)) ∧ ((∀ y ∈ s.parked, y.1 ≠ key))) ∧
    (∃ (s : State) (key : Nat) (x : Ctx), (Tab.look s.ctxs key = some x) ∧ (x.res = .spilling) ∧ (s.unitsOf (.stall key) ≠ 0)) ∧
    (∃ (s : State) (key : Nat) (x : Ctx), (Tab.look s.ctxs key = some x) ∧ (s.timerDue x = true) ∧ (s.onTime 6 = true) ∧ (x.sent ≠ []) ∧
       (x.kind = Kind.ct ∨ x.kind = Kind.st) ∧ (min (x.retry + 1) 255 ≤ s.retryLimit key x)) ∧
    (∃ (s : State) (key : Nat) (x : Ctx), (Tab.look s.ctxs key = some x) ∧ (s.timerDue x = true) ∧ (s.onTime 6 = true) ∧ (x.sent ≠ []) ∧
       (x.kind = Kind.ct ∨ x.kind = Kind.st) ∧ (s.retryLimit key x < min (x.retry + 1) 255) ∧ (s.unlimitedApplies x = false)) ∧
    (∃ (s : State) (key : Nat) (x : Ctx), (Tab.look s.ctxs key = some x) ∧ (s.timerDue x = false)) ∧
    (∃ (s : State) (key : Nat) (x : Ctx), (Tab.look s.ctxs key = some x)) ∧
    (∃ (s : State) (key : Nat) (x : Ctx) (num : _) (m : _) (t : _), (Tab.look s.ctxs key = some x) ∧
       (x.msgs.find? (fun m => m.ptype == 6 && !m.reply && m.num == num && m.quiet && m.owner.isSome && m.fail.isNone) = some m) ∧
       (m.ackedAt = some t) ∧ (t + s.rto x.retry ≤ s.ticks * 4096) ∧ (s.onTime 6 = true)) ∧
    (∃ (s : State) (key : Nat) (x : Ctx) (num : _) (m : _) (t : _), (Tab.look s.ctxs key = some x) ∧
       (x.msgs.find? (fun m => m.ptype == 6 && !m.reply && m.num == num && m.quiet && m.owner.isSome && m.fail.isNone) = some m) ∧
       (m.ackedAt = some t) ∧ (s.ticks * 4096 < t + s.rto x.retry)) ∧
    (∃ (s : State) (key : Nat) (x : Ctx) (m : _) (p : _), (Tab.look s.ctxs key = some x) ∧ (m.final = some p) ∧ (s.unlimited m = false) ∧
       (min (x.retry + 1) 255 ≤ s.retryLimit key x)) ∧
    (∃ (s : State) (key : Nat) (x : Ctx) (t : _), (Tab.look s.ctxs key = some x) ∧ (x.noPath = some t) ∧ (x.sent ≠ []) ∧
       (t + s.param 0x505001 ≤ s.ticks)) ∧
    (∃ (s : State) (key : Nat) (x : Ctx) (n : _), (Tab.look s.ctxs key = some x) ∧ (key = groupKey n)) ∧
    (∃ (s : State) (m : TxMsg) (q : _) (i : _) (t : _), (m.owner = some (q, i)) ∧ (m.ackedAt = some t) ∧ (m.ptype = 0x11) ∧
       (m.quiet = true) ∧ (s.param 0x602002 ≠ 0) ∧ (t + s.param 0x602002 * 4096 ≤ s.ticks * 4096)) ∧
    (∃ (s : State) (m : TxMsg) (t : _), (m.ackedAt = some t) ∧ ((s.param 0x602002 = 0 ∨ s.ticks * 4096 < t + s.param 0x602002 * 4096))) ∧
    (∃ (s : State) (key : Nat) (x : Ctx), (Tab.look s.ctxs key = some x) ∧ (x.kind = Kind.ct ∨ x.kind = Kind.st)) := by
  refine ⟨?_, ?_, ?_, ?_, ?_, ?_, ?_, ?_, ?_, ?_, ?_, ?_, ?_, ?_⟩
  · exact ⟨{ devS with ctxs := [(100, { ctx0 with res := .spilling })] }, 100, { ctx0 with res := .spilling }, (by decide +kernel),
        (by decide +kernel), (by decide +kernel), (by decide +kernel), (by decide +kernel)⟩
  · exact ⟨{ devS with ctxs := [(100, { ctx0 with res := .spilling })], pathA := [{ fn := 0, cls := 1, req := 0, src := .stall 100, after := [], op := .msix 0 3, acc := none, losses := 0, since := 0 }] },
        100, { ctx0 with res := .spilling }, (by decide +kernel), (by decide +kernel), (by decide +kernel)⟩
  · exact ⟨devS, 100, ctxS, (by decide +kernel), (by decide +kernel), (by decide +kernel), (by decide +kernel), (by decide +kernel),
        (by decide +kernel)⟩
  · exact ⟨{ devS with ctxs := [(100, { ctxS with retry := 254 })] }, 100, { ctxS with retry := 254 }, (by decide +kernel), (by decide +kernel),
        (by decide +kernel), (by decide +kernel), (by decide +kernel), (by decide +kernel), (by decide +kernel)⟩
  · exact ⟨{ devS with ctxs := [(100, { ctxS with timer := none })] }, 100, { ctxS with timer := none }, (by decide +kernel),
        (by decide +kernel)⟩
  · exact ⟨devS, 100, ctxS, (by decide +kernel)⟩
  · exact ⟨{ devS with ctxs := [(100, { ctxS with msgs := [{ msg0 6 with ackedAt := some 0 }] })], ledger := [(0x502001, 1000), (0x502002, 1000)] },
        100, { ctxS with msgs := [{ msg0 6 with ackedAt := some 0 }] }, 0, { msg0 6 with ackedAt := some 0 }, 0, (by decide +kernel),
        (by decide +kernel), (by decide +kernel), (by decide +kernel), (by decide +kernel)⟩
  · exact ⟨{ devS with ctxs := [(100, { ctxS with msgs := [{ msg0 6 with ackedAt := some 20480000 }] })], ledger := [(0x502001, 1000), (0x502002, 1000)] },
        100, { ctxS with msgs := [{ msg0 6 with ackedAt := some 20480000 }] }, 0, { msg0 6 with ackedAt := some 20480000 }, 20480000,
        (by decide +kernel), (by decide +kernel), (by decide +kernel), (by decide +kernel)⟩
  · exact ⟨devS, 100, ctxS, { msg0 6 with final := some (pkt 6 (range 8) (List.replicate 8 5)) }, pkt 6 (range 8) (List.replicate 8 5),
        (by decide +kernel), (by decide +kernel), (by decide +kernel), (by decide +kernel)⟩
  · exact ⟨{ devS with ctxs := [(100, { ctxS with noPath := some 0 })], ledger := [(0x505001, 5000)] }, 100, { ctxS with noPath := some 0 }, 0,
        (by decide +kernel), (by decide +kernel), (by decide +kernel), (by decide +kernel)⟩
  · exact ⟨{ devS with ctxs := [(groupKey 100, ctxS)] }, groupKey 100, ctxS, 100, (by decide +kernel), (by decide +kernel)⟩
  · exact ⟨{ devS with ledger := [(0x602002, 10)] }, { msg0 0x11 with ackedAt := some 0 }, 100, 0, 0, (by decide +kernel), (by decide +kernel),
        (by decide +kernel), (by decide +kernel), (by decide +kernel), (by decide +kernel)⟩
  · exact ⟨{ devS with ledger := [(0x602002, 10)] }, { msg0 0x11 with ackedAt := some 20480000 }, 20480000, (by decide +kernel),
        (by decide +kernel)⟩
  · exact ⟨devS, 100, ctxS, (by decide +kernel), (by decide +kernel)⟩

theorem witness_MatchingAndTreeTimers :
    (∃ (s : State) (fn : _) (h : _) (k : _) (q : _) (x : Stream) (m : _), (Tab.look s.srqs (qkey fn h) = some q) ∧
       (Tab.look q.streams k = some x) ∧ (q.oldestHeld x = some m) ∧ (m.at_ + s.param 0x603001 ≤ s.ticks) ∧ (m.msn ≠ x.expected)) ∧
    (∃ (s : State) (fn : _) (h : _) (k : _) (q : _) (x : Stream) (m : _), (Tab.look s.srqs (qkey fn h) = some q) ∧
       (Tab.look q.streams k = some x) ∧ (q.oldestHeld x = some m) ∧ (s.ticks < m.at_ + s.param 0x603001)) ∧
    (∃ (s : State) (tree : _) (dev : _) (t : _) (e : Edge), (Tab.look s.trees tree = some t) ∧ (Tab.look t.edges dev = some e) ∧
       (s.onTime 8 = true) ∧ (e.tx + s.param 0x703001 ≤ s.ticks)) ∧
    (∃ (s : State) (tree : _) (dev : _) (t : _) (e : Edge), (Tab.look s.trees tree = some t) ∧ (Tab.look t.edges dev = some e) ∧
       (s.onTime 8 = true) ∧ (s.ticks < e.tx + s.param 0x703001)) ∧
    (∃ (s : State) (tree : _) (dev : _) (t : _) (e : Edge), (Tab.look s.trees tree = some t) ∧ (Tab.look t.edges dev = some e) ∧
       (s.onTime 8 = true) ∧ (e.rx + s.param 0x703002 ≤ s.ticks)) ∧
    (∃ (s : State) (tree : _) (dev : _) (t : _) (e : Edge), (Tab.look s.trees tree = some t) ∧ (Tab.look t.edges dev = some e) ∧
       (s.onTime 8 = true) ∧ (s.ticks < e.rx + s.param 0x703002)) := by
  refine ⟨?_, ?_, ?_, ?_, ?_, ?_⟩
  · exact ⟨{ devT wq with ledger := [(0x603001, 5000)], srqs := [(4, { srq0 with streams := [(1, ⟨9, 0, 5, 6, 0⟩)], stored := [stored0] })] },
        0, 4, 1, { srq0 with streams := [(1, ⟨9, 0, 5, 6, 0⟩)], stored := [stored0] }, ⟨9, 0, 5, 6, 0⟩, stored0, (by decide +kernel),
        (by decide +kernel), (by decide +kernel), (by decide +kernel), (by decide +kernel)⟩
  · exact ⟨{ devT wq with ledger := [(0x603001, 5001)], srqs := [(4, { srq0 with streams := [(1, ⟨9, 0, 5, 6, 0⟩)], stored := [stored0] })] },
        0, 4, 1, { srq0 with streams := [(1, ⟨9, 0, 5, 6, 0⟩)], stored := [stored0] }, ⟨9, 0, 5, 6, 0⟩, stored0, (by decide +kernel),
        (by decide +kernel), (by decide +kernel), (by decide +kernel)⟩
  · exact ⟨{ devE with ledger := [(0x703001, 5000)] }, 0x77, 9, { tree0 with edges := [(9, ⟨0, 0⟩)] }, ⟨0, 0⟩, (by decide +kernel),
        (by decide +kernel), (by decide +kernel), (by decide +kernel)⟩
  · exact ⟨{ devE with ledger := [(0x703001, 5001)] }, 0x77, 9, { tree0 with edges := [(9, ⟨0, 0⟩)] }, ⟨0, 0⟩, (by decide +kernel),
        (by decide +kernel), (by decide +kernel), (by decide +kernel)⟩
  · exact ⟨{ devE with ledger := [(0x703002, 5000)] }, 0x77, 9, { tree0 with edges := [(9, ⟨0, 0⟩)] }, ⟨0, 0⟩, (by decide +kernel),
        (by decide +kernel), (by decide +kernel), (by decide +kernel)⟩
  · exact ⟨{ devE with ledger := [(0x703002, 5001)] }, 0x77, 9, { tree0 with edges := [(9, ⟨0, 0⟩)] }, ⟨0, 0⟩, (by decide +kernel),
        (by decide +kernel), (by decide +kernel), (by decide +kernel)⟩

theorem witness_TaggedEntries :
    (∃ (s : State) (fn : Nat) (h : Nat) (q : Srq) (i : BitVec 16) (raw : Nat), (Tab.look s.srqs (qkey fn h) = some q) ∧
       (q.postHeld = some (i, raw)) ∧ (q.postNew = true) ∧ (isTagged raw = true) ∧ (s.taggedCq (qkey fn h) raw = true) ∧
       (taggedOk raw = true) ∧ (Ent.opcode raw = 0x11) ∧ (s.taggedLocal (qkey fn h) raw = Status.ok) ∧ (q.waitingFor raw = none) ∧
       (s.matchRoom = true)) ∧
    (∃ (s : State) (fn : Nat) (h : Nat) (q : Srq) (i : BitVec 16) (raw : Nat) (m : _) (u : _), (Tab.look s.srqs (qkey fn h) = some q) ∧
       (q.postHeld = some (i, raw)) ∧ (q.postNew = true) ∧ (isTagged raw = true) ∧ (s.taggedCq (qkey fn h) raw = true) ∧
       (taggedOk raw = true) ∧ (Ent.opcode raw = 0x11) ∧ (s.taggedLocal (qkey fn h) raw = Status.ok) ∧ (q.waitingFor raw = some m) ∧
       (s.reserve (qkey fn h / 65536) (Tag.cq raw) = some u)) ∧
    (∃ (s : State) (fn : Nat) (h : Nat) (q : Srq) (i : BitVec 16) (raw : Nat), (Tab.look s.srqs (qkey fn h) = some q) ∧
       (q.postHeld = some (i, raw)) ∧ (q.postNew = true) ∧ (isTagged raw = true) ∧ (s.taggedCq (qkey fn h) raw = true) ∧
       (taggedOk raw = true) ∧ (Ent.opcode raw = 0x11) ∧ (s.taggedLocal (qkey fn h) raw = Status.ok) ∧ (q.waitingFor raw = none) ∧
       (s.matchRoom = false)) ∧
    (∃ (s : State) (fn : Nat) (h : Nat) (q : Srq) (i : BitVec 16) (raw : Nat) (u : _), (Tab.look s.srqs (qkey fn h) = some q) ∧
       (q.postHeld = some (i, raw)) ∧ (q.postNew = true) ∧ (isTagged raw = true) ∧ (s.taggedCq (qkey fn h) raw = true) ∧
       (taggedOk raw = true) ∧ (Ent.opcode raw = 0x12) ∧ (s.taggedLocal (qkey fn h) raw = Status.ok) ∧
       (s.reserve (qkey fn h / 65536) (Tag.cq raw) = some u)) ∧
    (∃ (s : State) (fn : Nat) (h : Nat) (q : Srq) (i : BitVec 16) (raw : Nat) (u : _), (Tab.look s.srqs (qkey fn h) = some q) ∧
       (q.postHeld = some (i, raw)) ∧ (q.postNew = true) ∧ (isTagged raw = true) ∧ (s.taggedCq (qkey fn h) raw = true) ∧
       (taggedOk raw = true) ∧ (Ent.opcode raw = 0x13) ∧ ((∀ p ∈ q.posted, Ent.wrId p.raw ≠ Tag.cancelId raw)) ∧
       (s.srqEntryDone (qkey fn h) (Tag.cq raw) i raw Status.aborted = some u)) ∧
    (∃ (s : State) (fn : Nat) (h : Nat) (q : Srq) (i : BitVec 16) (raw : Nat) (p : _) (u : _) (v : _),
       (Tab.look s.srqs (qkey fn h) = some q) ∧ (q.postHeld = some (i, raw)) ∧ (q.postNew = true) ∧ (isTagged raw = true) ∧
       (s.taggedCq (qkey fn h) raw = true) ∧ (taggedOk raw = true) ∧ (Ent.opcode raw = 0x13) ∧ (q.posted = [p]) ∧
       (Ent.wrId p.raw = Tag.cancelId raw) ∧ (s.srqEntryDone (qkey fn h) (Tag.cq p.raw) p.idx p.raw Status.cancelled = some u) ∧
       (u.srqEntryDone (qkey fn h) (Tag.cq raw) i raw Status.ok = some v)) ∧
    (∃ (s : State) (fn : Nat) (h : Nat) (q : Srq) (i : BitVec 16) (raw : Nat) (c : Instr) (u : _), (Tab.look s.srqs (qkey fn h) = some q) ∧
       (q.postHeld = some (i, raw)) ∧ (q.postNew = true) ∧ (isTagged raw = true) ∧ (s.taggedCq (qkey fn h) raw = true) ∧
       (taggedOk raw = true) ∧ ((c = .trecv fn h ∧ Ent.opcode raw = 0x11 ∨ c = .tbuf fn h ∧ Ent.opcode raw = 0x12)) ∧
       (s.taggedLocal (qkey fn h) raw ≠ Status.ok) ∧
       (s.srqEntryDone (qkey fn h) (Tag.cq raw) i raw (s.taggedLocal (qkey fn h) raw) = some u)) ∧
    (∃ (q : Srq) (q' : Srq) (len : Nat) (id : Nat) (off : Nat), (q.allot len = some (id, off, q'))) := by
  refine ⟨?_, ?_, ?_, ?_, ?_, ?_, ?_, ?_⟩
  · exact ⟨devX recv0, 0, 4, { srq0 with postHeld := some (0, recv0), postNew := true }, 0, recv0, (by decide +kernel), (by decide +kernel),
        (by decide +kernel), (by decide +kernel), (by decide +kernel), (by decide +kernel), (by decide +kernel), (by decide +kernel),
        (by decide +kernel), (by decide +kernel)⟩
  · exact ⟨devX recv0 { srq0 with stored := [{ stored0 with elig := some 2, complete := true, rts := false, buf := some (1, 0) }] }, 0, 4,
        { srq0 with postHeld := some (0, recv0), postNew := true, stored := [{ stored0 with elig := some 2, complete := true, rts := false, buf := some (1, 0) }] },
        0, recv0, { stored0 with elig := some 2, complete := true, rts := false, buf := some (1, 0) },
        { devX recv0 { srq0 with stored := [{ stored0 with elig := some 2, complete := true, rts := false, buf := some (1, 0) }] } with cqs := [(1, cq0), (2, { cq0 with reserved := 1 })] },
        (by decide +kernel), (by decide +kernel), (by decide +kernel), (by decide +kernel), (by decide +kernel), (by decide +kernel),
        (by decide +kernel), (by decide +kernel), (by decide +kernel), (by decide +kernel)⟩
  · exact ⟨devX recv0 { srq0 with streams := List.replicate 4194304 (1, ⟨9, 0, 5, 6, 0⟩) }, 0, 4,
        { srq0 with postHeld := some (0, recv0), postNew := true, streams := List.replicate 4194304 (1, ⟨9, 0, 5, 6, 0⟩) }, 0, recv0, (rfl),
        (rfl), (rfl), (by decide +kernel), (by decide +kernel), (by decide +kernel), (by decide +kernel), (by decide +kernel),
        (by decide +kernel), (full_matching)⟩
  · exact ⟨devX tbuf0, 0, 4, { srq0 with postHeld := some (0, tbuf0), postNew := true }, 0, tbuf0,
        { devX tbuf0 with cqs := [(1, cq0), (2, { cq0 with reserved := 1 })] }, (by decide +kernel), (by decide +kernel),
        (by decide +kernel), (by decide +kernel), (by decide +kernel), (by decide +kernel), (by decide +kernel), (by decide +kernel),
        (by decide +kernel)⟩
  · obtain ⟨u, hu⟩ := srqEntryDone_some (devX cancel0) _ 4 2 0 cancel0 Status.aborted rfl
    exact ⟨devX cancel0, 0, 4, { srq0 with postHeld := some (0, cancel0), postNew := true }, 0, cancel0, u, (by decide +kernel), (by decide +kernel), (by decide +kernel), (by decide +kernel), (by decide +kernel), (by decide +kernel), (by decide +kernel), (by decide +kernel), (hu)⟩
  · obtain ⟨u, v, hu, hv⟩ := cancel_twice
    exact ⟨devC, 0, 4, { srq0 with posted := [⟨0, 9, recv0⟩], postHeld := some (0, cancel0), postNew := true }, 0, cancel0, ⟨0, 9, recv0⟩, u, v, (by decide +kernel), (by decide +kernel), (by decide +kernel), (by decide +kernel), (by decide +kernel), (by decide +kernel), (by decide +kernel), (by decide +kernel), (by decide +kernel), (hu), (hv)⟩
  · obtain ⟨u, hu⟩ := srqEntryDone_some (devX (recv0 + place 0x10 8 8 1)) _ 4 2 0 (recv0 + place 0x10 8 8 1) (State.taggedLocal (devX (recv0 + place 0x10 8 8 1)) 4 (recv0 + place 0x10 8 8 1)) rfl
    exact ⟨devX (recv0 + place 0x10 8 8 1), 0, 4, { srq0 with postHeld := some (0, recv0 + place 0x10 8 8 1), postNew := true }, 0, recv0 + place 0x10 8 8 1, .trecv 0 4, u, (by decide +kernel), (by decide +kernel), (by decide +kernel), (by decide +kernel), (by decide +kernel), (by decide +kernel), (by decide +kernel), (by decide +kernel), (hu)⟩
  · exact ⟨{ srq0 with tbufs := [⟨1, 0, place 0x14 0 32 4096, 0, false, 0⟩] },
        { srq0 with tbufs := [⟨1, 0, place 0x14 0 32 4096, 100, false, 1⟩] }, 100, 1, 0, (by decide +kernel)⟩

theorem witness_Matching :
    (∃ (q : Srq) (rank : _) (context : _) (tag : _) (p : Posted), (q.candidate rank context tag = some p)) ∧
    (∃ (q : Srq) (rank : _) (context : _) (tag : _) (p : Posted) (r : Posted), (q.candidate rank context tag = some p) ∧ (r ∈ q.posted) ∧
       (matches_ rank context tag r.raw = true)) ∧
    (∃ (q : Srq) (rank : _) (context : _) (tag : _) (r : Posted), (q.candidate rank context tag = none) ∧ (r ∈ q.posted)) ∧
    (∃ (q : Srq) (raw : _) (m : Stored), (q.waitingFor raw = some m)) ∧
    (∃ (q : Srq) (raw : _) (x : Stored), (q.waitingFor raw = none) ∧ (x ∈ q.stored) ∧ (x.elig ≠ none)) ∧
    (∃ (tag : Nat), (tag < 2 ^ 32)) := by
  refine ⟨?_, ?_, ?_, ?_, ?_, ?_⟩
  · exact ⟨{ srq0 with posted := [⟨0, 9, recv0⟩] }, 5, 6, 1, ⟨0, 9, recv0⟩, (by decide +kernel)⟩
  · exact ⟨{ srq0 with posted := [⟨0, 9, recv0⟩, ⟨1, 9, recv0⟩] }, 5, 6, 1, ⟨0, 9, recv0⟩, ⟨1, 9, recv0⟩, (by decide +kernel),
        (by decide +kernel), (by decide +kernel)⟩
  · exact ⟨{ srq0 with posted := [⟨0, 9, recv0⟩] }, 5, 6, 4, ⟨0, 9, recv0⟩, (by decide +kernel), (by decide +kernel)⟩
  · exact ⟨{ srq0 with stored := [{ stored0 with elig := some 0, rank := 5, context := 6, tag := 1 }] }, recv0,
        { stored0 with elig := some 0, rank := 5, context := 6, tag := 1 }, (by decide +kernel)⟩
  · exact ⟨{ srq0 with stored := [{ stored0 with elig := some 0, tag := 4 }] }, recv0, { stored0 with elig := some 0, tag := 4 },
        (by decide +kernel), (by decide +kernel), (by decide +kernel)⟩
  · exact ⟨1, (by decide +kernel)⟩

theorem witness_LedgerCommandWrites :
    (∃ (s : State) (src : Nat) (tid : Nat) (data : Bytes) (c : Instr) (a : _) (f : State → State), (s.life ≠ .dark) ∧
       (s.lap.silent = false) ∧ (s.lap.off = false) ∧ (s.keptAnswer false src tid = none) ∧ (s.clerk.pausedAt = none) ∧
       ((c = .freezeRequest (.lap src tid) .A data ∧ a = 0x206001 ∧ f = (fun u => u.freezePort .A Cause.management) ∨
       c = .freezeRequest (.lap src tid) .B data ∧ a = 0x206002 ∧ f = (fun u => u.freezePort .B Cause.management) ∨
       c = .treeWrite (.lap src tid) data ∧ a = 0x710001 ∧ f = (fun u => u.installTree (leNat data) none) ∨
       c = .treeDestroy (.lap src tid) data ∧ a = 0x710002 ∧ f = (fun u => u.removeTree (leNat data)) ∨ c = .mcastWrite (.lap src tid) data ∧
       a = 0x820001 ∧ f = (fun u => u.mcastPut (leNat data)) ∨ (∃ q, q < 64 ∧ c = .portRetrain (.lap src tid) q data ∧ a = 0xB06001 + q ∧
       f = (fun u => u.retrain q)) ∨ c = .refSecondsWrite (.lap src tid) data ∧ a = 0xC02002 ∧
       f = (fun u => { u with time := { u.time with refSeconds := some (leNat data) } }) ∨ c = .directorySelect (.lap src tid) data ∧
       a = 0x000101 ∧ f = (fun u => u.setParam 0x000101 (leNat data)) ∨ c = .switchBellWrite (.lap src tid) data ∧ a = 0x003004 ∧
       f = (fun u => { u with clerk := { u.clerk with switchBell := some (leNat data), switchResult := 1 } }) ∨
       c = .requestOpen (.lap src tid) data ∧ a = 0xE00001 ∧ f = State.askOpen ∨ c = .beadleSelect (.lap src tid) data ∧ a = 0xE10201 ∧
       f = (fun u => u.setParam 0xE10201 (leNat data)) ∨ c = .beadleClear (.lap src tid) data ∧ a = 0xE10203 ∧
       f = (fun u => u.clearSources (leNat data)) ∨ (∃ n, n < 512 ∧ c = .tallyCountWrite (.lap src tid) n data ∧ a = 0xF20000 + n ∧
       f = (fun u => { u with tally := { u.tally with counts := Tab.setNum u.tally.counts n (leNat data) } })) ∨
       c = .tallyDumpEnable (.lap src tid) data ∧ a = 0xF01006 ∧ f = (fun u => u.setDumpEnable (leNat data)) ∨
       c = .tallyDumpCi (.lap src tid) data ∧ a = 0xF01101 ∧
       f = (fun u => { u with tally := { u.tally with ci := BitVec.ofNat 16 (leNat data) } }))) ∧ (s.writeForm true a data = Lres.ok) ∧
       (s.objectCode a (leNat data) = Lres.ok)) ∧
    (∃ (s : State) (src : Nat) (tid : Nat) (data : Bytes) (c : Instr) (a : _) (f : State → State), (s.life ≠ .dark) ∧
       (s.lap.silent = false) ∧ (s.lap.off = false) ∧ (s.keptAnswer false src tid = none) ∧ (s.clerk.pausedAt = none) ∧
       ((c = .freezeRequest (.lap src tid) .A data ∧ a = 0x206001 ∧ f = (fun u => u.freezePort .A Cause.management) ∨
       c = .freezeRequest (.lap src tid) .B data ∧ a = 0x206002 ∧ f = (fun u => u.freezePort .B Cause.management) ∨
       c = .treeWrite (.lap src tid) data ∧ a = 0x710001 ∧ f = (fun u => u.installTree (leNat data) none) ∨
       c = .treeDestroy (.lap src tid) data ∧ a = 0x710002 ∧ f = (fun u => u.removeTree (leNat data)) ∨ c = .mcastWrite (.lap src tid) data ∧
       a = 0x820001 ∧ f = (fun u => u.mcastPut (leNat data)) ∨ (∃ q, q < 64 ∧ c = .portRetrain (.lap src tid) q data ∧ a = 0xB06001 + q ∧
       f = (fun u => u.retrain q)) ∨ c = .refSecondsWrite (.lap src tid) data ∧ a = 0xC02002 ∧
       f = (fun u => { u with time := { u.time with refSeconds := some (leNat data) } }) ∨ c = .directorySelect (.lap src tid) data ∧
       a = 0x000101 ∧ f = (fun u => u.setParam 0x000101 (leNat data)) ∨ c = .switchBellWrite (.lap src tid) data ∧ a = 0x003004 ∧
       f = (fun u => { u with clerk := { u.clerk with switchBell := some (leNat data), switchResult := 1 } }) ∨
       c = .requestOpen (.lap src tid) data ∧ a = 0xE00001 ∧ f = State.askOpen ∨ c = .beadleSelect (.lap src tid) data ∧ a = 0xE10201 ∧
       f = (fun u => u.setParam 0xE10201 (leNat data)) ∨ c = .beadleClear (.lap src tid) data ∧ a = 0xE10203 ∧
       f = (fun u => u.clearSources (leNat data)) ∨ (∃ n, n < 512 ∧ c = .tallyCountWrite (.lap src tid) n data ∧ a = 0xF20000 + n ∧
       f = (fun u => { u with tally := { u.tally with counts := Tab.setNum u.tally.counts n (leNat data) } })) ∨
       c = .tallyDumpEnable (.lap src tid) data ∧ a = 0xF01006 ∧ f = (fun u => u.setDumpEnable (leNat data)) ∨
       c = .tallyDumpCi (.lap src tid) data ∧ a = 0xF01101 ∧
       f = (fun u => { u with tally := { u.tally with ci := BitVec.ofNat 16 (leNat data) } }))) ∧ (s.writeForm true a data ≠ Lres.ok)) ∧
    (∃ (s : State) (src : Nat) (tid : Nat) (data : Bytes) (c : Instr) (a : _) (f : State → State), (s.life ≠ .dark) ∧
       (s.lap.silent = false) ∧ (s.lap.off = false) ∧ (s.keptAnswer false src tid = none) ∧ (s.clerk.pausedAt = none) ∧
       ((c = .freezeRequest (.lap src tid) .A data ∧ a = 0x206001 ∧ f = (fun u => u.freezePort .A Cause.management) ∨
       c = .freezeRequest (.lap src tid) .B data ∧ a = 0x206002 ∧ f = (fun u => u.freezePort .B Cause.management) ∨
       c = .treeWrite (.lap src tid) data ∧ a = 0x710001 ∧ f = (fun u => u.installTree (leNat data) none) ∨
       c = .treeDestroy (.lap src tid) data ∧ a = 0x710002 ∧ f = (fun u => u.removeTree (leNat data)) ∨ c = .mcastWrite (.lap src tid) data ∧
       a = 0x820001 ∧ f = (fun u => u.mcastPut (leNat data)) ∨ (∃ q, q < 64 ∧ c = .portRetrain (.lap src tid) q data ∧ a = 0xB06001 + q ∧
       f = (fun u => u.retrain q)) ∨ c = .refSecondsWrite (.lap src tid) data ∧ a = 0xC02002 ∧
       f = (fun u => { u with time := { u.time with refSeconds := some (leNat data) } }) ∨ c = .directorySelect (.lap src tid) data ∧
       a = 0x000101 ∧ f = (fun u => u.setParam 0x000101 (leNat data)) ∨ c = .switchBellWrite (.lap src tid) data ∧ a = 0x003004 ∧
       f = (fun u => { u with clerk := { u.clerk with switchBell := some (leNat data), switchResult := 1 } }) ∨
       c = .requestOpen (.lap src tid) data ∧ a = 0xE00001 ∧ f = State.askOpen ∨ c = .beadleSelect (.lap src tid) data ∧ a = 0xE10201 ∧
       f = (fun u => u.setParam 0xE10201 (leNat data)) ∨ c = .beadleClear (.lap src tid) data ∧ a = 0xE10203 ∧
       f = (fun u => u.clearSources (leNat data)) ∨ (∃ n, n < 512 ∧ c = .tallyCountWrite (.lap src tid) n data ∧ a = 0xF20000 + n ∧
       f = (fun u => { u with tally := { u.tally with counts := Tab.setNum u.tally.counts n (leNat data) } })) ∨
       c = .tallyDumpEnable (.lap src tid) data ∧ a = 0xF01006 ∧ f = (fun u => u.setDumpEnable (leNat data)) ∨
       c = .tallyDumpCi (.lap src tid) data ∧ a = 0xF01101 ∧
       f = (fun u => { u with tally := { u.tally with ci := BitVec.ofNat 16 (leNat data) } }))) ∧ (s.writeForm true a data = Lres.ok) ∧
       (s.objectCode a (leNat data) ≠ Lres.ok)) ∧
    (∃ (s : State) (src : Nat) (tid : Nat) (data : Bytes), (s.life ≠ .dark) ∧ (s.lap.silent = false) ∧ (s.lap.off = false) ∧
       (s.keptAnswer false src tid = none) ∧ (s.clerk.pausedAt = none) ∧ (s.writeForm true 0x001001 data = Lres.ok)) ∧
    (∃ (s : State) (src : Nat) (tid : Nat) (data : Bytes), (s.life ≠ .dark) ∧ (s.lap.silent = false) ∧ (s.lap.off = false) ∧
       (s.keptAnswer false src tid = none) ∧ (s.clerk.pausedAt = none) ∧ (s.writeForm true 0xE00003 data = Lres.ok)) ∧
    (∃ (s : State) (src : Nat) (tid : Nat) (data : Bytes) (fn : _), (s.life ≠ .dark) ∧ (s.lap.silent = false) ∧ (s.lap.off = false) ∧
       (s.keptAnswer false src tid = none) ∧ (s.clerk.pausedAt = none) ∧ (fnIsPf fn = true) ∧ (s.reachableFn fn = true) ∧
       ((s.fn fn).mailbox.running = false) ∧ (s.writeForm true 0xE00003 data = Lres.ok)) ∧
    (∃ (s : State) (src : Nat) (tid : Nat) (r : _) (u : _), (s.life ≠ .dark) ∧ (s.lap.silent = false) ∧ (s.lap.off = false) ∧
       (s.keptAnswer false src tid = none) ∧ (s.clerk.pausedAt = none) ∧ (s.writeForm true 0x002002 [1] = Lres.ok) ∧
       (s.clerk.bulkBusy = false) ∧ (s.loadImage s.bulkImage = (r, u))) ∧
    (∃ (s : State) (src : Nat) (tid : Nat), (s.life ≠ .dark) ∧ (s.lap.silent = false) ∧ (s.lap.off = false) ∧
       (s.keptAnswer false src tid = none) ∧ (s.clerk.pausedAt = none) ∧ (s.life = .sealed) ∧ (s.clerk.bulkBusy = false) ∧
       (s.clerk.loader = none)) ∧
    (∃ (s : State) (src : Nat) (tid : Nat), (s.life ≠ .dark) ∧ (s.lap.silent = false) ∧ (s.lap.off = false) ∧
       (s.keptAnswer false src tid = none) ∧ (s.clerk.pausedAt = none) ∧ (s.life ≠ .sealed) ∧ (s.clerk.bulkBusy = false) ∧
       (s.writeForm true 0x002002 [2] = Lres.ok)) ∧
    (∃ (s : State) (src : Nat) (tid : Nat), (s.life ≠ .dark) ∧ (s.lap.silent = false) ∧ (s.lap.off = false) ∧
       (s.keptAnswer false src tid = none) ∧ (s.clerk.pausedAt = none) ∧ (s.writeForm true 0x002002 [3] = Lres.ok) ∧
       (s.clerk.bulkBusy = false) ∧ (s.stagingCode = Lres.ok)) := by
  refine ⟨?_, ?_, ?_, ?_, ?_, ?_, ?_, ?_, ?_, ?_⟩
  · exact ⟨devL, 1, 2, [5, 0], .tallyDumpCi (.lap 1 2) [5, 0], 0xF01101, fun u => { u with tally := { u.tally with ci := 5 } }, (by decide +kernel), (by decide +kernel), (by decide +kernel), (by decide +kernel), (by decide +kernel), (by repeat first | exact ⟨rfl, rfl, rfl⟩ | apply Or.inr), (by decide +kernel), (by decide +kernel)⟩
  · exact ⟨devL, 1, 2, [5], .tallyDumpCi (.lap 1 2) [5], 0xF01101, fun u => { u with tally := { u.tally with ci := 5 } }, (by decide +kernel), (by decide +kernel), (by decide +kernel), (by decide +kernel), (by decide +kernel), (by repeat first | exact ⟨rfl, rfl, rfl⟩ | apply Or.inr), (by decide +kernel)⟩
  · exact ⟨devL, 1, 2, [0x77, 0], .treeDestroy (.lap 1 2) [0x77, 0], 0x710002, fun u => u.removeTree 0x77, (by decide +kernel),
        (by decide +kernel), (by decide +kernel), (by decide +kernel), (by decide +kernel), (.inr (.inr (.inr (.inl ⟨rfl, rfl, rfl⟩)))),
        (by decide +kernel), (by decide +kernel)⟩
  · exact ⟨{ setup with lap := Lap.fresh 5 }, 1, 2, [1, 2, 3, 4, 5, 6, 7, 8], (by decide +kernel), (by decide +kernel), (by decide +kernel),
        (by decide +kernel), (by decide +kernel), (by decide +kernel)⟩
  · exact ⟨devL, 1, 2, [1], (by decide +kernel), (by decide +kernel), (by decide +kernel), (by decide +kernel), (by decide +kernel),
        (by decide +kernel)⟩
  · exact ⟨devL, 1, 2, [1], 0, (by decide +kernel), (by decide +kernel), (by decide +kernel), (by decide +kernel), (by decide +kernel),
        (by decide +kernel), (by decide +kernel), (by decide +kernel), (by decide +kernel)⟩
  · obtain ⟨r, u, e⟩ : ∃ r u, devL.loadImage devL.bulkImage = (r, u) := ⟨_, _, rfl⟩
    exact ⟨devL, 1, 2, r, u, (by decide +kernel), (by decide +kernel), (by decide +kernel), (by decide +kernel), (by decide +kernel), (by decide +kernel), (by decide +kernel), (e)⟩
  · exact ⟨{ State.reset with lap := Lap.fresh 5 }, 1, 2, (by decide +kernel), (by decide +kernel), (by decide +kernel), (by decide +kernel),
        (by decide +kernel), (by decide +kernel), (by decide +kernel), (by decide +kernel)⟩
  · exact ⟨devL, 1, 2, (by decide +kernel), (by decide +kernel), (by decide +kernel), (by decide +kernel), (by decide +kernel),
        (by decide +kernel), (by decide +kernel), (by decide +kernel)⟩
  · exact ⟨devL, 1, 2, (by decide +kernel), (by decide +kernel), (by decide +kernel), (by decide +kernel), (by decide +kernel),
        (by decide +kernel), (by decide +kernel), (by decide +kernel)⟩

theorem witness_LedgerWritesAreJudged :
    (∃ (s : State) (pf : Bool) (a : Nat) (data : Bytes) (c : _) (b : _) (u : _), (s.ledgerWrite pf a data = (c, b, u)) ∧ (c ≠ Lres.ok)) ∧
    (∃ (s : State) (pf : Bool) (a : Nat) (data : Bytes), (Param.find a = none ∨ pf = false ∨ (∃ r, Param.find a = some r ∧ (r.right = .ro ∨
       data.length ≠ PType.bytes r.ty ∨ Param.inRange r a (leNat data) = false ∨ (r.right = .rwSetup ∧ s.life ≠ .setup) ∨ s.life = .shutter ∨
       (s.life = .sealed ∧ r.boot = false))))) ∧
    (∃ (s : State) (pf : Bool) (a : Nat) (data : Bytes) (r : Param) (u : State) (b : _), (Param.find a = some r) ∧ (r.right = .rwBell) ∧
       (s.ledgerWrite pf a data = (Lres.ok, b, u))) ∧
    (∃ (s : State) (pf : Bool) (a : Nat) (data : Bytes) (r : Param) (u : State) (b : _) (k : _), (Param.find a = some r) ∧
       (r.right = .rwBell) ∧ (s.ledgerWrite pf a data = (Lres.ok, b, u)) ∧ (s.bell < k) ∧ (k < b)) := by
  refine ⟨?_, ?_, ?_, ?_⟩
  · exact ⟨dev, true, 0x302001, [17], Lres.range, 0, dev, (by decide +kernel), (by decide +kernel)⟩
  · exact ⟨dev, true, 0x302001, [17], (.inr (.inr ⟨_, rfl, .inr (.inr (.inl (by decide +kernel)))⟩))⟩
  · exact ⟨dev, true, 0x302001, [5], ⟨0x3020, 0x3020, 0x01, 0x01, .u8, .rwBell, false, 2, 4, 0, 16, (.fixed "que.prefetch.depth")⟩,
        { dev with staged := [⟨1, 0x302001, 5, true⟩] }, 1, (by decide +kernel), (by decide +kernel), (by decide +kernel)⟩
  · exact ⟨{ dev with staged := List.replicate 256 ⟨1, 0, 0, true⟩ }, true, 0x302001, [5], ⟨0x3020, 0x3020, 0x01, 0x01, .u8, .rwBell, false, 2,
        4, 0, 16, (.fixed "que.prefetch.depth")⟩, { dev with staged := List.replicate 256 ⟨1, 0, 0, true⟩ ++ [⟨2, 0x302001, 5, true⟩] }, 2,
        1, (by decide +kernel), (by decide +kernel), (by decide +kernel), (by decide +kernel), (by decide +kernel)⟩

theorem witness_MailboxSubmissions :
    (∃ (s : State) (fn : Nat) (len : Nat) (seq : Nat) (c : Instr) (op : _), (s.reachableFn fn = true) ∧ (c = .mailboxRead fn len seq ∧
       op = 1 ∨ c = .mailboxWrite fn len seq ∧ op = 2 ∨ c = .mailboxBadOp fn len seq op) ∧ ((s.fn fn).mailbox.running = true)) ∧
    (∃ (s : State) (fn : Nat), (s.reachableFn fn = true) ∧ ((s.fn fn).mailbox.running = false)) ∧
    (∃ (s : State) (fn : Nat), (s.reachableFn fn = true) ∧ ((s.fn fn).mailbox.running = false) ∧ (s.clerk.pausedAt = none)) ∧
    (∃ (s : State) (fn : Nat) (len : Nat), (s.reachableFn fn = true) ∧ ((s.fn fn).mailbox.running = false) ∧ (s.clerk.pausedAt = none) ∧
       ((s.fn fn).mailbox.addr ≠ 0x002002) ∧ (s.writeForm (fnIsPf fn) (s.fn fn).mailbox.addr (leBytes len (s.fn fn).mailbox.data) ≠ Lres.ok)) ∧
    (∃ (s : State) (fn : Nat) (len : Nat) (r : Param), (s.reachableFn fn = true) ∧ ((s.fn fn).mailbox.running = false) ∧
       (s.clerk.pausedAt = none) ∧ (Param.find (s.fn fn).mailbox.addr = some r) ∧ (r.right = .rwBell) ∧
       (s.writeForm (fnIsPf fn) (s.fn fn).mailbox.addr (leBytes len (s.fn fn).mailbox.data) = Lres.ok) ∧
       (s.rulesCode (s.fn fn).mailbox.addr (leNat (leBytes len (s.fn fn).mailbox.data)) = Lres.ok)) := by
  refine ⟨?_, ?_, ?_, ?_, ?_⟩
  · exact ⟨{ dev with fns := [(0, { Fn.fresh with mailbox := { Mailbox.fresh with running := true } })] }, 0, 4, 9, .mailboxRead 0 4 9, 1,
        (by decide +kernel), (by decide +kernel), (by decide +kernel)⟩
  · exact ⟨dev, 0, (by decide +kernel), (by decide +kernel)⟩
  · exact ⟨{ dev with fns := [(0, { Fn.fresh with mailbox := { Mailbox.fresh with addr := 0x302001 } })] }, 0, (by decide +kernel),
        (by decide +kernel), (by decide +kernel)⟩
  · exact ⟨{ dev with fns := [(0, { Fn.fresh with mailbox := { Mailbox.fresh with addr := 0x302001 } })] }, 0, 4, (by decide +kernel),
        (by decide +kernel), (by decide +kernel), (by decide +kernel), (by decide +kernel)⟩
  · exact ⟨{ dev with fns := [(0, { Fn.fresh with mailbox := { Mailbox.fresh with addr := 0x302001, data := 5 } })] }, 0, 1, ⟨0x3020, 0x3020,
        0x01, 0x01, .u8, .rwBell, false, 2, 4, 0, 16, (.fixed "que.prefetch.depth")⟩, (by decide +kernel), (by decide +kernel),
        (by decide +kernel), (by decide +kernel), (by decide +kernel), (by decide +kernel), (by decide +kernel)⟩

theorem witness_InbandRequests :
    (∃ (s : State) (k : Kpt), (k.at_ = s.ticks)) ∧
    (∃ (s : State) (k : Kpt) (x : _), (k.at_ = s.ticks) ∧ (x ∈ (s.keep k).clerk.kept)) ∧
    (∃ (s : State) (k : Kpt), (k.at_ = s.ticks) ∧ (s.clerk.kept.Nodup)) ∧
    (∃ (s : State) (p : Packet), (s.life.opened = true) ∧ (Packet.arrivalCheck p = 0) ∧ (p.ptype = 0x40) ∧ (s.flag 0x001002 = false ∨
       Packet.ext p 0x28 0 64 ≠ s.clerk.key)) ∧
    (∃ (s : State) (p : Packet) (k : Kpt) (r : _), (s.life.opened = true) ∧ (Packet.arrivalCheck p = 0) ∧ (p.ptype = 0x40) ∧
       (s.flag 0x001002 = true) ∧ (Packet.ext p 0x28 0 64 = s.clerk.key) ∧ (s.keptAnswer true p.srcDev (Packet.ext p 0x30 16 16) = some k) ∧
       (k.packet = some r)) ∧
    (∃ (s : State) (p : Packet) (t : _), (s.life.opened = true) ∧ (Packet.arrivalCheck p = 0) ∧ (p.ptype = 0x40) ∧ (s.flag 0x001002 = true) ∧
       (Packet.ext p 0x28 0 64 = s.clerk.key) ∧ (s.keptAnswer true p.srcDev (Packet.ext p 0x30 16 16) = none) ∧ (s.clerk.pausedAt = some t)) ∧
    (∃ (s : State) (p : Packet), (s.life.opened = true) ∧ (Packet.arrivalCheck p = 0) ∧ (p.ptype = 0x40) ∧ (s.flag 0x001002 = true) ∧
       (Packet.ext p 0x28 0 64 = s.clerk.key) ∧ (s.keptAnswer true p.srcDev (Packet.ext p 0x30 16 16) = none) ∧ (s.clerk.pausedAt = none) ∧
       (mgmtParse p.payload = none)) ∧
    (∃ (s : State) (p : Packet) (l : List MgmtRec), (s.life.opened = true) ∧ (Packet.arrivalCheck p = 0) ∧ (p.ptype = 0x40) ∧
       (s.flag 0x001002 = true) ∧ (Packet.ext p 0x28 0 64 = s.clerk.key) ∧ (s.keptAnswer true p.srcDev (Packet.ext p 0x30 16 16) = none) ∧
       (s.clerk.pausedAt = none) ∧ (mgmtParse p.payload = some l)) ∧
    (∃ (s : State) (p : Packet), (s.life.opened = true) ∧ (Packet.arrivalCheck p = 0) ∧ (p.ptype = 0x41)) := by
  refine ⟨?_, ?_, ?_, ?_, ?_, ?_, ?_, ?_, ?_⟩
  · exact ⟨dev, kept0 true 9, (by decide +kernel)⟩
  · exact ⟨dev, kept0 true 9, kept0 true 9, (by decide +kernel), (by decide +kernel)⟩
  · exact ⟨dev, kept0 true 9, (by decide +kernel), (by decide +kernel)⟩
  · exact ⟨arriving { dev with ledger := [(0x001002, 0)] } (mreq 0x40 7 (leBytes 8 0)), mreq 0x40 7 (leBytes 8 0), (by decide +kernel),
        (by decide +kernel), (by decide +kernel), (by decide +kernel)⟩
  · exact ⟨arriving { devB with clerk := { Clerk.fresh with kept := [kept0 true 9] } } (mreq 0x40 7 (leBytes 8 0)), mreq 0x40 7 (leBytes 8 0),
        kept0 true 9, Packet.blank, (by decide +kernel), (by decide +kernel), (by decide +kernel), (by decide +kernel), (by decide +kernel),
        (by decide +kernel), (by decide +kernel)⟩
  · exact ⟨arriving { devB with clerk := { Clerk.fresh with pausedAt := some 5000 } } (mreq 0x40 7 (leBytes 8 0)), mreq 0x40 7 (leBytes 8 0),
        5000, (by decide +kernel), (by decide +kernel), (by decide +kernel), (by decide +kernel), (by decide +kernel), (by decide +kernel),
        (by decide +kernel)⟩
  · exact ⟨arriving devB (mreq 0x40 7 (leBytes 8 1)), mreq 0x40 7 (leBytes 8 1), (by decide +kernel), (by decide +kernel), (by decide +kernel),
        (by decide +kernel), (by decide +kernel), (by decide +kernel), (by decide +kernel), (by decide +kernel)⟩
  · exact ⟨arriving devB (mreq 0x40 7 (leBytes 8 1 ++ leBytes 8 (0x302001 + 2 ^ 48))),
        mreq 0x40 7 (leBytes 8 1 ++ leBytes 8 (0x302001 + 2 ^ 48)), [{ addr := 0x302001, len := 0, op := 1, value := [] }],
        (by decide +kernel), (by decide +kernel), (by decide +kernel), (by decide +kernel), (by decide +kernel), (by decide +kernel),
        (by decide +kernel), (by decide +kernel)⟩
  · exact ⟨arriving devB (mreq 0x41 7 []), mreq 0x41 7 [], (by decide +kernel), (by decide +kernel), (by decide +kernel)⟩

theorem witness_LapBusCommands :
    (∃ (s : State), (s.lap.off = true) ∧ (s.comes (s.lap.offAt + nsUnits (1408000 + s.param 0xF80004 * 1000000)) = true)) ∧
    (∃ (s : State) (f : LapFrame), (s.lapHears = true) ∧ (f.ident = s.lapOwn) ∧ (s.lapHeld < 32) ∧ (LapFrame.field f 0 0 8 = 1) ∧
       (LapFrame.addressed f = true) ∧ (s.keptAnswer false (LapFrame.field f 2 0 7) (LapFrame.field f 1 0 8) = none)) ∧
    (∃ (s : State) (f : LapFrame) (k : _) (c : Instr), (s.lapHears = true) ∧ (f.ident = s.lapOwn) ∧ (s.lapHeld < 32) ∧
       (s.keptAnswer false (LapFrame.field f 2 0 7) (LapFrame.field f 1 0 8) = some k) ∧ ((c = .lapRead f ∧ LapFrame.field f 0 0 8 = 1 ∧
       LapFrame.addressed f = true ∨ c = .lapPing f ∧ LapFrame.field f 0 0 8 = 5))) ∧
    (∃ (s : State) (f : LapFrame), (s.lapHears = true) ∧ (f.ident = s.lapOwn) ∧ (s.lapHeld < 32) ∧ (LapFrame.field f 0 0 8 = 1) ∧
       (LapFrame.addressed f = false)) ∧
    (∃ (s : State) (f : LapFrame) (c : Instr) (n : _), (s.lapHears = true) ∧ ((c = .lapRead f ∧ n = 1 ∨ c = .lapWrite f ∧ n = 2 ∨
       c = .lapBlock f ∧ n = 3 ∨ c = .lapPing f ∧ n = 5)) ∧ (LapFrame.field f 0 0 8 = n) ∧ (f.ident = s.lapOwn) ∧ (32 ≤ s.lapHeld)) ∧
    (∃ (s : State) (f : LapFrame), (s.lapHears = true) ∧ (f.ident = s.lapOwn) ∧ (s.lapHeld < 32) ∧ (LapFrame.field f 0 0 8 = 2) ∧
       (LapFrame.addressed f = true) ∧ (LapFrame.field f 3 0 7 = 0) ∧ (LapFrame.field f 3 7 1 = 0)) ∧
    (∃ (s : State) (f : LapFrame) (v : _), (s.lapHears = true) ∧ (f.ident = s.lapOwn) ∧ (s.lapHeld < 32) ∧ (LapFrame.field f 0 0 8 = 2) ∧
       (LapFrame.addressed f = true) ∧ (LapFrame.field f 3 0 7 = 0) ∧ (LapFrame.field f 3 7 1 = 1) ∧
       (lapValue (LapFrame.field f 4 0 24) (f.data.drop 8) = some v) ∧
       (s.keptAnswer false (LapFrame.field f 2 0 7) (LapFrame.field f 1 0 8) = none)) ∧
    (∃ (s : State) (f : LapFrame), (s.lapHears = true) ∧ (f.ident = s.lapOwn) ∧ (s.lapHeld < 32) ∧ (LapFrame.field f 0 0 8 = 3) ∧
       (LapFrame.field f 2 7 1 = 0) ∧ (1 ≤ LapFrame.field f 3 0 8) ∧ (LapFrame.field f 3 0 8 ≤ 56) ∧
       (8 + LapFrame.field f 3 0 8 ≤ f.data.length) ∧ (s.keptAnswer false (LapFrame.field f 2 0 7) (LapFrame.field f 1 0 8) = none) ∧
       (s.clerk.pausedAt = none) ∧ (s.blockCode (LapFrame.field f 4 0 32) (LapFrame.field f 3 0 8) = Lres.ok) ∧ (s.memoryOk = true)) ∧
    (∃ (s : State) (f : LapFrame) (code : _) (ms : _), (s.lapHears = true) ∧ (f.ident = s.lapAll) ∧ (LapFrame.field f 0 0 8 = 4) ∧
       (LapFrame.field f 8 0 8 = code) ∧ (LapFrame.field f 8 8 16 = ms) ∧ (code ≤ 3) ∧ (1 ≤ ms) ∧ (ms ≤ 1000)) ∧
    (∃ (s : State) (f : LapFrame), (s.lapHears = true) ∧ (f.ident = s.lapOwn ∨ f.ident = s.lapAll) ∧ (s.lapHeld < 32) ∧
       (LapFrame.field f 0 0 8 = 5) ∧ (s.keptAnswer false (LapFrame.field f 2 0 7) (LapFrame.field f 1 0 8) = none)) ∧
    (∃ (s : State), (s.lapHears = true)) ∧
    (∃ (s : State) (code : _) (at_ : _), (s.lapHears = true) ∧ (s.lap.pendingRate = some (code, at_)) ∧ (s.comes at_ = true)) ∧
    (∃ (s : State), (s.lapHears = true) ∧ (s.lap.rate ≠ 0) ∧ (s.lap.goodSince = false) ∧ (128 ≤ s.lap.txErr ∨ 128 ≤ s.lap.rxErr) ∧
       (s.comes s.lap.windowEnd = true)) ∧
    (∃ (s : State), (s.lapHears = true) ∧ (255 < s.lap.txErr)) ∧
    (∃ (s : State) (x : _) (l : _), (s.lapHears = true) ∧ (s.lap.txq = x :: l) ∧
       (s.comes (x.at_ + nsUnits (s.param 0xF80005 * 1000000)) = true) ∧ (s.power.resetAfter = none)) ∧
    (∃ (s : State), (s.lapHears = true)) ∧
    (∃ (s : State), (s.lapHears = true) ∧ (s.lap.ownErrors + 1 ≠ 16)) ∧
    (∃ (s : State) (x : _) (l : _), (s.lapHears = true) ∧ (s.lap.txq = x :: l) ∧ (s.power.resetAfter = none)) := by
  refine ⟨?_, ?_, ?_, ?_, ?_, ?_, ?_, ?_, ?_, ?_, ?_, ?_, ?_, ?_, ?_, ?_, ?_, ?_⟩
  · exact ⟨{ devL with lap := { Lap.fresh 5 with off := true } }, (by decide +kernel), (by decide +kernel)⟩
  · exact ⟨devL, frame 1 7 3 0 0x302001 [], (by decide +kernel), (by decide +kernel), (by decide +kernel), (by decide +kernel),
        (by decide +kernel), (by decide +kernel)⟩
  · exact ⟨{ devL with clerk := { Clerk.fresh with kept := [kept0 false 3] } }, frame 5 7 3 0 0 [], kept0 false 3,
        .lapPing (frame 5 7 3 0 0 []), (by decide +kernel), (by decide +kernel), (by decide +kernel), (by decide +kernel),
        (by decide +kernel)⟩
  · exact ⟨devL, frame 1 7 131 0 0 [], (by decide +kernel), (by decide +kernel), (by decide +kernel), (by decide +kernel), (by decide +kernel)⟩
  · exact ⟨{ devL with clerk := { Clerk.fresh with queue := List.replicate 32 (.block (.lap 1 2) 0 []) } }, frame 1 7 3 0 0 [],
        .lapRead (frame 1 7 3 0 0 []), 1, (by decide +kernel), (by decide +kernel), (by decide +kernel), (by decide +kernel),
        (by decide +kernel)⟩
  · exact ⟨devL, frame 2 7 3 0 0x302001 [5, 0, 0, 0], (by decide +kernel), (by decide +kernel), (by decide +kernel), (by decide +kernel),
        (by decide +kernel), (by decide +kernel), (by decide +kernel)⟩
  · exact ⟨devL, frame 2 7 3 128 0x302001 [5, 0, 0, 0], [5], (by decide +kernel), (by decide +kernel), (by decide +kernel), (by decide +kernel),
        (by decide +kernel), (by decide +kernel), (by decide +kernel), (by decide +kernel), (by decide +kernel)⟩
  · exact ⟨devL, frame 3 7 3 4 0x10 [5, 6, 7, 8], (by decide +kernel), (by decide +kernel), (by decide +kernel), (by decide +kernel),
        (by decide +kernel), (by decide +kernel), (by decide +kernel), (by decide +kernel), (by decide +kernel), (by decide +kernel),
        (by decide +kernel), (by decide +kernel)⟩
  · exact ⟨devL, { frame 4 7 3 0 0 [2, 100, 0] with ident := State.lapAll devL }, 2, 100, (by decide +kernel), (by decide +kernel),
        (by decide +kernel), (by decide +kernel), (by decide +kernel), (by decide +kernel), (by decide +kernel), (by decide +kernel)⟩
  · exact ⟨devL, frame 5 7 3 0 0 [], (by decide +kernel), (by decide +kernel), (by decide +kernel), (by decide +kernel), (by decide +kernel)⟩
  · exact ⟨devL, (by decide +kernel)⟩
  · exact ⟨{ devL with lap := { Lap.fresh 5 with pendingRate := some (2, 100) } }, 2, 100, (by decide +kernel), (by decide +kernel),
        (by decide +kernel)⟩
  · exact ⟨{ devL with lap := { Lap.fresh 5 with rate := 2, txErr := 128, windowEnd := 100 } }, (by decide +kernel), (by decide +kernel),
        (by decide +kernel), (by decide +kernel), (by decide +kernel)⟩
  · exact ⟨{ devL with lap := { Lap.fresh 5 with txErr := 256 } }, (by decide +kernel), (by decide +kernel)⟩
  · exact ⟨{ devL with lap := { Lap.fresh 5 with txq := [tx0] } }, tx0, [], (by decide +kernel), (by decide +kernel), (by decide +kernel),
        (by decide +kernel)⟩
  · exact ⟨devL, (by decide +kernel)⟩
  · exact ⟨devL, (by decide +kernel), (by decide +kernel)⟩
  · exact ⟨{ devL with lap := { Lap.fresh 5 with txq := [tx0], txErr := 3 } }, tx0, [], (by decide +kernel), (by decide +kernel),
        (by decide +kernel)⟩

theorem witness_ArcadeCommands :
    (∃ (s : State) (inp : _) (vc : _) (x : InPkt), (s.life.opened = true) ∧
       (s.inputs.find? (fun x => x.inp == inp && x.vc == vc && !x.routed) = some x)) ∧
    (∃ (s : State), (s.life.opened = false)) ∧
    (∃ (s : State) (p : _) (t : _) (c : Choice) (u : _), (s.chooseOut p t = (some c, u))) ∧
    (∃ (s : State) (p : _) (t : _) (c : Choice) (u : _), (s.chooseOut p t = (some c, u)) ∧ (c.via.isSome = true)) ∧
    (∃ (s : State) (p : _) (t : _) (u : _) (q : _), (s.chooseOut p t = (none, u)) ∧ (q ∈ s.usableIn (Route.min (s.tableEntry t)))) ∧
    (∃ (s : State) (inp : _) (x : InPkt), (s.inputs.find? (fun x => x.inp == inp && x.pkt.tc == 3) = some x) ∧
       (s.comes (x.clock + nsUnits (s.param 0x804002 * 1000) + 1) = true)) ∧
    (∃ (s : State) (inp : _) (vc : _) (x : InPkt), (s.headOf inp vc = some x) ∧ (x.tick + s.param 0x804003 ≤ s.ticks)) ∧
    (∃ (s : State) (inp : _) (vc : _) (x : InPkt), (s.headOf inp vc = some x) ∧ (s.ticks < x.tick + s.param 0x804003)) ∧
    (∃ (s : State) (q : _) (f : _) (u : _), ((s.link q).active = true) ∧ (f.kind = 2) ∧ (f.seq = 1) ∧ (s.takeHeader q f = (u, false))) := by
  refine ⟨?_, ?_, ?_, ?_, ?_, ?_, ?_, ?_, ?_⟩
  · exact ⟨{ devK with inputs := [inp0 (dataPkt 0x102) false] }, 4, 1, inp0 (dataPkt 0x102) false, (by decide +kernel), (by decide +kernel)⟩
  · exact ⟨State.reset, (by decide +kernel)⟩
  · obtain ⟨c, u, e⟩ : ∃ c u, devK.chooseOut (dataPkt 0x102) 0x102 = (some c, u) := ⟨_, _, rfl⟩
    exact ⟨devK, dataPkt 0x102, 0x102, c, u, (e)⟩
  · obtain ⟨c, u, e, hc⟩ : ∃ c u, devV.chooseOut (dataPkt 0x302) 0x302 = (some c, u) ∧ c.via.isSome = true := by unfold State.chooseOut State.chooseVia; simp only []; rw [if_pos (by decide +kernel), show devV.param 0x801004 = 1 from by decide +kernel]; unfold State.bestVia; rw [show (devV.viaGroups 0x302).length = 1 from by decide +kernel, draw_one]; exact ⟨⟨0, false, some (nth (devV.viaGroups 0x302) 0)⟩, _, rfl, rfl⟩
    exact ⟨devV, dataPkt 0x302, 0x302, c, u, (e), (hc)⟩
  · obtain ⟨u, e⟩ : ∃ u, State.chooseOut { devK with ledger := [(0x101001, 0x101), (0x800101, 2), (0x811002, 1)] } { dataPkt 0x102 with esc := 3 } 0x102 = (none, u) := ⟨_, rfl⟩
    exact ⟨{ devK with ledger := [(0x101001, 0x101), (0x800101, 2), (0x811002, 1)] }, { dataPkt 0x102 with esc := 3 }, 0x102, u, 0, (e), (by decide +kernel)⟩
  · exact ⟨{ devK with inputs := [inp0 { dataPkt 0x102 with tc := 3 } false] }, 4, inp0 { dataPkt 0x102 with tc := 3 } false,
        (by decide +kernel), (by decide +kernel)⟩
  · exact ⟨{ devK with inputs := [{ inp0 (dataPkt 0x102) false with tick := 0 }], ledger := [(0x804003, 1024)] }, 4, 1,
        { inp0 (dataPkt 0x102) false with tick := 0 }, (by decide +kernel), (by decide +kernel)⟩
  · exact ⟨{ devK with inputs := [inp0 (dataPkt 0x102) false] }, 4, 1, inp0 (dataPkt 0x102) false, (by decide +kernel), (by decide +kernel)⟩
  · exact ⟨devK, 0, flit0 2 1, (devK.takeHeader 0 (flit0 2 1)).1, (by decide +kernel), (by decide +kernel), (by decide +kernel),
        (by decide +kernel)⟩

theorem witness_AuctionCalls :
    (∃ (bids : List Bid) (k : Nat) (last : Nat) (r : _), (winner bids k last = some r)) ∧
    (∃ (s : State), (s.life.opened = true)) ∧
    (∃ (s : State) (p : HPort), (s.readyUnits p [] (s.path p) = [])) ∧
    (∃ (s : State) (p : HPort) (u : _), (s.path p = [u]) ∧ (s.unitReady p [] u = true) ∧ ((∃ a d, u.op = .msix a d) ∨ (∃ tag a,
       u.op = .flush tag a)) ∧ ((∀ ctx, u.src ≠ .stall ctx))) ∧
    (∃ (ch : Nat) (b : PmemBid), (ch < 16) ∧ (b.cls < 7) ∧ (b.bursts ≠ [])) ∧
    (∃ (b : _) (bs : List Nat), (0 < b) ∧ ((∀ x ∈ bs, 0 < x))) ∧
    (∃ (s : State) (q : Nat) (pool : Nat) (p : Packet), (s.creditPool q p = some pool)) := by
  refine ⟨?_, ?_, ?_, ?_, ?_, ?_, ?_⟩
  · exact ⟨[⟨3, 2, 0⟩, ⟨5, 2, 0⟩], 16, 3, 5, (by decide +kernel)⟩
  · exact ⟨devK, (by decide +kernel)⟩
  · exact ⟨devK, .A, (by decide +kernel)⟩
  · exact ⟨{ devK with pathA := [unitF] }, .A, unitF, (by decide +kernel), (by decide +kernel), (.inr ⟨5, 4096, rfl⟩), (by intro ctx h; cases h)⟩
  · exact ⟨3, ⟨2, [5, 6]⟩, (by decide +kernel), (by decide +kernel), (by decide +kernel)⟩
  · exact ⟨12, [3, 4], (by decide +kernel), (by decide +kernel)⟩
  · exact ⟨devK, 0, 0, dataPkt 0x102, (by decide +kernel)⟩

theorem witness_LinkCommands :
    (∃ (s : State) (q : Nat) (f : Flit) (u : State), ((s.link q).active = true) ∧ (s.takeHeader q f = (u, false)) ∧ (f.kind = 0) ∧
       (2048 ≤ (f.seq - (u.link q).expected).toNat)) ∧
    (∃ (s : State) (q : Nat) (f : Flit) (u : State), ((s.link q).active = true) ∧ (s.takeHeader q f = (u, false)) ∧ (f.kind = 0) ∧
       (f.seq ≠ (u.link q).expected) ∧ ((f.seq - (u.link q).expected).toNat < 2048)) ∧
    (∃ (s : State) (q : Nat) (f : Flit) (u : State) (v : _), ((s.link q).active = true) ∧ (s.takeHeader q f = (u, false)) ∧ (f.kind = 0) ∧
       (f.seq = (u.link q).expected) ∧
       ((u.modLink q (fun l => ({ l with expected := l.expected + 1, replayReq := false } : Link).counted 2 1)).acceptBody q f = some v)) ∧
    (∃ (s : State) (q : Nat) (f : Flit) (u : State), ((s.link q).active = true) ∧ (s.takeHeader q f = (u, false)) ∧ (f.kind = 0) ∧
       (f.seq = (u.link q).expected) ∧
       ((u.modLink q (fun l => ({ l with expected := l.expected + 1, replayReq := false } : Link).counted 2 1)).acceptBody q f = none)) ∧
    (∃ (s : State) (q : Nat) (f : Flit) (u : State), ((s.link q).active = true) ∧ (s.takeHeader q f = (u, false)) ∧ (f.kind = 3)) ∧
    (∃ (s : State) (q : Nat) (f : Flit) (u : State), ((s.link q).active = true) ∧ (s.takeHeader q f = (u, false)) ∧ (f.kind = 1)) ∧
    (∃ (s : State) (q : Nat) (f : Flit) (u : State), ((s.link q).active = true) ∧ (s.takeHeader q f = (u, false)) ∧ (f.kind = 2) ∧
       (definedCtype f.seq.toNat = false)) ∧
    (∃ (s : State) (q : Nat) (f : Flit) (u : State), ((s.link q).active = true) ∧ (s.takeHeader q f = (u, false)) ∧ (f.kind = 2) ∧
       (f.seq = 2) ∧ ((∀ i, i < 32 → bits (leNat f.body) (4 * i) 0 32 = (nth (u.link q).got i).toNat))) ∧
    (∃ (s : State) (q : Nat) (f : Flit) (u : State) (c : Instr), ((s.link q).active = true) ∧ (s.takeHeader q f = (u, true)) ∧
       ((c = .dataFlit q f ∧ f.kind = 0 ∨ c = .idleFlit q f ∧ f.kind = 1 ∨ c = .creditSync q f ∧ f.kind = 2 ∧ f.seq = 2))) ∧
    (∃ (s : State) (q : Nat), ((s.link q).active = true)) ∧
    (∃ (s : State) (q : Nat) (k : Kept) (ks : List Kept), ((s.link q).active = true) ∧ ((s.link q).kept = k :: ks) ∧
       ((k :: ks).any Kept.bad = false) ∧ ((∀ j ∈ (s.link q).replay, j.flit.seq ≠ k.flit.seq)) ∧
       (s.comes (k.sentAt + nsUnits (s.param 0xA01002)) = true) ∧ ((s.link q).replays + 1 < s.param 0xA01003)) ∧
    (∃ (s : State) (q : Nat), ((s.link q).active = true)) ∧
    (∃ (s : State) (q : Nat) (f : Flit) (c : Instr), ((s.link q).active = false) ∧ ((c = .dataFlit q f ∨ c = .idleFlit q f ∨
       c = .creditSync q f ∨ c = .undefinedControlFlit q f ∨ c = .flitCrcFailure q ∨ c = .flitTime q))) := by
  refine ⟨?_, ?_, ?_, ?_, ?_, ?_, ?_, ?_, ?_, ?_, ?_, ?_, ?_⟩
  · exact ⟨devK, 0, { flit0 0 4095 with kind := 0 }, (devK.takeHeader 0 (flit0 0 4095)).1, (by decide +kernel), (by decide +kernel),
        (by decide +kernel), (by decide +kernel)⟩
  · exact ⟨devK, 0, flit0 0 5, (devK.takeHeader 0 (flit0 0 5)).1, (by decide +kernel), (by decide +kernel), (by decide +kernel),
        (by decide +kernel), (by decide +kernel)⟩
  · obtain ⟨v, e⟩ : ∃ v, ((devK.takeHeader 0 { flit0 0 0 with start := 255 }).1.modLink 0 (fun l => ({ l with expected := l.expected + 1, replayReq := false } : Link).counted 2 1)).acceptBody 0 { flit0 0 0 with start := 255 } = some v := ⟨_, rfl⟩
    exact ⟨devK, 0, { flit0 0 0 with start := 255 }, (devK.takeHeader 0 { flit0 0 0 with start := 255 }).1, v, (by decide +kernel), (by decide +kernel), (by decide +kernel), (by decide +kernel), (e)⟩
  · exact ⟨devK, 0, { flit0 0 0 with start := 250 }, (devK.takeHeader 0 { flit0 0 0 with start := 250 }).1, (by decide +kernel),
        (by decide +kernel), (by decide +kernel), (by decide +kernel), (by decide +kernel)⟩
  · exact ⟨devK, 0, flit0 3 0, (devK.takeHeader 0 (flit0 3 0)).1, (by decide +kernel), (by decide +kernel), (by decide +kernel)⟩
  · exact ⟨devK, 0, flit0 1 0, (devK.takeHeader 0 (flit0 1 0)).1, (by decide +kernel), (by decide +kernel), (by decide +kernel)⟩
  · exact ⟨devK, 0, flit0 2 0x30, (devK.takeHeader 0 (flit0 2 0x30)).1, (by decide +kernel), (by decide +kernel), (by decide +kernel),
        (by decide +kernel)⟩
  · exact ⟨devK, 0, flit0 2 2, (devK.takeHeader 0 (flit0 2 2)).1, (by decide +kernel), (by decide +kernel), (by decide +kernel),
        (by decide +kernel), (by decide +kernel)⟩
  · exact ⟨{ devK with links := [(0, { link0 with replays := 1000 })] }, 0, { flit0 0 0 with replayReq := true },
        (State.takeHeader { devK with links := [(0, { link0 with replays := 1000 })] } 0 { flit0 0 0 with replayReq := true }).1,
        .dataFlit 0 { flit0 0 0 with replayReq := true }, (by decide +kernel), (by decide +kernel), (.inl ⟨rfl, rfl⟩)⟩
  · exact ⟨devK, 0, (by decide +kernel)⟩
  · exact ⟨devK, 0, keptF 7, [], (by decide +kernel), (by decide +kernel), (by decide +kernel), (by decide +kernel), (by decide +kernel),
        (by decide +kernel)⟩
  · exact ⟨devK, 0, (by decide +kernel)⟩
  · exact ⟨dev, 0, flit0 0 0, .flitTime 0, (by decide +kernel), (.inr (.inr (.inr (.inr (.inr rfl)))))⟩

theorem witness_ReplayAndBodies :
    (∃ (l : Link) (a : BitVec 12), ((∀ k ∈ l.kept, k.flit.seq ≠ a))) ∧
    (∃ (l : Link) (pre : List Kept) (post : List Kept) (k : Kept), (l.kept = pre ++ k :: post) ∧ ((∀ j ∈ pre, j.flit.seq ≠ k.flit.seq))) ∧
    (∃ (l : Link) (pre : List Kept) (post : List Kept) (k : Kept) (j : _), (l.kept = pre ++ k :: post) ∧ ((∀ j ∈ pre,
       j.flit.seq ≠ k.flit.seq)) ∧ (j ∈ (l.acked k.flit.seq).replay)) ∧
    (∃ (s : State) (q : Nat) (k : Kept) (ks : List Kept), ((s.link q).kept = k :: ks) ∧ ((k :: ks).any Kept.bad = false)) ∧
    (∃ (s : State) (q : Nat), ((s.link q).control = []) ∧ ((s.link q).replay = []) ∧ (s.sendWindow q ≤ (s.link q).kept.length)) := by
  refine ⟨?_, ?_, ?_, ?_, ?_⟩
  · exact ⟨link0, 9, (by decide +kernel)⟩
  · exact ⟨link0, [], [], keptF 7, (by decide +kernel), (by decide +kernel)⟩
  · exact ⟨{ link0 with kept := [keptF 7, keptF 8], replay := [keptF 8] }, [], [keptF 8], keptF 7, keptF 8, (by decide +kernel),
        (by decide +kernel), (by decide +kernel)⟩
  · exact ⟨devK, 0, keptF 7, [], (by decide +kernel), (by decide +kernel)⟩
  · exact ⟨{ devK with links := [(0, { link0 with kept := (List.range 2100).map keptF })] }, 0, (by decide +kernel), (by decide +kernel),
        (by decide +kernel)⟩

theorem witness_LaneTraining :
    (∃ (s : State) (q : Nat) (lanes : _) (c : Instr), ((s.lport q).stage = .detect) ∧ ((s.portLanes q).any (bitAt lanes) = true) ∧
       (c = .receiverDetect q lanes ∨ c = .signonSymbols q lanes)) ∧
    (∃ (s : State) (q : Nat) (lanes : _), ((s.lport q).stage = .detect) ∧ ((s.portLanes q).any (bitAt lanes) = false)) ∧
    (∃ (s : State) (q : Nat) (lanes : _), ((s.lport q).stage = .active) ∧ (Nat.land lanes (s.lport q).rxSet ≠ 0)) ∧
    (∃ (s : State) (q : Nat) (l : _), (s.laneOwner l = q) ∧ ((s.lport q).stage = .signon ∨ (s.lport q).stage = .exchange)) ∧
    (∃ (s : State) (q : Nat) (l : _) (record : _), (s.laneOwner l = q) ∧ (crc32c (record.take 0x1C) ≠ bits (leNat record) 0x1C 0 32)) ∧
    (∃ (s : State) (q : Nat) (l : _) (record : _) (u : _), (s.laneOwner l = q) ∧
       (crc32c (record.take 0x1C) = bits (leNat record) 0x1C 0 32) ∧ ((s.lane l).locked = true) ∧ ((s.lport q).stage = .exchange) ∧
       (u = s.takeRecord q l (leNat record)) ∧ ((u.lport q).hold = 0) ∧ ((u.lport q).leader = false) ∧ (bits (leNat record) 0 11 1 = 1)) ∧
    (∃ (s : State) (q : Nat) (l : _) (record : _) (u : _) (code : _), (s.laneOwner l = q) ∧
       (crc32c (record.take 0x1C) = bits (leNat record) 0x1C 0 32) ∧ ((s.lane l).locked = true) ∧ ((s.lport q).stage = .exchange) ∧
       (u = s.takeRecord q l (leNat record)) ∧ ((u.lport q).hold = 0) ∧ ((u.lport q).leader = true) ∧ (u.exchanged q = true) ∧
       (highestRate (Nat.land (s.param (0xB00201 + q / 2)) (bits (leNat record) 0 8 3)) = code) ∧ (code ≠ 0)) ∧
    (∃ (s : State) (q : Nat) (code : _), ((s.lport q).stage = .rate) ∧ ((s.lport q).rateGo = some code) ∧
       (s.comes ((s.lport q).rateGoAt + nsUnits 10000) = true)) ∧
    (∃ (s : State) (q : Nat) (lanes : _), ((s.lport q).stage = .rate) ∧ ((s.lport q).rate ≠ 0) ∧ ((s.lport q).rateGo = none) ∧
       ((s.portLanes q).any (bitAt lanes) = true)) ∧
    (∃ (s : State) (q : Nat) (l : _), (s.laneOwner l = q) ∧ ((s.lport q).stage = .equalise) ∧ ((s.lane l).locked = true)) ∧
    (∃ (s : State) (q : Nat) (peerDone : _) (done : _), ((s.lport q).stage = .equalise) ∧ (lanesMask (s.lanesWhere q 15 Lane.locked) ≠ 0) ∧
       (done = Nat.land (lanesMask (s.lanesWhere q (lanesMask (s.lanesWhere q 15 Lane.locked)) Lane.done)) peerDone) ∧
       ((done = lanesMask (s.lanesWhere q 15 Lane.locked) ∨ done ≠ 0 ∧
       s.comes ((s.lport q).since + nsUnits (s.param 0xB02002 * 1000)) = true))) ∧
    (∃ (s : State) (q : Nat), ((s.lport q).stage = .detect ∨ (s.lport q).stage = .signon ∨ (s.lport q).stage = .exchange ∨
       (s.lport q).stage = .rate) ∧ ((s.lport q).hold = 0) ∧ (s.portMask q ≠ 0) ∧
       (s.comes ((s.lport q).since + nsUnits (s.param 0xB02001 * 1000)) = true)) ∧
    (∃ (x : Lane), (x.pre ≤ 16)) ∧
    (∃ (x : Lane), (x.post ≤ 24)) ∧
    (∃ (e : EqStep), (e.fomAfter ≤ e.fomBefore)) ∧
    (∃ (x : Lane) (e : EqStep) (g : Nat), ((x.judged e g).done = true)) := by
  refine ⟨?_, ?_, ?_, ?_, ?_, ?_, ?_, ?_, ?_, ?_, ?_, ?_, ?_, ?_, ?_, ?_⟩
  · exact ⟨devZ { LanePort.fresh with stage := .detect }, 0, 1, .receiverDetect 0 1, (by decide +kernel), (by decide +kernel), (.inl rfl)⟩
  · exact ⟨devZ { LanePort.fresh with stage := .detect }, 0, 0, (by decide +kernel), (by decide +kernel)⟩
  · exact ⟨devA act0, 0, 1, (by decide +kernel), (by decide +kernel)⟩
  · exact ⟨devZ { LanePort.fresh with stage := .signon }, 0, 0, (by decide +kernel), (by decide +kernel)⟩
  · exact ⟨devZ { LanePort.fresh with stage := .exchange }, 0, 0, leBytes 32 5, (by decide +kernel), (by decide +kernel)⟩
  · exact ⟨devZ { LanePort.fresh with stage := .exchange }, 0, 0,
        recd (place 4 0 64 (2 ^ 64 - 1) + place 0 19 5 1 + place 0 11 1 1 + place 0 12 2 2),
        State.takeRecord (devZ { LanePort.fresh with stage := .exchange }) 0 0 (leNat (recd (place 4 0 64 (2 ^ 64 - 1) + place 0 19 5 1 + place 0 11 1 1 + place 0 12 2 2))),
        (by decide +kernel), (by decide +kernel), (by decide +kernel), (by decide +kernel), (rfl),
        (hold_of _ _ _ _ (by decide +kernel) (by decide +kernel)), (follower_of _ _ _ _ (by decide +kernel) (by decide +kernel)),
        (by decide +kernel)⟩
  · exact ⟨devZ { LanePort.fresh with stage := .exchange } (q := 2), 2, 4, recd (place 0 3 1 1 + place 0 4 4 1 + place 0 8 3 3),
        State.takeRecord (devZ { LanePort.fresh with stage := .exchange } (q := 2)) 2 4 (leNat (recd (place 0 3 1 1 + place 0 4 4 1 + place 0 8 3 3))),
        2, (by decide +kernel), (by decide +kernel), (by decide +kernel), (by decide +kernel), (rfl),
        (hold_of _ _ _ _ (by decide +kernel) (by decide +kernel)), (leader_of _ _ _ _ (by decide +kernel) (by decide +kernel)),
        (by decide +kernel), (by decide +kernel), (by decide +kernel)⟩
  · exact ⟨devZ { LanePort.fresh with stage := .rate, rateGo := some 2 }, 0, 2, (by decide +kernel), (by decide +kernel), (by decide +kernel)⟩
  · exact ⟨devZ { LanePort.fresh with stage := .rate, rate := 2 }, 0, 1, (by decide +kernel), (by decide +kernel), (by decide +kernel),
        (by decide +kernel)⟩
  · exact ⟨devZ { LanePort.fresh with stage := .equalise, rate := 2 }, 0, 0, (by decide +kernel), (by decide +kernel), (by decide +kernel)⟩
  · exact ⟨devZ { LanePort.fresh with stage := .equalise, rate := 2 } { Lane.fresh with locked := true, done := true }, 0, 1, 1,
        (by decide +kernel), (by decide +kernel), (by decide +kernel), (by decide +kernel)⟩
  · exact ⟨{ devZ { LanePort.fresh with stage := .exchange, attempts := 1 } with ledger := [(0xB02001, 100)] }, 0, (by decide +kernel),
        (by decide +kernel), (by decide +kernel), (by decide +kernel)⟩
  · exact ⟨{ Lane.fresh with pre := 16 }, (by decide +kernel)⟩
  · exact ⟨{ Lane.fresh with post := 24 }, (by decide +kernel)⟩
  · exact ⟨⟨true, false, 12, 12⟩, (by decide +kernel)⟩
  · exact ⟨{ Lane.fresh with stale := 15, post := 4 }, ⟨true, false, 301, 302⟩, 300, (by decide +kernel)⟩

theorem witness_LaneChanges :
    (∃ (s : State) (u : State) (q : Nat) (f : Flit), ((s.link q).active = true) ∧ (f.kind = 2) ∧ (s.takeHeader q f = (u, false)) ∧
       (f.seq = 0x020)) ∧
    (∃ (s : State) (u : State) (q : Nat) (f : Flit), ((s.link q).active = true) ∧ (f.kind = 2) ∧ (s.takeHeader q f = (u, false)) ∧
       (f.seq = 0x021) ∧ ((u.lport q).leader = true)) ∧
    (∃ (s : State) (u : State) (q : Nat) (f : Flit), ((s.link q).active = true) ∧ (f.kind = 2) ∧ (s.takeHeader q f = (u, false)) ∧
       (f.seq = 0x021) ∧ ((u.lport q).leader = false) ∧ (Order.dir (Flit.word f) = 1)) ∧
    (∃ (s : State) (u : State) (q : Nat) (f : Flit), ((s.link q).active = true) ∧ (f.kind = 2) ∧ (s.takeHeader q f = (u, false)) ∧
       (f.seq = 0x021) ∧ ((u.lport q).leader = false) ∧ (Order.dir (Flit.word f) = 0) ∧ ((u.lport q).rxSet ≠ Order.lanes (Flit.word f))) ∧
    (∃ (s : State) (u : State) (q : Nat) (f : Flit) (o : _), ((s.link q).active = true) ∧ (f.kind = 2) ∧ (s.takeHeader q f = (u, false)) ∧
       (f.seq = 0x022) ∧ ((u.lport q).leader = true) ∧ ((u.lport q).order = some o) ∧ (Order.id o = Order.id (Flit.word f))) ∧
    (∃ (s : State) (q : Nat) (lanes : _) (w : _), ((s.lport q).stage = .active) ∧ (Nat.land lanes (s.lport q).rxSet ≠ 0) ∧
       ((s.lport q).switching = some w)) ∧
    (∃ (s : State) (q : Nat) (tx : Bool), ((s.lport q).stage = .active) ∧ ((if tx then (s.lport q).txP1 else (s.lport q).rxP1) = false) ∧
       (s.param 0xB01101 ≤ (if tx then (s.lport q).goodTx else (s.lport q).goodRx)) ∧
       (widthOf (if tx then (s.lport q).txSet else (s.lport q).rxSet) < widthOf (s.bestSet q))) ∧
    (∃ (s : State) (q : Nat), ((s.lport q).stage = .active) ∧ ((s.lport q).txP1 = false) ∧ (s.flag 0xB03001 = true) ∧
       (s.param 0xB03002 ≤ (s.lport q).idle)) ∧
    (∃ (s : State) (q : Nat), ((s.lport q).stage = .active) ∧ ((s.lport q).txP1 = true) ∧ ((s.link q).queue ≠ [])) ∧
    (∃ (s : State) (q : Nat) (lanes : _), ((s.lport q).leader = true) ∧ ((s.lport q).order = none) ∧ (lanes ≠ 0)) ∧
    (∃ (s : State) (q : Nat), ((s.lport q).leader = true) ∧ ((s.lport q).order.isSome = true)) ∧
    (∃ (s : State) (q : Nat) (lanes : _), ((s.lport q).leader = false) ∧ (lanes ≠ 0)) ∧
    (∃ (s : State) (l : Nat), ((s.lport (s.laneOwner l)).stage = .active) ∧ (bitAt (s.lport (s.laneOwner l)).rxSet (l % 4) = true) ∧
       ((s.lane l).degraded = false) ∧ ((s.lane l).blink = true ∨ s.param 0xB01005 ≤ (s.lane l).below)) ∧
    (∃ (s : State) (l : Nat), ((s.lport (s.laneOwner l)).stage = .active) ∧ (bitAt (s.lport (s.laneOwner l)).rxSet (l % 4) = true) ∧
       ((s.lane l).lostAt = none)) ∧
    (∃ (s : State) (l : Nat) (t : _), ((s.lport (s.laneOwner l)).stage = .active) ∧ ((s.lane l).lostAt = some t) ∧
       (s.clock < t + nsUnits (s.param 0xA01001 * 1000))) ∧
    (∃ (s : State) (l : Nat) (t : _), ((s.lport (s.laneOwner l)).stage = .active) ∧ ((s.lane l).lostAt = some t) ∧
       (bitAt (s.lport (s.laneOwner l)).rxSet (l % 4) = true) ∧ (s.comes (t + nsUnits (s.param 0xA01001 * 1000)) = true)) ∧
    (∃ (s : State) (l : Nat) (fom : _), ((s.lport (s.laneOwner l)).stage = .active) ∧
       (bitAt (s.lport (s.laneOwner l)).txSet (l % 4) = false) ∧ (bitAt (s.lport (s.laneOwner l)).rxSet (l % 4) = false) ∧
       (s.grade (s.lport (s.laneOwner l)).rate ≤ fom)) ∧
    (∃ (s : State) (l : Nat) (fom : _), ((s.lport (s.laneOwner l)).stage = .active) ∧
       (bitAt (s.lport (s.laneOwner l)).txSet (l % 4) = false) ∧ (bitAt (s.lport (s.laneOwner l)).rxSet (l % 4) = false) ∧
       (fom < s.grade (s.lport (s.laneOwner l)).rate)) := by
  refine ⟨?_, ?_, ?_, ?_, ?_, ?_, ?_, ?_, ?_, ?_, ?_, ?_, ?_, ?_, ?_, ?_, ?_, ?_⟩
  · exact ⟨devA act0, after (devA act0) (ctl 0x20 5), 0, ctl 0x20 5, (by decide +kernel), (by decide +kernel), (by decide +kernel),
        (by decide +kernel)⟩
  · exact ⟨devA { act0 with leader := true }, after (devA { act0 with leader := true }) (ctl 0x21 5), 0, ctl 0x21 5, (by decide +kernel),
        (by decide +kernel), (by decide +kernel), (by decide +kernel), (by decide +kernel)⟩
  · exact ⟨devA act0, after (devA act0) (ctl 0x21 (orderWord 3 1 3 0 0)), 0, ctl 0x21 (orderWord 3 1 3 0 0), (by decide +kernel),
        (by decide +kernel), (by decide +kernel), (by decide +kernel), (by decide +kernel), (by decide +kernel)⟩
  · exact ⟨devA act0, after (devA act0) (ctl 0x21 (orderWord 3 0 3 0 0)), 0, ctl 0x21 (orderWord 3 0 3 0 0), (by decide +kernel),
        (by decide +kernel), (by decide +kernel), (by decide +kernel), (by decide +kernel), (by decide +kernel), (by decide +kernel)⟩
  · exact ⟨devA { act0 with leader := true, order := some (orderWord 3 0 3 0 0) },
        after (devA { act0 with leader := true, order := some (orderWord 3 0 3 0 0) }) (ctl 0x22 3), 0, ctl 0x22 3, orderWord 3 0 3 0 0,
        (by decide +kernel), (by decide +kernel), (by decide +kernel), (by decide +kernel), (by decide +kernel), (by decide +kernel),
        (by decide +kernel)⟩
  · exact ⟨devA { act0 with leader := true, switching := some (orderWord 3 1 3 0 0) }, 0, 1, orderWord 3 1 3 0 0, (by decide +kernel),
        (by decide +kernel), (by decide +kernel)⟩
  · exact ⟨devA { act0 with txSet := 1, goodTx := 2 ^ 32 }, 0, true, (by decide +kernel), (by decide +kernel), (by decide +kernel),
        (by decide +kernel)⟩
  · exact ⟨{ devA { act0 with idle := 2 ^ 32 } with ledger := [(0xB03001, 1)] }, 0, (by decide +kernel), (by decide +kernel),
        (by decide +kernel), (by decide +kernel)⟩
  · exact ⟨{ devA { act0 with txP1 := true, txSet := 1 } with links := [(0, { link0 with queue := [⟨dataPkt 0x102, 0, 0, 0, 0⟩] })] }, 0,
        (by decide +kernel), (by decide +kernel), (by decide +kernel)⟩
  · exact ⟨devA { act0 with leader := true }, 0, 3, (by decide +kernel), (by decide +kernel), (by decide +kernel)⟩
  · exact ⟨devA { act0 with leader := true, order := some 5 }, 0, (by decide +kernel), (by decide +kernel)⟩
  · exact ⟨devA act0, 0, 3, (by decide +kernel), (by decide +kernel)⟩
  · exact ⟨devA act0 { Lane.fresh with locked := true, done := true, fom := 300, blink := true }, 2, (by decide +kernel), (by decide +kernel),
        (by decide +kernel), (by decide +kernel)⟩
  · exact ⟨devA act0, 2, (by decide +kernel), (by decide +kernel), (by decide +kernel)⟩
  · exact ⟨devA act0 { Lane.fresh with lostAt := some (5000 * 4096) }, 2, 5000 * 4096, (by decide +kernel), (by decide +kernel),
        (by decide +kernel)⟩
  · exact ⟨devA act0 { Lane.fresh with lostAt := some 0 }, 2, 0, (by decide +kernel), (by decide +kernel), (by decide +kernel),
        (by decide +kernel)⟩
  · exact ⟨devA { act0 with txSet := 3, rxSet := 3 }, 2, 400, (by decide +kernel), (by decide +kernel), (by decide +kernel),
        (by decide +kernel)⟩
  · exact ⟨devA { act0 with txSet := 3, rxSet := 3 }, 2, 5, (by decide +kernel), (by decide +kernel), (by decide +kernel), (by decide +kernel)⟩

theorem witness_FabricTimeCommands :
    (∃ (s : State) (q : _) (f : _) (u : _), ((s.link q).active = true) ∧ (f.kind = 2) ∧ (f.seq = 0x010) ∧ (s.takeHeader q f = (u, false))) ∧
    (∃ (s : State) (q : _) (f : _) (u : _), ((s.link q).active = true) ∧ (f.kind = 2) ∧ (f.seq = 0x010) ∧ (s.takeHeader q f = (u, true))) ∧
    (∃ (s : State), (s.time.state = .locked ∨ s.time.state = .acquire) ∧ (s.time.isRoot = false) ∧ (s.time.hadRoot = true) ∧
       (s.param 0xC03006 ≤ s.time.emptyRun)) ∧
    (∃ (s : State), (s.time.state = .acquire) ∧ (s.param 0xC03004 ≤ s.time.lockRun) ∧ (s.upstream.any (fun p => p.state == 2) = true)) ∧
    (∃ (s : State), (s.time.state = .locked) ∧ (s.time.isRoot = false) ∧ (16 ≤ s.time.unlockRun)) ∧
    (∃ (s : State), (s.time.isRoot = true) ∧ (s.param 0xC02001 ≠ 0) ∧ (s.time.lastEdge = none) ∧ (s.time.refSeconds = none)) ∧
    (∃ (s : State) (local_ : _) (t : _), (s.time.isRoot = true) ∧ (s.param 0xC02001 ≠ 0) ∧ (s.time.lastEdge = some t) ∧
       (t + 10 ^ 12 ≤ local_ + 10 ^ 8) ∧ (local_ ≤ t + 10 ^ 12 + 10 ^ 8) ∧ (s.time.refSeconds = none)) ∧
    (∃ (s : State) (local_ : _) (t : _), (s.time.isRoot = true) ∧ (s.param 0xC02001 ≠ 0) ∧ (s.time.lastEdge = some t) ∧
       ((local_ + 10 ^ 8 < t + 10 ^ 12 ∨ t + 10 ^ 12 + 10 ^ 8 < local_))) ∧
    (∃ (s : State), (s.time.isRoot = false)) ∧
    (∃ (s : State), (s.time.isRoot = true) ∧ (s.param 0xC02001 ≠ 0) ∧ (s.time.refLost = false) ∧
       (s.time.refFrom + 3 * 10 ^ 12 * 2 ^ 20 ≤ s.time.localTime)) ∧
    (∃ (s : State), (s.secondHere = true) ∧ (s.param 0xC06001 = 2 ∨ s.param 0xC06001 = 1 ∧ (s.time.state = .locked ∨
       s.time.state = .holdover))) ∧
    (∃ (s : State), (s.time.ppsOut = true) ∧ (s.comes s.time.ppsEnd = true)) := by
  refine ⟨?_, ?_, ?_, ?_, ?_, ?_, ?_, ?_, ?_, ?_, ?_, ?_⟩
  · exact ⟨devK, 0, flit0 2 0x10, after devK (flit0 2 0x10), (by decide +kernel), (by decide +kernel), (by decide +kernel), (by decide +kernel)⟩
  · exact ⟨{ devK with links := [(0, { link0 with replays := 1000 })] }, 0, { flit0 2 0x10 with replayReq := true },
        after { devK with links := [(0, { link0 with replays := 1000 })] } { flit0 2 0x10 with replayReq := true }, (by decide +kernel),
        (by decide +kernel), (by decide +kernel), (by decide +kernel)⟩
  · exact ⟨devY { unit0 with state := .locked, hadRoot := true, emptyRun := 64 }, (by decide +kernel), (by decide +kernel), (by decide +kernel),
        (by decide +kernel)⟩
  · exact ⟨{ devY { unit0 with state := .acquire, lockRun := 1024, distance := 2, rootClass := 1, rootPriority := 1, rootSerial := 4 } with links := [(0, link0)] },
        (by decide +kernel), (by decide +kernel), (by decide +kernel)⟩
  · exact ⟨devY { unit0 with state := .locked, unlockRun := 16 }, (by decide +kernel), (by decide +kernel), (by decide +kernel)⟩
  · exact ⟨devY { unit0 with isRoot := true }, (by decide +kernel), (by decide +kernel), (by decide +kernel), (by decide +kernel)⟩
  · exact ⟨devY { unit0 with isRoot := true, lastEdge := some 7 }, 1000000000007, 7, (by decide +kernel), (by decide +kernel),
        (by decide +kernel), (by decide +kernel), (by decide +kernel), (by decide +kernel)⟩
  · exact ⟨devY { unit0 with isRoot := true, lastEdge := some 7 }, 9, 7, (by decide +kernel), (by decide +kernel), (by decide +kernel),
        (by decide +kernel)⟩
  · exact ⟨devY unit0, (by decide +kernel)⟩
  · exact ⟨devY { unit0 with isRoot := true, localTime := 3145728000000000000 }, (by decide +kernel), (by decide +kernel), (by decide +kernel),
        (by decide +kernel)⟩
  · exact ⟨devY { unit0 with state := .locked } [(0xC06001, 2)], (by decide +kernel), (by decide +kernel)⟩
  · exact ⟨devY { unit0 with ppsOut := true }, (by decide +kernel), (by decide +kernel)⟩

theorem witness_FabricTimeRules :
    (∃ (s : State) (e : Int), (e ≤ 0) ∧ (s.life = .open_ ∨ s.life = .shutter)) ∧
    (∃ (s : State) (e : Int), (e.natAbs ≤ s.param 0xC03001 * 1000)) ∧
    (∃ (s : State), (s.param 0xC01001 ≠ 0) ∧ ((∀ x ∈ s.offers,
       rootRank x.2.rootClass x.2.rootPriority x.2.rootSerial < rootRank s.ownClass (s.param 0xC01001) Config.serial.toNat))) ∧
    (∃ (s : State), (s.param 0xC01001 = 0) ∧ (s.offers = [])) ∧
    (∃ (s : State), (s.time.state = .free ∨ s.time.state = .acquire)) ∧
    (∃ (s : State), (s.time.state = .locked) ∧ (s.time.isRoot = true) ∧ (s.time.refInUse = false)) := by
  refine ⟨?_, ?_, ?_, ?_, ?_, ?_⟩
  · exact ⟨dev, 0, (by decide +kernel), (by decide +kernel)⟩
  · exact ⟨dev, 1000000, (by decide +kernel)⟩
  · exact ⟨devY { unit0 with ports := [] }, (by decide +kernel), (by intro x hx; cases (show x ∈ ([] : List (Nat × TimePort)) from hx))⟩
  · exact ⟨devY { unit0 with ports := [] } [(0xC01001, 0)], (by decide +kernel), (by decide +kernel)⟩
  · exact ⟨dev, (by decide +kernel)⟩
  · exact ⟨devY { unit0 with state := .locked, isRoot := true }, (by decide +kernel), (by decide +kernel), (by decide +kernel)⟩

theorem witness_PorterCommands :
    (∃ (s : State) (ch : Nat) (i : _) (d : _) (rest : _), ((s.chan ch).cur = none) ∧ ((s.chan ch).ahead = (i, d) :: rest) ∧
       ((s.chan ch).state = .active) ∧ (i = (s.chan ch).ci) ∧ (s.life = .open_) ∧ (d < 2 ^ 512)) ∧
    (∃ (s : State) (ch : Nat) (d : _), ((s.chan ch).cur = some d) ∧ ((s.chan ch).runs = true) ∧ ((s.chan ch).fail = none) ∧
       ((s.chan ch).missed = false) ∧ ((s.chan ch).off < Desc64.total d) ∧ ((s.chanShare ch = 256 ∨ 0 ≤ (s.chan ch).bucket)) ∧
       (s.awake (s.chan ch).fn = true) ∧ (s.life = .open_) ∧ (Desc64.srcKind d = 1)) ∧
    (∃ (s : State) (ch : Nat) (d : _), ((s.chan ch).cur = some d) ∧ ((s.chan ch).fail.isSome = true ∨ (s.chan ch).missed = true ∨
       Desc64.total d ≤ (s.chan ch).off ∨ s.life ≠ .open_)) ∧
    (∃ (s : State) (ch : Nat) (st : _), ((s.chan ch).finished = some st) ∧ ((s.chan ch).state = .active) ∧ (s.life = .open_) ∧
       (s.portUp (fnPort (s.chan ch).fn) = true) ∧ ((s.chan ch).onError = true ∨ st = Status.ok ∨ st = Status.malformed)) ∧
    (∃ (s : State) (ch : Nat) (st : _), ((s.chan ch).finished = some st) ∧ ((s.chan ch).state = .active) ∧ (s.life = .open_) ∧
       (s.portUp (fnPort (s.chan ch).fn) = true) ∧ ((s.chan ch).onError = false) ∧ (st ≠ Status.ok) ∧ (st ≠ Status.malformed)) ∧
    (∃ (s : State) (ch : Nat), ((s.chan ch).state = .pausing) ∧ ((s.chan ch).inflight = []) ∧ ((∀ fn, (s.chan ch).waiter ≠ some (fn, true)))) ∧
    (∃ (s : State) (ch : Nat), ((s.chan ch).state ≠ .pausing)) ∧
    (∃ (d : _) (off : _), (Desc64.ok d = true) ∧ (off < Desc64.total d)) ∧
    (∃ (d : _) (off : _), (Desc64.ok d = true) ∧ (off < Desc64.total d) ∧ (Desc64.dstKind d = 0)) ∧
    (∃ (d : _) (off : _), (Desc64.ok d = true) ∧ (off < Desc64.total d) ∧ (Desc64.srcKind d = 0)) := by
  refine ⟨?_, ?_, ?_, ?_, ?_, ?_, ?_, ?_, ?_, ?_⟩
  · exact ⟨devP { chan0 with ahead := [(0, desc0)], pi := 1 }, 2, 0, desc0, [], (by decide +kernel), (by decide +kernel), (by decide +kernel),
        (by decide +kernel), (by decide +kernel), (by decide +kernel)⟩
  · exact ⟨devP chanD, 2, desc0, (by decide +kernel), (by decide +kernel), (by decide +kernel), (by decide +kernel), (by decide +kernel),
        (by decide +kernel), (by decide +kernel), (by decide +kernel), (by decide +kernel)⟩
  · exact ⟨devP { chanD with missed := true }, 2, desc0, (by decide +kernel), (by decide +kernel)⟩
  · exact ⟨devP { chanD with off := 64 }, 2, 0, (by decide +kernel), (by decide +kernel), (by decide +kernel), (by decide +kernel),
        (by decide +kernel)⟩
  · exact ⟨devP { chanD with fail := some Status.protFault }, 2, Status.protFault, (by decide +kernel), (by decide +kernel),
        (by decide +kernel), (by decide +kernel), (by decide +kernel), (by decide +kernel), (by decide +kernel)⟩
  · exact ⟨devP { chan0 with state := .pausing }, 2, (by decide +kernel), (by decide +kernel), (by intro fn h; exact absurd h (by change none ≠ _; simp))⟩
  · exact ⟨devP chan0, 2, (by decide +kernel)⟩
  · exact ⟨desc0, 63, (by decide +kernel), (by decide +kernel)⟩
  · exact ⟨desc0, 63, (by decide +kernel), (by decide +kernel), (by decide +kernel)⟩
  · exact ⟨descH, 63, (by decide +kernel), (by decide +kernel), (by decide +kernel)⟩

theorem witness_TallyDumps :
    (∃ (s : State) (bell : Nat) (counts : Tab Nat), (s.tally.due = some (bell, counts)) ∧ (s.onTime 16 = true) ∧ (s.flag 0xF01006 = true) ∧
       (s.hostA.state ≠ .reset ∨ s.hostB.state ≠ .reset) ∧ (s.dumpBlocked = false)) ∧
    (∃ (s : State) (bell : Nat) (counts : Tab Nat), (s.tally.due = some (bell, counts)) ∧ (s.onTime 16 = true) ∧ (s.flag 0xF01006 = true) ∧
       (s.hostA.state ≠ .reset ∨ s.hostB.state ≠ .reset) ∧ (s.dumpBlocked = true)) ∧
    (∃ (s : State), (s.tally.due = none)) := by
  refine ⟨?_, ?_, ?_⟩
  · exact ⟨devD, 5, [], (by decide +kernel), (by decide +kernel), (by decide +kernel), (by decide +kernel), (by decide +kernel)⟩
  · exact ⟨{ devD with tally := { devD.tally with pi := 16 } }, 5, [], (by decide +kernel), (by decide +kernel), (by decide +kernel),
        (by decide +kernel), (by decide +kernel)⟩
  · exact ⟨dev, (by decide +kernel)⟩

end Tests
end

section
/-!
SUPPORT. The Device Store window (R36, R37, R49, R50, R66, R67): what each of its three commands answers, inside the store and outside it.
-/
namespace Sys2Proof.Machine

/-! ## Package memory -/

@[simp] theorem State.storeWrite_store (s : State) (off : Nat) (d : Bytes) (bad : Bool) :
    (s.storeWrite off d bad).store = Cells.writeBytes s.store off d := by
  cases d <;> rfl

/-- A write to package memory touches its bytes and the marks of poison, and nothing else. -/
theorem State.storeWrite_rest (s : State) (off : Nat) (d : Bytes) (bad : Bool) :
    s.storeWrite off d bad =
      { s with store := Cells.writeBytes s.store off d, storePoison := (s.storeWrite off d bad).storePoison } := by
  cases d <;> rfl

@[simp] theorem State.storeWrite_out (s : State) (off : Nat) (d : Bytes) (bad : Bool) : (s.storeWrite off d bad).out = s.out := by
  rw [State.storeWrite_rest]

@[simp] theorem State.storeWrite_bulk (s : State) (off : Nat) (d : Bytes) (bad : Bool) : (s.storeWrite off d bad).bulk = s.bulk := by
  rw [State.storeWrite_rest]

@[simp] theorem State.storeWrite_ledger (s : State) (off : Nat) (d : Bytes) (bad : Bool) :
    (s.storeWrite off d bad).ledger = s.ledger := by
  rw [State.storeWrite_rest]

/-! ## The commands of the window -/

section Window
variable {s : State} {p : HPort} {off : Nat} (live : s.portLive p = true)
include live

theorem deviceStoreRead_inStore {len : Nat} (h : s.inStore p off len = true) : exec (.deviceStoreRead p off len none) s =
    .next (s.emit (.hostData p (Cells.readBytes s.store off len) (s.linePoison off len))) := by
  show execDeviceStoreRead p off len none s = _
  simp [execDeviceStoreRead, live, h]

theorem deviceStoreRead_inStore_uncorrectable {len a : Nat} (h : s.inStore p off len = true) :
    exec (.deviceStoreRead p off len (some a)) s =
      .next (((s.draw 16).2.emit (.hostData p (Cells.readBytes s.store off len) true)).occur
        FaultCode.pmemUncorrectable (s.draw 16).1 a) := by
  show execDeviceStoreRead p off len (some a) s = _
  simp [execDeviceStoreRead, live, h]

theorem deviceStoreRead_outside {len : Nat} (e : Option Nat) (h : s.inStore p off len = false) :
    exec (.deviceStoreRead p off len e) s = .next (s.emit (.hostUr p)) := by
  show execDeviceStoreRead p off len e s = _
  simp [execDeviceStoreRead, live, h]

theorem deviceStoreWrite_inStore {data : Bytes} (bad : Bool) (h : s.inStore p off data.length = true) :
    exec (.deviceStoreWrite p off data bad) s = .next (s.storeWrite off data bad) := by
  show execDeviceStoreWrite p off data bad s = _
  simp [execDeviceStoreWrite, live, h]

theorem deviceStoreWrite_outside {data : Bytes} (bad : Bool) (h : s.inStore p off data.length = false) :
    exec (.deviceStoreWrite p off data bad) s = .next (s.emit (.aer p false)) := by
  show execDeviceStoreWrite p off data bad s = _
  simp [execDeviceStoreWrite, live, h]

theorem deviceStoreAtomic_inStore (op x c : Nat) (h : s.inStore p off (atomicSize op) = true) :
    exec (.deviceStoreAtomic p 4 off op x c) s =
      .next ((s.storeWrite off (leBytes (atomicSize op) (atomicValue op (atomicSize op)
          (leNat (Cells.readBytes s.store off (atomicSize op))) x c)) false).emit
        (.hostData p (Cells.readBytes s.store off (atomicSize op)) (s.linePoison off (atomicSize op)))) := by
  show execDeviceStoreAtomic p 4 off op x c s = _
  simp [execDeviceStoreAtomic, live, h]

theorem deviceStoreAtomic_outside {bar op : Nat} (x c : Nat) (h : bar ≠ 4 ∨ s.inStore p off (atomicSize op) = false) :
    exec (.deviceStoreAtomic p bar off op x c) s = .next (s.emit (.hostUr p)) := by
  show execDeviceStoreAtomic p bar off op x c s = _
  simp [execDeviceStoreAtomic, live, h]

end Window

/-- Settles O13: each clause is what the window's command answers, and the byte memory reads back what was written. -/
theorem deviceStoreWindow : Obligations.DeviceStoreWindow := by
  intro s p off live
  refine ⟨fun len h => deviceStoreRead_inStore live h, fun len a h => ?_, fun len e h => deviceStoreRead_outside live e h,
    fun data bad h wf => ?_, fun data bad h => deviceStoreWrite_outside live bad h, fun op x c h wf => ?_,
    fun bar op x c h => deviceStoreAtomic_outside live x c h⟩
  · exact ⟨_, deviceStoreRead_inStore_uncorrectable live h, rfl, rfl, _, Nat.mod_lt _ (by decide), rfl⟩
  · refine ⟨_, deviceStoreWrite_inStore live bad h, ?_, fun a ha => ?_,
      s.storeWrite_bulk .., s.storeWrite_out .., s.storeWrite_ledger ..⟩
    · rw [State.storeWrite_store, cells_readBytes_writeBytes _ _ _ wf]
    · rw [State.storeWrite_store, cells_read_writeBytes_outside _ _ _ _ ha]
  · refine ⟨_, deviceStoreAtomic_inStore live op x c h, ?_, fun a ha => ?_, ?_⟩
    · have back := cells_readBytes_writeBytes s.store off (leBytes (atomicSize op) (atomicValue op (atomicSize op)
        (leNat (Cells.readBytes s.store off (atomicSize op))) x c)) wf
      rw [leBytes_length] at back
      simpa using back
    · rw [State.emit_store, State.storeWrite_store, cells_read_writeBytes_outside _ _ _ _ (by simpa using ha)]
    · simp [State.emit]

end Sys2Proof.Machine
end

section
/-!
SUPPORT. Writes of the Ledger (R31, R32, R491 to R494): what an admitted write satisfies, what a write does once it is judged, and
which bell a staged write waits for.
-/
namespace Sys2Proof.Machine

/-! ## Admission -/

/-- What the gate lets a write through for (R493, R494). -/
theorem State.ledgerGate_write_ok {s : State} {pf : Bool} {a : Nat} (h : s.ledgerGate pf true a = Lres.ok) :
    pf = true ∧ s.life ≠ .shutter ∧
      ∃ r, Param.find a = some r ∧ r.right ≠ .ro ∧ (r.right = .rwSetup → s.life = .setup) ∧
        (s.life = .sealed → r.boot = true) := by
  unfold State.ledgerGate at h
  cases hf : Param.find a with
  | none =>
    rw [hf] at h
    dsimp only at h
    split at h <;> cases h
  | some r =>
    rw [hf] at h
    dsimp only at h
    split at h
    · cases h
    next hsealed =>
    split at h
    · cases h
    rw [if_pos rfl] at h
    split at h
    · cases h
    next hshut =>
    split at h
    · cases h
    next hpf =>
    refine ⟨by simpa using hpf, fun hl => hshut ⟨.inl hl, by simp [hl]⟩, r, rfl, fun hr => ?_, fun hr => ?_, fun hl => ?_⟩
    · rw [hr] at h; cases h
    · rw [hr] at h
      by_cases hl : s.life = .setup
      · exact hl
      · rw [if_neg hl] at h
        cases h
    · simpa [hl] using hsealed

/-- A write is of right form where the gate admits it and its length and value are its type's (R491). -/
theorem State.writeForm_ok {s : State} {pf : Bool} {a : Nat} {data : Bytes} (h : s.writeForm pf a data = Lres.ok) :
    s.ledgerGate pf true a = Lres.ok ∧
      ∃ r, Param.find a = some r ∧ data.length = PType.bytes r.ty ∧ Param.inRange r a (leNat data) = true := by
  unfold State.writeForm at h
  dsimp only at h
  split at h
  · next hg => exact absurd h hg
  next hg =>
  cases hf : Param.find a with
  | none => rw [hf] at h; cases h
  | some r =>
    rw [hf] at h
    dsimp only at h
    split at h
    · cases h
    next hlen =>
    split at h
    · next hin => exact ⟨Decidable.not_not.mp hg, r, rfl, Decidable.not_not.mp hlen, hin⟩
    · cases h

/-! ## A write judged -/

/-- What a write that nothing refuses does, by the right of its parameter: its bell, and the state. -/
def State.acceptWrite (s : State) (r : Param) (a v : Nat) : Nat × State :=
  if r.right = .rwBell then (s.stageBell, s.stage s.stageBell [(a, v)])
  else (0, if Param.staged r then s.stageQuiet a v else if afterResponse a then s else s.perform a v)

/-- A write with a code that refuses it answers that code and leaves the state. -/
theorem State.ledgerWrite_refused {s : State} {pf : Bool} {a c : Nat} {data : Bytes}
    (h : [s.writeForm pf a data, s.rulesCode a (leNat data), s.objectCode a (leNat data)].find? (fun c => c != Lres.ok) = some c) :
    s.ledgerWrite pf a data = (c, 0, s) := by
  unfold State.ledgerWrite
  dsimp only
  rw [h]

/-- A write that nothing refuses is accepted. -/
theorem State.ledgerWrite_accepted {s : State} {pf : Bool} {a : Nat} {data : Bytes} {r : Param} (hf : Param.find a = some r)
    (hform : s.writeForm pf a data = Lres.ok) (hrules : s.rulesCode a (leNat data) = Lres.ok)
    (hobj : s.objectCode a (leNat data) = Lres.ok) : s.ledgerWrite pf a data = (Lres.ok, s.acceptWrite r a (leNat data)) := by
  unfold State.ledgerWrite State.acceptWrite
  simp only [hform, hrules, hobj, hf, List.find?_cons, List.find?_nil, bne_self_eq_false]
  repeat' split
  all_goals rfl

/-- A write is refused with a code, and changes nothing; or its form and the rules are right, and it is accepted. -/
theorem State.ledgerWrite_cases (s : State) (pf : Bool) (a : Nat) (data : Bytes) :
    (∃ c, c ≠ Lres.ok ∧ s.ledgerWrite pf a data = (c, 0, s)) ∨
    (s.writeForm pf a data = Lres.ok ∧ ∃ r, Param.find a = some r ∧
      s.ledgerWrite pf a data = (Lres.ok, s.acceptWrite r a (leNat data))) := by
  cases hc : [s.writeForm pf a data, s.rulesCode a (leNat data), s.objectCode a (leNat data)].find? (fun c => c != Lres.ok) with
  | some c => exact .inl ⟨c, by simpa using List.find?_some hc, State.ledgerWrite_refused hc⟩
  | none =>
    have hall := List.find?_eq_none.mp hc
    simp only [List.mem_cons, List.not_mem_nil, or_false, bne_iff_ne, ne_eq, Decidable.not_not, forall_eq_or_imp, forall_eq] at hall
    obtain ⟨hform, hrules, hobj⟩ := hall
    obtain ⟨-, r, hf, -⟩ := State.writeForm_ok hform
    exact .inr ⟨hform, r, hf, State.ledgerWrite_accepted hf hform hrules hobj⟩

/-- A write of right rw-bell that is accepted waits for its bell, at the end of the writes staged (R31). -/
theorem State.acceptWrite_rwBell (s : State) {r : Param} (a v : Nat) (hr : r.right = .rwBell) :
    s.acceptWrite r a v = (s.stageBell, { s with staged := s.staged ++ [⟨s.stageBell, a, v, true⟩] }) := by
  unfold State.acceptWrite
  rw [if_pos hr]
  rfl

/-! ## The bell of a staged write (R32) -/

/-- Bells in a row for each of which a write is staged are no more than the writes staged. -/
theorem State.bells_le_staged (s : State) (n b : Nat) (h : ∀ k, b ≤ k → k < b + n → 0 < s.stagedAt k) : n ≤ s.staged.length := by
  have hsub : List.range' b n ⊆ s.staged.map Staged.bell := fun k hk => by
    obtain ⟨h1, h2⟩ := List.mem_range'_1.mp hk
    obtain ⟨x, hx⟩ := List.exists_mem_of_length_pos (h k h1 h2)
    obtain ⟨hmem, hbell⟩ := List.mem_filter.mp hx
    simp only [Bool.and_eq_true, beq_iff_eq] at hbell
    exact List.mem_map.mpr ⟨x, hmem, hbell.1⟩
  have hle := List.Nodup.length_le_of_subset (List.nodup_range' 1) hsub
  simpa using hle

/-- The search for room passes full bells alone, and stops at one with room unless its fuel runs out. -/
theorem State.roomFrom_spec (s : State) (n b : Nat) :
    b ≤ s.roomFrom n b ∧ (∀ k, b ≤ k → k < s.roomFrom n b → 256 ≤ s.stagedAt k) ∧
      (s.stagedAt (s.roomFrom n b) < 256 ∨ s.roomFrom n b = b + n) := by
  induction n generalizing b with
  | zero => exact ⟨Nat.le_refl b, fun k h1 h2 => absurd h1 (Nat.not_le.mpr h2), .inr rfl⟩
  | succ n ih =>
    unfold State.roomFrom
    split
    · next hroom => exact ⟨Nat.le_refl b, fun k h1 h2 => absurd h1 (Nat.not_le.mpr h2), .inl hroom⟩
    next hfull =>
    obtain ⟨hle, hpassed, hstop⟩ := ih (b + 1)
    refine ⟨by omega, fun k h1 h2 => ?_, hstop.imp_right (by omega)⟩
    rcases Nat.eq_or_lt_of_le h1 with rfl | hlt
    · exact Nat.le_of_not_lt hfull
    · exact hpassed k hlt h2

/-- A write is staged for the first bell after the present one that has room: the fuel is one more than the writes staged. -/
theorem State.stageBell_spec (s : State) :
    s.bell < s.stageBell ∧ s.stagedAt s.stageBell < 256 ∧ ∀ k, s.bell < k → k < s.stageBell → 256 ≤ s.stagedAt k := by
  obtain ⟨hle, hpassed, hstop⟩ := s.roomFrom_spec (s.staged.length + 1) (s.bell + 1)
  refine ⟨hle, hstop.resolve_right fun hend => ?_, hpassed⟩
  have hbound := s.bells_le_staged (s.staged.length + 1) (s.bell + 1) fun k h1 h2 =>
    Nat.lt_of_lt_of_le (by decide) (hpassed k h1 (hend ▸ h2))
  omega

/-- Settles O46, by the two cases of a write: refused, or accepted by its parameter's right. -/
theorem ledgerWritesAreJudged : Obligations.LedgerWritesAreJudged := by
  intro s pf a data
  refine ⟨fun c b u h hc => ?_, fun hbad hok => ?_, fun r u b hf hr h => ?_⟩
  · rcases s.ledgerWrite_cases pf a data with ⟨_, -, e⟩ | ⟨-, r, -, e⟩
    · cases e.symm.trans h
      exact ⟨rfl, rfl⟩
    · exact absurd (congrArg Prod.fst (h.symm.trans e)) hc
  · rcases s.ledgerWrite_cases pf a data with ⟨c, hc, e⟩ | ⟨hform, -⟩
    · exact hc (by rw [e] at hok; exact hok)
    obtain ⟨hgate, r, hf, hlen, hin⟩ := State.writeForm_ok hform
    obtain ⟨hpf, hshutter, r', hf', hro, hsetup, hsealed⟩ := State.ledgerGate_write_ok hgate
    cases hf.symm.trans hf'
    rcases hbad with hnone | hvf | ⟨q, hq, hcases⟩
    · cases hf.symm.trans hnone
    · cases hpf.symm.trans hvf
    · cases hf.symm.trans hq
      rcases hcases with h | h | h | ⟨h, hl⟩ | h | ⟨hl, h⟩
      · exact hro h
      · exact h hlen
      · cases hin.symm.trans h
      · exact hl (hsetup h)
      · exact hshutter h
      · cases (hsealed hl).symm.trans h
  · rcases s.ledgerWrite_cases pf a data with ⟨c, hc, e⟩ | ⟨-, r', hf', e⟩
    · exact absurd (congrArg Prod.fst (e.symm.trans h)) hc
    · cases hf.symm.trans hf'
      rw [State.acceptWrite_rwBell s a _ hr] at e
      cases e.symm.trans h
      exact ⟨rfl, s.stageBell_spec⟩

end Sys2Proof.Machine
end

section
/-!
SUPPORT. The mailbox (R505, R506, R519): a submission, the access that it makes of the Ledger, and its answer.
-/
namespace Sys2Proof

theorem Tab.put_put {α : Type} (t : Tab α) (k : Nat) (v w : α) : Tab.put (Tab.put t k v) k w = Tab.put t k w := by
  induction t with
  | nil => simp [Tab.put]
  | cons e t ih =>
    obtain ⟨a, x⟩ := e
    by_cases hlt : k < a
    · simp [Tab.put, hlt]
    by_cases heq : a = k
    · simp [Tab.put, heq]
    · simp [Tab.put, hlt, heq, ih]

end Sys2Proof

namespace Sys2Proof.Machine

/-! ## Mailboxes -/

@[simp] theorem State.modMailbox_mailbox (s : State) (fn : Nat) (f : Mailbox → Mailbox) :
    ((s.modMailbox fn f).fn fn).mailbox = f (s.fn fn).mailbox := by
  simp [State.modMailbox]

theorem State.modMailbox_modMailbox (s : State) (fn : Nat) (f g : Mailbox → Mailbox) :
    (s.modMailbox fn f).modMailbox fn g = s.modMailbox fn (fun m => g (f m)) := by
  simp only [State.modMailbox, State.setFn, State.fn, Tab.getD_put_self, Tab.put_put]

/-- A mailbox whose request runs. -/
def Mailbox.submitted (len seq op : Nat) (m : Mailbox) : Mailbox := { m with len := len, seq := seq, op := op, running := true }

/-- How the answer to an access leaves a mailbox (R505). -/
def Mailbox.answered (write : Bool) (seq code bell : Nat) (value : Bytes) (m : Mailbox) : Mailbox :=
  { (if write || code != Lres.ok then { m with doneLen := 0 } else m.fill value) with
      doneSeq := seq, result := code, bell := bell, running := false }

theorem Mailbox.answered_refused (write : Bool) (seq bell : Nat) {code : Nat} (value : Bytes) (m : Mailbox)
    (h : write = true ∨ code ≠ Lres.ok) : m.answered write seq code bell value =
      { m with doneLen := 0, doneSeq := seq, result := code, bell := bell, running := false } := by
  unfold Mailbox.answered
  rw [if_pos (by simpa using h)]

theorem Mailbox.answered_read (seq bell : Nat) (value : Bytes) (m : Mailbox) : m.answered false seq Lres.ok bell value =
      { m.fill value with doneSeq := seq, result := Lres.ok, bell := bell, running := false } := rfl

theorem State.answer_mailbox {s : State} {fn : Nat} (seq : Nat) (write : Bool) (a code bell : Nat) (value : Bytes)
    (h : (s.fn fn).mailbox.running = true) :
    s.answer (.mailbox fn seq) write a code bell value = s.modMailbox fn (Mailbox.answered write seq code bell value) :=
  if_pos h

/-! A change of a mailbox leaves how a write of the Ledger is judged, and the bell that it waits for. -/

theorem State.modMailbox_writeForm (s : State) (fn : Nat) (f : Mailbox → Mailbox) (pf : Bool) (a : Nat) (d : Bytes) :
    (s.modMailbox fn f).writeForm pf a d = s.writeForm pf a d := rfl

theorem State.modMailbox_rulesCode (s : State) (fn : Nat) (f : Mailbox → Mailbox) (a v : Nat) :
    (s.modMailbox fn f).rulesCode a v = s.rulesCode a v := rfl

theorem State.modMailbox_roomFrom (s : State) (fn : Nat) (f : Mailbox → Mailbox) (n b : Nat) :
    (s.modMailbox fn f).roomFrom n b = s.roomFrom n b := by
  induction n generalizing b with
  | zero => rfl
  | succ n ih =>
    unfold State.roomFrom
    rw [ih]
    rfl

theorem State.modMailbox_stageBell (s : State) (fn : Nat) (f : Mailbox → Mailbox) : (s.modMailbox fn f).stageBell = s.stageBell :=
  s.modMailbox_roomFrom fn f _ _

/-! ## Submissions -/

section Submission
variable {s : State} {fn : Nat} (reach : s.reachableFn fn = true)
include reach

theorem State.submit_running (len seq op : Nat) (go : State → State) (run : (s.fn fn).mailbox.running = true) :
    s.submit fn len seq op go = s.modMailbox fn (fun m =>
      { m with seq := seq, op := op, doneSeq := seq, result := Lres.busy, doneLen := 0, bell := 0 }) := by
  unfold State.submit
  rw [reach, run]
  rfl

theorem State.submit_idle (len seq op : Nat) (go : State → State) (idle : (s.fn fn).mailbox.running = false) :
    s.submit fn len seq op go = go (s.modMailbox fn (fun m => { m with len := len, seq := seq, op := op })) := by
  unfold State.submit
  rw [reach, idle]
  rfl

theorem mailboxBadOp_idle (len seq op : Nat) (idle : (s.fn fn).mailbox.running = false) :
    exec (.mailboxBadOp fn len seq op) s = .next (s.modMailbox fn (fun m =>
      { m with len := len, seq := seq, op := op, doneSeq := seq, result := Lres.format, doneLen := 0, bell := 0 })) := by
  show execMailboxBadOp fn len seq op s = _
  unfold execMailboxBadOp
  rw [State.submit_idle reach len seq op _ idle, State.modMailbox_modMailbox]
  rfl

variable (idle : (s.fn fn).mailbox.running = false) (free : s.clerk.pausedAt = none)
include idle free

theorem mailboxRead_idle (len seq : Nat) : exec (.mailboxRead fn len seq) s =
    .next ((s.modMailbox fn (Mailbox.submitted len seq 1)).doRead (.mailbox fn seq) (s.fn fn).mailbox.addr) := by
  show execMailboxRead fn len seq s = _
  unfold execMailboxRead
  rw [State.submit_idle reach len seq 1 _ idle, State.modMailbox_modMailbox, State.modMailbox_mailbox]
  unfold State.access State.orQueue
  rw [if_neg (by rw [State.modMailbox, State.setFn_clerk, free]; decide)]
  rfl

theorem mailboxWrite_idle (len seq : Nat) : exec (.mailboxWrite fn len seq) s =
    .next ((s.modMailbox fn (Mailbox.submitted len seq 2)).doWrite (.mailbox fn seq) (s.fn fn).mailbox.addr
      (leBytes len (s.fn fn).mailbox.data)) := by
  show execMailboxWrite fn len seq s = _
  unfold execMailboxWrite
  rw [State.submit_idle reach len seq 2 _ idle]
  dsimp only
  rw [State.modMailbox_modMailbox, State.modMailbox_mailbox]
  unfold State.access State.orQueue
  rw [if_neg (by rw [State.modMailbox, State.setFn_clerk, free]; decide)]
  rfl

end Submission

/-! ## Reads of the Ledger -/

/-- Free values drawn change the count of free choices alone. -/
theorem State.draws_rest (s : State) (bound n : Nat) : (s.draws bound n).2 = { s with free := s.free + n } := by
  induction n generalizing s with
  | zero => rfl
  | succ n ih =>
    unfold State.draws
    simp only [ih, State.draw, Nat.add_assoc, Nat.add_comm 1 n]

/-- What is measured as it is read touches the place in the bell, the free choices, the lanes and the readings (R442, R588). -/
theorem State.sense_rest (s : State) (a : Nat) :
    ∃ sub free lanes power, s.sense a = { s with sub := sub, free := free, lanes := lanes, power := power } := by
  unfold State.sense
  dsimp only
  split
  · exact ⟨_, _, _, _, rfl⟩
  split
  · exact ⟨_, _, _, _, rfl⟩
  split
  · rw [State.draws_rest]; exact ⟨_, _, _, _, rfl⟩
  split
  · rw [State.draws_rest]; exact ⟨_, _, _, _, rfl⟩
  · exact ⟨_, _, _, _, rfl⟩

theorem State.sense_leaves (s : State) (a : Nat) :
    (s.sense a).fns = s.fns ∧ (s.sense a).ledger = s.ledger ∧ (s.sense a).staged = s.staged ∧ (s.sense a).life = s.life := by
  obtain ⟨_, _, _, _, h⟩ := s.sense_rest a
  rw [h]
  exact ⟨rfl, rfl, rfl, rfl⟩

/-- The gate admits no address without a parameter. -/
theorem State.ledgerGate_ok_find {s : State} {pf write : Bool} {a : Nat} (h : s.ledgerGate pf write a = Lres.ok) :
    ∃ r, Param.find a = some r := by
  cases hf : Param.find a with
  | some r => exact ⟨r, rfl⟩
  | none =>
    unfold State.ledgerGate at h
    rw [hf] at h
    dsimp only at h
    split at h <;> cases h

theorem State.ledgerRead_refused {s : State} {a : Nat} (h : s.ledgerGate true false a ≠ Lres.ok) :
    s.ledgerRead a = (s.ledgerGate true false a, [], s) := by
  unfold State.ledgerRead
  cases Param.find a with
  | none => rfl
  | some r => exact if_pos h

theorem State.ledgerRead_admitted {s : State} {a : Nat} {r : Param} (hf : Param.find a = some r)
    (h : s.ledgerGate true false a = Lres.ok) :
    s.ledgerRead a = (Lres.ok, leBytes (PType.bytes r.ty) ((s.sense a).ledgerValue a), s.sense a) := by
  unfold State.ledgerRead
  rw [hf]
  exact if_neg (not_not_intro h)

/-! ## Writes of right rw-bell -/

/-- The parameters whose write is judged by the state of an object, is a bulk action, or acts after its response. -/
def specialWrites : List Nat :=
  [0x003004, 0x710001, 0x710002, 0xF01001, 0xF01002, 0xF01004, 0x002002, 0x001001, 0xF80001, 0xE00003]

theorem specialWrites_not_rwBell :
    specialWrites.all (fun a => (Param.find a).all (fun r => r.right != .rwBell)) = true := by decide +kernel

theorem not_mem_specialWrites {a : Nat} {r : Param} (hf : Param.find a = some r) (hr : r.right = .rwBell) : a ∉ specialWrites := by
  intro ha
  have h := List.all_eq_true.mp specialWrites_not_rwBell a ha
  rw [hf] at h
  simp [hr] at h

/-- Of a parameter that is none of the special ones, no object refuses a write. -/
theorem State.objectCode_ok (s : State) {a : Nat} (v : Nat) (h : a ∉ specialWrites) : s.objectCode a v = Lres.ok := by
  simp only [specialWrites, List.mem_cons, List.not_mem_nil, or_false, not_or] at h
  unfold State.objectCode
  split <;> simp_all

theorem afterResponse_false {a : Nat} (h : a ∉ specialWrites) : afterResponse a = false := by
  simp only [specialWrites, List.mem_cons, List.not_mem_nil, or_false, not_or] at h
  simp [afterResponse, h]

/-- A write that is no bulk action, and that acts at once or is refused, is judged and answered. -/
theorem State.doWrite_answers {s u : State} {via : Via} {a c b : Nat} {data : Bytes} (ha : a ≠ 0x002002)
    (h : s.ledgerWrite (viaWrites via) a data = (c, b, u)) (hr : c = Lres.ok → afterResponse a = false) :
    s.doWrite via a data = u.answer via true a c b [] := by
  unfold State.doWrite
  rw [if_neg ha, h]
  exact if_neg fun hc => by simp [hr hc.1] at hc

/-! ## Submissions performed -/

section Performed
variable {s : State} {fn : Nat} (reach : s.reachableFn fn = true) (idle : (s.fn fn).mailbox.running = false)
  (free : s.clerk.pausedAt = none)
include reach idle free

theorem mailboxRead_completes (len seq : Nat) : Completes (.mailboxRead fn len seq) s fun t =>
    (t.fn fn).mailbox.doneSeq = seq ∧ (t.fn fn).mailbox.running = false ∧
    (t.fn fn).mailbox.result = s.ledgerGate true false (s.fn fn).mailbox.addr ∧
    ((t.fn fn).mailbox.result ≠ Lres.ok → (t.fn fn).mailbox.doneLen = 0 ∧ (t.fn fn).mailbox.data = (s.fn fn).mailbox.data) ∧
    (∀ r, Param.find (s.fn fn).mailbox.addr = some r → (t.fn fn).mailbox.result = Lres.ok →
      (t.fn fn).mailbox.doneLen = PType.bytes r.ty) ∧
    t.ledger = s.ledger ∧ t.staged = s.staged ∧ t.life = s.life := by
  refine ⟨_, mailboxRead_idle reach idle free len seq, ?_⟩
  generalize hu : s.modMailbox fn (Mailbox.submitted len seq 1) = u
  have hmbx : (u.fn fn).mailbox = (s.fn fn).mailbox.submitted len seq 1 := by rw [← hu, State.modMailbox_mailbox]
  have hgate : u.ledgerGate true false (s.fn fn).mailbox.addr = s.ledgerGate true false (s.fn fn).mailbox.addr := by rw [← hu]; rfl
  have hrest : u.ledger = s.ledger ∧ u.staged = s.staged ∧ u.life = s.life := by rw [← hu]; exact ⟨rfl, rfl, rfl⟩
  unfold State.doRead
  by_cases hok : s.ledgerGate true false (s.fn fn).mailbox.addr = Lres.ok
  · obtain ⟨r, hf⟩ := State.ledgerGate_ok_find hok
    rw [State.ledgerRead_admitted hf (hgate.trans hok)]
    generalize hv : u.sense (s.fn fn).mailbox.addr = v
    obtain ⟨hfns, hledger, hstaged, hlife⟩ := hv ▸ u.sense_leaves (s.fn fn).mailbox.addr
    have hmbx' : (v.fn fn).mailbox = (s.fn fn).mailbox.submitted len seq 1 := by rw [State.fn, hfns]; exact hmbx
    dsimp only
    rw [State.answer_mailbox _ _ _ _ _ _ (by rw [hmbx']; rfl), State.modMailbox_mailbox, hmbx', Mailbox.answered_read]
    refine ⟨rfl, rfl, hok.symm, fun h => absurd rfl h, fun q hq _ => ?_, hledger.trans hrest.1, hstaged.trans hrest.2.1,
      hlife.trans hrest.2.2⟩
    cases hf.symm.trans hq
    exact leBytes_length _ _
  · rw [State.ledgerRead_refused (by rw [hgate]; exact hok)]
    dsimp only
    rw [State.answer_mailbox _ _ _ _ _ _ (by rw [hmbx]; rfl), State.modMailbox_mailbox, hmbx,
      Mailbox.answered_refused _ _ _ _ _ (.inr (by rw [hgate]; exact hok))]
    exact ⟨rfl, rfl, hgate, fun _ => ⟨rfl, rfl⟩, fun _ _ h => absurd (hgate.symm.trans h) hok, hrest⟩

/-- A write through the mailbox that the Ledger judges at once: the result and the bell that it leaves in the mailbox, and the state
that it leaves behind. -/
theorem mailboxWrite_completes (len seq : Nat) {c b : Nat} {u : State} (ha : (s.fn fn).mailbox.addr ≠ 0x002002)
    (h : (s.modMailbox fn (Mailbox.submitted len seq 2)).ledgerWrite (fnIsPf fn) (s.fn fn).mailbox.addr
      (leBytes len (s.fn fn).mailbox.data) = (c, b, u))
    (hr : c = Lres.ok → afterResponse (s.fn fn).mailbox.addr = false)
    (hu : u.fns = (s.modMailbox fn (Mailbox.submitted len seq 2)).fns) :
    Completes (.mailboxWrite fn len seq) s fun t =>
      (t.fn fn).mailbox.doneSeq = seq ∧ (t.fn fn).mailbox.running = false ∧ (t.fn fn).mailbox.doneLen = 0 ∧
      (t.fn fn).mailbox.result = c ∧ (t.fn fn).mailbox.bell = b ∧ t.ledger = u.ledger ∧ t.staged = u.staged ∧ t.life = u.life := by
  refine ⟨_, mailboxWrite_idle reach idle free len seq, ?_⟩
  have hmbx : (u.fn fn).mailbox = (s.fn fn).mailbox.submitted len seq 2 := by
    rw [State.fn, hu]; exact State.modMailbox_mailbox ..
  have running : (u.fn fn).mailbox.running = true := by rw [hmbx]; rfl
  rw [State.doWrite_answers (via := .mailbox fn seq) ha h hr, State.answer_mailbox seq true _ c b [] running]
  dsimp only
  rw [State.modMailbox_mailbox, Mailbox.answered_refused true seq b [] _ (.inl rfl)]
  exact ⟨rfl, rfl, rfl, rfl, rfl, rfl, rfl, rfl⟩

theorem mailboxWrite_refused (len seq : Nat) (ha : (s.fn fn).mailbox.addr ≠ 0x002002)
    (hform : s.writeForm (fnIsPf fn) (s.fn fn).mailbox.addr (leBytes len (s.fn fn).mailbox.data) ≠ Lres.ok) :
    Completes (.mailboxWrite fn len seq) s fun t =>
      (t.fn fn).mailbox.doneSeq = seq ∧ (t.fn fn).mailbox.running = false ∧ (t.fn fn).mailbox.doneLen = 0 ∧
      (t.fn fn).mailbox.result = s.writeForm (fnIsPf fn) (s.fn fn).mailbox.addr (leBytes len (s.fn fn).mailbox.data) ∧
      t.ledger = s.ledger ∧ t.staged = s.staged ∧ t.life = s.life := by
  obtain ⟨t, ht, hseq, hrun, hlen, hres, -, hrest⟩ := mailboxWrite_completes reach idle free len seq ha
    (State.ledgerWrite_refused (List.find?_cons_of_pos (by rw [State.modMailbox_writeForm]; simpa using hform)))
    (fun h => absurd h hform) rfl
  exact ⟨t, ht, hseq, hrun, hlen, hres, hrest⟩

theorem mailboxWrite_rwBell (len seq : Nat) {r : Param} (hf : Param.find (s.fn fn).mailbox.addr = some r) (hr : r.right = .rwBell)
    (hform : s.writeForm (fnIsPf fn) (s.fn fn).mailbox.addr (leBytes len (s.fn fn).mailbox.data) = Lres.ok)
    (hrules : s.rulesCode (s.fn fn).mailbox.addr (leNat (leBytes len (s.fn fn).mailbox.data)) = Lres.ok) :
    Completes (.mailboxWrite fn len seq) s fun t =>
      (t.fn fn).mailbox.doneSeq = seq ∧ (t.fn fn).mailbox.running = false ∧ (t.fn fn).mailbox.result = Lres.ok ∧
      (t.fn fn).mailbox.bell = s.stageBell ∧
      t.staged = s.staged ++ [⟨s.stageBell, (s.fn fn).mailbox.addr, leNat (leBytes len (s.fn fn).mailbox.data), true⟩] ∧
      t.ledger = s.ledger := by
  have plain := not_mem_specialWrites hf hr
  have ha : (s.fn fn).mailbox.addr ≠ 0x002002 := fun h => plain (by rw [h]; decide)
  have accepted := State.ledgerWrite_accepted (s := s.modMailbox fn (Mailbox.submitted len seq 2)) hf hform hrules
    (State.objectCode_ok _ _ plain)
  rw [State.acceptWrite_rwBell _ _ _ hr, State.modMailbox_stageBell] at accepted
  obtain ⟨t, ht, hseq, hrun, -, hres, hbell, hledger, hstaged, -⟩ :=
    mailboxWrite_completes reach idle free len seq ha accepted (fun _ => afterResponse_false plain) rfl
  exact ⟨t, ht, hseq, hrun, hres, hbell, hstaged, hledger⟩

end Performed

/-- Settles O47: a submission to a mailbox finishes at once, or makes its access and is answered. -/
theorem mailboxSubmissions : Obligations.MailboxSubmissions := by
  intro s fn len seq reach
  refine ⟨fun c op hc run => ?_, fun op idle => mailboxBadOp_idle reach len seq op idle,
    fun idle free => mailboxRead_completes reach idle free len seq,
    fun idle free ha hform => mailboxWrite_refused reach idle free len seq ha hform,
    fun r idle free hf hr hform hrules => mailboxWrite_rwBell reach idle free len seq hf hr hform hrules⟩
  rcases hc with ⟨rfl, rfl⟩ | ⟨rfl, rfl⟩ | rfl
  all_goals exact congrArg Host.Outcome.next (State.submit_running reach len seq _ _ run)

end Sys2Proof.Machine
end

section
/-!
SUPPORT. The tasks of a bell (R26 to R30, R568): what an overrun counts, and what a domain does or sets aside.
-/
namespace Sys2Proof

@[simp] theorem Tab.num_put_self (t : Tab Nat) (k v : Nat) : Tab.num (Tab.put t k v) k = v := Tab.getD_put_self ..

end Sys2Proof

namespace Sys2Proof.Machine

/-! ## Overruns -/

/-- The length of a domain's run of overruns, one longer (R568). -/
def State.nextRun (s : State) (d : Nat) : Nat := min (Tab.num s.tally.runs d + 1) 4294967295

/-- What a domain with work set aside, not counted in this bell yet, leaves when it overruns: the counts, and the fault beyond the
limit (R30, R568). -/
theorem State.overran_counts {s : State} {d : Nat} (work : Tab.getD s.deferred d [] ≠ []) (first : Tab.num s.tally.counted d ≤ s.ticks) :
    s.overran d = { s with
      tally := { s.tally with counted := Tab.put s.tally.counted d (s.ticks + 1),
                              overruns := Tab.put s.tally.overruns d ((Tab.num s.tally.overruns d + 1) % 2 ^ 64),
                              runs := Tab.put s.tally.runs d (s.nextRun d) },
      beadle := if s.param 0x110101 < s.nextRun d then s.beadle.occur FaultCode.bellBudget d 0 s.bell s.ticks else s.beadle } := by
  unfold State.overran
  rw [if_neg (by simpa using ⟨work, first⟩)]
  change (if s.param 0x110101 < s.nextRun d then _ else _) = _
  split <;> rfl

/-- Time never goes back in reaching an instant that comes. -/
theorem State.clock_le_movedTo (s : State) (T : Nat) : s.clock ≤ (s.movedTo T).clock := by
  unfold State.movedTo
  split
  · exact Nat.le_refl _
  · next h =>
    unfold State.clock at h ⊢
    dsimp only
    omega

theorem bellOverrun_counts {s : State} {d : Nat} (work : Tab.getD s.deferred d [] ≠ []) (first : Tab.num s.tally.counted d ≤ s.ticks)
    (comes : s.comes (s.ticks * 4096 + s.openParam (0x110000 + d) * 16) = true) : exec (.bellOverrun d) s =
      .next ((s.movedTo (s.ticks * 4096 + s.openParam (0x110000 + d) * 16)).overran d) := by
  show execBellOverrun d s = _
  unfold execBellOverrun
  rw [if_neg (by simpa using ⟨work, first⟩), State.atTime_comes s _ _ comes]

/-! ## The tasks of a domain at a bell -/

theorem State.domainBell_unfinished {s : State} {i : BellInputs} {d : Nat} (run : s.paused = false)
    (unfinished : bitAt i.finish (d - 1) = false) :
    s.domainBell i d = { s with deferred := Tab.put s.deferred d (Tab.getD s.deferred d [] ++ [(s.bell, i)]) } := by
  simp [State.domainBell, run, unfinished]

/-- With nothing set aside the tasks of the bell are the work of the domain, and nothing is set aside after them. -/
theorem State.domainBell_finished {s : State} {i : BellInputs} {d : Nat} (run : s.paused = false)
    (finished : bitAt i.finish (d - 1) = true) (none_aside : s.deferred = []) :
    s.domainBell i d = ({ s with tally := { s.tally with runs := Tab.del s.tally.runs d } } : State).domainTask d s.bell i := by
  unfold State.domainBell State.resumeDomain
  simp only [run, finished, none_aside, Tab.put, Tab.getD, Tab.look, Tab.del, if_true, Option.getD_none, Option.getD_some,
    List.nil_append, List.foldl_cons, List.foldl_nil, Bool.false_eq_true, if_false]

theorem State.domainBell_paused {s : State} (i : BellInputs) (d : Nat) (paused : s.paused = true) :
    Tab.getD (s.domainBell i d).deferred d [] = Tab.getD s.deferred d [] ++ [(s.bell, i)] := by
  simp [State.domainBell, paused]

/-- Settles O8: an overrun by its counts, the tasks of a bell by whether the domain runs and finishes. -/
theorem bellTasks : Obligations.BellTasks := by
  refine ⟨fun s d work first comes => ⟨_, bellOverrun_counts work first comes, ?_⟩, fun s i d =>
    ⟨State.domainBell_unfinished, State.domainBell_finished, State.domainBell_paused i d⟩⟩
  have clock := s.clock_le_movedTo (s.ticks * 4096 + s.openParam (0x110000 + d) * 16)
  rw [State.movedTo_rest] at clock ⊢
  generalize (s.movedTo (s.ticks * 4096 + s.openParam (0x110000 + d) * 16)).sub = sub at clock ⊢
  rw [State.overran_counts (s := { s with sub := sub }) work first]
  exact ⟨Tab.num_put_self .., Tab.num_put_self .., rfl, rfl, rfl, clock⟩

end Sys2Proof.Machine
end

section
/-!
SUPPORT. The course of a device through the bells (R22, R31, R460): what a boundary and a switch of rw-bell values leave as they are.
-/
namespace Sys2Proof.Machine

/-! ## What the bells leave as it is -/

/-- The lifecycle, the bells since reset, the mark of a boundary already passed, and the reset that waits. -/
def State.course (s : State) : Life × Nat × Bool × Option ResetWait := (s.life, s.ticks, s.switched, s.power.resetAfter)

/-- The part of the kept state that is its course. -/
def Unmoved.course (k : Unmoved) : Life × Nat × Bool × Option ResetWait :=
  match k with
  | (_, _, _, life, ticks, _, _, _, power, _, _, _, _, _, switched, _) => (life, ticks, switched, power.resetAfter)

/-- The writes staged, of the kept state. -/
def Unmoved.staged (k : Unmoved) : List Staged :=
  match k with
  | (_, _, _, _, _, _, _, _, _, _, _, _, _, _, _, staged) => staged

/-- The values of the parameters, of the kept state. -/
def Unmoved.ledger (k : Unmoved) : Tab Nat :=
  match k with
  | (_, _, _, _, _, ledger, _) => ledger

theorem State.course_of_kept {s t : State} (h : t.kept = s.kept) : t.course = s.course := congrArg Unmoved.course h

/-- What each step of a fold leaves as it is, the fold leaves. -/
theorem foldl_course {α : Type} (f : State → α → State) (l : List α) (h : ∀ s x, (f s x).course = s.course) (s : State) :
    (l.foldl f s).course = s.course := by
  induction l generalizing s with
  | nil => rfl
  | cons x l ih => rw [List.foldl_cons, ih, h]

@[simp] theorem State.occur_course (s : State) (code inst detail : Nat) : (s.occur code inst detail).course = s.course := rfl

@[simp] theorem State.setParam_course (s : State) (a v : Nat) : (s.setParam a v).course = s.course := rfl

/-! ## The switch of rw-bell values -/

/-- The staged writes that are due are set in the order of acceptance and leave the list; what follows from a changed value leaves the
kept state. -/
theorem State.switchBell_kept_eq (s : State) :
    s.switchBell.kept = ((s.staged.filter (fun (x : Staged) => decide (x.bell ≤ s.bell))).foldl
      (fun (u : State) (x : Staged) => u.setParam x.addr x.value)
      { s with staged := s.staged.filter (fun (x : Staged) => !decide (x.bell ≤ s.bell)) }).kept := by
  unfold State.switchBell
  extract_lets due was set changed after
  split
  · next hnone =>
    have hdue : due = [] := List.isEmpty_iff.mp hnone
    have hrest : s.staged.filter (fun (x : Staged) => !decide (x.bell ≤ s.bell)) = s.staged :=
      List.filter_eq_self.mpr fun x hx => by simpa using List.filter_eq_nil_iff.mp hdue x hx
    change s.kept = (due.foldl (fun (u : State) (x : Staged) => u.setParam x.addr x.value)
      { s with staged := s.staged.filter (fun (x : Staged) => !decide (x.bell ≤ s.bell)) }).kept
    rw [hdue, hrest, List.foldl_nil]
  · have hafter : after.kept = set.kept := by
      simp only [after, State.portsChanged_kept, State.leaveHold_kept, State.retune_kept]
    split
    · rw [State.applyGroups_kept, hafter]
    · exact hafter

theorem State.switchBell_course (s : State) : s.switchBell.course = s.course :=
  (State.course_of_kept s.switchBell_kept_eq).trans (foldl_course _ _ (fun (u : State) (x : Staged) => u.setParam_course x.addr x.value) _)

theorem foldl_setParam_staged (l : List Staged) (s : State) :
    (l.foldl (fun (u : State) x => u.setParam x.addr x.value) s).staged = s.staged := by
  induction l generalizing s with
  | nil => rfl
  | cons x l ih => exact ih _

theorem State.switchBell_staged (s : State) :
    s.switchBell.staged = s.staged.filter (fun (x : Staged) => !decide (x.bell ≤ s.bell)) := by
  have h : s.switchBell.staged = _ := congrArg Unmoved.staged s.switchBell_kept_eq
  exact h.trans (foldl_setParam_staged _ _)

/-- The values that a run of writes leaves depend on the values before it alone. -/
theorem foldl_setParam_ledger {l : List Staged} {s u : State} (h : u.ledger = s.ledger) :
    (l.foldl (fun (v : State) x => v.setParam x.addr x.value) u).ledger =
      (l.foldl (fun (v : State) x => v.setParam x.addr x.value) s).ledger := by
  induction l generalizing s u with
  | nil => exact h
  | cons x l ih => exact ih (by simp only [State.setParam, h])

theorem State.switchBell_ledger (s : State) : s.switchBell.ledger =
    ((s.staged.filter (fun (x : Staged) => decide (x.bell ≤ s.bell))).foldl
      (fun (u : State) (x : Staged) => u.setParam x.addr x.value) s).ledger := by
  have h : s.switchBell.ledger = _ := congrArg Unmoved.ledger s.switchBell_kept_eq
  exact h.trans (foldl_setParam_ledger rfl)

/-! ## The boundary -/

theorem State.endBell_course (s : State) : s.endBell.course = s.course := State.course_of_kept s.endBell_kept

/-- The clock reaches the next boundary: one more bell, and the course is otherwise as it was. -/
theorem State.nextBoundary_course (s : State) : s.nextBoundary.course = (s.life, s.ticks + 1, s.switched, s.power.resetAfter) := rfl

theorem State.strikeRoutes_course (s : State) : s.strikeRoutes.course = s.course := by
  unfold State.strikeRoutes
  rw [State.course_of_kept (State.portsChanged_kept _ _)]
  unfold State.strike
  split
  · next x u h =>
    refine Eq.trans ?_ (State.course_of_kept (State.struck_cases h))
    dsimp only
    split <;> rfl
  · next u h => exact State.course_of_kept (State.struck_cases h)

theorem State.strikeSram_course (s : State) (block : Nat) : (s.strikeSram block).course = s.course := by
  unfold State.strikeSram
  generalize hd : s.draw 2 = d
  obtain ⟨r, u⟩ := d
  have hu : u.course = s.course := State.course_of_kept (State.draw_cases hd)
  dsimp only
  rw [← hu]
  split
  · exact State.course_of_kept u.strikeL1_kept
  · split
    · exact State.course_of_kept u.strikeShelf_kept
    · exact State.course_of_kept u.strikePayload_kept
  · exact State.course_of_kept u.strikeMatch_kept
  · exact State.course_of_kept u.strikeStaging_kept
  · split
    · exact u.strikeRoutes_course
    · exact State.course_of_kept u.strikeInput_kept
  · exact State.course_of_kept u.strikeInput_kept
  · exact State.course_of_kept u.strikePorter_kept
  · rfl

theorem State.uncorrectableAt_course (s : State) (code inst addr : Nat) : (s.uncorrectableAt code inst addr).course = s.course := by
  unfold State.uncorrectableAt
  dsimp only
  split
  · exact State.course_of_kept (State.strikePmem_kept _)
  · exact State.strikeSram_course _ _

theorem State.eccBell_course (s : State) (i : BellInputs) : (s.eccBell i).course = s.course := by
  unfold State.eccBell
  dsimp only
  refine (foldl_course _ _ (fun u e => ?_) _).trans ((foldl_course _ _ (fun u e => ?_) _).trans (State.course_of_kept s.eccWindow_kept))
  · exact u.uncorrectableAt_course e.1 e.2.1 e.2.2
  · exact State.course_of_kept (u.correctedAt_kept e.1 e.2)

/-! ## The tasks of the domains -/

theorem State.elect_course (s : State) : s.elect.course = s.course := by
  unfold State.elect
  dsimp only
  split
  · rfl
  split
  · split <;> rfl
  · split <;> rfl

theorem State.stepTime_course (s : State) (units : Int) : (s.stepTime units).course = s.course := by
  unfold State.stepTime
  dsimp only
  split
  · exact (State.course_of_kept (State.releasePassed_kept _ _)).trans rfl
  · rfl

theorem State.servoStep_course (s : State) (e : Int) : (s.servoStep e).course = s.course := by
  unfold State.servoStep
  rw [State.stepTime_course]
  split <;> rfl

theorem State.servoWith_course (s : State) (e : Int) : (s.servoWith e).course = s.course := by
  unfold State.servoWith
  split
  · exact State.servoStep_course _ e
  · dsimp only
    split <;> rfl

theorem State.servo_course (s : State) : s.servo.course = s.course := by
  have h := s.elect_course
  unfold State.servo
  generalize s.elect = u at h ⊢
  dsimp only
  rw [← h]
  split
  · exact State.course_of_kept u.servoFree_kept
  · rw [State.servoWith_course]
    split <;> rfl

theorem State.timeTask_course (s : State) : s.timeTask.course = s.course := by
  unfold State.timeTask
  rw [State.servo_course]
  exact foldl_course _ _ (fun u q => State.course_of_kept (u.control_kept q 0x010 [])) s

theorem State.powerSample_course (s : State) (mw : Nat) : (s.powerSample mw).course = s.course := by
  unfold State.powerSample
  extract_lets p sampled high p' counted marked
  have hmarked : marked.course = s.course := by
    simp only [marked]
    split <;> rfl
  split
  · exact (State.course_of_kept (marked.count_kept _ _ _)).trans hmarked
  · exact hmarked

theorem State.domainTask_course (s : State) (d bell : Nat) (i : BellInputs) : (s.domainTask d bell i).course = s.course := by
  unfold State.domainTask
  split
  · exact State.course_of_kept s.scrubStep_kept
  · rfl
  · exact State.course_of_kept s.chainCheck_kept
  · exact State.course_of_kept (s.publishBoards_kept bell)
  · exact State.course_of_kept (by
      rw [State.releaseShaped_kept, State.recordSamples_kept, State.leaveHold_kept, State.refill_kept])
  · exact State.course_of_kept (s.creditSyncs_kept bell)
  · exact State.course_of_kept ((foldl_kept _ _ State.portBell_kept _).trans (s.adaptLanes_kept i.foms))
  · exact s.timeTask_course
  · exact State.course_of_kept s.porterRefill_kept
  · exact s.powerSample_course i.powerMw
  · rfl

theorem State.resumeDomain_course (s : State) (d : Nat) : (s.resumeDomain d).course = s.course := by
  unfold State.resumeDomain
  dsimp only
  refine (foldl_course _ _ (fun u w => ?_) _).trans rfl
  exact u.domainTask_course d w.1 w.2

theorem State.domainBell_course (s : State) (i : BellInputs) (d : Nat) : (s.domainBell i d).course = s.course := by
  unfold State.domainBell
  dsimp only
  split
  · rfl
  split
  · exact State.resumeDomain_course _ d
  · rfl

/-- No reset is made at a boundary where none waits. -/
theorem State.settleReset_none {s : State} (h : s.power.resetAfter = none) : s.settleReset = s := by
  unfold State.settleReset
  rw [h]

/-- A boundary adds one bell, unless the switch of rw-bell values has already done so; where no reset waits it leaves the lifecycle. -/
theorem State.boundary_course {s : State} (i : BellInputs) (h : s.power.resetAfter = none) :
    (s.boundary i).course = (s.life, if s.switched then s.ticks else s.ticks + 1, false, none) := by
  unfold State.boundary
  extract_lets hot reached latched sensed checked tasks
  have hreached : reached.course = (s.life, if s.switched then s.ticks else s.ticks + 1, false, none) := by
    simp only [reached]
    cases hs : s.switched with
    | true => exact congrArg (s.life, s.ticks, false, ·) h
    | false =>
      have hend : s.endBell.course = (s.life, s.ticks, false, none) := by rw [State.endBell_course, State.course, hs, h]
      simp only [State.course, Prod.mk.injEq] at hend
      obtain ⟨hlife, hticks, hswitched, hreset⟩ := hend
      rw [if_neg (by decide), if_neg (by decide), State.switchBell_course, State.nextBoundary_course, hlife, hticks, hswitched, hreset]
  have hlatched : latched.course = reached.course := State.course_of_kept (by
    simp only [latched, State.dumpDue_kept, State.latchSamples_kept, State.tallyLatch_kept, State.cycleCounts_kept])
  have hsensed : sensed.course = latched.course :=
    (State.eccBell_course _ i).trans ((State.course_of_kept (State.heldFaults_kept (latched.senseBell i) hot)).trans rfl)
  have hchecked : checked.course = sensed.course := State.course_of_kept (by
    simp only [checked, State.pathCheck_kept, State.bellAcks_kept])
  have htasks : tasks.course = checked.course := foldl_course _ _ (fun (u : State) (d : Nat) => u.domainBell_course i (d + 1)) checked
  have hend : tasks.bellRetries.course = (s.life, if s.switched then s.ticks else s.ticks + 1, false, none) := by
    rw [State.course_of_kept tasks.bellRetries_kept, htasks, hchecked, hsensed, hlatched, hreached]
  rw [State.settleReset_none (congrArg (fun c => c.2.2.2) hend), hend]

/-! ## The two commands -/

theorem bellBoundary_dark {s : State} (i : BellInputs) (dark : s.life = .dark) : exec (.bellBoundary i) s = .next s := by
  show execBellBoundary i s = _
  unfold execBellBoundary
  rw [if_pos dark]

theorem bellBoundary_completes {s : State} (i : BellInputs) (lit : s.life ≠ .dark) (h : s.power.resetAfter = none) :
    Completes (.bellBoundary i) s fun t =>
      t.ticks = (if s.switched then s.ticks else s.ticks + 1) ∧ t.life = s.life ∧ t.switched = false := by
  have hcourse := State.boundary_course i h
  simp only [State.course, Prod.mk.injEq] at hcourse
  obtain ⟨hlife, hticks, hswitched, -⟩ := hcourse
  refine ⟨s.boundary i, ?_, hticks, hlife, hswitched⟩
  show execBellBoundary i s = _
  unfold execBellBoundary
  rw [if_neg lit]

theorem rwBellApply_due {s : State} (lit : s.life ≠ .dark) (first : s.switched = false)
    (due : ∃ x ∈ s.staged, x.bell ≤ s.endBell.nextBoundary.bell) :
    exec .rwBellApply s = .next ({ s.endBell.nextBoundary with switched := true } : State).switchBell := by
  show execRwBellApply s = _
  unfold execRwBellApply
  rw [if_neg (by simpa [lit, first] using due)]

theorem rwBellApply_completes {s : State} (lit : s.life ≠ .dark) (first : s.switched = false)
    (due : ∃ x ∈ s.staged, x.bell ≤ s.endBell.nextBoundary.bell) : Completes .rwBellApply s fun t =>
      t.switched = true ∧ t.ticks = s.ticks + 1 ∧ t.life = s.life ∧
      t.staged = s.staged.filter (fun (x : Staged) => !decide (x.bell ≤ s.endBell.nextBoundary.bell)) ∧
      t.ledger = (s.staged.foldl (fun u (x : Staged) =>
        if x.bell ≤ s.endBell.nextBoundary.bell then State.setParam u x.addr x.value else u) s).ledger := by
  refine ⟨_, rwBellApply_due lit first due, ?_⟩
  have hend := s.endBell_kept
  generalize s.endBell = e at hend ⊢
  simp only [State.kept, Prod.mk.injEq] at hend
  obtain ⟨-, -, -, hlife, hticks, hledger, -, -, -, -, -, -, -, -, -, hstaged⟩ := hend
  have hcourse := State.switchBell_course { e.nextBoundary with switched := true }
  simp only [State.course, Prod.mk.injEq] at hcourse
  obtain ⟨hlife', hticks', hswitched, -⟩ := hcourse
  refine ⟨hswitched, hticks'.trans (congrArg (· + 1) hticks), hlife'.trans hlife,
    (State.switchBell_staged _).trans (congrArg (List.filter _) hstaged),
    (State.switchBell_ledger _).trans ((foldl_setParam_ledger (u := { e.nextBoundary with switched := true }) hledger).trans ?_)⟩
  change (List.foldl _ s (e.staged.filter fun x => decide (x.bell ≤ e.nextBoundary.bell))).ledger = _
  rw [hstaged, List.foldl_filter]
  simp only [decide_eq_true_eq]

/-- Settles O7, by the course that a boundary and a switch of rw-bell values leave, and what the switch sets. -/
theorem bellBoundaries : Obligations.BellBoundaries := by
  refine ⟨fun s i => ⟨fun lit hs h => ?_, fun lit hs h => ?_, bellBoundary_dark i⟩,
    fun s lit first due => rwBellApply_completes lit first due⟩
  · simpa [hs] using bellBoundary_completes i lit h
  · simpa [hs] using bellBoundary_completes i lit h

end Sys2Proof.Machine
end

section
/-!
SUPPORT. The state after reset (R12, R73, R461, R490, R526): host ports and parameters as they stand then.
-/
namespace Sys2Proof.Machine

/-! ## The state after reset -/

@[simp] theorem State.reset_port (p : HPort) : State.reset.port p = HostPort.fresh := by cases p <;> rfl

/-- No value is listed after reset, so every parameter reads its power-up value. -/
@[simp] theorem State.reset_param (a : Nat) : State.reset.param a = Param.powerUp a := rfl

/-- No function is listed after reset, so every function is fresh. -/
@[simp] theorem State.reset_fn (fn : Nat) : State.reset.fn fn = Fn.fresh := rfl

/-- Settles O3: each part of the state reads its reset value. -/
theorem resetLeaves : Obligations.ResetLeaves := by
  have ports : ∀ p, (State.reset.port p).state = .reset ∧ (State.reset.port p).cause = 0 ∧ (State.reset.port p).numVfs = 0 :=
    fun p => by simp [HostPort.fresh]
  exact ⟨rfl, rfl, ports, rfl, rfl, rfl, State.reset_param, fun _ => ⟨rfl, rfl⟩, State.reset_fn,
    rfl, rfl, rfl, rfl, rfl, rfl, rfl, rfl⟩

end Sys2Proof.Machine
end

section
/-!
SUPPORT. Host requests (R68, R71, R73): the two host ports beside their paths, and what becomes of a unit in each state of its port.
-/
namespace Sys2Proof.Machine

/-! ## A port, its path and its Boot Channel -/

@[simp] theorem State.setPath_port (s : State) (p r : HPort) (l : List HostUnit) : (s.setPath p l).port r = s.port r := by
  cases p <;> rfl

@[simp] theorem State.setPort_path (s : State) (p r : HPort) (f : HostPort → HostPort) : (s.setPort p f).path r = s.path r := by
  cases p <;> rfl

@[simp] theorem State.setPort_boot (s : State) (p r : HPort) (f : HostPort → HostPort) : (s.setPort p f).boot r = s.boot r := by
  cases p <;> rfl

@[simp] theorem State.setBoot_boot (s : State) (p : HPort) (f : Boot → Boot) : (s.setBoot p f).boot p = f (s.boot p) := by
  cases p <;> rfl

@[simp] theorem State.tunePort_port (s : State) (p : HPort) (f : HostPort → HostPort) : (s.tunePort p f).port p =
    { f (s.port p) with state := (s.port p).state, cause := (s.port p).cause, numVfs := (s.port p).numVfs } :=
  s.setPort_port p _

@[simp] theorem State.tunePort_path (s : State) (p r : HPort) (f : HostPort → HostPort) : (s.tunePort p f).path r = s.path r :=
  s.setPort_path p r _

/-! ## A request -/

/-- A unit as it begins to wait on its path (R380). -/
def State.waiting (s : State) (u : HostUnit) : HostUnit := { u with since := s.clock }

section Request
variable {s : State} {u : HostUnit}

theorem State.request_open (h : (s.port (fnPort u.fn)).state = .up ∨ (s.port (fnPort u.fn)).state = .thawing) :
    s.request u = s.setPath (fnPort u.fn) (s.path (fnPort u.fn) ++ [s.waiting u]) := by
  unfold State.request
  rcases h with h | h <;> simp only [h] <;> rfl

theorem State.request_frozen_held (h : (s.port (fnPort u.fn)).state = .frozen) (held : u.op.held = true) :
    s.request u = s.tunePort (fnPort u.fn) (fun q => { q with held := q.held ++ [s.waiting u] }) := by
  unfold State.request
  simp only [h, held, if_true]
  rfl

theorem State.request_frozen_other (h : (s.port (fnPort u.fn)).state = .frozen) (other : u.op.held = false) : s.request u = s := by
  unfold State.request
  simp only [h, other, Bool.false_eq_true, if_false]

theorem State.request_reset (h : (s.port (fnPort u.fn)).state = .reset) : s.request u = s := by
  unfold State.request
  simp only [h]

end Request

/-- Settles O11, by the state of the port of the unit's function. -/
theorem requestsFollowPortState : Obligations.RequestsFollowPortState := by
  intro s u
  refine ⟨fun h => ?_, fun h held => ?_, State.request_frozen_other, State.request_reset⟩
  · rw [State.request_open h]
    exact ⟨State.setPath_path .., State.setPath_port ..⟩
  · rw [State.request_frozen_held h held, State.tunePort_port]
    exact ⟨State.tunePort_path .., rfl⟩

end Sys2Proof.Machine
end

section
/-!
SUPPORT. The host port state machine (R52, R72, R73): what a freeze, a thaw and a reset of a port leave in it.
-/
namespace Sys2Proof.Machine

/-! ## The state, causes and NumVFs of a port -/

/-- The state, freeze causes and NumVFs of a host port, of the kept state. -/
def Unmoved.portCore (k : Unmoved) (p : HPort) : PortState × BitVec 6 × Nat :=
  match k, p with
  | (_, _, _, _, _, _, _, _, _, _, _, _, a, _, _, _), .A => a
  | (_, _, _, _, _, _, _, _, _, _, _, _, _, b, _, _), .B => b

theorem State.kept_portCore (s : State) (p : HPort) : s.kept.portCore p = (s.port p).core := by cases p <;> rfl

theorem State.port_core_of_kept {s t : State} (h : t.kept = s.kept) (p : HPort) : (t.port p).core = (s.port p).core := by
  rw [← State.kept_portCore, ← State.kept_portCore, h]

theorem HostPort.core_eq {h : HostPort} {c : PortState × BitVec 6 × Nat} :
    h.core = c ↔ h.state = c.1 ∧ h.cause = c.2.1 ∧ h.numVfs = c.2.2 := by
  simp only [HostPort.core, Prod.ext_iff]

theorem State.tunePort_core (s : State) (p : HPort) (f : HostPort → HostPort) : ((s.tunePort p f).port p).core = (s.port p).core := by
  rw [State.tunePort_port]
  rfl

/-! ## Freeze -/

/-- The bit of a cause (R52). -/
def causeBit (n : Nat) : BitVec 6 := BitVec.ofNat 6 (2 ^ n)

@[simp] theorem State.noteCause_port (s : State) (p : HPort) (n : Nat) : (s.noteCause p n).port p =
    { s.port p with cause := (s.port p).cause ||| causeBit n, frozenAt := s.nextBell, timeouts := 0, poisons := 0 } :=
  State.setPort_port ..

theorem State.enterFrozen_core (s : State) (p : HPort) (n : Nat) :
    ((s.enterFrozen p n).port p).core = (.frozen, (s.port p).cause ||| causeBit n, (s.port p).numVfs) := by
  unfold State.enterFrozen
  rw [State.port_core_of_kept ((State.clearFetches_kept _ _).trans (State.clearPath_kept _ _)), State.setPort_port,
    State.noteCause_port]
  rfl

/-- A cause freezes a port that is UP (R73): what the freeze ends leaves its state, causes and NumVFs. -/
theorem State.freezePort_up_core {s : State} {p : HPort} (n : Nat) (h : (s.port p).state = .up) :
    ((s.freezePort p n).port p).core = (.frozen, (s.port p).cause ||| causeBit n, (s.port p).numVfs) := by
  unfold State.freezePort
  rw [h]
  dsimp only
  rw [State.port_core_of_kept ((State.loseLists_kept _ _).trans (State.containPort_kept _ _)), State.enterFrozen_core]
  cases p <;> rfl

/-- A cause on a FROZEN port is noted, and the hold runs anew (R73). -/
theorem State.freezePort_frozen {s : State} {p : HPort} (n : Nat) (h : (s.port p).state = .frozen) :
    s.freezePort p n = s.noteCause p n := by
  unfold State.freezePort
  rw [h]

/-- The three commands by which a cause of a bit of HIF_FREEZE_CAUSE meets a port: FREEZE, FATAL_ERROR, and SURPRISE_DOWN on a link that is
up. -/
def FreezesBy (c : Instr) (s : State) (p : HPort) (bit : BitVec 6) : Prop :=
  c = .freeze p ∧ bit = 16 ∨ c = .fatalError p ∧ bit = 2 ∨ c = .surpriseDown p ∧ (s.port p).linkUp = true ∧ bit = 8

/-- Each of them brings its cause to the port, of which at most the link has changed. -/
theorem exec_freezes {c : Instr} {s : State} {p : HPort} {bit : BitVec 6} (live : (s.port p).state ≠ .reset) (h : FreezesBy c s p bit) :
    ∃ (u : State) (n : Nat), exec c s = .next (u.freezePort p n) ∧ (u.port p).core = (s.port p).core ∧ u.nextBell = s.nextBell ∧ causeBit n = bit := by
  rcases h with ⟨rfl, rfl⟩ | ⟨rfl, rfl⟩ | ⟨rfl, hlink, rfl⟩
  · exact ⟨s, Cause.software, rfl, rfl, rfl, rfl⟩
  · exact ⟨s, Cause.fatal, rfl, rfl, rfl, rfl⟩
  · refine ⟨s.tunePort p (fun q => { q with linkUp := false }), Cause.surprise, ?_, State.tunePort_core .., by cases p <;> rfl, rfl⟩
    show execSurpriseDown p s = _
    unfold execSurpriseDown
    rw [if_pos (by simpa [hlink] using live)]

theorem freezes_from_up {c : Instr} {s : State} {p : HPort} {bit : BitVec 6} (h : FreezesBy c s p bit) (up : (s.port p).state = .up) :
    Completes c s fun t => (t.port p).state = .frozen ∧ (t.port p).cause = (s.port p).cause ||| bit := by
  obtain ⟨u, n, hexec, hcore, -, rfl⟩ := exec_freezes (by simp [up]) h
  obtain ⟨hstate, hcause, -⟩ := HostPort.core_eq.mp hcore
  obtain ⟨hfrozen, hbits, -⟩ := HostPort.core_eq.mp (State.freezePort_up_core n (hstate.trans up))
  exact ⟨_, hexec, hfrozen, hbits.trans (congrArg (· ||| causeBit n) hcause)⟩

theorem freezes_again {c : Instr} {s : State} {p : HPort} {bit : BitVec 6} (h : FreezesBy c s p bit)
    (frozen : (s.port p).state = .frozen) : Completes c s fun t =>
      (t.port p).state = .frozen ∧ (t.port p).cause = (s.port p).cause ||| bit ∧ (t.port p).frozenAt = s.nextBell ∧
      (t.port p).timeouts = 0 ∧ (t.port p).poisons = 0 := by
  obtain ⟨u, n, hexec, hcore, hbell, rfl⟩ := exec_freezes (by simp [frozen]) h
  obtain ⟨hstate, hcause, -⟩ := HostPort.core_eq.mp hcore
  refine ⟨_, hexec, ?_⟩
  dsimp only
  rw [State.freezePort_frozen n (hstate.trans frozen), State.noteCause_port]
  exact ⟨hstate.trans frozen, congrArg (· ||| causeBit n) hcause, hbell, rfl, rfl⟩

/-! ## Thaw -/

theorem State.thawPort_core (s : State) (p : HPort) :
    ((s.thawPort p).port p).core = (.thawing, (s.port p).cause, (s.port p).numVfs) := by
  unfold State.thawPort
  dsimp only
  rw [State.port_core_of_kept (foldl_kept _ _ State.advanceQp_kept _), State.setPath_port, State.setPort_port]
  rfl

theorem thaw_ready {s : State} {p : HPort} (frozen : (s.port p).state = .frozen) (link : (s.port p).linkUp = true)
    (clear : (s.port p).cause = 0) (past : (s.port p).holdOver s.ticks = true) : exec (.thaw p) s = .next (s.thawPort p) := by
  show ok (s.askThaw p) = _
  unfold State.askThaw
  rw [if_pos (by simp [frozen, link, clear, past])]

theorem thaw_ignored {s : State} {p : HPort} (h : (s.port p).state ≠ .frozen ∨ (s.port p).linkUp = false ∨ (s.port p).cause ≠ 0 ∨
    s.ticks < (s.port p).frozenAt + (s.port p).hold) : exec (.thaw p) s = .next s := by
  show ok (s.askThaw p) = _
  unfold State.askThaw
  rw [if_neg]
  intro ready
  simp only [HostPort.holdOver, Bool.and_eq_true, beq_iff_eq, decide_eq_true_eq] at ready
  obtain ⟨⟨⟨hstate, hlink⟩, hcause⟩, hhold⟩ := ready
  rcases h with h | h | h | h
  · exact h hstate
  · exact Bool.false_ne_true (h.symm.trans hlink)
  · exact h hcause
  · exact Nat.not_lt.mpr hhold h

theorem autoThaw_ready {s : State} {p : HPort} (frozen : (s.port p).state = .frozen) (link : (s.port p).linkUp = true)
    (past : (s.port p).holdOver s.ticks = true) (auto : s.param 0x203004 ≠ 0) (free : s.onTime 3 = true) :
    exec (.autoThaw p) s = .next (s.thawPort p) := by
  show execAutoThaw p s = _
  unfold execAutoThaw
  rw [if_pos (by simp [State.flag, frozen, link, past, auto, free])]

theorem thawComplete_done {s : State} {p : HPort} (thawing : (s.port p).state = .thawing) (done : s.thawed p = true) :
    exec (.thawComplete p) s = .next ((s.fnsOn p).foldl (fun s f => (s.msix f 0 []).resumeFn f)
      (s.setPort p (fun q => { q with state := .up }))) := by
  show execThawComplete p s = _
  unfold execThawComplete
  rw [if_pos (by simp [thawing, done])]
  cases p <;> rfl

/-- The function events and what goes on after the release of a port leave it UP (R73). -/
theorem thawComplete_completes {s : State} {p : HPort} (thawing : (s.port p).state = .thawing) (done : s.thawed p = true) :
    Completes (.thawComplete p) s fun t => (t.port p).state = .up := by
  have hkept := foldl_kept (fun s f => (s.msix f 0 []).resumeFn f) (s.fnsOn p)
    (fun t f => (State.resumeFn_kept _ _).trans (State.msix_kept _ _ _ _)) (s.setPort p (fun q => { q with state := .up }))
  obtain ⟨hstate, -⟩ := HostPort.core_eq.mp (State.port_core_of_kept hkept p)
  exact ⟨_, thawComplete_done thawing done, hstate.trans (congrArg HostPort.state (State.setPort_port ..))⟩

/-! ## Reset and release -/

/-- A table from which the keys of a kind are gone finds none of them. -/
theorem look_filter_gone {α : Type} (t : Tab α) {gone : Nat → Bool} {k : Nat} (h : gone k = true) :
    Tab.look (t.filter (fun e => !gone e.1)) k = none := by
  induction t with
  | nil => rfl
  | cons e t ih =>
    cases hg : gone e.1 with
    | true => simpa [hg] using ih
    | false =>
      have hne : e.1 ≠ k := fun he => by simp [he, h] at hg
      simpa [hg, Tab.look, hne] using ih

/-- A function that is no longer listed is fresh. -/
theorem State.fn_gone (s : State) {gone : Nat → Bool} {fn : Nat} (h : gone fn = true) :
    ({ s with fns := s.fns.filter (fun e => !gone e.1) } : State).fn fn = Fn.fresh := by
  unfold State.fn Tab.getD
  rw [look_filter_gone _ h]
  rfl

@[simp] theorem State.setPort_fn (s : State) (p : HPort) (f : HostPort → HostPort) (fn : Nat) : (s.setPort p f).fn fn = s.fn fn := by
  cases p <;> rfl

@[simp] theorem State.setBoot_fn (s : State) (p : HPort) (f : Boot → Boot) (fn : Nat) : (s.setBoot p f).fn fn = s.fn fn := by
  cases p <;> rfl

/-- What the reset of a port leaves of it (R73, R78): the port is down, its Boot Channel and its functions are fresh. -/
theorem State.resetPort_leaves (s : State) (p : HPort) (perst : Bool) :
    (∃ q, (s.resetPort p perst).port p = { HostPort.down perst q with numVfs := 0 }) ∧ (s.resetPort p perst).boot p = Boot.fresh ∧
    ∀ fn, fnPort fn = p → (s.resetPort p perst).fn fn = Fn.fresh := by
  unfold State.resetPort
  extract_lets mine downed abandoned retired landed ended cleared
  refine ⟨⟨_, State.setPort_port ..⟩, ?_, fun fn h => ?_⟩
  · rw [State.setPort_boot, State.setBoot_boot]
  · rw [State.setPort_fn, State.setBoot_fn]
    exact State.fn_gone ended (by simp [mine, h])

/-- A port whose PERST is released comes UP with its link (R73). -/
theorem State.bringUp_port {s : State} {p : HPort} (l : HostLink) (released : (s.port p).perst = false) : (s.bringUp p l).port p =
    { s.port p with linkUp := true, link := l, state := if (s.port p).state = .reset then .up else (s.port p).state } := by
  unfold State.bringUp
  dsimp only
  by_cases h : (s.port p).state = .reset
  · rw [if_pos (by simp [h, released]), if_pos h, State.setPort_port, State.tunePort_port]
  · rw [if_neg (by simp [h]), if_neg h, State.tunePort_port]

theorem State.bringUp_other (s : State) {p r : HPort} (l : HostLink) (h : r ≠ p) : (s.bringUp p l).port r = s.port r := by
  unfold State.bringUp State.tunePort
  dsimp only
  split <;> simp only [State.setPort_port_ne _ _ h]

theorem otherPort_ne (p : HPort) : otherPort p ≠ p := by cases p <;> decide

/-- The release of PERST, with the refusals that held WAKE_N low forgotten (R79). -/
theorem State.perstReleased_port (s : State) (p : HPort) : ((s.tunePort p (fun q => { q with perst := false })).endWake p).port p =
    { s.port p with perst := false, wake := [] } := by
  unfold State.endWake
  show ((_ : State).tunePort p _).port p = _
  simp only [State.tunePort_port]

/-- Settles O10, event by event: what each leaves in the port. -/
theorem hostPortStateMachine : Obligations.HostPortStateMachine := by
  refine ⟨fun s p => ⟨fun l reset => ?_, ?_, fun l released => ?_, fun why => ?_,
    fun c bit h => ⟨freezes_from_up h, freezes_again h⟩, fun frozen link clear past => ?_,
    fun frozen link past auto free => ?_, thawComplete_completes, fun _ => rfl, fun on up awake quiet unread => ?_⟩,
    fun s p h => thaw_ignored h⟩
  · refine ⟨_, rfl, ?_⟩
    dsimp only
    rw [State.bringUp_port l (by rw [State.perstReleased_port]), State.perstReleased_port]
    simp [reset]
  · refine ⟨_, rfl, ?_⟩
    dsimp only
    rw [State.perstReleased_port]
    exact ⟨rfl, rfl, rfl⟩
  · refine ⟨s.bringUp p l, ?_, ?_⟩
    · show execDataLinkUp p l s = _
      unfold execDataLinkUp
      rw [released]
      rfl
    · dsimp only
      rw [State.bringUp_port l released]
      exact ⟨rfl, rfl, rfl, rfl, s.bringUp_other l (otherPort_ne p)⟩
  · refine ⟨_, rfl, ?_⟩
    obtain ⟨⟨q, hport⟩, hboot, hfns⟩ := s.resetPort_leaves p (why == .perst || why == .d3cold || (s.port p).perst)
    rw [hport]
    exact ⟨rfl, rfl, rfl, rfl, rfl, rfl, rfl, hboot, hfns⟩
  · obtain ⟨hstate, -⟩ := HostPort.core_eq.mp (s.thawPort_core p)
    exact ⟨_, thaw_ready frozen link clear past, hstate⟩
  · obtain ⟨hstate, hcause, -⟩ := HostPort.core_eq.mp (s.thawPort_core p)
    exact ⟨_, autoThaw_ready frozen link past auto free, hstate, hcause⟩
  · show execL1Idle p s = _
    unfold execL1Idle
    rw [if_pos (by simpa [on, up, awake, quiet] using unread)]

end Sys2Proof.Machine
end

section
/-!
SUPPORT. Commands that act on one function (R42, R44, R55, R57, R77, R79): what a reset of functions ends, and how a vector is unmasked.
-/
namespace Sys2Proof

/-- A field taken off a record reads 0. -/
theorem bits_sub_place_self (r off lo w : Nat) : bits (r - place off lo w (bits r off lo w)) off lo w = 0 := by
  unfold bits place
  rw [Nat.mod_mod, Nat.mul_comm, Nat.sub_mul_div_of_le _ _ _ (by
    calc 2 ^ (8 * off + lo) * (r / 2 ^ (8 * off + lo) % 2 ^ w)
      _ ≤ 2 ^ (8 * off + lo) * (r / 2 ^ (8 * off + lo)) := Nat.mul_le_mul_left _ (Nat.mod_le _ _)
      _ ≤ r := Nat.mul_div_le _ _)]
  exact Nat.mod_eq_zero_of_dvd (Nat.dvd_sub_mod _)

end Sys2Proof

namespace Sys2Proof.Machine

/-! ## Functions that end -/

/-- The keys, of the kept state. -/
def Unmoved.keys (k : Unmoved) : Tab Key :=
  match k with
  | (_, _, _, _, _, _, keys, _) => keys

/-- Of the kept state the end of functions touches their keys, and the values of parameters (R44). -/
theorem State.endFns_kept_eq (s : State) (gone : Nat → Bool) :
    ∃ l, (s.endFns gone).kept = ({ s with keys := s.keys.filter (fun e => !gone e.2.fn), ledger := l } : State).kept := by
  unfold State.endFns
  extract_lets s1 s2 s3 s4 s5 mine s6 s7 groups s8 dead s9 s10 s11
  have h5 : s5.kept = s.kept := by
    simp only [s5, s4, s3, s2, s1, kept_rules, State.dropUnits_kept, State.dropReads_kept, State.endQps_kept, State.endTrees_kept]
  have h8 : s8.kept = s5.kept := foldl_kept _ _ (fun t e => State.groupDone_kept t _ _) _
  have h9 : s9.kept = s.kept := (State.endMisses_kept _ _).trans (h8.trans h5)
  have h10 : s10.kept = ({ s with keys := s.keys.filter (fun e => !gone e.2.fn) } : State).kept := by
    simp only [State.kept, Prod.mk.injEq] at h9 ⊢
    simp only [s10, h9, and_self]
  refine ⟨s11.ledger, ?_⟩
  rw [State.rebench_kept, State.reland_kept]
  have h11 : s11.kept = ({ s10 with ledger := s11.ledger } : State).kept := by
    simp only [s11]
    split <;> rfl
  rw [h11]
  simp only [State.kept, Prod.mk.injEq] at h10 ⊢
  simp only [h10, and_self]

theorem State.endFns_keys (s : State) (gone : Nat → Bool) : (s.endFns gone).keys = s.keys.filter (fun e => !gone e.2.fn) := by
  obtain ⟨_, h⟩ := s.endFns_kept_eq gone
  exact congrArg Unmoved.keys h

theorem State.endFns_core (s : State) (gone : Nat → Bool) (p : HPort) : ((s.endFns gone).port p).core = (s.port p).core := by
  obtain ⟨_, h⟩ := s.endFns_kept_eq gone
  exact (State.port_core_of_kept h p).trans (by cases p <;> rfl)

/-- No key of a function that has ended is left. -/
theorem State.endFns_key_lives {s : State} {gone : Nat → Bool} {e : Nat × Key} (h : e ∈ (s.endFns gone).keys) : gone e.2.fn = false := by
  rw [State.endFns_keys] at h
  simpa using (List.mem_filter.mp h).2

theorem flr_live {s : State} {fn : Nat} (lives : s.fnExists fn = true) (live : (s.port (fnPort fn)).state ≠ .reset) :
    exec (.flr fn) s = .next (((s.setFn fn (fun _ => { Fn.fresh with flr := true })).endFns (fun f => f == fn)).setFn fn
      (fun _ => { Fn.fresh with flr := true })) := by
  show execFlr fn s = _
  unfold execFlr
  rw [if_neg (by simp [lives, live])]

theorem flr_completes {s : State} {fn : Nat} (lives : s.fnExists fn = true) (live : (s.port (fnPort fn)).state ≠ .reset) :
    Completes (.flr fn) s fun t => t.fn fn = { Fn.fresh with flr := true } ∧ ∀ e ∈ t.keys, e.2.fn ≠ fn := by
  refine ⟨_, flr_live lives live, State.setFn_fn .., fun e he => ?_⟩
  rw [State.setFn_keys] at he
  simpa using State.endFns_key_lives he

/-- The virtual functions of a port beyond a NumVFs (R42). -/
def beyondVfs (p : HPort) (n f : Nat) : Bool := fnPort f == p && decide (n < f % 128)

theorem numvfsWrite_live {s : State} {p : HPort} {n : Nat} (fits : n ≤ 127) (live : (s.port p).state ≠ .reset) :
    ∃ u, u = (s.setPort p (fun q => { q with numVfs := n })).endFns (beyondVfs p n) ∧
      exec (.numvfsWrite p n) s = .next { u with fns := u.fns.filter (fun e => !beyondVfs p n e.1) } := by
  refine ⟨_, rfl, ?_⟩
  show execNumvfsWrite p n s = _
  unfold execNumvfsWrite
  rw [if_neg (by simp [fits, live])]
  rfl

theorem State.withFns_port (s : State) (l : Tab Fn) (p : HPort) : ({ s with fns := l } : State).port p = s.port p := by
  cases p <;> rfl

theorem numvfsWrite_completes {s : State} {p : HPort} {n : Nat} (fits : n ≤ 127) (live : (s.port p).state ≠ .reset) :
    Completes (.numvfsWrite p n) s fun t =>
      (t.port p).numVfs = n ∧ (∀ f, fnPort f = p → n < f % 128 → t.fn f = Fn.fresh) ∧
      ∀ e ∈ t.keys, ¬(fnPort e.2.fn = p ∧ n < e.2.fn % 128) := by
  obtain ⟨u, hu, hexec⟩ := numvfsWrite_live fits live
  refine ⟨_, hexec, ?_, fun f hp hn => u.fn_gone (by simp [beyondVfs, hp, hn]), fun e he => ?_⟩
  · have hcore := State.endFns_core (s.setPort p (fun q => { q with numVfs := n })) (beyondVfs p n) p
    rw [State.setPort_port, ← hu] at hcore
    obtain ⟨-, -, hnum⟩ := HostPort.core_eq.mp hcore
    rw [State.withFns_port]
    exact hnum
  · change e ∈ u.keys at he
    rw [hu] at he
    simpa [beyondVfs] using State.endFns_key_lives he

/-! ## Messages of a vector -/

@[simp] theorem State.setFn_port (s : State) (fn : Nat) (f : Fn → Fn) (p : HPort) : (s.setFn fn f).port p = s.port p := by
  cases p <;> rfl

@[simp] theorem State.setFn_path (s : State) (fn : Nat) (f : Fn → Fn) (p : HPort) : (s.setFn fn f).path p = s.path p := by
  cases p <;> rfl

@[simp] theorem State.setPath_fn (s : State) (p : HPort) (l : List HostUnit) (fn : Nat) : (s.setPath p l).fn fn = s.fn fn := by
  cases p <;> rfl

/-- Whether a function sleeps depends on its power state and on that of its physical function alone (R77). -/
theorem State.setFn_asleep {s : State} {fn : Nat} {f : Fn → Fn} (h : (f (s.fn fn)).d3hot = (s.fn fn).d3hot) (g : Nat) :
    (s.setFn fn f).asleep g = s.asleep g := by
  have same : ∀ k, ((s.setFn fn f).fn k).d3hot = (s.fn k).d3hot := fun k => by
    by_cases hk : k = fn
    · rw [hk, State.setFn_fn, h]
    · rw [State.setFn_fn_ne s f hk]
  unfold State.asleep
  rw [same, same]

/-- A vector that may not be sent now is pending (R57, R77). -/
theorem State.msix_pends {s : State} {fn v : Nat} (after : List Source)
    (h : (s.fn fn).msixOn = false ∨ (s.fn fn).masked v = true ∨ s.asleep fn = true) :
    v ∈ ((s.msix fn v after).fn fn).pba ∧ ((s.msix fn v after).fn fn).flr = (s.fn fn).flr := by
  unfold State.msix
  dsimp only
  rw [if_pos h]
  by_cases hv : (s.fn fn).pba.contains v = true
  · rw [if_pos hv]
    exact ⟨by simpa using hv, rfl⟩
  · rw [if_neg hv, State.setFn_fn]
    exact ⟨by simp, rfl⟩

@[simp] theorem State.setPort_fns (s : State) (p : HPort) (f : HostPort → HostPort) : (s.setPort p f).fns = s.fns := by cases p <;> rfl
@[simp] theorem State.setPath_fns (s : State) (p : HPort) (l : List HostUnit) : (s.setPath p l).fns = s.fns := by cases p <;> rfl

/-- A request touches the paths and the units held, and no function. -/
theorem State.request_fns (s : State) (u : HostUnit) : (s.request u).fns = s.fns := by
  cases h : (s.port (fnPort u.fn)).state with
  | up => rw [State.request_open (.inl h), State.setPath_fns]
  | thawing => rw [State.request_open (.inr h), State.setPath_fns]
  | reset => rw [State.request_reset h]
  | frozen =>
    cases held : u.op.held with
    | true => rw [State.request_frozen_held h held]; exact State.setPort_fns ..
    | false => rw [State.request_frozen_other h held]

theorem State.msix_flr (s : State) (fn v : Nat) (after : List Source) : ((s.msix fn v after).fn fn).flr = (s.fn fn).flr := by
  by_cases h : (s.fn fn).msixOn = false ∨ (s.fn fn).masked v = true ∨ s.asleep fn = true
  · exact (State.msix_pends after h).2
  · unfold State.msix
    dsimp only
    rw [if_neg h]
    unfold State.fn
    rw [State.request_fns]

theorem flrComplete_completes {s : State} {fn : Nat} (flr : (s.fn fn).flr = true) :
    Completes (.flrComplete fn) s fun t => (t.fn fn).flr = false ∧
      (((s.fn fn).msixOn = false ∨ (s.fn fn).masked 0 = true ∨ s.asleep fn = true) → 0 ∈ (t.fn fn).pba) := by
  refine ⟨_, show execFlrComplete fn s = _ by unfold execFlrComplete; rw [if_pos flr], ?_, fun h => ?_⟩
  · rw [State.msix_flr, State.setFn_fn]
  · refine (State.msix_pends [] ?_).1
    rw [State.setFn_fn, State.setFn_asleep rfl]
    exact h

/-- A function with the mask bit of a vector cleared (R57). -/
def Fn.unmask (v : Nat) (f : Fn) : Fn :=
  { f with vectors := Tab.put f.vectors v (Tab.getD f.vectors v (2 ^ 96) - place 12 0 1 (bits (Tab.getD f.vectors v (2 ^ 96)) 12 0 1)) }

theorem Fn.unmask_masked (v : Nat) (f : Fn) : (f.unmask v).masked v = false := by
  unfold Fn.masked Fn.unmask
  dsimp only
  rw [Tab.look_put_self]
  dsimp only
  rw [bits_sub_place_self]
  rfl

theorem msixUnmask_vector {s : State} {fn v : Nat} (lives : s.fnExists fn = true) (has : v < fnVectors fn) :
    exec (.msixUnmask fn (some v)) s = .next ((s.setFn fn (Fn.unmask v)).sendPending fn v) := by
  show execMsixUnmask fn (some v) s = _
  unfold execMsixUnmask
  rw [if_neg (by simp [lives])]
  dsimp only
  rw [if_neg (Nat.not_le.mpr has)]
  rfl

/-- The message of a pending vector that may be sent joins the path of the function's port, and its bit is cleared (R57). -/
theorem State.sendPending_sent {s : State} {fn v : Nat} (pending : v ∈ (s.fn fn).pba) (on : (s.fn fn).msixOn = true)
    (unmasked : (s.fn fn).masked v = false) (awake : s.awake fn = true) : s.sendPending fn v =
      ((s.setFn fn (fun f => { f with pba := f.pba.filter (fun x => x != v) })).setPath (fnPort fn)
        (s.path (fnPort fn) ++ [s.waiting (queueUnit fn (.msix fn) [] (.msix fn v))])) := by
  simp only [State.awake, State.portUp, Bool.and_eq_true, beq_iff_eq, Bool.not_eq_true'] at awake
  obtain ⟨up, waking⟩ := awake
  unfold State.sendPending
  dsimp only
  rw [if_pos (by simp [pending, on, unmasked, waking, up])]
  rw [State.request_open (.inl ((congrArg HostPort.state (State.setFn_port ..)).trans up))]
  rw [State.setFn_path]
  rfl

theorem msixUnmask_pending_completes {s : State} {fn v : Nat} (lives : s.fnExists fn = true) (has : v < fnVectors fn)
    (pending : v ∈ (s.fn fn).pba) (on : (s.fn fn).msixOn = true) (awake : s.awake fn = true) :
    Completes (.msixUnmask fn (some v)) s fun t =>
      (t.fn fn).masked v = false ∧ v ∉ (t.fn fn).pba ∧
      t.path (fnPort fn) = s.path (fnPort fn) ++ [{ queueUnit fn (.msix fn) [] (.msix fn v) with since := s.clock }] := by
  have awake' : (s.setFn fn (Fn.unmask v)).awake fn = true := by
    unfold State.awake State.portUp
    rw [State.setFn_asleep rfl, State.setFn_port]
    exact awake
  have sent := State.sendPending_sent (s := s.setFn fn (Fn.unmask v)) (fn := fn) (v := v)
    (by rw [State.setFn_fn]; exact pending) (by rw [State.setFn_fn]; exact on) (by rw [State.setFn_fn, Fn.unmask_masked]) awake'
  refine ⟨_, msixUnmask_vector lives has, ?_⟩
  dsimp only
  rw [sent, State.setPath_fn, State.setPath_path, State.setFn_fn, State.setFn_fn, State.setFn_path]
  exact ⟨Fn.unmask_masked v _, by simp, rfl⟩

theorem msixUnmask_enable {s : State} {fn : Nat} (lives : s.fnExists fn = true) (idle : (s.fn fn).pba = []) :
    exec (.msixUnmask fn none) s = .next (s.setFn fn (fun f => { f with msixOn := true })) := by
  show execMsixUnmask fn none s = _
  unfold execMsixUnmask
  rw [if_neg (by simp [lives])]
  dsimp only
  unfold State.sendAllPending
  rw [State.setFn_fn]
  dsimp only
  rw [idle]
  rfl

/-! ## Power states -/

theorem powerStateWrite_sleep {s : State} {fn : Nat} (pme : Bool) (lives : s.fnExists fn = true)
    (live : (s.port (fnPort fn)).state ≠ .reset) :
    exec (.powerStateWrite fn true pme) s = .next (s.setFn fn (fun f => { f with d3hot := true, pmeEn := pme })) := by
  show execPowerStateWrite fn true pme s = _
  unfold execPowerStateWrite
  dsimp only
  rw [if_neg (by simp [lives, live])]
  rfl

theorem portPf_isPf (p : HPort) : fnIsPf (portPf p) = true := by cases p <;> rfl

@[simp] theorem State.endWake_asleep (s : State) (p : HPort) (fn : Nat) : (s.endWake p).asleep fn = s.asleep fn := by
  cases p <;> rfl

/-- A virtual function that wakes issues its requests anew, where its physical function is awake and no other function of the
port holds WAKE_N low (R77, R79). -/
theorem powerStateWrite_wake {s : State} {fn : Nat} (pme : Bool) (lives : s.fnExists fn = true)
    (live : (s.port (fnPort fn)).state ≠ .reset) (vf : fnIsPf fn = false) (pfAwake : (s.fn (portPf (fnPort fn))).d3hot = false)
    (alone : ∀ f ∈ (s.port (fnPort fn)).wake, f = fn) : exec (.powerStateWrite fn false pme) s =
      .next ((((s.setFn fn (fun f => { f with d3hot := false, pmeEn := pme })).endWake (fnPort fn)).sendAllPending fn).resumeFn fn) := by
  have hne : portPf (fnPort fn) ≠ fn := fun h => by
    rw [← h, portPf_isPf] at vf
    cases vf
  have waking : (s.setFn fn (fun f => { f with d3hot := false, pmeEn := pme })).asleep fn = false := by
    unfold State.asleep
    rw [State.setFn_fn, State.setFn_fn_ne _ _ hne, pfAwake]
    rfl
  have released : ¬((s.port (fnPort fn)).wake.any
      (fun f => (s.setFn fn (fun f => { f with d3hot := false, pmeEn := pme })).asleep f) = true) := by
    simp only [List.any_eq_true, not_exists, not_and]
    intro f hf
    rw [alone f hf, waking]
    decide
  show execPowerStateWrite fn false pme s = _
  unfold execPowerStateWrite
  dsimp only
  rw [if_neg (by simp [lives, live]), State.setFn_port, if_neg released, vf]
  rw [if_neg Bool.false_ne_true, if_neg Bool.false_ne_true, List.foldl_cons, List.foldl_nil, State.endWake_asleep, waking,
    if_neg Bool.false_ne_true]

/-- Settles O12, command by command. -/
theorem functionCommands : Obligations.FunctionCommands := by
  intro s fn
  refine ⟨flr_completes, flrComplete_completes, fun p n => numvfsWrite_completes, powerStateWrite_sleep, powerStateWrite_wake,
    fun v => msixUnmask_pending_completes, fun lives idle => ⟨_, msixUnmask_enable lives idle, ?_, State.setFn_path ..⟩,
    fun status sleeping live => ?_, fun lives => ?_⟩
  · rw [State.setFn_fn]
  · show execPmPmeRepeat fn s = _
    unfold execPmPmeRepeat
    exact if_pos (by simp [status, sleeping, live])
  · show execPmeStatusClear fn s = _
    unfold execPmeStatusClear
    exact if_pos lives

end Sys2Proof.Machine
end

section
/-!
SUPPORT. Answers to outstanding host reads (R62, R74, R75): what a count event leaves as it is, the note of an answer, and the freeze that
may follow.
-/
namespace Sys2Proof.Machine

/-! ## Count events (R558, R560, R563) -/

/-- A host port but for the units that it holds. -/
def HostPort.unheld (h : HostPort) : HostPort := { h with held := [] }

/-- A state but for what an event can touch: the place in the bell, the free choices, the functions, the event queues, the two host
paths with what the ports hold for them, and the Tally. -/
def State.eventless (s : State) : State :=
  { s with sub := 0, free := 0, fns := [], eqs := [], pathA := [], pathB := [], hostA := s.hostA.unheld, hostB := s.hostB.unheld,
           tally := Tally.fresh }

theorem State.setPath_eventless (s : State) (p : HPort) (l : List HostUnit) : (s.setPath p l).eventless = s.eventless := by
  cases p <;> rfl

theorem State.request_eventless (s : State) (u : HostUnit) : (s.request u).eventless = s.eventless := by
  cases h : (s.port (fnPort u.fn)).state with
  | up => rw [State.request_open (.inl h), State.setPath_eventless]
  | thawing => rw [State.request_open (.inr h), State.setPath_eventless]
  | reset => rw [State.request_reset h]
  | frozen =>
    cases held : u.op.held with
    | true => rw [State.request_frozen_held h held]; cases fnPort u.fn <;> rfl
    | false => rw [State.request_frozen_other h held]

theorem State.msix_eventless (s : State) (fn v : Nat) (after : List Source) : (s.msix fn v after).eventless = s.eventless := by
  unfold State.msix
  dsimp only
  split
  · split <;> rfl
  · exact State.request_eventless ..

theorem State.announce_eventless (s : State) (fn eq : Nat) : (s.announce fn eq).eventless = s.eventless := by
  unfold State.announce
  split
  · rfl
  extract_lets free u
  split
  · exact (State.msix_eventless ..).trans rfl
  · rfl

theorem State.writeEvent_eventless (s : State) (fn eq typ source ts : Nat) (after : List Source) :
    (s.writeEvent fn eq typ source ts after).eventless = s.eventless := by
  unfold State.writeEvent
  split
  · rfl
  · exact (State.announce_eventless ..).trans ((State.request_eventless ..).trans rfl)

theorem State.postEvent_eventless (s : State) (fn eq typ obj source : Nat) (after : List Source) :
    (s.postEvent fn eq typ obj source after).eventless = s.eventless := by
  have later : s.later.eventless = s.eventless := rfl
  unfold State.postEvent
  dsimp only
  split
  · exact later
  split
  · exact (State.writeEvent_eventless ..).trans later
  · exact later

theorem State.tallyAdd_eventless (s : State) (n amount : Nat) : (s.tallyAdd n amount).eventless = s.eventless := by
  unfold State.tallyAdd
  extract_lets v counted wrapped raised
  split
  · rfl
  split
  · exact (State.postEvent_eventless ..).trans rfl
  · rfl

/-- What each step of a fold leaves as it is but for events, the fold leaves. -/
theorem foldl_eventless {α : Type} (f : State → α → State) (l : List α) (h : ∀ s x, (f s x).eventless = s.eventless) (s : State) :
    (l.foldl f s).eventless = s.eventless := by
  induction l generalizing s with
  | nil => rfl
  | cons x l ih => rw [List.foldl_cons, ih, h]

theorem State.count_eventless (s : State) (event inst amount : Nat) : (s.count event inst amount).eventless = s.eventless := by
  unfold State.count
  refine foldl_eventless _ _ (fun u n => ?_) s
  dsimp only
  split
  · exact State.tallyAdd_eventless ..
  · rfl

/-- Two states that are the same but for events have the same reads, values of parameters, package memory, contexts and queue pairs, and
their ports differ in the units held alone. -/
theorem State.eq_of_eventless {s t : State} (h : t.eventless = s.eventless) :
    (t.reads = s.reads ∧ t.ledger = s.ledger ∧ t.store = s.store ∧ t.ctxs = s.ctxs ∧ t.qps = s.qps) ∧
    ∀ p, (t.port p).unheld = (s.port p).unheld :=
  ⟨⟨(congrArg State.reads h :), (congrArg State.ledger h :), (congrArg State.store h :), (congrArg State.ctxs h :),
    (congrArg State.qps h :)⟩, fun p =>
    match p with
    | .A => (congrArg State.hostA h :)
    | .B => (congrArg State.hostB h :)⟩

/-! ## The note of an answer -/

/-- The state with a read ended and its answer counted at its port (R62, R75). -/
def State.answerCounted (s : State) (tag : Nat) (r : HostRead) (a : Answer) : State :=
  ({ s with reads := Tab.del s.reads tag } : State).tunePort r.port (fun h => h.counted a)

/-- Beyond that an answer makes an event at most (R74). -/
theorem State.noteAnswer_eventless (s : State) (tag : Nat) (r : HostRead) (a : Answer) :
    (s.noteAnswer tag r a).eventless = (s.answerCounted tag r a).eventless := by
  cases a with
  | timeout => exact State.count_eventless ..
  | _ => rfl

theorem State.noteAnswer_rest (s : State) (tag : Nat) (r : HostRead) (a : Answer) :
    (s.noteAnswer tag r a).reads = Tab.del s.reads tag ∧ (s.noteAnswer tag r a).ledger = s.ledger ∧
    (s.noteAnswer tag r a).store = s.store ∧ (s.noteAnswer tag r a).ctxs = s.ctxs ∧ (s.noteAnswer tag r a).qps = s.qps := by
  obtain ⟨⟨hreads, hledger, hstore, hctxs, hqps⟩, -⟩ := State.eq_of_eventless (s.noteAnswer_eventless tag r a)
  rw [hreads, hledger, hstore, hctxs, hqps]
  unfold State.answerCounted
  cases r.port <;> exact ⟨rfl, rfl, rfl, rfl, rfl⟩

/-- The two counts of the port after an answer (R75, R589). -/
theorem State.noteAnswer_counts (s : State) (tag : Nat) (r : HostRead) (a : Answer) :
    ((s.noteAnswer tag r a).port r.port).timeouts = ((s.port r.port).counted a).timeouts ∧
    ((s.noteAnswer tag r a).port r.port).poisons = ((s.port r.port).counted a).poisons := by
  obtain ⟨-, hports⟩ := State.eq_of_eventless (s.noteAnswer_eventless tag r a)
  have hport := hports r.port
  have hcounted : ((s.answerCounted tag r a).port r.port).timeouts = ((s.port r.port).counted a).timeouts ∧
      ((s.answerCounted tag r a).port r.port).poisons = ((s.port r.port).counted a).poisons := by
    unfold State.answerCounted
    rw [State.tunePort_port]
    cases r.port <;> exact ⟨rfl, rfl⟩
  exact ⟨(congrArg HostPort.timeouts hport).trans hcounted.1, (congrArg HostPort.poisons hport).trans hcounted.2⟩

/-! ## The rows of answers -/

section Rows
variable {s : State} {tag : Nat} {r : HostRead} (out : Tab.look s.reads tag = some r)
include out

theorem State.readRow_answers {kind : ReadFor → Bool} {a : Answer} (mine : kind r.for_ = true) (fits : s.answers r a = true) :
    s.readRow tag kind a = ((s.noteAnswer tag r a).serve r a).freezeRun r.port a := by
  unfold State.readRow
  rw [out]
  dsimp only
  rw [if_pos (by rw [mine, fits]; rfl)]
  rfl

/-- A row that serves reads of one kind hands a good answer to what the read is for, and no freeze follows. -/
theorem readRow_serves {kind : ReadFor → Bool} {f : ReadFor} {d : Bytes} (for_ : r.for_ = f) (mine : kind f = true)
    (fits : s.answers r (.data d) = true) :
    ok (s.readRow tag kind (.data d)) = .next ((s.noteAnswer tag r (.data d)).serve { r with for_ := f } (.data d)) := by
  subst for_
  exact congrArg Host.Outcome.next (State.readRow_answers out mine fits)

theorem completionTimeout_answers (fits : s.answers r .timeout = true) (free : s.onTime 3 = true) :
    exec (.completionTimeout tag) s = .next (((s.noteAnswer tag r .timeout).serve r .timeout).freezeRun r.port .timeout) := by
  show execCompletionTimeout tag s = _
  unfold execCompletionTimeout
  rw [if_pos free, State.readRow_answers out rfl fits]

end Rows

/-! ## The freeze after an answer (R75) -/

/-- A count that has reached its limit brings its cause to the port; below the limit nothing follows. -/
theorem State.freezeRun_limit (s : State) (p : HPort) :
    (s.param 0x203002 ≤ (s.port p).timeouts → s.freezeRun p .timeout = s.freezePort p Cause.cplTimeout) ∧
    (∀ d, s.param 0x203005 ≤ (s.port p).poisons → s.freezeRun p (.poisoned d) = s.freezePort p Cause.poisonRun) ∧
    ((s.port p).timeouts < s.param 0x203002 → s.freezeRun p .timeout = s) :=
  ⟨fun h => if_pos h, fun _ h => if_pos h, fun h => if_neg (Nat.not_le.mpr h)⟩

theorem State.freezePort_up_causes {s : State} {p : HPort} (n : Nat) (up : (s.port p).state = .up) :
    ((s.freezePort p n).port p).state = .frozen ∧ ((s.freezePort p n).port p).cause = (s.port p).cause ||| causeBit n := by
  obtain ⟨hstate, hcause, -⟩ := HostPort.core_eq.mp (State.freezePort_up_core n up)
  exact ⟨hstate, hcause⟩

/-- Settles O17: the note of an answer, the row that each kind of read has, and the freeze after a count. -/
theorem hostAnswers : Obligations.HostAnswers := by
  refine ⟨fun s tag r => ⟨s.noteAnswer_rest tag r, fun d => s.noteAnswer_counts tag r (.data d),
      fun d => s.noteAnswer_counts tag r (.poisoned d), s.noteAnswer_counts tag r .error, s.noteAnswer_counts tag r .timeout⟩,
    fun s tag r out => ?_, fun s p up => ?_⟩
  · exact ⟨fun d fits => readRow_serves out rfl rfl fits,
      fun d fits => congrArg Host.Outcome.next (State.readRow_answers out rfl fits),
      fun fits => congrArg Host.Outcome.next (State.readRow_answers out rfl fits),
      completionTimeout_answers out,
      fun _ _ hr fits => readRow_serves out hr rfl fits, fun _ _ hr fits => readRow_serves out hr rfl fits,
      fun _ _ hr fits => readRow_serves out hr rfl fits, fun _ _ hr fits => readRow_serves out hr rfl fits,
      fun _ _ _ hr fits => readRow_serves out hr rfl fits, fun _ _ hr fits => readRow_serves out hr rfl fits,
      fun _ _ hr fits => readRow_serves out hr rfl fits, fun _ _ _ _ hr fits => readRow_serves out hr rfl fits⟩
  · obtain ⟨timeout, poison, below⟩ := s.freezeRun_limit p
    refine ⟨fun h => ?_, fun d h => ?_, below⟩
    · rw [timeout h]
      exact State.freezePort_up_causes Cause.cplTimeout up
    · rw [poison d h]
      exact State.freezePort_up_causes Cause.poisonRun up

end Sys2Proof.Machine
end

section
/-!
SUPPORT. Doorbells (R68, R102, R106, R107, R109, R110, R538): one that is taken, one that is discarded, and what CI of a completion queue does.
-/
namespace Sys2Proof.Machine

/-! ## What becomes of a doorbell -/

/-- The value that a doorbell's write brings: four bytes of it, or eight (R106). -/
def doorbellValue (d : Doorbell) : Nat := if d.size = 4 then d.value % 2 ^ 32 else d.value

/-- A write holds no more than its bytes. -/
theorem doorbellValue_wf {d : Doorbell} (wf : WellFormed.doorbell d = true) : doorbellValue d = d.value := by
  unfold doorbellValue
  split
  · next four =>
    simp only [WellFormed.doorbell, Bool.and_eq_true, decide_eq_true_eq] at wf
    obtain ⟨-, hlt⟩ := wf
    rw [four] at hlt
    exact Nat.mod_eq_of_lt hlt
  · rfl

/-- A doorbell reaches the slots of a function that exists, on a port not in RESET (R68, R106). -/
def State.reaches (s : State) (d : Doorbell) : Prop :=
  s.fnExists d.fn = true ∧ d.slot < fnSlots d.fn ∧ (s.port (fnPort d.fn)).state ≠ .reset

/-- A doorbell is sound, has its form, and comes before SHUTTER (R67, R106, R538). -/
def State.sound (s : State) (d : Doorbell) : Prop :=
  d.poisoned = false ∧ s.doorbellForm d = true ∧ s.life ≠ .shutter ∧ s.life ≠ .shut

/-- The ring refuses the doorbell, which R109 counts. -/
def State.refusesBell (s : State) (d : Doorbell) (r : Ring) : Prop :=
  (s.port (fnPort d.fn)).state = .frozen ∨ doorbellRsv (s.isIndexed d.fn d.slot) r d.value = false ∨
    s.indexFits d.fn r d.index = false ∨ s.ringTakes r = false

theorem State.doorbell_unreached {s : State} {d : Doorbell}
    (h : s.fnExists d.fn = false ∨ fnSlots d.fn ≤ d.slot ∨ (s.port (fnPort d.fn)).state = .reset) : s.doorbell d = s := by
  unfold State.doorbell
  dsimp only
  rw [if_pos (by simpa using h)]

theorem State.doorbell_unsound {s : State} {d : Doorbell} (whole : d.poisoned = false)
    (h : s.doorbellForm d = false ∨ s.life = .shutter ∨ s.life = .shut) : s.doorbell d = s := by
  unfold State.doorbell
  dsimp only
  split
  · rfl
  · rw [if_neg (by simp [whole]), if_pos (by simpa using h)]

section Sound
variable {s : State} {d : Doorbell} {r : Ring} (wf : WellFormed.doorbell d = true) (reached : s.reaches d) (sound : s.sound d)
  (ring : s.ringOf d = some r)
include wf reached sound ring

/-- A doorbell that is sound and reaches a ring is refused there, passes over a queue in recall, or is taken. -/
theorem State.doorbell_sound : s.doorbell d =
    if (s.port (fnPort d.fn)).state = .frozen ∨ !doorbellRsv (s.isIndexed d.fn d.slot) r d.value ∨
        !s.indexFits d.fn r (BitVec.ofNat 16 d.value) ∨ !s.ringTakes r then s.count Event.doorbellDiscard d.fn 1
    else if s.recalling d.fn r then s else s.ring d.fn d.value r := by
  obtain ⟨lives, inSlots, live⟩ := reached
  obtain ⟨whole, form, noShutter, noShut⟩ := sound
  have value : (if d.size = 4 then d.value % 2 ^ 32 else d.value) = d.value := doorbellValue_wf wf
  unfold State.doorbell
  dsimp only
  rw [if_neg (by simp [lives, inSlots, live]), if_neg (by simp [whole]), if_neg (by simp [form, noShutter, noShut]), value, ring]

theorem State.doorbell_refused (h : s.refusesBell d r) : s.doorbell d = s.count Event.doorbellDiscard d.fn 1 := by
  rw [State.doorbell_sound wf reached sound ring, if_pos]
  simpa [State.refusesBell, Doorbell.index] using h

end Sound

section Taken
variable {s : State} {d : Doorbell} {r : Ring} (wf : WellFormed.doorbell d = true) (taken : s.takesBell d r)
include wf taken

theorem State.doorbell_taken : s.doorbell d = s.ring d.fn d.value r := by
  obtain ⟨lives, inSlots, live, whole, form, noShutter, noShut, ring, fields, fits, takes, calm⟩ := taken
  have awake : (s.port (fnPort d.fn)).state ≠ .reset ∧ (s.port (fnPort d.fn)).state ≠ .frozen := by
    rcases live with h | h <;> rw [h] <;> decide
  rw [State.doorbell_sound wf ⟨lives, inSlots, awake.1⟩ ⟨whole, form, noShutter, noShut⟩ ring,
    if_neg (by simp [awake.2, fields, fits, takes]), if_neg (by simp [calm])]

/-- The row of the ring's kind takes the doorbell. -/
theorem State.doorbellRow_taken {mine : Ring → Bool} (h : mine r = true) : s.doorbellRow d mine = .next (s.ring d.fn d.value r) := by
  obtain ⟨-, -, -, -, -, -, -, ring, -⟩ := id taken
  unfold State.doorbellRow
  rw [ring]
  dsimp only
  rw [if_pos h, State.doorbell_taken wf taken]

end Taken

/-! ## CI of a completion queue (R102) -/

/-- ARM and ARM_SOLICITED of a CI doorbell are the two bits of one field. -/
theorem bits_arm (v : Nat) : bits v 2 0 1 = bits v 2 0 2 % 2 ∧ bits v 2 1 1 = bits v 2 0 2 / 2 := by
  have arm : v / 2 ^ 16 % 2 = v / 2 ^ 16 % 4 % 2 := (Nat.mod_mod_of_dvd _ (by decide)).symm
  have armSolicited : v / 2 ^ 17 % 2 = v / 2 ^ 16 % 4 / 2 := by
    rw [show 2 ^ 17 = 2 ^ 16 * 2 from rfl, ← Nat.div_div_eq_div_mul]
    exact (Nat.mod_mul_right_div_self _ 2 2).symm
  exact ⟨arm, armSolicited⟩

/-- The solicited entries that lie beyond a CI. -/
def Cq.beyond (q : Cq) (ci : BitVec 16) : List (BitVec 16) :=
  q.solicited.filter (fun i => decide ((i - ci).toNat < (q.pi - ci).toNat))

/-- With CI at PI no entry lies beyond it. -/
theorem Cq.beyond_pi {q : Cq} {ci : BitVec 16} (idle : q.pi = ci) : q.beyond ci = [] := by
  unfold Cq.beyond
  rw [List.filter_eq_nil_iff]
  intro i _
  rw [idle, BitVec.sub_self]
  exact fun h => Nat.not_lt_zero _ (of_decide_eq_true h)

/-- A completion queue with a new CI, armed as its doorbell asks. -/
def Cq.rung (q : Cq) (ci : BitVec 16) (arm armSol : Bool) : Cq :=
  { q with ci := ci, solicited := q.beyond ci, armed := q.armed || arm, armedSol := q.armedSol || armSol }

/-- A completion that qualifies lies beyond CI already, so that arming gives the event at once. -/
def Cq.dueNow (q : Cq) (ci : BitVec 16) (arm armSol : Bool) : Bool :=
  (arm && q.pi != ci) || (armSol && !(q.beyond ci).isEmpty)

/-- With CI at PI nothing is due. -/
theorem Cq.dueNow_pi {q : Cq} {ci : BitVec 16} (arm armSol : Bool) (idle : q.pi = ci) : q.dueNow ci arm armSol = false := by
  unfold Cq.dueNow
  rw [Cq.beyond_pi idle, idle, bne_self_eq_false, List.isEmpty_nil, Bool.not_true, Bool.and_false, Bool.and_false, Bool.or_false]

/-- The state with a completion queue set. -/
def State.putCq (s : State) (fn h : Nat) (q : Cq) : State := { s with cqs := Tab.put s.cqs (qkey fn h) q }

section RingCq
variable {s : State} {fn h v : Nat} {q : Cq} (found : Tab.look s.cqs (qkey fn h) = some q)
include found

/-- A CI doorbell sets the queue, gives the event where it is due, and lets what waits for room go on. -/
theorem State.ringCq_found {arm armSol : Bool} (harm : (bits v 2 0 1 == 1) = arm) (hsol : (bits v 2 1 1 == 1) = armSol) :
    s.ringCq fn h v =
      (if q.dueNow (BitVec.ofNat 16 v) arm armSol then (s.putCq fn h (q.rung (BitVec.ofNat 16 v) arm armSol)).cqNotify fn h
        else s.putCq fn h (q.rung (BitVec.ofNat 16 v) arm armSol)).cqRoom fn h := by
  subst harm hsol
  unfold State.ringCq
  rw [found]
  rfl

/-- A CI alone frees entries: it arms nothing, and no event follows. -/
theorem State.ringCq_plain (plain : bits v 2 0 2 = 0) : s.ringCq fn h v =
    (s.putCq fn h { q with ci := BitVec.ofNat 16 v, solicited := q.beyond (BitVec.ofNat 16 v) }).cqRoom fn h := by
  obtain ⟨harm, hsol⟩ := bits_arm v
  rw [plain] at harm hsol
  have calm : q.dueNow (BitVec.ofNat 16 v) false false = false := rfl
  have rung : q.rung (BitVec.ofNat 16 v) false false =
      { q with ci := BitVec.ofNat 16 v, solicited := q.beyond (BitVec.ofNat 16 v) } := by
    unfold Cq.rung
    rw [Bool.or_false, Bool.or_false]
  rw [State.ringCq_found found (arm := false) (armSol := false) (by rw [harm]; rfl) (by rw [hsol]; rfl), calm, rung,
    if_neg Bool.false_ne_true]

/-- ARM with every entry taken arms the queue. -/
theorem State.ringCq_arm_idle (arm : bits v 2 0 2 = 1) (idle : q.pi = BitVec.ofNat 16 v) : s.ringCq fn h v =
    (s.putCq fn h { q with ci := BitVec.ofNat 16 v, solicited := [], armed := true }).cqRoom fn h := by
  obtain ⟨harm, hsol⟩ := bits_arm v
  rw [arm] at harm hsol
  have rung : q.rung (BitVec.ofNat 16 v) true false = { q with ci := BitVec.ofNat 16 v, solicited := [], armed := true } := by
    unfold Cq.rung
    rw [Cq.beyond_pi idle, Bool.or_true, Bool.or_false]
  rw [State.ringCq_found found (arm := true) (armSol := false) (by rw [harm]; rfl) (by rw [hsol]; rfl),
    Cq.dueNow_pi true false idle, rung, if_neg Bool.false_ne_true]

/-- ARM with an entry beyond CI notifies at once. -/
theorem State.ringCq_arm_behind (arm : bits v 2 0 2 = 1) (behind : q.pi ≠ BitVec.ofNat 16 v) : s.ringCq fn h v =
    ((s.putCq fn h { q with
      ci := BitVec.ofNat 16 v, solicited := q.beyond (BitVec.ofNat 16 v), armed := true }).cqNotify fn h).cqRoom fn h := by
  obtain ⟨harm, hsol⟩ := bits_arm v
  rw [arm] at harm hsol
  have due : q.dueNow (BitVec.ofNat 16 v) true false = true := by
    unfold Cq.dueNow
    rw [bne_iff_ne.mpr behind]
    rfl
  have rung : q.rung (BitVec.ofNat 16 v) true false =
      { q with ci := BitVec.ofNat 16 v, solicited := q.beyond (BitVec.ofNat 16 v), armed := true } := by
    unfold Cq.rung
    rw [Bool.or_true, Bool.or_false]
  rw [State.ringCq_found found (arm := true) (armSol := false) (by rw [harm]; rfl) (by rw [hsol]; rfl), due, rung, if_pos rfl]

/-- ARM_SOLICITED with every entry taken arms the queue for solicited entries. -/
theorem State.ringCq_armSolicited_idle (arm : bits v 2 0 2 = 2) (idle : q.pi = BitVec.ofNat 16 v) : s.ringCq fn h v =
    (s.putCq fn h { q with ci := BitVec.ofNat 16 v, solicited := [], armedSol := true }).cqRoom fn h := by
  obtain ⟨harm, hsol⟩ := bits_arm v
  rw [arm] at harm hsol
  have rung : q.rung (BitVec.ofNat 16 v) false true = { q with ci := BitVec.ofNat 16 v, solicited := [], armedSol := true } := by
    unfold Cq.rung
    rw [Cq.beyond_pi idle, Bool.or_true, Bool.or_false]
  rw [State.ringCq_found found (arm := false) (armSol := true) (by rw [harm]; rfl) (by rw [hsol]; rfl),
    Cq.dueNow_pi false true idle, rung, if_neg Bool.false_ne_true]

end RingCq

theorem State.ringEq_found {s : State} {fn h : Nat} {q : EventQ} (v : Nat) (found : Tab.look s.eqs (qkey fn h) = some q) :
    s.ringEq fn h v =
      ({ s with eqs := Tab.put s.eqs (qkey fn h) { q with ci := BitVec.ofNat 16 v } } : State).drainMarks fn h q.marks.length := by
  unfold State.ringEq
  rw [found]

/-- Settles O18: the row of a ring takes its doorbell and rings it; every other doorbell is discarded. -/
theorem doorbells : Obligations.Doorbells := by
  refine ⟨fun s d wf => ⟨fun n taken => State.doorbellRow_taken wf taken rfl, fun n taken => State.doorbellRow_taken wf taken rfl,
      fun h taken => State.doorbellRow_taken wf taken rfl, fun h q taken other plain found => ?_, fun h q taken arm found idle => ?_,
      fun h q taken arm found idle => ?_, fun h q taken arm found behind => ?_, fun h q taken found => ?_, fun taken slot => ?_,
      fun q taken slot plain found => ?_, fun taken => State.doorbellRow_taken wf taken rfl,
      fun taken => State.doorbellRow_taken wf taken rfl, fun ch taken => State.doorbellRow_taken wf taken rfl⟩,
    fun s d => ⟨State.doorbell_unreached, State.doorbell_unsound,
      fun r wf lives inSlots live whole form noShutter noShut ring =>
        State.doorbell_refused wf ⟨lives, inSlots, live⟩ ⟨whole, form, noShutter, noShut⟩ ring⟩⟩
  · exact (State.doorbellRow_taken wf taken (by simp [other, plain])).trans (congrArg _ (State.ringCq_plain found plain))
  · exact (State.doorbellRow_taken wf taken (by simp [bits_arm, arm])).trans (congrArg _ (State.ringCq_arm_idle found arm idle))
  · exact (State.doorbellRow_taken wf taken (by simp [bits_arm, arm])).trans
      (congrArg _ (State.ringCq_armSolicited_idle found arm idle))
  · exact (State.doorbellRow_taken wf taken (by simp [bits_arm, arm])).trans (congrArg _ (State.ringCq_arm_behind found arm behind))
  · exact (State.doorbellRow_taken wf taken rfl).trans (congrArg _ (State.ringEq_found d.value found))
  · exact (if_pos slot).trans (State.doorbellRow_taken wf taken rfl)
  · exact ((if_pos slot).trans (State.doorbellRow_taken wf taken rfl)).trans (congrArg _ (State.ringCq_plain found plain))

end Sys2Proof.Machine
end

section
/-!
SUPPORT. Administrative commands that are carried out (R117, R118, R590), and those of protection and translation (R131 to R170).
-/
namespace Sys2Proof.Machine

/-! ## A command that is carried out -/

section Command
variable {s : State} {fn op : Nat} {c : AdminCmd} {wellFormed : Nat → Bool} {results : Nat → List Nat} {go : AdminCmd → State}

theorem State.admRow_has (has : s.adminHas fn op c) : s.admRow fn op go = go c := by
  obtain ⟨current, opcode, fresh, up⟩ := has
  unfold State.admRow
  rw [current]
  exact if_pos ⟨opcode, fresh, up⟩

theorem State.admRun_wellFormed (has : s.adminHas fn op c) (wf : wellFormed c.raw = true) :
    s.admRun fn op wellFormed results go = ((results c.raw).find? (fun r => r != Res.done)).elim (go c) (s.admAbort fn) := by
  unfold State.admRun
  rw [State.admRow_has has, wf]
  cases (results c.raw).find? (fun r => r != Res.done) <;> rfl

theorem State.admRun_done (has : s.adminHas fn op c) (wf : wellFormed c.raw = true) (done : ∀ r ∈ results c.raw, r = Res.done) :
    s.admRun fn op wellFormed results go = go c := by
  have passes : (results c.raw).find? (fun r => r != Res.done) = none := by simpa using done
  rw [State.admRun_wellFormed has wf, passes, Option.elim_none]

theorem State.admRun_aborts {r : Nat} (has : s.adminHas fn op c) (wf : wellFormed c.raw = true)
    (first : (results c.raw).find? (fun r => r != Res.done) = some r) :
    s.admRun fn op wellFormed results go = s.admAbort fn r := by
  rw [State.admRun_wellFormed has wf, first, Option.elim_some]

end Command

/-! ## Protection domains (R131, R133) -/

section Domains
variable {s : State} {fn : Nat} {c : AdminCmd}

theorem State.lookupPd_mem {pd : Nat} (mine : pd ∈ (s.fn fn).pds) : s.lookupPd fn pd = Res.done := by
  simp [State.lookupPd, mine]

theorem createPd_room {k : Nat} {s' : State} (has : s.adminHas fn 0x10 c) (arg : Ent.arg c.raw = 0) (room : s.pdCount < 65536)
    (free : s.choose (fun k => (s.fn fn).pds.contains k) 0 65536 = (some k, s')) :
    exec (.createPd fn) s = .next ((s'.setFn fn (fun f => { f with pds := f.pds ++ [k] })).admOk fn k) := by
  refine congrArg Host.Outcome.next ((State.admRun_done has (by simp [arg]) (by simp [pdTotal, room])).trans ?_)
  unfold pdTotal
  rw [free]

theorem createPd_full (has : s.adminHas fn 0x10 c) (arg : Ent.arg c.raw = 0) (full : 65536 ≤ s.pdCount) :
    exec (.createPd fn) s = .next (s.admAbort fn Res.noResource) :=
  congrArg Host.Outcome.next (State.admRun_aborts has (by simp [arg])
    (by simp [pdTotal, Nat.not_lt.mpr full]))

theorem destroyPd_unused (has : s.adminHas fn 0x11 c) (arg : bits c.raw 4 16 16 = 0) (mine : bits c.raw 4 0 16 ∈ (s.fn fn).pds)
    (unused : s.pdInUse fn (bits c.raw 4 0 16) = false) :
    exec (.destroyPd fn) s =
      .next ((s.setFn fn (fun f => { f with pds := f.pds.filter (fun k => k != bits c.raw 4 0 16) })).admOk fn 0) :=
  congrArg Host.Outcome.next (State.admRun_done has (by simp [arg]) (by simp [State.lookupPd_mem mine, unused]))

theorem destroyPd_inUse (has : s.adminHas fn 0x11 c) (arg : bits c.raw 4 16 16 = 0) (mine : bits c.raw 4 0 16 ∈ (s.fn fn).pds)
    (used : s.pdInUse fn (bits c.raw 4 0 16) = true) : exec (.destroyPd fn) s = .next (s.admAbort fn Res.badState) :=
  congrArg Host.Outcome.next (State.admRun_aborts has (by simp [arg]) (by simp [State.lookupPd_mem mine, used]))

end Domains

/-! ## Keys (R136, R143, R154) -/

section Keys
variable {s s' : State} {fn : Nat} {c : AdminCmd} {idx : Nat} {k : Key}

theorem State.keyRoom_below (room : s.keys.length < 1048576) : s.keyRoom = Res.done := if_pos room

theorem State.admKey_made {r : Nat} {ask : Bool} {load : State → Nat → State} (made : s.newKey (s.keyFrom fn r ask) = some (idx, s'))
    (listed : Tab.look s'.keys idx = some k) :
    s.admKey fn r ask load = ((load s' idx).admWrite fn (Prot.result r) (leBytes 4 (Key.value k idx))).admOk fn 0 := by
  unfold State.admKey
  rw [made]
  dsimp only
  rw [listed]

/-- A REGISTER_REGION that is well formed, of a domain of the function, with room for its key, by the length of its region. -/
theorem registerRegion_accepted (has : s.adminHas fn 0x12 c) (keyOk : Prot.keyOk c.raw = true) (aux : Prot.auxBase c.raw = 0)
    (limit : Prot.limit c.raw = 0) (handler : Prot.handler c.raw = 0) (aligned : Prot.len c.raw = 0 ∨ Prot.table c.raw % 8 = 0)
    (mine : Prot.pd c.raw ∈ (s.fn fn).pds) (room : s.keys.length < 1048576) :
    exec (.registerRegion fn) s = .next (
      if Prot.len c.raw = 0 then s.admKey fn c.raw false (fun s _ => s)
      else (s.admWait fn 0).hostRead fn 0 0 .clerk (Prot.table c.raw) (regionPages (Prot.va c.raw) (Prot.len c.raw) * 8)
        (.pageList fn) none) :=
  congrArg Host.Outcome.next (State.admRun_done has (by simpa [keyOk, aux, limit, handler] using aligned)
    (by simp [State.lookupPd_mem mine, State.keyRoom_below room]))

/-- A page list whose every entry passes, with room for its key and for what it pins. -/
theorem State.takePageList_passes {d : Bytes} {l : List (Nat × Nat)} (current : (s.fn fn).admCur = some c) (waits : c.waiting = true)
    (opcode : Ent.opcode c.raw = 0x12)
    (list : l = pagesOf (Prot.va c.raw / 4096) (listEntries d (regionPages (Prot.va c.raw) (Prot.len c.raw))))
    (pass : ∀ x ∈ l, Pte.leafOk x.2 = true ∧ s.leafClear x.2 x.1 = true) (room : s.keys.length < 1048576)
    (fits : s.pinned + (pinnedGroups l []).length ≤ s.openParam 0x402003) :
    s.takePageList fn d =
      s.admKey fn c.raw false (fun s idx => l.foldl (fun s x => s.loadTlb (s.leafEntry idx x.1 x.2 true true)) s) := by
  have passes : (l.any fun x => !Pte.leafOk x.2 || !s.leafClear x.2 x.1) = false := by
    rw [List.any_eq_false]
    intro x hx
    simp [pass x hx]
  unfold State.takePageList
  rw [current]
  dsimp only
  rw [if_neg (by simp [waits, opcode]), ← list, passes, if_neg Bool.false_ne_true,
    if_neg (by simp [State.keyRoom_below room, Nat.not_lt.mpr fits])]

theorem createAsk_made (has : s.adminHas fn 0x13 c) (keyOk : Prot.keyOk c.raw = true) (aligned : Prot.table c.raw % 4096 = 0)
    (mine : Prot.pd c.raw ∈ (s.fn fn).pds) (handled : Prot.handler c.raw = 1 → (s.fn fn).missq ≠ none)
    (room : s.keys.length < 1048576) (made : s.newKey (s.keyFrom fn c.raw true) = some (idx, s'))
    (listed : Tab.look s'.keys idx = some k) :
    exec (.createAsk fn) s = .next ((s'.admWrite fn (Prot.result c.raw) (leBytes 4 (Key.value k idx))).admOk fn 0) := by
  have served : ¬(Prot.handler c.raw = 1 ∧ (s.fn fn).missq = none) := fun h => handled h.1 h.2
  exact congrArg Host.Outcome.next ((State.admRun_done has (by simp [keyOk, aligned])
    (by simp [State.lookupPd_mem mine, State.keyRoom_below room, served])).trans (State.admKey_made made listed))

theorem State.lookupKey_mine {v : Nat} (live : s.keyOf v = some k) (mine : k.fn = fn) : s.lookupKey fn v = Res.done := by
  unfold State.lookupKey
  rw [live]
  exact if_pos mine

theorem State.admWait_current {mark : BitVec 16} (current : (s.fn fn).admCur = some c) :
    ((s.admWait fn mark).fn fn).admCur = some { c with waiting := true, mark := mark } := by
  unfold State.admWait
  rw [State.setFn_fn, current]
  rfl

/-- From its DESTROY_KEY on a key is not live (R143). -/
theorem State.keyOf_dying {d : Nat × Nat} {v : Nat} (dies : d ∈ s.dying) (value : d.2 = v) : s.keyOf v = none :=
  if_pos (List.any_eq_true.mpr ⟨d, dies, by simp [value]⟩)

theorem destroyKey_completes (has : s.adminHas fn 0x14 c) (live : s.keyOf (Ent.arg c.raw) = some k) (mine : k.fn = fn) :
    Completes (.destroyKey fn) s fun t => t.keyOf (Ent.arg c.raw) = none ∧ t.keys = s.keys ∧ t.reads = s.reads ∧
      (t.fn fn).admCur = some { c with waiting := true, mark := 0 } := by
  have ⟨current, _⟩ := has
  refine ⟨({ s with dying := s.dying ++ [(fn, Ent.arg c.raw)] } : State).admWait fn 0,
    congrArg Host.Outcome.next (State.admRun_done has rfl (by simp [State.lookupKey_mine live mine])),
    State.keyOf_dying (d := (fn, Ent.arg c.raw)) ?_ rfl, rfl, rfl, State.admWait_current current⟩
  unfold State.admWait
  simp

theorem State.settleKey_waits (current : (s.fn fn).admCur = some c) (waits : c.waiting = true) (opcode : Ent.opcode c.raw = 0x14) :
    s.settleKey fn = if s.keyBusy (Ent.arg c.raw) then s else (s.removeKey fn (Ent.arg c.raw)).admOk fn 0 := by
  unfold State.settleKey
  rw [current]
  cases busy : s.keyBusy (Ent.arg c.raw) <;> simp [waits, opcode, busy]

end Keys

/-! ## INVALIDATE (R166) -/

theorem State.accessing_eq (s : State) (p : Nat × Nat × Nat → Bool) : s.accessing p =
    (s.pathA.any (fun u => u.acc.any p) || s.pathB.any (fun u => u.acc.any p) || s.reads.any (fun e => e.2.acc.any p)) := by
  refine congr (congrArg or (congr (congrArg or (congrArg _ (funext fun u => ?_))) (congrArg _ (funext fun u => ?_))))
    (congrArg _ (funext fun e => ?_))
  · cases u.acc <;> rfl
  · cases u.acc <;> rfl
  · cases e.2.acc <;> rfl

/-- A narrower test finds no access where a wider one finds none. -/
theorem State.accessing_mono {s : State} {p q : Nat × Nat × Nat → Bool} (h : ∀ a, p a = true → q a = true)
    (idle : s.accessing q = false) : s.accessing p = false := by
  simp only [State.accessing_eq, Bool.or_eq_false_iff, List.any_eq_false, Option.any_eq_true] at idle ⊢
  obtain ⟨⟨onA, onB⟩, out⟩ := idle
  exact ⟨⟨fun u hu ⟨a, ha, hp⟩ => onA u hu ⟨a, ha, h a hp⟩, fun u hu ⟨a, ha, hp⟩ => onB u hu ⟨a, ha, h a hp⟩⟩,
    fun e he ⟨a, ha, hp⟩ => out e he ⟨a, ha, h a hp⟩⟩

section Invalidate
variable {s : State} {fn : Nat} {c : AdminCmd}

theorem invalidate_accepted {k : Key} (has : s.adminHas fn 0x15 c) (table : Prot.table c.raw = 0) (aux : Prot.auxBase c.raw = 0)
    (limit : Prot.limit c.raw = 0) (result : Prot.result c.raw = 0) (rest : bits c.raw 0x70 0 128 = 0)
    (live : s.keyOf (Ent.arg c.raw) = some k) (mine : k.fn = fn) (ask : k.ask = true) :
    exec (.invalidate fn) s = .next ((s.admWait fn 0).invalidateRange (Ent.arg c.raw) c.raw) :=
  congrArg Host.Outcome.next (State.admRun_done has (by simp [table, aux, limit, result, rest])
    (by simp [State.lookupKey_mine live mine, live, ask]))

theorem invalidateComplete_idle (current : (s.fn fn).admCur = some c) (waits : c.waiting = true) (opcode : Ent.opcode c.raw = 0x15)
    (idle : s.accessing (fun a => a.1 == Ent.arg c.raw) = false) : exec (.invalidateComplete fn) s = .next (s.admOk fn 0) := by
  have none_in_range := State.accessing_mono (s := s) (p := fun a => a.1 == Ent.arg c.raw &&
    (Prot.len c.raw == 0 || decide (a.2.1 < Prot.va c.raw + Prot.len c.raw ∧ Prot.va c.raw < a.2.1 + a.2.2)))
    (fun a ha => (Bool.and_eq_true_iff.mp ha).1) idle
  refine congrArg Host.Outcome.next ?_
  rw [current]
  exact if_pos (by rw [waits, opcode, none_in_range]; rfl)

/-- With no miss outstanding an INVALIDATE only discards translations (R166). -/
theorem State.invalidateRange_tlb {v r : Nat} (quiet : s.misses = []) :
    (s.invalidateRange v r).tlb = s.tlb.filter (fun e => !(e.index == keyIndex v && invalidates r e.page e.pages)) := by
  unfold State.invalidateRange
  rw [quiet]
  rfl

theorem invalidates_eq_false {r first n : Nat} : invalidates r first n = false ↔
    Prot.len r ≠ 0 ∧ ((first + n) * 4096 ≤ Prot.va r ∨ Prot.va r + Prot.len r ≤ first * 4096) := by
  simp only [invalidates, Bool.or_eq_false_iff, beq_eq_false_iff_ne, decide_eq_false_iff_not]
  omega

/-- The translations that an INVALIDATE leaves: those of other keys, and those outside its range. -/
theorem State.mem_invalidateRange_tlb {v r : Nat} {e : Tlb} (quiet : s.misses = []) :
    e ∈ (s.invalidateRange v r).tlb ↔ e ∈ s.tlb ∧ (e.index ≠ keyIndex v ∨
      Prot.len r ≠ 0 ∧ ((e.page + e.pages) * 4096 ≤ Prot.va r ∨ Prot.va r + Prot.len r ≤ e.page * 4096)) := by
  rw [State.invalidateRange_tlb quiet, List.mem_filter, ← invalidates_eq_false, Bool.not_eq_true', Bool.and_eq_false_iff,
    beq_eq_false_iff_ne]

end Invalidate

/-! ## The miss queue (R159) -/

section MissQueue
variable {s : State} {fn : Nat} {c : AdminCmd}

theorem createMissQueue_made {h : Nat} {s' : State} (has : s.adminHas fn 0x16 c) (arg : Ent.arg c.raw = 0) (va : Prot.va c.raw = 0)
    (len : Prot.len c.raw = 0) (limit : Prot.limit c.raw = 0) (result : Prot.result c.raw = 0) (rest : bits c.raw 0x70 0 24 = 0)
    (tail : Prot.tail c.raw = 0) (missRing : ringOk (Prot.table c.raw) (Prot.log2 c.raw) = true)
    (fillRing : ringOk (Prot.auxBase c.raw) (Prot.log2b c.raw) = true) (events : s.lookup fn (Prot.eq c.raw) .eq = Res.done)
    (first : (s.fn fn).missq = none) (fresh : s.freshHandle fn 2 = (some h, s')) :
    exec (.createMissQueue fn) s = .next ((s'.setFn fn (fun f => { f with
      missq := some ⟨h, Prot.table c.raw, Prot.log2 c.raw, 0, 0, Prot.auxBase c.raw, Prot.log2b c.raw, 0, 0, false, [],
        Prot.eq c.raw, false⟩ })).admOk fn h) := by
  refine congrArg Host.Outcome.next ((State.admRun_done has (by simp [arg, va, len, limit, result, rest, tail, missRing, fillRing])
    (by simp [events, first])).trans ?_)
  rw [fresh]

theorem destroyMissQueue_unused (has : s.adminHas fn 0x17 c) (arg : bits c.raw 4 16 16 = 0)
    (names : s.lookupMiss fn (bits c.raw 4 0 16) = Res.done) (unused : ∀ e ∈ s.keys, e.2.fn = fn → e.2.handler = false) :
    exec (.destroyMissQueue fn) s =
      .next (((s.setFn fn (fun f => { f with missq := none })).dropReads (fun r => r.for_ == .fill fn)).admOk fn 0) := by
  have none_handled : s.keys.any (fun e => e.2.fn == fn && e.2.handler) = false := by
    rw [List.any_eq_false]
    intro e he
    by_cases mine : e.2.fn = fn <;> simp [mine, unused e he]
  exact congrArg Host.Outcome.next (State.admRun_done has (by simp [arg]) (by simp [names, none_handled]))

end MissQueue

/-- Settles O24, command by command; INVALIDATE by the translations that it leaves. -/
theorem protectionCommands : Obligations.ProtectionCommands := by
  refine ⟨fun s fn c => ⟨fun _ _ => createPd_room, createPd_full, destroyPd_unused, destroyPd_inUse,
      fun idx k s' has keyOk aux limit handler empty mine room made listed => ?_,
      fun has keyOk aux limit handler bytes aligned mine room => ?_,
      fun d l idx k s' current waits opcode list pass room fits made listed => ?_,
      fun _ _ _ => createAsk_made, fun _ => destroyKey_completes,
      fun current waits opcode free => ?_, fun current waits opcode busy => ?_, fun _ => invalidate_accepted,
      invalidateComplete_idle, fun _ _ => createMissQueue_made, destroyMissQueue_unused⟩,
    fun s v r quiet => ⟨fun e he same => ?_, fun e he stays => (State.mem_invalidateRange_tlb quiet).mpr ⟨he, stays⟩⟩⟩
  · rw [registerRegion_accepted has keyOk aux limit handler (.inl empty) mine room, if_pos empty, State.admKey_made made listed]
  · rw [registerRegion_accepted has keyOk aux limit handler (.inr aligned) mine room, if_neg bytes]
  · rw [State.takePageList_passes current waits opcode list pass room fits, State.admKey_made made listed]
  · exact congrArg Host.Outcome.next ((State.settleKey_waits current waits opcode).trans (if_neg (by simp [free])))
  · exact congrArg Host.Outcome.next ((State.settleKey_waits current waits opcode).trans (if_pos busy))
  · obtain ⟨-, stays⟩ := (State.mem_invalidateRange_tlb quiet).mp he
    exact stays.resolve_left (not_not_intro same)

end Sys2Proof.Machine
end

section
/-!
SUPPORT. Misses and the fills that answer them (R158 to R165), and the translations that a load leaves (R145, R153, R156).
-/
namespace Sys2Proof

theorem Tab.look_eq_none {α : Type} {t : Tab α} {k : Nat} (absent : k ∉ Tab.keys t) : Tab.look t k = none := by
  induction t with
  | nil => rfl
  | cons e t ih =>
    rw [Tab.keys, List.map_cons, List.mem_cons, not_or] at absent
    obtain ⟨other, absent⟩ := absent
    exact (if_neg (Ne.symm other)).trans (ih absent)

end Sys2Proof

namespace Sys2Proof.Machine

/-! ## Misses that stand too long (R158) -/

theorem missTimeout_stands {s : State} {id : Nat} {m : Miss} (out : Tab.look s.misses id = some m) :
    exec (.missTimeout id) s = .next (if m.raised + m.limit * 4096 ≤ s.ticks * 4096 then s.endMiss id false else s) := by
  show execMissTimeout id s = _
  unfold execMissTimeout State.missDue
  rw [out]
  dsimp only
  by_cases due : m.raised + m.limit * 4096 ≤ s.ticks * 4096
  · rw [decide_eq_true due, if_pos rfl, if_pos due]
  · rw [decide_eq_false due, if_neg Bool.false_ne_true, if_neg due]

/-! ## The fill ring (R163 to R165) -/

/-- The state once the head of the fill entries read has been taken. -/
def State.fillsLeft (s : State) (fn : Nat) (q : MissQueue) (rest : List Nat) : State :=
  s.setFn fn (fun f => { f with missq := some { q with fills := rest } })

section Fills
variable {s : State} {fn op r : Nat} {q : MissQueue} {rest : List Nat} {k : Key} {m : Miss} {go : Nat → State → State}

theorem State.fillRow_head (ring : (s.fn fn).missq = some q) (head : q.fills = r :: rest) (opcode : Fill.opcode r = op) :
    s.fillRow fn op go = if (s.fillKey fn r).isSome then go r (s.fillsLeft fn q rest)
      else (s.fillsLeft fn q rest).count Event.fillDiscard anyUnit 1 := by
  unfold State.fillRow
  rw [ring]
  dsimp only
  rw [head]
  exact if_neg (not_not_intro opcode)

theorem State.fillKey_live (live : s.keyOf (Fill.key r) = some k) (ask : k.ask = true) (handler : k.handler = true) (mine : k.fn = fn) :
    s.fillKey fn r = some k := by
  unfold State.fillKey
  rw [live]
  exact if_pos (by simp [ask, handler, mine])

theorem State.fillKey_dead (dead : s.keyOf (Fill.key r) = none) : s.fillKey fn r = none := by
  unfold State.fillKey
  rw [dead]

theorem State.fillMiss_out (out : Tab.look s.misses (Fill.miss r) = some m) (same : m.key = keyIndex (Fill.key r)) :
    s.fillMiss r = some m := by
  unfold State.fillMiss
  rw [out]
  exact if_pos same

theorem State.fillMiss_absent (absent : Fill.miss r ∉ Tab.keys s.misses) : s.fillMiss r = none := by
  unfold State.fillMiss
  rw [Tab.look_eq_none absent]

theorem State.answerMiss_out (good : Bool) (out : s.fillMiss r = some m) : s.answerMiss r good = s.endMiss (Fill.miss r) good :=
  if_pos (by rw [out]; rfl)

theorem State.answerMiss_absent (good : Bool) (absent : s.fillMiss r = none) : s.answerMiss r good = s :=
  if_neg (by rw [absent]; exact Bool.false_ne_true)

/-- The translation that a FILL loads (R164). -/
def State.fillEntry (s : State) (r : Nat) : Tlb :=
  s.leafEntry (keyIndex (Fill.key r)) (Fill.va r / 4096) (Fill.leaf r) (Pte.d (Fill.leaf r)) false

/-- A leaf that a FILL may load: in its format, clear of the BARs, of a page below 2^48 (R164). -/
def State.fillLoads (s : State) (r : Nat) : Prop :=
  Pte.leafOk (Fill.leaf r) = true ∧ s.leafClear (Fill.leaf r) (Fill.va r / 4096) = true ∧ Fill.va r / 4096 < 2 ^ 36

theorem State.fillLeaf_loads (loads : s.fillLoads r) : s.fillLeaf r = (s.loadTlb (s.fillEntry r)).answerMiss r
    ((s.fillMiss r).all (fun m => m.access == 0) || (Pte.w (Fill.leaf r) && Pte.d (Fill.leaf r))) := by
  obtain ⟨leafOk, clear, below⟩ := loads
  unfold State.fillLeaf
  refine (if_neg (by simpa [leafOk, clear] using below)).trans (congrArg (State.answerMiss _ r) (congrArg (· || _) ?_))
  cases s.fillMiss r with
  | none => rfl
  | some m => exact Bool.not_not _

theorem State.fillLeaf_absent (loads : s.fillLoads r) (absent : s.fillMiss r = none) : s.fillLeaf r = s.loadTlb (s.fillEntry r) := by
  rw [State.fillLeaf_loads loads]
  exact State.answerMiss_absent _ absent

theorem State.fillLeaf_out (loads : s.fillLoads r) (out : s.fillMiss r = some m) : s.fillLeaf r =
    (s.loadTlb (s.fillEntry r)).endMiss (Fill.miss r) (m.access == 0 || (Pte.w (Fill.leaf r) && Pte.d (Fill.leaf r))) := by
  rw [State.fillLeaf_loads loads, out]
  exact State.answerMiss_out _ out

/-- A fill entry of an ASK of the function is carried out. -/
theorem State.fillRow_live (ring : (s.fn fn).missq = some q) (head : q.fills = r :: rest) (opcode : Fill.opcode r = op)
    (live : s.keyOf (Fill.key r) = some k) (ask : k.ask = true) (handler : k.handler = true) (mine : k.fn = fn) :
    s.fillRow fn op go = go r (s.fillsLeft fn q rest) := by
  rw [State.fillRow_head ring head opcode, State.fillKey_live live ask handler mine]
  rfl

theorem State.fillRow_dead (ring : (s.fn fn).missq = some q) (head : q.fills = r :: rest) (opcode : Fill.opcode r = op)
    (dead : s.keyOf (Fill.key r) = none) :
    s.fillRow fn op go = (s.fillsLeft fn q rest).count Event.fillDiscard anyUnit 1 := by
  rw [State.fillRow_head ring head opcode, State.fillKey_dead dead]
  rfl

end Fills

/-! ## Translations loaded (R145, R153, R156) -/

/-- A translation, whether it stands in the first level or not. -/
def Tlb.unlevelled (e : Tlb) : Tlb := { e with l1 := false }

theorem Tlb.eq_of_unlevelled {x e : Tlb} (h : x.unlevelled = e.unlevelled) : x = { e with l1 := x.l1 } :=
  congrArg (fun t => { t with l1 := x.l1 }) h

/-- The capacity of the first level touches no translation but for its level (R153). -/
theorem trimL1_unlevelled (l : List Tlb) (n : Nat) : (trimL1 l n).map Tlb.unlevelled = l.map Tlb.unlevelled := by
  induction l generalizing n with
  | nil => cases n <;> rfl
  | cons e t ih =>
    cases n with
    | zero => simp [trimL1, Tlb.unlevelled]
    | succ n =>
      rw [trimL1]
      split <;> rw [List.map_cons, ih, List.map_cons]

theorem exists_mem_of_map_eq {α β : Type} {f : α → β} {l t : List α} (h : l.map f = t.map f) {x : α} (hx : x ∈ l) :
    ∃ y ∈ t, f y = f x :=
  List.mem_map.mp (h ▸ List.mem_map_of_mem hx)

theorem trimL2_subset (l : List Tlb) : trimL2 l ⊆ l := by
  unfold trimL2
  split
  · exact List.Subset.refl l
  · split
    · exact fun _ h => (List.mem_filter.mp h).1
    · exact List.Subset.refl l

/-- A translation is of another key than a new one, or holds none of its pages. -/
def Tlb.apart (e x : Tlb) : Prop := x.index = e.index → e.page + e.pages ≤ x.page ∨ x.page + x.pages ≤ e.page

/-- The translations that a new one does not replace. -/
def State.tlbApart (s : State) (e : Tlb) : List Tlb :=
  s.tlb.filter (fun x => !(x.index == e.index && decide (x.page < e.page + e.pages ∧ e.page < x.page + x.pages)))

section Load
variable {s : State} {e : Tlb}

theorem State.loadTlb_tlb : (s.loadTlb e).tlb = trimL1 (trimL2 (e :: s.tlbApart e)) tlbL1Max := rfl

theorem State.mem_tlbApart {x : Tlb} : x ∈ s.tlbApart e ↔ x ∈ s.tlb ∧ e.apart x := by
  simp only [State.tlbApart, Tlb.apart, List.mem_filter, Bool.not_eq_true', Bool.and_eq_false_iff, beq_eq_false_iff_ne,
    decide_eq_false_iff_not]
  refine and_congr_right fun _ => ?_
  omega

theorem State.loadTlb_holds_new (room : s.tlb.length < 2097152) : ∃ x ∈ (s.loadTlb e).tlb, x = { e with l1 := x.l1 } := by
  have fits : (e :: s.tlbApart e).length ≤ tlbL2Max := Nat.succ_le_succ (Nat.le_trans (List.length_filter_le _ _) (Nat.le_of_lt_succ room))
  have kept : trimL2 (e :: s.tlbApart e) = e :: s.tlbApart e := if_pos fits
  obtain ⟨x, hx, same⟩ := exists_mem_of_map_eq (trimL1_unlevelled (trimL2 (e :: s.tlbApart e)) tlbL1Max).symm
    (kept ▸ List.mem_cons_self)
  exact ⟨x, hx, Tlb.eq_of_unlevelled same⟩

theorem State.mem_loadTlb {x : Tlb} (hx : x ∈ (s.loadTlb e).tlb) :
    x = { e with l1 := x.l1 } ∨ (∃ y ∈ s.tlb, x = { y with l1 := x.l1 }) ∧ e.apart x := by
  obtain ⟨y, hy, same⟩ := exists_mem_of_map_eq (trimL1_unlevelled (trimL2 (e :: s.tlbApart e)) tlbL1Max) hx
  rcases List.mem_cons.mp (trimL2_subset _ hy) with rfl | old
  · exact .inl (Tlb.eq_of_unlevelled same.symm)
  · obtain ⟨held, apart⟩ := State.mem_tlbApart.mp old
    refine .inr ⟨⟨y, held, Tlb.eq_of_unlevelled same.symm⟩, ?_⟩
    show e.apart x.unlevelled
    exact same ▸ apart

end Load

/-- Settles O30: the row of a fill by the key and the miss that its entry names, and what a load leaves in the TLB. -/
theorem translationMisses : Obligations.TranslationMisses := by
  refine ⟨fun s fn => ⟨fun id m out due => ?_, fun id m out early => ?_,
      fun q r rest k ring head opcode live ask handler mine leafOk clear below absent => ?_,
      fun q r rest k m ring head opcode live ask handler mine leafOk clear below out same => ?_,
      fun q r rest k m ring head opcode live ask handler mine out same => ?_, fun c q r rest row ring head dead => ?_⟩,
    fun s e => ⟨State.loadTlb_holds_new, fun x => State.mem_loadTlb, rfl, rfl, rfl⟩⟩
  · rw [missTimeout_stands out, if_pos due]
  · rw [missTimeout_stands out, if_neg (Nat.not_le.mpr early)]
  · exact congrArg Host.Outcome.next ((State.fillRow_live ring head opcode live ask handler mine).trans
      (State.fillLeaf_absent (s := s.fillsLeft fn q rest) ⟨leafOk, clear, below⟩ (State.fillMiss_absent absent)))
  · exact congrArg Host.Outcome.next ((State.fillRow_live ring head opcode live ask handler mine).trans
      (State.fillLeaf_out (s := s.fillsLeft fn q rest) ⟨leafOk, clear, below⟩ (State.fillMiss_out out same)))
  · exact congrArg Host.Outcome.next ((State.fillRow_live ring head opcode live ask handler mine).trans
      (State.answerMiss_out (s := s.fillsLeft fn q rest) false (State.fillMiss_out out same)))
  · rcases row with ⟨rfl, opcode⟩ | ⟨rfl, opcode⟩ <;>
      exact congrArg Host.Outcome.next (State.fillRow_dead ring head opcode dead)

end Sys2Proof.Machine
end

section
/-!
SUPPORT. Packets of transport contexts that are delivered (R187, R189, R311, R375), and what those of one-sided operations do at
their target (R216 to R227).
-/
namespace Sys2Proof.Machine

/-! ## From the arrival to the delivery -/

section Arrival
variable {s : State} {p : Packet} {x : Ctx}

/-- A function that is live and awake on a port that is UP, in OPEN, admits an arrival (R375). -/
theorem State.fnAnswer_admits {fn : Nat} (ongoing : Bool) (life : s.life = .open_) (up : (s.port (fnPort fn)).state = .up)
    (lives : s.fnExists fn = true) (flr : (s.fn fn).flr = false) (awake : s.asleep fn = false) : s.fnAnswer fn ongoing = 0 := by
  simp [State.fnAnswer, life, up, lives, flr, awake]

/-- A packet that no meter is set on is green (R374, R375). -/
theorem State.police_unmetered (unmetered : policedType p.ptype = false ∨ 2 ≤ p.tc ∨
      s.flag ((0x9300 + p.destFn) * 256 + 1) = false ∧ s.param ((0x9400 + portNum (fnPort p.destFn)) * 256 + 1) = 0) :
    s.police p = (.green, 0, s) := by
  unfold State.police
  rcases unmetered with exempt | exempt | ⟨fnOff, portOff⟩
  · simp [exempt]
  · simp [exempt]
  · simp [fnOff, portOff]

theorem State.admission_delivers {key : Nat} (admits : s.fnAnswer p.destFn (s.ongoing key p) = 0)
    (green : s.police p = (.green, 0, s)) : s.admission key p false = ((s.deliver key p).1, p, (s.deliver key p).2) := by
  unfold State.admission
  rw [admits]
  simp only [Bool.false_eq_true, if_false, green]

theorem State.receiveIn_fresh {key : Nat} (found : Tab.look s.ctxs key = some x) (fresh : s.psnPlace key x p.psn = .fresh)
    (delivers : s.admission key p false = ((s.deliver key p).1, p, (s.deliver key p).2)) :
    s.receiveIn key p false = (s.deliver key p).2.settleVerdict key p (s.writesOf key) (s.deliver key p).1 := by
  unfold State.receiveIn
  rw [found]
  dsimp only
  rw [fresh]
  dsimp only
  rw [delivers]

theorem State.receiveAt_current {key : Nat} {again : Bool} (found : Tab.look s.ctxs key = some x)
    (current : p.st = false ∨ x.rcvFresh = false ∧ x.rcvInc = BitVec.ofNat 32 p.inc) :
    s.receiveAt key p again = s.receiveIn key p again := by
  unfold State.receiveAt
  rw [found]
  refine if_pos ?_
  rcases current with ct | ⟨used, inc⟩
  · simp [ct]
  · simp [used, inc]

theorem State.receive_resident {again : Bool} (plain : groupType p.ptype = false) (served : p.st = true ∨ s.ctServes p = true)
    (resident : s.resident (rxKey p) = true) (up : (s.port (fnPort p.destFn)).state = .up) :
    s.receive p again = s.receiveAt (rxKey p) p again := by
  unfold State.receive
  dsimp only
  rw [plain, if_neg Bool.false_ne_true, if_neg (by rcases served with st | ct <;> simp [*]),
    if_pos (by simp [resident, State.portUp, up])]

/-- A packet that passes every test before its delivery is delivered, and followed up by the verdict of its delivery (R187). -/
theorem State.takesPacket_arrives (takes : s.takesPacket p x) : (s.without p).arrive p =
    ((s.without p).deliver (rxKey p) p).2.afterDelivery p ((s.without p).writesOf (rxKey p)) ((s.without p).deliver (rxKey p) p).1 := by
  obtain ⟨life, -, plain, found, resident, up, lives, flr, awake, serves, fresh, unmetered⟩ := takes
  have served : p.st = true ∨ (s.without p).ctServes p = true := serves.imp (·.1) (·.2)
  have current : p.st = false ∨ x.rcvFresh = false ∧ x.rcvInc = BitVec.ofNat 32 p.inc := (serves.imp (·.2) (·.1)).symm
  have admits := State.fnAnswer_admits (s := s.without p) ((s.without p).ongoing (rxKey p) p) life up lives flr awake
  have green : (s.without p).police p = (.green, 0, s.without p) := State.police_unmetered unmetered
  refine congrArg (State.afterReceived · (rxKey p)) ?_
  calc (s.without p).receive p false
    _ = (s.without p).receiveAt (rxKey p) p false := State.receive_resident plain served resident up
    _ = (s.without p).receiveIn (rxKey p) p false := State.receiveAt_current found current
    _ = _ := State.receiveIn_fresh found fresh (State.admission_delivers admits green)

theorem State.checked_sound {go : State → State} (opened : s.life.opened = true) (sound : Packet.arrivalCheck p = 0) :
    s.checked p go = go (s.without p) := by
  refine (if_neg (by simp [opened])).trans ?_
  rw [sound]
  rfl

theorem State.arrivalRow_delivers {t : Nat} {v : Verdict} {u : State} (takes : s.takesPacket p x) (type : p.ptype = t)
    (delivers : (s.without p).deliver (rxKey p) p = (v, u)) :
    s.arrivalRow p t = .next (u.afterDelivery p ((s.without p).writesOf (rxKey p)) v) := by
  have ⟨life, sound, _⟩ := takes
  unfold State.arrivalRow State.packetRow
  rw [if_pos type, State.checked_sound (by rw [life]; rfl) sound, State.takesPacket_arrives takes, delivers]

end Arrival

/-! ## A delivery by its packet type -/

section Delivery
variable {s u : State} {p : Packet} {x : Ctx} {key : Nat}

section Types
variable (found : Tab.look s.ctxs key = some x)
include found

theorem State.deliver_put (type : p.ptype = 0x02) : s.deliver key p = s.deliverPut key p := by
  simp only [State.deliver, found, type]

theorem State.deliver_flagged (type : p.ptype = 0x03) : s.deliver key p = s.deliverFlagged key x p := by
  simp only [State.deliver, found, type]

theorem State.deliver_get (type : p.ptype = 0x04) : s.deliver key p = s.deliverGet key p := by
  simp only [State.deliver, found, type]

theorem State.deliver_atomic (type : p.ptype = 0x05) : s.deliver key p = s.deliverAtomic key x p := by
  simp only [State.deliver, found, type]

theorem State.deliver_durable (type : p.ptype = 0x06) : s.deliver key p = s.deliverDurable key x p := by
  simp only [State.deliver, found, type]

theorem State.deliver_flag (type : p.ptype = 0x0B) : s.deliver key p = s.deliverFlag key x p := by
  simp only [State.deliver, found, type]

end Types

/-! ## Payload under a key (R140, R216) -/

section Landing
variable {rkey va : Nat} {k : Key} {sp : List (Nat × Nat)}

/-- Payload whose key, range and translation pass is written under the key. -/
theorem State.landRemote_lands {op : RemoteOp} (passes : s.remoteCheck rkey p.tenant va p.payload.length op = Status.ok)
    (names : s.keyRaw rkey = some k) (reached : s.reachKey rkey va p.payload.length .write (op == .durable) = (.ok sp, u))
    (found : Tab.look u.ctxs key = some x) :
    s.landRemote key p rkey va op none = .inr (k.fn, lastSpan sp,
      u.writeSpans key k.fn (stallClass x.tc) (Ctx.stall x key) va rkey p.poison sp p.payload) := by
  refine (if_neg (not_not_intro passes)).trans ?_
  rw [names]
  dsimp only
  rw [if_neg Bool.false_ne_true, reached]
  dsimp only
  rw [found]
  rfl

theorem State.landRemote_refused {op : RemoteOp} {only : Option Nat} {st : Nat} (bad : st ≠ Status.ok)
    (fails : s.remoteCheck rkey p.tenant va p.payload.length op = st) :
    s.landRemote key p rkey va op only = .inl (s.packetFails key p st st) := by
  subst fails
  exact if_pos bad

end Landing

/-- Each packet of a PUT stands by itself, so its failure touches nothing (R141). -/
theorem State.packetFails_put (loc rem : Nat) (found : Tab.look s.ctxs key = some x) (type : p.ptype = 0x02) :
    s.packetFails key p loc rem = (.fail rem, s) := by
  simp [State.packetFails, found, type]

theorem State.deliverPut_lands {fn : Nat} {last : Option Nat}
    (lands : s.landRemote key p (Packet.key p) (Packet.raddr p + Packet.offset p) .write none = .inr (fn, last, u)) :
    s.deliverPut key p = (delivered p, u) := by
  unfold State.deliverPut
  rw [lands]

theorem State.deliverPut_refused {st : Nat} (found : Tab.look s.ctxs key = some x) (type : p.ptype = 0x02) (bad : st ≠ Status.ok)
    (fails : s.remoteCheck (Packet.key p) p.tenant (Packet.raddr p + Packet.offset p) p.payload.length .write = st) :
    s.deliverPut key p = (.fail st, s) := by
  unfold State.deliverPut
  rw [State.landRemote_refused bad fails, State.packetFails_put st st found type]

/-! ## A packet that opens its message (R210) -/

theorem RxMsg.took_eq (m : RxMsg) (p : Packet) (n : Nat) : m.took p n =
    { m with
      hdr := (m.meet p).hdr, begun := true, count := m.count + p.payload.length, written := m.written + n,
      solicited := m.solicited || p.solicited, poisoned := m.poisoned || p.poison } := by
  unfold RxMsg.took RxMsg.meet
  split <;> rfl

/-- A message is whole with its first packet where that holds every byte. -/
theorem newRx_took_whole (dest : Dest) (qpn n : Nat) (all : Packet.msgLen p ≤ p.payload.length) :
    ((newRx p dest qpn).took p n).whole = true := by
  rw [RxMsg.took_eq]
  simpa [RxMsg.whole, newRx] using all

/-! ## PUT_FLAG (R217, R218) -/

theorem State.writeFlag_none {m : RxMsg} (unflagged : m.flag = none) : s.writeFlag key p m = .inr s := by
  unfold State.writeFlag
  rw [unflagged]

/-- The first data packet of a PUT_FLAG opens its message; the flag is still to come. -/
theorem State.deliverFlagged_first {fn : Nat} {last : Option Nat} (first : x.rxOf (Packet.msgNum p) = none)
    (lands : s.landRemote key p (Packet.key p) (Packet.raddr p + Packet.offset p) .write none = .inr (fn, last, u)) :
    s.deliverFlagged key x p =
      (delivered p, u.keepRx key { (newRx p .remote 0).took p p.payload.length with keyFn := some fn }) := by
  have unflagged : (newRx p .remote 0).flag = none := rfl
  have unkeyed : (newRx p .remote 0).keyFn = none := rfl
  unfold State.deliverFlagged
  rw [first, Option.getD_none]
  dsimp only
  rw [unflagged, unkeyed, lands]
  dsimp only
  rw [State.writeFlag_none (by rw [RxMsg.took_eq]; rfl)]
  split <;> rfl

/-- The flag of a PUT_FLAG whose data has not begun is recorded with its message. -/
theorem State.deliverFlag_first {k : Key} {sp : List (Nat × Nat)} (first : x.rxOf (Packet.msgNum p) = none)
    (names : s.keyRaw (Packet.key p) = some k)
    (passes : s.remoteCheck (Packet.key p) p.tenant (Packet.raddr p) 8 .write = Status.ok)
    (reached : s.reachKey (Packet.key p) (Packet.raddr p) 8 .write false = (.ok sp, u)) :
    s.deliverFlag key x p = (delivered p, u.putRx key { newRx p .remote 0 with
      keyFn := some k.fn,
      flag := some (Packet.key p, Packet.raddr p, leNat p.payload % 2 ^ 64 + (if p.poison then 2 ^ 64 else 0)) }) := by
  have unkeyed : (newRx p .remote 0).keyFn = none := rfl
  unfold State.deliverFlag
  rw [first, Option.getD_none]
  dsimp only
  rw [if_neg (not_not_intro passes), unkeyed, names, if_neg Bool.false_ne_true, reached]
  rfl

/-! ## GET and the AtomicOps (R220, R222) -/

/-- The response to a GET_REQ of a function's key (R220). -/
def State.getReply (s : State) (p : Packet) (fn : Nat) : TxMsg :=
  { TxMsg.blank with
    num := Packet.msgNum p, ptype := 9, fn := fn, len := Packet.msgLen p,
    proto := s.replyProto p (extAt 0x2C 0 32 (Packet.msgLen p) + extAt 0x38 0 64 (Packet.raddr p)),
    plan := (cutMessage 9 (Packet.raddr p) (Packet.msgLen p)).map (fun x => (x.1, x.2, false)),
    src := some (Packet.key p, Packet.raddr p),
    todo := (cutMessage 9 (Packet.raddr p) (Packet.msgLen p)).filter (fun x => x.2 != 0) }

theorem State.deliverGet_reads {k : Key} {sp : List (Nat × Nat)}
    (passes : s.remoteCheck (Packet.key p) p.tenant (Packet.raddr p) (Packet.msgLen p) .read = Status.ok)
    (reached : s.reachKey (Packet.key p) (Packet.raddr p) (Packet.msgLen p) .read false = (.ok sp, u))
    (names : u.keyRaw (Packet.key p) = some k) : s.deliverGet key p = (.ok, u.sendReply key (u.getReply p k.fn)) := by
  refine (if_neg (not_not_intro passes)).trans ?_
  rw [reached]
  dsimp only
  rw [names]
  rfl

theorem State.deliverAtomic_issues {k : Key} {a n : Nat} {t : List (Nat × Nat)} (clean : p.poison = false)
    (passes : s.remoteCheck (Packet.key p) p.tenant (Packet.raddr p) (atomicSize (Packet.ext p 0x2C 0 4)) .atomic = Status.ok)
    (reached : s.reachKey (Packet.key p) (Packet.raddr p) (atomicSize (Packet.ext p 0x2C 0 4)) .atomic false = (.ok ((a, n) :: t), u))
    (names : u.keyRaw (Packet.key p) = some k) :
    s.deliverAtomic key x p = (.ok, (u.putRx key { newRx p .none 0 with begun := true }).hostAtomic k.fn (stallClass x.tc)
      (Ctx.stall x key) (.stall key) a (Packet.ext p 0x2C 0 4)
      (if Packet.ext p 0x2C 0 4 = 0 ∨ Packet.ext p 0x2C 0 4 = 2 then p.payload.take 4 else p.payload)
      (.atomic key (Packet.msgNum p) (atomicSize (Packet.ext p 0x2C 0 4)))
      (some (Packet.key p, Packet.raddr p, atomicSize (Packet.ext p 0x2C 0 4)))) := by
  refine (if_neg (not_not_intro passes)).trans ?_
  rw [reached]
  dsimp only
  rw [clean, if_neg Bool.false_ne_true, names]
  rfl

/-! ## DURABLE_PUT (R225, R537) -/

theorem State.deliverDurable_full (first : x.rxOf (Packet.msgNum p) = none)
    (full : s.openParam 0xE02002 < s.durableTarget + Packet.msgLen p) :
    s.deliverDurable key x p = (.refuse Refuse.notReady s.backoffBells, s) := by
  unfold State.deliverDurable
  rw [first]
  exact if_pos full

/-- A durable message that its first packet holds whole goes on to its flush. -/
theorem State.deliverDurable_whole {fn : Nat} {last : Option Nat} (clean : p.poison = false)
    (first : x.rxOf (Packet.msgNum p) = none) (room : s.durableTarget + Packet.msgLen p ≤ s.openParam 0xE02002)
    (all : Packet.msgLen p ≤ p.payload.length)
    (lands : s.landRemote key p (Packet.key p) (Packet.raddr p + Packet.offset p) .durable none = .inr (fn, last, u)) :
    s.deliverDurable key x p = (delivered p,
      u.flushRx key x { (newRx p .remote 0).took p p.payload.length with last := last, keyFn := some fn } fn) := by
  have unwritten : ((newRx p .remote 0).took p p.payload.length).last = none := by rw [RxMsg.took_eq]; rfl
  have unfailed : ((newRx p .remote 0).took p p.payload.length).failed = none := by rw [RxMsg.took_eq]; rfl
  have whole := newRx_took_whole .remote 0 p.payload.length all
  unfold State.deliverDurable
  rw [first]
  refine (if_neg (Nat.not_lt.mpr room)).trans ?_
  unfold State.deliverDurable.go
  rw [lands]
  dsimp only
  rw [unwritten, unfailed, clean]
  refine (if_pos (Bool.and_eq_true_iff.mpr ⟨whole, rfl⟩)).trans ?_
  cases last <;> rfl

end Delivery

/-- Settles O35, type by type: a packet that passes every test is delivered, and its delivery is the one of its type. -/
theorem oneSidedArrivals : Obligations.OneSidedArrivals := by
  intro s p x k takes names
  have ⟨_, _, _, found, _⟩ := takes
  refine ⟨fun sp u type passes reached resides => ?_, fun st type bad fails => ?_, fun u fn last type first lands => ?_,
    fun sp u type first passes reached => ?_, fun sp u type passes reached same => ?_,
    fun a n t u type clean passes reached same => ?_, fun u fn last type clean first room all lands => ?_,
    fun type first full => ?_⟩
  · exact State.arrivalRow_delivers takes type ((State.deliver_put (s := s.without p) found type).trans
      (State.deliverPut_lands (State.landRemote_lands passes names reached resides)))
  · exact State.arrivalRow_delivers takes type ((State.deliver_put (s := s.without p) found type).trans
      (State.deliverPut_refused found type bad fails))
  · exact State.arrivalRow_delivers takes type ((State.deliver_flagged (s := s.without p) found type).trans
      (State.deliverFlagged_first first lands))
  · exact State.arrivalRow_delivers takes type ((State.deliver_flag (s := s.without p) found type).trans
      (State.deliverFlag_first first names passes reached))
  · exact State.arrivalRow_delivers takes type ((State.deliver_get (s := s.without p) found type).trans
      (State.deliverGet_reads passes reached same))
  · exact State.arrivalRow_delivers takes type ((State.deliver_atomic (s := s.without p) found type).trans
      (State.deliverAtomic_issues clean passes reached same))
  · exact State.arrivalRow_delivers takes type ((State.deliver_durable (s := s.without p) found type).trans
      (State.deliverDurable_whole clean first room all lands))
  · exact State.arrivalRow_delivers takes type ((State.deliver_durable (s := s.without p) found type).trans
      (State.deliverDurable_full first full))

end Sys2Proof.Machine
end

section
/-!
SUPPORT. The rows of the packet types of transport contexts (R187, R311, R323, R375).
-/
namespace Sys2Proof.Machine

/-- Settles O34: the row of every packet type of a transport context delivers it and follows up the verdict. -/
theorem arrivalsAreDelivered : Obligations.ArrivalsAreDelivered := by
  intro s p x c takes v u delivers row
  rcases row with ⟨rfl, type⟩ | ⟨rfl, type⟩ | ⟨rfl, type⟩ | ⟨rfl, type⟩ | ⟨rfl, type⟩ | ⟨rfl, type⟩ | ⟨rfl, type⟩ | ⟨rfl, type⟩ |
      ⟨rfl, type⟩ | ⟨rfl, type⟩ | ⟨rfl, type⟩ | ⟨rfl, type⟩ | ⟨rfl, type⟩ | ⟨rfl, type⟩ <;>
    exact State.arrivalRow_delivers takes type delivers

end Sys2Proof.Machine
end

section
/-!
SUPPORT. Acknowledgements at the send side of a context: the row of a SACK record, what a record does at the context that it answers,
and what it retires, marks and does to the congestion window (R189, R194 to R203, R311, R594).
-/
namespace Sys2Proof.Machine

/-! ## The row of a SACK record (R189, R311) -/

section SackArrival
variable {s : State} {p : Packet} {x : Ctx}

/-- Off the tree edges a SACK answers at the context that its packet's own arrival would find (R311). -/
theorem sackKey_rxKey (flat : p.tc ≠ 2) : sackKey p = rxKey p := if_neg (by simpa using flat)

theorem State.sackRow_arrives {n : Nat} (type : p.ptype = 0x30) (kind : (sackOf p.payload).kind = n)
    (sound : sackOk p.payload = true) (opened : s.life.opened = true) (passes : Packet.arrivalCheck p = 0) (flat : p.tc ≠ 2) :
    s.sackRow p n = .next ((s.without p).sackArrives p) := by
  unfold State.sackRow State.packetRow
  rw [if_neg (not_not_intro kind), if_pos type, State.checked_sound opened passes, if_neg (by simp [sound]), if_neg flat]

theorem State.ctsNaked_other {a : Sack} {m : TxMsg} (other : a.kind = 1 → m.ptype ≠ 0x12) : s.ctsNaked a m = s :=
  if_neg fun ⟨cts, nak⟩ => other nak cts

theorem State.sackArrives_fits (flat : p.tc ≠ 2) (found : Tab.look s.ctxs (rxKey p) = some x) (fits : s.sackFits p = true)
    (other : (sackOf p.payload).kind = 1 → ∀ m, x.msgAt (sackOf p.payload).ref = some m → m.ptype ≠ 0x12) :
    s.sackArrives p = (s.applySack (rxKey p) (sackOf p.payload)).sweepContexts := by
  unfold State.sackArrives
  rw [sackKey_rxKey flat]
  dsimp only
  rw [found]
  dsimp only
  rw [if_neg (by simp [fits])]
  split
  next m named =>
    have named : x.msgAt (sackOf p.payload).ref = some m := (Option.ite_none_right_eq_some.mp named).2
    rw [State.ctsNaked_other fun nak => other nak m named]
  next => rfl

theorem State.sackArrives_unknown (flat : p.tc ≠ 2) (unknown : Tab.look s.ctxs (rxKey p) = none) :
    s.sackArrives p = s.count Event.noContext (arrivalStall p) 1 := by
  unfold State.sackArrives
  rw [sackKey_rxKey flat]
  dsimp only
  rw [unknown]

end SackArrival

/-! ## A SACK record at its context (R189, R198, R594) -/

section SackApplied
variable {s : State} {key : Nat} {x : Ctx} {a : Sack}

theorem Ctx.current_st (st : x.kind = Kind.st) : x.current a = true ↔ a.inc = x.inc.toNat := by
  unfold Ctx.current
  rw [if_pos st, beq_iff_eq]

/-- Only a NAK or a refusal answers a single packet. -/
theorem State.answered_ack (ack : a.kind = 0) : s.answered key a = s := by
  unfold State.answered
  split
  next => rfl
  next => rw [if_neg (by simp [ack]), if_neg (by simp [ack])]

section Found
variable (found : Tab.look s.ctxs key = some x)
include found

theorem State.applySack_stale (stale : x.current a ≠ true) : s.applySack key a = s := by
  unfold State.applySack
  rw [found]
  exact if_pos (by simpa using stale)

theorem State.applySack_resync (st : x.kind = Kind.st) (current : x.current a = true) (refusal : a.kind = 2) (resync : a.code = 4) :
    s.applySack key a = (s.newIncarnation key Status.peerGone).pump key pumpFuel := by
  unfold State.applySack
  rw [found]
  dsimp only
  rw [if_neg (by simp [current]), if_pos ⟨refusal, resync⟩, if_pos st]

/-- What an ACK of the context's incarnation does: nothing beyond what has been sent, and inside it what it retires and marks. -/
theorem State.applySack_ack (current : x.current a = true) (ack : a.kind = 0) (resident : a.noCtx = false) :
    s.applySack key a =
      if (x.sndNxt - x.sndUna).toNat < (a.cum - x.sndUna).toNat then s
      else ((((s.modCtx key fun c => s.congest (Ctx.markSacked (s.retire c a.cum) a) a (a.cum - x.sndUna).toNat).fillHoles
        key).settleMsgs key).pump key pumpFuel) := by
  unfold State.applySack
  rw [found]
  dsimp only
  rw [if_neg (by simp [current]), if_neg (by simp [ack]), if_neg (by simp [resident]), State.answered_ack ack]

end Found

end SackApplied

/-! ## What a SACK record retires and marks (R189, R194, R195) -/

section SackEffects
variable (s : State) {c : Ctx} {a : Sack}

/-- Accounting for packets changes the messages of the context, and nothing else. -/
theorem Ctx.foldl_account_rest (l : List SentPkt) (c : Ctx) :
    l.foldl Ctx.account c = { c with msgs := (l.foldl Ctx.account c).msgs } := by
  induction l generalizing c with
  | nil => rfl
  | cons p l ih =>
    rw [List.foldl_cons, ih]
    rfl

theorem State.retire_moved {cum : BitVec 32} (moved : cum ≠ c.sndUna) :
    (s.retire c cum).sndUna = cum ∧ (s.retire c cum).sndNxt = c.sndNxt ∧ (s.retire c cum).retry = 0 ∧
      (s.retire c cum).timer = (if cum = c.sndNxt then none else some s.clock) ∧
      (s.retire c cum).sent = c.sent.filter (fun p => !decide ((p.psn - c.sndUna).toNat < (cum - c.sndUna).toNat)) := by
  have ahead : (cum - c.sndUna).toNat ≠ 0 := by bv_omega
  unfold State.retire
  dsimp only
  rw [if_neg ahead, Ctx.foldl_account_rest]
  exact ⟨rfl, rfl, rfl, rfl, rfl⟩

theorem State.retire_unmoved : s.retire c c.sndUna = c := if_pos (by simp)

theorem Ctx.mem_markSacked_sent {p : SentPkt} (marked : p ∈ (c.markSacked a).sent) :
    ∃ o ∈ c.sent, p = { o with sacked := p.sacked } ∧ (o.sacked = true → p.sacked = true) := by
  obtain ⟨o, sent, rfl⟩ := List.mem_map.mp marked
  refine ⟨o, sent, ?_⟩
  dsimp only
  split
  next => exact ⟨rfl, fun _ => rfl⟩
  next => exact ⟨rfl, id⟩

theorem State.congest_unmarked (n : Nat) (windowed : c.kind ≠ Kind.edge) (unmarked : a.ce = 0) (answers : a.kind ≠ 2) :
    s.congest c a n = { c with cwnd := min 262144 (c.cwnd + 65536 * n / max c.cwnd 1) } :=
  (if_neg windowed).trans (if_neg (by simp [unmarked, answers]))

theorem State.congest_marked (n : Nat) (windowed : c.kind ≠ Kind.edge) (marked : 0 < a.ce) :
    s.congest c a n = if c.cutAt = some s.ticks then c else { c with
      cwnd := max (s.param 0x503002 * 256) (c.cwnd - c.cwnd / 2 ^ s.param 0x503003), cutAt := some s.ticks } :=
  (if_neg windowed).trans (if_pos (.inl marked))

end SackEffects

/-- Settles O40: the three rows by the context that they find, a record by its incarnation, kind and CUM_PSN, and what it retires,
marks and does to the congestion window. -/
theorem acknowledgements : Obligations.Acknowledgements := by
  refine ⟨fun s p c n row type kind sound opened passes flat => ?_, fun s key x a found => ⟨fun st other => ?_,
      fun st same refusal resync => ?_, fun current ack resident inside => ?_, fun current ack resident beyond => ?_⟩,
    fun s c a n => ⟨s.retire_moved, fun unmoved => ?_, fun p => Ctx.mem_markSacked_sent, s.congest_unmarked n,
      fun windowed marked fresh => ?_, fun windowed marked cut => ?_⟩⟩
  · have arrives : exec c s = .next ((s.without p).sackArrives p) := by
      rcases row with ⟨rfl, rfl⟩ | ⟨rfl, rfl⟩ | ⟨rfl, rfl⟩ <;>
        exact State.sackRow_arrives type kind sound opened passes flat
    rw [arrives]
    exact ⟨fun x found fits other => congrArg Host.Outcome.next
        (State.sackArrives_fits (s := s.without p) flat found fits fun nak => other (kind ▸ nak)),
      fun unknown => congrArg Host.Outcome.next (State.sackArrives_unknown (s := s.without p) flat unknown)⟩
  · exact State.applySack_stale found (mt (Ctx.current_st st).mp other)
  · exact State.applySack_resync found st ((Ctx.current_st st).mpr same) refusal resync
  · rw [State.applySack_ack found current ack resident, if_neg (Nat.not_lt.mpr inside)]
  · rw [State.applySack_ack found current ack resident, if_pos beyond]
  · rw [unmoved, State.retire_unmoved]
  · rw [s.congest_marked n windowed marked, if_neg fresh]
  · rw [s.congest_marked n windowed marked, if_pos cut]

end Sys2Proof.Machine
end

section
/-!
SUPPORT. The timers of transport contexts, of group messages and of rendezvous entries, and peers without a path (R180, R190 to R192,
R196, R203, R228, R234, R263).
-/
namespace Sys2Proof.Machine

/-! ## Timers of a context -/

section Timers
variable {s : State} {key : Nat} {x : Ctx}

theorem Ctx.unicast_ne (unicast : x.kind = Kind.ct ∨ x.kind = Kind.st) : x.kind ≠ Kind.edge ∧ x.kind ≠ Kind.group := by
  rcases unicast with kind | kind <;> rw [kind] <;> decide

section Found
variable (found : Tab.look s.ctxs key = some x)
include found

theorem spillWritesIssued_unwanted (spilling : x.res = .spilling) (issued : s.unitsOf (.stall key) = 0)
    (bench : ∀ b ∈ s.bench, b.2.2 ≠ .context key) (parked : ∀ y ∈ s.parked, y.1 ≠ key) :
    exec (.spillWritesIssued key) s = .next
      (((s.modCtx key fun c => { c with slot := false, res := .stored }).grantSlots x.kind (Ctx.stall x key)).sweepContexts) := by
  have unwanted : (s.bench.any (fun b => b.2.2 == .context key) || s.parked.any (fun y => y.1 == key)) = false := by
    simpa using ⟨fun i p why waits => bench (i, p, why) waits, fun k qpn waits => parked (k, qpn) waits⟩
  change execSpillWritesIssued key s = _
  unfold execSpillWritesIssued
  rw [found]
  dsimp only
  rw [if_neg (by simp [spilling, issued]), unwanted]
  rfl

theorem spillWritesIssued_unissued (unissued : s.unitsOf (.stall key) ≠ 0) : exec (.spillWritesIssued key) s = .next s := by
  change execSpillWritesIssued key s = _
  unfold execSpillWritesIssued
  rw [found]
  exact if_pos (by simp [unissued])

theorem retransmitTimerExpiry_due (due : s.timerDue x = true) (free : s.onTime 6 = true) (out : x.sent ≠ [])
    (unicast : x.kind = Kind.ct ∨ x.kind = Kind.st) :
    exec (.retransmitTimerExpiry key) s = .next (s.retransmit key x).sweepContexts := by
  change execRetransmitTimerExpiry key s = _
  unfold execRetransmitTimerExpiry
  rw [found]
  dsimp only
  rw [if_neg (by simp [due, free, out]), if_neg (Ctx.unicast_ne unicast).2]

theorem retransmitTimerExpiry_waits (waits : s.timerDue x = false) : exec (.retransmitTimerExpiry key) s = .next s := by
  change execRetransmitTimerExpiry key s = _
  unfold execRetransmitTimerExpiry
  rw [found]
  exact if_pos (by simp [waits])

theorem refusalBackoffExpiry_resends (psn : BitVec 32) :
    exec (.refusalBackoffExpiry key psn) s = .next (s.resend key (Ctx.stall x key) (x.sent.filter (fun p =>
      p.psn == psn && !p.sacked && p.backoff.isSome && !s.heldBack p && decide ((p.psn - x.sndUna).toNat < s.window x)))) := by
  change execRefusalBackoffExpiry key psn s = _
  unfold execRefusalBackoffExpiry
  rw [found]

theorem durableConfTimeout_waiting {num : BitVec 32} {m : TxMsg} {t : Nat}
    (waits : x.msgs.find? (fun m => m.ptype == 6 && !m.reply && m.num == num && m.quiet && m.owner.isSome && m.fail.isNone) = some m)
    (acked : m.ackedAt = some t) : exec (.durableConfTimeout key num) s =
      .next (if t + s.rto x.retry ≤ s.ticks * 4096 ∧ s.onTime 6 = true then s.resendFinal key x m else s) := by
  change execDurableConfTimeout key num s = _
  unfold execDurableConfTimeout
  rw [found]
  dsimp only
  rw [waits]
  dsimp only
  rw [acked]

theorem peerGoneExpiry_gone {t : Nat} (lost : x.noPath = some t) (out : x.sent ≠ []) (due : t + s.param 0x505001 ≤ s.ticks) :
    exec (.peerGoneExpiry key) s = .next (s.failContext key Status.peerGone).sweepContexts := by
  change execPeerGoneExpiry key s = _
  unfold execPeerGoneExpiry
  rw [found]
  dsimp only
  rw [lost]
  exact if_pos ⟨due, out⟩

end Found

/-- Below its retry limit a context whose timer has fired sends again (R190, R191). -/
theorem State.retransmit_resends (below : min (x.retry + 1) 255 ≤ s.retryLimit key x) :
    s.retransmit key x = ((s.modCtx key fun c => { c with retry := min (x.retry + 1) 255 }).modCtx key fun c =>
      { c with cwnd := max (s.param 0x503002 * 256) (c.cwnd / 2), timer := some s.clock }).resendAll key :=
  if_neg fun past => absurd past.1 (Nat.not_lt.mpr below)

/-- Past its retry limit a context fails, where UNLIMITED does not apply (R191, R192). -/
theorem State.retransmit_fails (past : s.retryLimit key x < min (x.retry + 1) 255) (limited : s.unlimitedApplies x = false)
    (unicast : x.kind = Kind.ct ∨ x.kind = Kind.st) :
    s.retransmit key x =
      (s.modCtx key fun c => { c with retry := min (x.retry + 1) 255 }).failContext key Status.retryExceeded :=
  (if_pos ⟨past, limited⟩).trans (if_neg (Ctx.unicast_ne unicast).1)

theorem State.resendFinal_below {m : TxMsg} {p : Packet} (last : m.final = some p) (limited : s.unlimited m = false)
    (below : min (x.retry + 1) 255 ≤ s.retryLimit key x) : s.resendFinal key x m =
      ((((s.modCtx key fun c => { c with retry := min (x.retry + 1) 255 }).modMsg key m.id fun m =>
        { m with ackedAt := some s.clock }).sendPacket p).count Event.retransmit (Ctx.stall x key) 1) := by
  unfold State.resendFinal
  simp only [limited, last, Bool.not_false, Bool.true_and, decide_eq_true_eq, Bool.false_eq_true, if_false,
    if_neg (Nat.not_lt.mpr below)]

end Timers

/-! ## Group messages and rendezvous entries (R234, R263) -/

theorem foldl_congr_step {α β : Type} {f g : β → α → β} (l : List α) (b : β) (h : ∀ b a, f b a = g b a) :
    l.foldl f b = l.foldl g b :=
  congrArg (List.foldl · b l) (funext fun b => funext (h b))

section MessageTimers
variable {s : State} {key n : Nat} {x : Ctx} {m : TxMsg}

theorem groupDeadlineExpiry_finishes (found : Tab.look s.ctxs (groupKey n) = some x) :
    exec (.groupDeadlineExpiry n) s = .next (x.msgs.foldl (fun u m => match m.firstAt, u.ownerOf m with
      | some t, some (_, _, w) =>
        if Ent.deadline w.raw ≠ 0 ∧ t + Ent.deadline w.raw ≤ u.ticks then u.finishGroup n m Status.timeout else u
      | _, _ => u) s) := by
  change ok (s.groupDeadline n) = _
  unfold State.groupDeadline
  rw [found]
  refine congrArg Host.Outcome.next (foldl_congr_step _ _ fun u m => ?_)
  cases m.firstAt with
  | none => rfl
  | some t =>
    cases u.ownerOf m with
    | none => rfl
    | some o => exact ite_congr (by simp only [bne_iff_ne, Bool.and_eq_true, decide_eq_true_eq]) (fun _ => rfl) fun _ => rfl

theorem ctsWaitExpiry_owned : exec (.ctsWaitExpiry n) s = .next (s.ctxs.foldl (fun u e =>
    (e.2.msgs.filter (fun m => decide (m.owner.map Prod.fst = some n))).foldl (fun u m => u.ctsLate e.1 m) u) s) := by
  refine congrArg Host.Outcome.next (foldl_congr_step _ _ fun u e => ?_)
  rw [List.foldl_filter]
  refine foldl_congr_step _ _ fun u m => ?_
  cases owner : m.owner with
  | none => rfl
  | some o => simp

theorem State.ctsLate_due {q t : Nat} {i : BitVec 16} (owner : m.owner = some (q, i)) (acked : m.ackedAt = some t)
    (rts : m.ptype = 0x11) (quiet : m.quiet = true) (limited : s.param 0x602002 ≠ 0)
    (due : t + s.param 0x602002 * 4096 ≤ s.ticks * 4096) : s.ctsLate key m =
      (s.modMsg key m.id fun m => { m with
        owner := none, fail := some Status.timeout, firstAt := none, final := none, ackedAt := none }).finishWqe q i Status.timeout 0 0 [] := by
  unfold State.ctsLate
  rw [owner, acked]
  exact if_pos ⟨rts, quiet, limited, due⟩

theorem State.ctsLate_waits {t : Nat} (acked : m.ackedAt = some t)
    (waits : s.param 0x602002 = 0 ∨ s.ticks * 4096 < t + s.param 0x602002 * 4096) : s.ctsLate key m = s := by
  unfold State.ctsLate
  rw [acked]
  split
  next owner first =>
    cases first
    refine if_neg fun ⟨_, _, limited, due⟩ => ?_
    exact waits.elim limited (Nat.not_lt.mpr due)
  next => rfl

end MessageTimers

/-! ## Peers without a path (R203) -/

theorem Tab.look_map {α β : Type} (t : Tab α) (k : Nat) (f : Nat → α → β) : Tab.look (Tab.map t f) k = (Tab.look t k).map (f k) := by
  induction t with
  | nil => rfl
  | cons e t ih =>
    obtain ⟨a, v⟩ := e
    change (if a = k then some (f a v) else Tab.look (Tab.map t f) k) = Option.map (f k) (if a = k then some v else Tab.look t k)
    by_cases same : a = k
    · rw [if_pos same, if_pos same, same]
      rfl
    · rw [if_neg same, if_neg same, ih]

theorem State.pathCheck_unicast {s : State} {key : Nat} {x : Ctx} (found : Tab.look s.ctxs key = some x)
    (unicast : x.kind = Kind.ct ∨ x.kind = Kind.st) :
    Tab.look s.pathCheck.ctxs key = some { x with noPath := if s.reachable x.peer = true then none else match x.noPath with
      | some t => some t
      | none => some s.ticks } := by
  unfold State.pathCheck
  rw [Tab.look_map, found, Option.map_some, if_pos unicast]
  split <;> rfl

/-- Settles O41, timer by timer: what each does where it is due, and that it changes nothing where it is not. -/
theorem transportTimers : Obligations.TransportTimers := by
  refine ⟨fun s key x found => ⟨spillWritesIssued_unwanted found, fun _ => spillWritesIssued_unissued found,
      fun due free out unicast => ⟨fun below => ?_, fun past limited => ?_⟩, retransmitTimerExpiry_waits found,
      refusalBackoffExpiry_resends found, fun num m t waits acked => ⟨fun due free => ?_, fun early => ?_⟩,
      fun m p => State.resendFinal_below, fun t => peerGoneExpiry_gone found, fun n group => ?_⟩,
    fun s n => ⟨ctsWaitExpiry_owned, fun key m q i t => State.ctsLate_due, fun key m t => State.ctsLate_waits⟩,
    fun s key x => State.pathCheck_unicast⟩
  · rw [retransmitTimerExpiry_due found due free out unicast, State.retransmit_resends below]
  · rw [retransmitTimerExpiry_due found due free out unicast, State.retransmit_fails past limited unicast]
  · rw [durableConfTimeout_waiting found waits acked, if_pos ⟨due, free⟩]
  · rw [durableConfTimeout_waiting found waits acked, if_neg fun late => absurd late.1 (Nat.not_le.mpr early)]
  · exact groupDeadlineExpiry_finishes (group ▸ found)

end Sys2Proof.Machine
end

section
/-!
SUPPORT. What the responses to one-sided operations, the confirmation of a durable message and the grant to a tagged send do at
their initiator (R220, R222, R226, R241, R262).
-/
namespace Sys2Proof.Machine

section ResponseDelivery
variable {s u : State} {p : Packet} {x : Ctx} {m : TxMsg} {key n : Nat} {q : Qp} {w : Wqe}

section Types
variable (found : Tab.look s.ctxs key = some x)
include found

theorem State.deliver_getResp (type : p.ptype = 0x09) : s.deliver key p = s.deliverGetResp key x p := by
  simp only [State.deliver, found, type]

theorem State.deliver_atomicResp (type : p.ptype = 0x0A) : s.deliver key p = s.deliverAtomicResp key x p := by
  simp only [State.deliver, found, type]

theorem State.deliver_conf (type : p.ptype = 0x0C) : s.deliver key p = s.deliverConf key x p := by
  simp only [State.deliver, found, type]

theorem State.deliver_cts (type : p.ptype = 0x12) : s.deliver key p = s.deliverCts key x p := by
  simp only [State.deliver, found, type]

end Types

/-! ## GET_RESP and ATOMIC_RESP (R220, R222, R241) -/

/-- Clean bytes of a GET none of whose bytes were poisoned are counted, and the entry completes when all are there. -/
theorem State.deliverGetResp_lands {k : Nat} (clean : p.poison = false) (sound : m.repFail = 0)
    (asked : x.asked 4 (Packet.msgNum p) = some m) (owned : s.ownerOf m = some (n, q, w))
    (lands : s.landLocal key p q.fn q.pd (Ent.lkey w.raw) (Ent.laddr w.raw) (Ent.len w.raw) false = .inr (k, u)) :
    s.deliverGetResp key x p = (.ok,
      if Ent.len w.raw ≤ m.respCount + p.payload.length then
        (u.dropMsg key m.id).finishWqe n w.idx Status.ok (Ent.len w.raw) 0 [.stall key]
      else u.modMsg key m.id (fun _ => { m with respCount := m.respCount + p.payload.length })) := by
  unfold State.deliverGetResp
  rw [asked]
  dsimp only
  rw [owned]
  dsimp only
  rw [lands, clean]
  simp only [Bool.false_and, Bool.false_eq_true, if_false, sound, if_true]
  exact (apply_ite (Prod.mk Verdict.ok) _ _ _).symm

theorem State.deliverAtomicResp_lands {k : Nat} (asked : x.asked 5 (Packet.msgNum p) = some m)
    (owned : s.ownerOf m = some (n, q, w))
    (lands : s.landLocal key { p with payload := p.payload.take (atomicSize (Ent.atomicOp w.raw)) } q.fn q.pd (Ent.lkey w.raw)
      (Ent.laddr w.raw) (atomicSize (Ent.atomicOp w.raw)) false = .inr (k, u)) :
    s.deliverAtomicResp key x p = (.ok, (u.dropMsg key m.id).finishWqe n w.idx
      (if p.poison then Status.poisoned else Status.ok)
      (if p.poison then 0 else atomicSize (Ent.atomicOp w.raw)) 0 [.stall key]) := by
  unfold State.deliverAtomicResp
  rw [asked]
  dsimp only
  rw [owned]
  dsimp only
  rw [lands]

/-! ## DURABLE_CONF (R226) -/

theorem State.deliverConf_confirms {i : BitVec 16} (asked : x.asked 6 (Packet.msgNum p) = some m) (owner : m.owner = some (n, i))
    (live : m.fail = none) : s.deliverConf key x p = (.ok, (s.dropMsg key m.id).finishWqe n i Status.ok m.len 0 []) := by
  unfold State.deliverConf
  rw [asked]
  dsimp only
  rw [owner, live]

theorem State.deliverConf_unasked (unasked : x.asked 6 (Packet.msgNum p) = none) : s.deliverConf key x p = (.ok, s) := by
  unfold State.deliverConf
  rw [unasked]

/-! ## CTS (R262) -/

/-- The message that carries the bytes a CTS grants from the buffer of a TSEND's entry (R262). -/
def TxMsg.granted (m : TxMsg) (p : Packet) (q : Qp) (w : Wqe) : TxMsg :=
  { TxMsg.blank with
    ptype := 0x13, owner := m.owner, fn := q.fn, pd := some q.pd, len := Packet.ext p 0x2C 0 32,
    proto := { m.proto with
      destQueue := 0, ext := extAt 0x2C 0 32 (Packet.ext p 0x2C 0 32) + extAt 0x34 0 24 (Packet.ext p 0x30 0 24) },
    plan := (cutMessage 0x13 0 (Packet.ext p 0x2C 0 32)).map (fun x => (x.1, x.2, false)),
    src := some (Ent.lkey w.raw, Ent.laddr w.raw), todo := cutMessage 0x13 0 (Packet.ext p 0x2C 0 32) }

section Grant
variable (asked : x.asked 0x11 (Packet.msgNum p) = some m) (owned : s.ownerOf m = some (n, q, w))
include asked owned

theorem State.deliverCts_nothing (nothing : Packet.ext p 0x2C 0 32 = 0) :
    s.deliverCts key x p = (.ok, (s.dropMsg key m.id).finishWqe n w.idx Status.ok 0 0 []) := by
  unfold State.deliverCts
  rw [asked]
  dsimp only
  rw [owned]
  exact if_pos nothing

theorem State.deliverCts_buffer (grant : Packet.ext p 0x2C 0 32 ≠ 0) (buffer : Ent.inline w.raw = 0) :
    s.deliverCts key x p = (.ok, ((s.dropMsg key m.id).addMsg key (m.granted p q w)).pump key pumpFuel) := by
  have notInline : Ent.inline w.raw ≠ 1 := by rw [buffer]; exact Nat.zero_ne_one
  unfold State.deliverCts
  rw [asked]
  dsimp only
  rw [owned]
  refine (if_neg grant).trans ?_
  rw [if_neg notInline, if_neg notInline, if_neg notInline]
  rfl

end Grant

end ResponseDelivery

/-- Settles O36, type by type: the delivery of each response is the one of its type, at the message that asked for it. -/
theorem responsesCompleteEntries : Obligations.ResponsesCompleteEntries := by
  intro s p x m n q w takes owned
  have ⟨_, _, _, found, _⟩ := takes
  refine ⟨fun k u type clean sound asked lands => ?_, fun k u type asked lands => ?_, fun i type asked owner live => ?_,
    fun type unasked => ?_, fun type asked nothing => ?_, fun type asked grant buffer => ?_⟩
  · have delivers := (State.deliver_getResp (s := s.without p) found type).trans
      (State.deliverGetResp_lands clean sound asked owned lands)
    refine ⟨fun all => ?_, fun more => ?_⟩
    · rw [if_pos all] at delivers
      exact State.arrivalRow_delivers takes type delivers
    · rw [if_neg (Nat.not_le.mpr more)] at delivers
      exact State.arrivalRow_delivers takes type delivers
  · exact State.arrivalRow_delivers takes type ((State.deliver_atomicResp (s := s.without p) found type).trans
      (State.deliverAtomicResp_lands asked owned lands))
  · exact State.arrivalRow_delivers takes type ((State.deliver_conf (s := s.without p) found type).trans
      (State.deliverConf_confirms asked owner live))
  · exact State.arrivalRow_delivers takes type ((State.deliver_conf (s := s.without p) found type).trans
      (State.deliverConf_unasked unasked))
  · exact State.arrivalRow_delivers takes type ((State.deliver_cts (s := s.without p) found type).trans
      (State.deliverCts_nothing asked owned nothing))
  · exact State.arrivalRow_delivers takes type ((State.deliver_cts (s := s.without p) found type).trans
      (State.deliverCts_buffer asked owned grant buffer))

end Sys2Proof.Machine
end

section
/-!
SUPPORT. Tag matching (R251, R256): the receive that a message takes and the message that a receive takes, as the least of those
that match, and the match itself, bit by bit.
-/
namespace Sys2Proof.Machine

/-! ## The earliest of those that match -/

section Least
variable {α : Type} {l : List α} {ok : α → Bool} {rank : α → Nat}

theorem foldl_minOn_some (l : List α) (a : α) :
    l.foldl (fun best c => some (best.elim c (minOn rank · c))) (some a) = some (l.foldl (minOn rank) a) := by
  induction l generalizing a with
  | nil => rfl
  | cons c l ih => exact ih (minOn rank a c)

/-- A search that keeps, of those that meet a test, the earliest so far answers the earliest of them all. -/
theorem foldl_least_eq_minOn {f : Option α → α → Option α}
    (step : ∀ best a, f best a = if ok a = true then some (best.elim a (minOn rank · a)) else best) :
    l.foldl f none = (l.filter ok).minOn? rank := by
  rw [foldl_congr_step l none step, ← List.foldl_filter]
  cases l.filter ok with
  | nil => rfl
  | cons a rest => exact foldl_minOn_some rest a

/-- What is taken as the least of those that meet a test is one of them, and none of them is below it. -/
theorem minOn_filter_some {a : α} (taken : (l.filter ok).minOn? rank = some a) :
    a ∈ l ∧ ok a = true ∧ ∀ b ∈ l, ok b = true → rank a ≤ rank b := by
  obtain ⟨listed, meets⟩ := List.mem_filter.mp (List.minOn?_mem taken)
  refine ⟨listed, meets, fun b other met => ?_⟩
  have candidate : b ∈ l.filter ok := List.mem_filter.mpr ⟨other, met⟩
  rw [List.minOn?_eq_some_minOn (List.ne_nil_of_mem candidate), Option.some.injEq] at taken
  exact taken ▸ List.apply_minOn_le_of_mem candidate

theorem minOn_filter_none : (l.filter ok).minOn? rank = none ↔ ∀ b ∈ l, ok b = false := by
  rw [← Option.not_isSome_iff_eq_none, List.isSome_minOn?_iff, ne_eq, Decidable.not_not, List.filter_eq_nil_iff]
  simp only [Bool.not_eq_true]

/-- The best so far is kept unless the next one is below it, as `minOn` keeps it. -/
theorem keep_unless_below (a b : α) : (if rank a < rank b then some a else some b) = some (minOn rank b a) := by
  by_cases below : rank a < rank b
  · rw [if_pos below, minOn, if_neg (Nat.not_le.mpr below)]
  · rw [if_neg below, minOn, if_pos (Nat.not_lt.mp below)]

end Least

theorem Srq.candidate_eq_minOn (q : Srq) (rank context tag : Nat) :
    q.candidate rank context tag = (q.posted.filter fun p => matches_ rank context tag p.raw).minOn? Posted.post :=
  foldl_least_eq_minOn fun best p => by
    cases best with
    | none => rfl
    | some b => exact ite_congr rfl (fun _ => keep_unless_below p b) fun _ => rfl

theorem Srq.waitingFor_eq_minOn (q : Srq) (raw : Nat) :
    q.waitingFor raw = (q.stored.filter fun m => m.elig.isSome && matches_ m.rank m.context m.tag raw).minOn? fun m => m.elig.getD 0 := by
  refine foldl_least_eq_minOn fun best m => ?_
  cases eligible : m.elig with
  | none => rfl
  | some e =>
    cases best with
    | none => rfl
    | some b =>
      have number : e = m.elig.getD 0 := by rw [eligible]; rfl
      rw [number]
      exact ite_congr rfl (fun _ => keep_unless_below (rank := fun m => m.elig.getD 0) m b) fun _ => rfl

/-! ## The match (R251) -/

theorem land_two_pow_sub_eq_zero_iff {x ignored w : Nat} (short : ignored < 2 ^ w) :
    Nat.land x (2 ^ w - 1 - ignored) = 0 ↔ ∀ i, i < w → ignored.testBit i = false → x.testBit i = false := by
  have heard (i : Nat) : (Nat.land x (2 ^ w - 1 - ignored)).testBit i = (x.testBit i && (decide (i < w) && !ignored.testBit i)) := by
    rw [Nat.sub_sub, Nat.add_comm 1]
    exact (Nat.testBit_and ..).trans (by rw [Nat.testBit_two_pow_sub_succ short])
  refine ⟨fun clear i below free => ?_, fun clear => Nat.eq_of_testBit_eq fun i => ?_⟩
  · have masked := heard i
    rw [clear, Nat.zero_testBit, decide_eq_true below, free] at masked
    simpa using masked.symm
  · rw [heard, Nat.zero_testBit]
    by_cases below : i < w
    · cases free : ignored.testBit i with
      | true => simp
      | false => simp [clear i below free]
    · simp [below]

theorem matches_iff (rank context tag raw : Nat) :
    matches_ rank context tag raw = true ↔ Tag.context raw = context ∧ (Tag.anySource raw = 1 ∨ Tag.rank raw = rank) ∧
      ∀ i, i < 32 → (Tag.ignore raw).testBit i = false → tag.testBit i = (Tag.tag raw).testBit i := by
  have ignoreShort : Tag.ignore raw < 2 ^ 32 := Nat.mod_lt _ (Nat.two_pow_pos 32)
  have agree (i : Nat) : (Nat.xor tag (Tag.tag raw)).testBit i = false ↔ tag.testBit i = (Tag.tag raw).testBit i := by
    rw [show (Nat.xor tag (Tag.tag raw)).testBit i = _ from Nat.testBit_xor .., bne_eq_false_iff_eq]
  have bitwise := land_two_pow_sub_eq_zero_iff (x := Nat.xor tag (Tag.tag raw)) ignoreShort
  simp only [matches_, Bool.and_eq_true, Bool.or_eq_true, beq_iff_eq, and_assoc]
  simp only [← agree]
  exact and_congr_right fun _ => and_congr_right fun _ => bitwise

/-- Settles O44: both searches take the least of the entries that match, and the masked comparison is one bit by bit. -/
theorem matching : Obligations.Matching := by
  refine ⟨fun q => ⟨fun rank context tag p taken => ?_, fun rank context tag nothing => ?_, fun raw m taken => ?_,
    fun raw nothing m listed eligible => ?_⟩, fun rank context tag raw _ => matches_iff rank context tag raw⟩
  · rw [Srq.candidate_eq_minOn] at taken
    exact minOn_filter_some taken
  · rw [Srq.candidate_eq_minOn] at nothing
    exact minOn_filter_none.mp nothing
  · rw [Srq.waitingFor_eq_minOn] at taken
    obtain ⟨listed, meets, least⟩ := minOn_filter_some taken
    obtain ⟨eligible, matched⟩ := Bool.and_eq_true_iff.mp meets
    obtain ⟨e, numbered⟩ := Option.isSome_iff_exists.mp eligible
    refine ⟨listed, matched, e, numbered, fun x other d turn agrees => ?_⟩
    simpa [numbered, turn] using least x other (by simp [turn, agrees])
  · rw [Srq.waitingFor_eq_minOn] at nothing
    simpa [Option.isSome_iff_ne_none.mpr eligible] using minOn_filter_none.mp nothing m listed

end Sys2Proof.Machine
end

section
/-!
SUPPORT. The timers of streams that wait for a message and of the edges of reduction trees (R257, R258, R283, R304).
-/
namespace Sys2Proof.Machine

section HeldStream
variable {s : State} {fn h k : Nat} {q : Srq} {x : Stream} {m : Stored} (found : Tab.look s.srqs (qkey fn h) = some q)
  (stream : Tab.look q.streams k = some x) (oldest : q.oldestHeld x = some m)
include found stream oldest

theorem msnHoldExpiry_skips (due : m.at_ + s.param 0x603001 ≤ s.ticks) (gap : m.msn ≠ x.expected) :
    exec (.msnHoldExpiry fn h k) s = .next
      (((s.modSrq (qkey fn h) fun q => q.setExpected x.srcDev x.srcFn x.rank x.context m.msn).count Event.skips anyUnit 1).release
        (qkey fn h) x.srcDev x.srcFn x.rank x.context (q.stored.length + 1)) := by
  change execMsnHoldExpiry fn h k s = _
  unfold execMsnHoldExpiry
  simp only [found, stream, oldest]
  exact if_pos ⟨due, gap⟩

theorem msnHoldExpiry_waits (early : s.ticks < m.at_ + s.param 0x603001) : exec (.msnHoldExpiry fn h k) s = .next s := by
  change execMsnHoldExpiry fn h k s = _
  unfold execMsnHoldExpiry
  simp only [found, stream, oldest]
  exact if_neg fun late => absurd late.1 (Nat.not_le.mpr early)

end HeldStream

section EdgeTimers
variable {s : State} {tree dev : Nat} {t : Tree} {e : Edge} (found : Tab.look s.trees tree = some t)
  (edge : Tab.look t.edges dev = some e) (onTime : s.onTime 8 = true)
include found edge onTime

theorem heartbeatDue_edge : exec (.heartbeatDue tree dev) s =
    .next (if e.tx + s.param 0x703001 ≤ s.ticks then s.sendPacket (s.treePacket t 0x21 dev 0) else s) := by
  change execHeartbeatDue tree dev s = _
  simp only [execHeartbeatDue, found, edge, onTime, and_true]

theorem edgeDead_edge : exec (.edgeDead tree dev) s =
    .next (if e.rx + s.param 0x703002 ≤ s.ticks then s.breakTree tree else s) := by
  change execEdgeDead tree dev s = _
  simp only [execEdgeDead, found, edge, onTime, State.edgeSilent, Bool.and_true, decide_eq_true_eq]

end EdgeTimers

/-- Settles O42, timer by timer: what each does where it is due, and that it changes nothing where it is not. -/
theorem matchingAndTreeTimers : Obligations.MatchingAndTreeTimers := by
  refine fun s => ⟨fun fn h k q x m => msnHoldExpiry_skips, fun fn h k q x m => msnHoldExpiry_waits,
    fun tree dev t e found edge onTime => ⟨fun due => ?_, fun early => ?_, fun due => ?_, fun early => ?_⟩⟩
  · rw [heartbeatDue_edge found edge onTime, if_pos due]
    rfl
  · rw [heartbeatDue_edge found edge onTime, if_neg (Nat.not_le.mpr early)]
  · rw [edgeDead_edge found edge onTime, if_pos due]
  · rw [edgeDead_edge found edge onTime, if_neg (Nat.not_le.mpr early)]

end Sys2Proof.Machine
end

section
/-!
SUPPORT. The tagged entries of a shared receive queue (R248, R250, R255, R256, R266, R269, R270), and the places of messages in its
overflow buffers (R266, R268).
-/
namespace Sys2Proof.Machine

/-! ## An entry that is carried out, and one that holds (R255, R269) -/

theorem isPad_of_isTagged {raw : Nat} (tagged : isTagged raw = true) : isPad raw = false := by
  have opcode : 0x11 ≤ Ent.opcode raw := by simpa using (Bool.and_eq_true_iff.mp tagged).1
  have coded : (Ent.opcode raw == 0) = false := beq_false_of_ne (by omega)
  simp [isPad, coded]

section Entry
variable {s u : State} {key raw : Nat} {i : BitVec 16} (tagged : isTagged raw = true) (cq : s.taggedCq key raw = true)
  (formed : taggedOk raw = true)
include tagged cq formed

theorem State.postEntry_tagged : s.postEntry key i raw =
    if Ent.opcode raw = 0x13 then s.postCancel key i raw
    else if s.taggedLocal key raw ≠ Status.ok then s.srqEntryDone key (Tag.cq raw) i raw (s.taggedLocal key raw)
    else if Ent.opcode raw = 0x11 then s.postRecv key i raw
    else s.postBuf key i raw := by
  simp [State.postEntry, isPad_of_isTagged tagged, tagged, cq, formed]

theorem State.postEntry_trecv (opcode : Ent.opcode raw = 0x11) (passes : s.taggedLocal key raw = Status.ok) :
    s.postEntry key i raw = s.postRecv key i raw := by
  rw [State.postEntry_tagged tagged cq formed, if_neg (by omega), if_neg fun fails => fails passes, if_pos opcode]

theorem State.postEntry_tbuf (opcode : Ent.opcode raw = 0x12) (passes : s.taggedLocal key raw = Status.ok) :
    s.postEntry key i raw = s.postBuf key i raw := by
  rw [State.postEntry_tagged tagged cq formed, if_neg (by omega), if_neg fun fails => fails passes, if_neg (by omega)]

theorem State.postEntry_tcancel (opcode : Ent.opcode raw = 0x13) : s.postEntry key i raw = s.postCancel key i raw := by
  rw [State.postEntry_tagged tagged cq formed, if_pos opcode]

/-- A TRECV or TBUF whose buffer fails R139 completes with that status (R250). -/
theorem State.postEntry_buffer_fails (opcode : Ent.opcode raw ≠ 0x13) (fails : s.taggedLocal key raw ≠ Status.ok) :
    s.postEntry key i raw = s.srqEntryDone key (Tag.cq raw) i raw (s.taggedLocal key raw) := by
  rw [State.postEntry_tagged tagged cq formed, if_neg opcode, if_pos fails]

end Entry

section Row
variable {s u : State} {fn h op raw : Nat} {q : Srq} {i : BitVec 16} (found : Tab.look s.srqs (qkey fn h) = some q)
  (held : q.postHeld = some (i, raw)) (fresh : q.postNew = true) (opcode : Ent.opcode raw = op)
include found held fresh opcode

theorem State.postRow_done (done : s.postEntry (qkey fn h) i raw = some u) :
    s.postRow fn h op = (u.modSrq (qkey fn h) fun q => { q with postHeld := none, postNew := false }).fetchSrq (qkey fn h) := by
  simp [State.postRow, found, held, fresh, opcode, done]

theorem State.postRow_holds (waits : s.postEntry (qkey fn h) i raw = none) :
    s.postRow fn h op = s.holdPost (qkey fn h) i raw := by
  simp [State.postRow, found, held, fresh, opcode, waits]

end Row

/-! ## What a TRECV and a TCANCEL do (R255, R256, R270) -/

/-- A TRECV has taken its post number, and the message that it takes is stored no more (R256). -/
def State.claims (u : State) (key : Nat) (m : Stored) : State :=
  u.modSrq key fun q => { q with postNum := (q.postNum + 1) % 2 ^ 32, stored := q.stored.filter (fun x => x != m) }

/-- A posted receive has the WR_ID that a TCANCEL names (R270). -/
def Posted.cancelledBy (raw : Nat) (p : Posted) : Bool := decide (Ent.wrId p.raw = Tag.cancelId raw)

section Posts
variable {s u v : State} {key raw : Nat} {q : Srq} {i : BitVec 16} (found : Tab.look s.srqs key = some q)
include found

theorem State.postRecv_takes {m : Stored} (waiting : q.waitingFor raw = some m)
    (reserved : s.reserve (key / 65536) (Tag.cq raw) = some u) :
    s.postRecv key i raw = some (((u.claims key m).take key ⟨q.postNum, i, raw⟩ m).2.advanceMatched key
      ((u.claims key m).take key ⟨q.postNum, i, raw⟩ m).1) := by
  simp only [State.postRecv, found, waiting, reserved]
  rfl

theorem State.postRecv_posts (unmatched : q.waitingFor raw = none) (room : s.matchRoom = true) :
    s.postRecv key i raw = some (s.modSrq key fun q' =>
      { q' with postNum := (q'.postNum + 1) % 2 ^ 32, posted := q'.posted ++ [⟨q.postNum, i, raw⟩] }) := by
  simp only [State.postRecv, found, unmatched, room, if_true]

theorem State.postRecv_full (unmatched : q.waitingFor raw = none) (full : s.matchRoom = false) : s.postRecv key i raw = none := by
  simp only [State.postRecv, found, unmatched, full, Bool.false_eq_true, if_false]

/-- A TCANCEL cancels, of the receives with the WR_ID that it names, the one posted first (R270). -/
theorem State.postCancel_eq : s.postCancel key i raw =
    ((q.posted.filter (Posted.cancelledBy raw)).minOn? Posted.post).elim
      (s.srqEntryDone key (Tag.cq raw) i raw Status.aborted)
      fun p => (s.srqEntryDone key (Tag.cq p.raw) p.idx p.raw Status.cancelled).bind fun u =>
        (u.srqEntryDone key (Tag.cq raw) i raw Status.ok).map fun v =>
          v.modSrq key fun q => { q with posted := q.posted.filter (fun x => x.post != p.post) } := by
  unfold State.postCancel
  rw [found]
  dsimp only
  rw [foldl_least_eq_minOn (ok := Posted.cancelledBy raw) (rank := Posted.post) ?step]
  case step =>
    intro best p
    simp only [Posted.cancelledBy, decide_eq_true_eq]
    cases best with
    | none => rfl
    | some b => exact ite_congr rfl (fun _ => keep_unless_below p b) fun _ => rfl
  cases (q.posted.filter (Posted.cancelledBy raw)).minOn? Posted.post with
  | none => rfl
  | some p =>
    dsimp only [Option.elim_some]
    cases s.srqEntryDone key (Tag.cq p.raw) p.idx p.raw Status.cancelled with
    | none => rfl
    | some u =>
      dsimp only [Option.bind_some]
      cases u.srqEntryDone key (Tag.cq raw) i raw Status.ok <;> rfl

end Posts

theorem State.postBuf_reserved {s u : State} {key raw : Nat} {i : BitVec 16} (reserved : s.reserve (key / 65536) (Tag.cq raw) = some u) :
    s.postBuf key i raw = some (u.modSrq key fun q =>
      { q with tbufs := q.tbufs ++ [⟨q.tbufNum, i, raw, 0, false, 0⟩], tbufNum := q.tbufNum + 1 }) := by
  simp only [State.postBuf, reserved]

/-! ## Places in the overflow buffers (R266, R268) -/

/-- A message is placed in the first buffer that is open and has room at its next multiple of 64 bytes (R266). -/
def PlacedIn (len id off : Nat) (bufs : List Tbuf) : Prop :=
  ∃ before b after, bufs = before ++ b :: after ∧ b.id = id ∧ b.closed = false ∧ off = (b.used + 63) / 64 * 64 ∧
    off + len ≤ Ent.len b.raw ∧ ∀ x ∈ before, x.closed = true ∨ Ent.len x.raw < (x.used + 63) / 64 * 64 + len

section Places
variable {len id off : Nat} {b : Tbuf} {bufs : List Tbuf}

theorem PlacedIn.cons (passed : b.closed = true ∨ Ent.len b.raw < (b.used + 63) / 64 * 64 + len)
    (placed : PlacedIn len id off bufs) : PlacedIn len id off (b :: bufs) := by
  obtain ⟨before, c, after, parts, takes⟩ := placed
  refine ⟨b :: before, c, after, by rw [parts, List.cons_append], ?_⟩
  simpa only [List.forall_mem_cons, passed, true_and] using takes

theorem placeIn_some {closed shut : List Nat} (placed : placeIn len bufs closed = some (shut, id, off)) :
    PlacedIn len id off bufs := by
  induction bufs generalizing closed with
  | nil => cases placed
  | cons b bufs ih =>
    unfold placeIn at placed
    split at placed
    next shutBefore => exact (ih placed).cons (.inl shutBefore)
    next isOpen =>
      dsimp only at placed
      split at placed
      next room =>
        cases placed
        exact ⟨[], b, bufs, rfl, rfl, Bool.eq_false_iff.mpr isOpen, rfl, room, fun _ listed => absurd listed List.not_mem_nil⟩
      next full => exact (ih placed).cons (.inr (Nat.lt_of_not_le full))

/-- A message that is stored finds its place in the overflow buffers, and leaves what is posted and stored as it was (R266). -/
theorem Srq.allot_some {q q' : Srq} (allotted : q.allot len = some (id, off, q')) :
    PlacedIn len id off q.tbufs ∧
      q'.tbufs.length = q.tbufs.length ∧ q'.posted = q.posted ∧ q'.stored = q.stored ∧ q'.pool = q.pool := by
  unfold Srq.allot at allotted
  split at allotted
  next => cases allotted
  next placed =>
    cases allotted
    exact ⟨placeIn_some placed, List.length_map .., rfl, rfl, rfl⟩

end Places

/-- Settles O43: the row carries out what its entry's posting answers, kind by kind, and a place is the first open one with room. -/
theorem taggedEntries : Obligations.TaggedEntries := by
  refine ⟨fun s fn h q i raw found held fresh tagged cq formed => ⟨fun opcode passes nothing room => ?_,
    fun m u opcode passes waiting reserved => ?_, fun opcode passes nothing full => ?_, fun u opcode passes reserved => ?_,
    fun u opcode absent done => ?_, fun p u v opcode single same receive cancel => ?_, fun c u row fails done => ?_⟩,
    fun q q' len taker off allotted => ?_⟩
  · exact congrArg Host.Outcome.next (State.postRow_done found held fresh opcode
      ((State.postEntry_trecv tagged cq formed opcode passes).trans (State.postRecv_posts found nothing room)))
  · exact congrArg Host.Outcome.next (State.postRow_done found held fresh opcode
      ((State.postEntry_trecv tagged cq formed opcode passes).trans (State.postRecv_takes found waiting reserved)))
  · exact congrArg Host.Outcome.next (State.postRow_holds found held fresh opcode
      ((State.postEntry_trecv tagged cq formed opcode passes).trans (State.postRecv_full found nothing full)))
  · exact congrArg Host.Outcome.next (State.postRow_done found held fresh opcode
      ((State.postEntry_tbuf tagged cq formed opcode passes).trans (State.postBuf_reserved reserved)))
  · have nothing : (q.posted.filter (Posted.cancelledBy raw)).minOn? Posted.post = none :=
      minOn_filter_none.mpr fun p posted => decide_eq_false (absent p posted)
    refine congrArg Host.Outcome.next (State.postRow_done found held fresh opcode
      ((State.postEntry_tcancel tagged cq formed opcode).trans ?_))
    rw [State.postCancel_eq found, nothing, Option.elim_none, done]
  · have first : (q.posted.filter (Posted.cancelledBy raw)).minOn? Posted.post = some p := by
      simp [single, Posted.cancelledBy, same]
    refine congrArg Host.Outcome.next (State.postRow_done found held fresh opcode
      ((State.postEntry_tcancel tagged cq formed opcode).trans ?_))
    rw [State.postCancel_eq found, first, Option.elim_some, receive, Option.bind_some, cancel, Option.map_some]
  · rcases row with ⟨rfl, opcode⟩ | ⟨rfl, opcode⟩ <;>
      exact congrArg Host.Outcome.next (State.postRow_done found held fresh opcode
        ((State.postEntry_buffer_fails tagged cq formed (by omega) fails).trans done))
  · obtain ⟨placed, unmoved⟩ := Srq.allot_some allotted
    have ⟨_, _, _, _, _, _, aligned, _⟩ := placed
    exact ⟨placed, aligned ▸ Nat.mul_mod_left .., unmoved⟩

end Sys2Proof.Machine
end

section
/-!
SUPPORT. Ledger writes that have a row of their own (R282, R354, R421, R458, R498, R518, R520, R523, R526, R527, R550, R554, R559, R564):
such a write on the management bus, judged, performed and answered; the device reset; the bulk actions.
-/
namespace Sys2Proof.Machine

/-! ## The parameters of these writes -/

/-- The parameters, each of one address, whose write has a row of its own; the bulk action is apart. -/
def ownAddresses : List Nat :=
  [0x206001, 0x206002, 0x710001, 0x710002, 0x820001, 0xC02002, 0x000101, 0x003004, 0xE00001, 0xE10201, 0xE10203, 0xF01006, 0xF01101,
    0x001001, 0xE00003]

/-- The indices all of whose parameters share such a row: the ports to retrain (R421) and the counts of the Tally (R559). -/
def ownIndices : List Nat := [0xB060, 0xF200, 0xF201]

/-- The write of the parameter has a row of its own. -/
abbrev OwnRow (a : Nat) : Prop := a ∈ ownAddresses ∨ a / 256 ∈ ownIndices

theorem staged_rows_apart : Param.rows.all (fun r => !r.staged ||
    (ownAddresses.all (fun a => !r.holds a) && ownIndices.all (fun i => !decide (r.i0 ≤ i ∧ i ≤ r.i1)))) = true := by decide +kernel

theorem ruleParams_not_ownRow : ∀ p ∈ ruleParams, ¬OwnRow p.1 ∧ ¬OwnRow p.2 := by decide

section OwnRow
variable {a : Nat} (own : OwnRow a)
include own

theorem OwnRow.ne_bulk : a ≠ 0x002002 := fun same => absurd (same ▸ own) (by decide)

/-- No rule between parameters speaks of one with a row of its own. -/
theorem OwnRow.rulesCode (s : State) (v : Nat) : s.rulesCode a v = Lres.ok := by
  refine if_pos (List.all_eq_true.mpr fun p listed => ?_)
  obtain ⟨first, second⟩ := ruleParams_not_ownRow p listed
  simp [show p.1 ≠ a from fun same => first (same ▸ own), show p.2 ≠ a from fun same => second (same ▸ own)]

/-- A write of a parameter with a row of its own is not staged: neither for the bell of R32 nor for the next one. -/
theorem OwnRow.not_staged {r : Param} (found : Param.find a = some r) : r.staged = false := by
  have holds : r.holds a = true := List.find?_some (p := (Param.holds · a)) found
  have apart := List.all_eq_true.mp staged_rows_apart r (List.mem_of_find?_eq_some found)
  rw [Bool.or_eq_true, Bool.and_eq_true, Bool.not_eq_true'] at apart
  refine apart.resolve_right fun ⟨addresses, indices⟩ => ?_
  rcases own with address | index
  · simpa [holds] using List.all_eq_true.mp addresses a address
  · have ⟨low, high, _⟩ := of_decide_eq_true holds
    simpa [low, high] using List.all_eq_true.mp indices _ index

end OwnRow

/-! ## The parameters that share a row -/

theorem portRetrain_index {q : Nat} (port : q < 64) : (0xB06001 + q) / 256 ∈ ownIndices := by
  rw [show (0xB06001 + q) / 256 = 0xB060 by omega]
  decide

theorem tallyCount_index {n : Nat} (counter : n < 512) : (0xF20000 + n) / 256 ∈ ownIndices := by
  rw [show (0xF20000 + n) / 256 = 0xF200 + n / 256 by omega]
  have page : n / 256 = 0 ∨ n / 256 = 1 := by omega
  rcases page with page | page <;> rw [page] <;> decide

section Shared
variable {a : Nat} (index : a / 256 ∈ ownIndices)
include index

theorem afterResponse_shared : afterResponse a = false := by
  simp only [ownIndices, List.mem_cons, List.not_mem_nil, or_false] at index
  simp [afterResponse, show a ≠ 0x001001 ∧ a ≠ 0xF80001 ∧ a ≠ 0xE00003 by omega]

theorem State.perform_shared (s : State) (v : Nat) : s.perform a v =
    if a / 256 = 0xB060 then s.retrain (a % 256 - 1)
    else { s with tally := { s.tally with counts := Tab.setNum s.tally.counts (a - 0xF20000) v } } := by
  simp only [ownIndices, List.mem_cons, List.not_mem_nil, or_false] at index
  unfold State.perform
  split
  case h_12 => exact ite_congr rfl (fun _ => rfl) fun other => if_pos (index.resolve_left other)
  all_goals omega

end Shared

theorem State.perform_retrain (s : State) {q : Nat} (v : Nat) (port : q < 64) : s.perform (0xB06001 + q) v = s.retrain q := by
  rw [State.perform_shared (portRetrain_index port), if_pos (by omega)]
  exact congrArg s.retrain (by omega)

theorem State.perform_tallyCount (s : State) {n : Nat} (v : Nat) (counter : n < 512) : s.perform (0xF20000 + n) v =
    { s with tally := { s.tally with counts := Tab.setNum s.tally.counts n v } } := by
  rw [State.perform_shared (tallyCount_index counter), if_neg (by omega), Nat.add_sub_cancel_left]

/-! ## A write judged -/

section Judged
variable {s : State} {pf : Bool} {a : Nat} {data : Bytes}

theorem State.ledgerWrite_malformed (bad : s.writeForm pf a data ≠ Lres.ok) :
    s.ledgerWrite pf a data = (s.writeForm pf a data, 0, s) :=
  State.ledgerWrite_refused (List.find?_cons_of_pos (bne_iff_ne.mpr bad))

variable (own : OwnRow a) (form : s.writeForm pf a data = Lres.ok)
include own form

theorem State.ledgerWrite_ownRow_refused (refuses : s.objectCode a (leNat data) ≠ Lres.ok) :
    s.ledgerWrite pf a data = (s.objectCode a (leNat data), 0, s) := by
  refine State.ledgerWrite_refused ?_
  rw [form, own.rulesCode]
  simp [refuses]

theorem State.ledgerWrite_ownRow (allows : s.objectCode a (leNat data) = Lres.ok) : s.ledgerWrite pf a data =
    (Lres.ok, 0, if afterResponse a then s else s.perform a (leNat data)) := by
  obtain ⟨-, r, found, -⟩ := State.writeForm_ok form
  have unstaged := own.not_staged found
  have right : r.right ≠ .rwBell := fun bell => by simp [Param.staged, bell] at unstaged
  rw [State.ledgerWrite_accepted found form (own.rulesCode s _) allows, State.acceptWrite, if_neg right, unstaged]
  rfl

end Judged

/-! ## A write on its path -/

section Doing
variable {s : State} {via : Via} {a : Nat} {data : Bytes} (own : OwnRow a)
include own

theorem State.doWrite_ownRow_malformed (bad : s.writeForm (viaWrites via) a data ≠ Lres.ok) :
    s.doWrite via a data = s.answer via true a (s.writeForm (viaWrites via) a data) 0 [] :=
  State.doWrite_answers own.ne_bulk (State.ledgerWrite_malformed bad) fun ok => absurd ok bad

variable (form : s.writeForm (viaWrites via) a data = Lres.ok)
include form

theorem State.doWrite_ownRow_refused (refuses : s.objectCode a (leNat data) ≠ Lres.ok) :
    s.doWrite via a data = s.answer via true a (s.objectCode a (leNat data)) 0 [] :=
  State.doWrite_answers own.ne_bulk (State.ledgerWrite_ownRow_refused own form refuses) fun ok => absurd ok refuses

variable (allows : s.objectCode a (leNat data) = Lres.ok)
include allows

theorem State.doWrite_ownRow_performs (now : afterResponse a = false) :
    s.doWrite via a data = (s.perform a (leNat data)).answer via true a Lres.ok 0 [] := by
  refine State.doWrite_answers own.ne_bulk ?_ fun _ => now
  rw [State.ledgerWrite_ownRow own form allows, now]
  rfl

/-- The management key and the device reset are answered before they act (R518, R526). -/
theorem State.doWrite_answers_first (later : afterResponse a = true) : s.doWrite via a data =
    (s.answer via true a Lres.ok 0 []).afterWrite ((s.answer via true a Lres.ok 0 []).resetWait via) a (leNat data) := by
  unfold State.doWrite
  rw [if_neg own.ne_bulk, State.ledgerWrite_ownRow own form allows, later]
  rfl

end Doing

/-! ## The bulk actions (R520) -/

section Bulk
variable {s : State} {via : Via} {data : Bytes}

theorem State.doWrite_bulk_refused {c : Nat} (code : s.bulkRefused (viaWrites via) data = c) (refuses : c ≠ Lres.ok) :
    s.doWrite via 0x002002 data = s.answer via true 0x002002 c 0 [] := by
  subst code
  exact (if_pos rfl).trans (if_pos refuses)

theorem State.doWrite_bulk_image {r : ImageResult} {u : State} (taken : s.bulkRefused (viaWrites via) data = Lres.ok)
    (action : leNat data = 1) (loaded : s.loadImage s.bulkImage = (r, u)) : s.doWrite via 0x002002 data =
      (u.answer via true 0x002002 r.code r.bell []).afterAll ((u.answer via true 0x002002 r.code r.bell []).resetWait via) r.after := by
  unfold State.doWrite
  rw [if_pos rfl, taken, action, loaded]
  rfl

theorem State.doWrite_bulk_begins (taken : s.bulkRefused (viaWrites via) data = Lres.ok) (action : leNat data ≠ 1) :
    s.doWrite via 0x002002 data = s.beginBulk via (leNat data) := by
  unfold State.doWrite
  rw [if_pos rfl, taken]
  exact if_neg action

theorem State.bulkRefused_formed {pf : Bool} (form : s.writeForm pf 0x002002 data = Lres.ok) :
    s.bulkRefused pf data = s.bulkCode (leNat data) := by
  unfold State.bulkRefused
  rw [form]
  rfl

theorem State.bulkCode_idle (v : Nat) (idle : s.clerk.bulkBusy = false) : s.bulkCode v =
    if v = 2 then (if s.life ≠ .sealed then Lres.state else if s.loading then Lres.busy else Lres.ok)
    else if v = 3 then s.stagingCode else Lres.ok := by
  unfold State.bulkCode
  rw [idle]
  rfl

/-- The row of the bulk action. -/
def bulkAction : Param := ⟨0x0020, 0x0020, 0x02, 0x02, .enum, .wo, true, 1, 0, 1, 3, .fixed "ledger.bulk.action"⟩

theorem find_bulkAction : Param.find 0x002002 = some bulkAction := by decide +kernel

/-- The bulk action is of the boot set, so that SEALED takes its write (R494). -/
theorem State.writeForm_bulk_sealed (sealed : s.life = .sealed) : s.writeForm true 0x002002 [2] = Lres.ok := by
  have gate : s.ledgerGate true true 0x002002 = Lres.ok := by
    unfold State.ledgerGate
    simp [find_bulkAction, bulkAction, sealed]
  unfold State.writeForm
  simp only [gate, find_bulkAction]
  decide

end Bulk

/-! ## The path of the management bus (R511, R519) -/

/-- An answer on the bus touches the frames that wait there, the number of responses, and the answers that are kept. -/
theorem State.answer_lap {s : State} (heard : s.lap.silent = false) (src tid : Nat) (write : Bool) (a code bell : Nat) (value : Bytes) :
    ∃ txq kept, s.answer (.lap src tid) write a code bell value =
      { s with lap := { s.lap with txq := txq, resps := s.lap.resps + 1 }, clerk := { s.clerk with kept := kept } } := by
  simp only [State.answer, State.lapAnswer, State.lapQueue, heard]
  exact ⟨_, _, rfl⟩

section Lap
variable {s : State} {src tid : Nat} (lit : s.life ≠ .dark) (heard : s.lap.silent = false) (on : s.lap.off = false)
  (fresh : s.keptAnswer false src tid = none) (free : s.clerk.pausedAt = none)
include lit heard on fresh free

theorem State.viaWrite_lap (a : Nat) (data : Bytes) : s.viaWrite (.lap src tid) a data = s.doWrite (.lap src tid) a data := by
  simp [State.viaWrite, lit, heard, on, fresh, State.access, State.orQueue, free]

/-- A command that is the write of a parameter with a row of its own, and that acts at once: what it does, and its refusals. -/
theorem lapWrite_judged {c : Instr} {a : Nat} {data : Bytes} {f : State → State}
    (row : exec c s = .next (s.viaWrite (.lap src tid) a data)) (own : OwnRow a) (now : afterResponse a = false)
    (does : s.perform a (leNat data) = f s) :
    (s.writeForm true a data = Lres.ok → s.objectCode a (leNat data) = Lres.ok →
      exec c s = .next ((f s).answer (.lap src tid) true a Lres.ok 0 [])) ∧
    (s.writeForm true a data ≠ Lres.ok → exec c s = .next (s.answer (.lap src tid) true a (s.writeForm true a data) 0 [])) ∧
    (s.writeForm true a data = Lres.ok → s.objectCode a (leNat data) ≠ Lres.ok →
      exec c s = .next (s.answer (.lap src tid) true a (s.objectCode a (leNat data)) 0 [])) := by
  rw [row, State.viaWrite_lap lit heard on fresh free, ← does]
  exact ⟨fun form allows => congrArg _ (State.doWrite_ownRow_performs own form allows now),
    fun bad => congrArg _ (State.doWrite_ownRow_malformed (via := .lap src tid) own bad),
    fun form refuses => congrArg _ (State.doWrite_ownRow_refused own form refuses)⟩

/-- The management key is set once the response is queued: the model's choice, where R518 says after it has been sent. -/
theorem mgmtKeyWrite_completes {data : Bytes} (form : s.writeForm true 0x001001 data = Lres.ok) :
    Completes (.mgmtKeyWrite (.lap src tid) data) s fun t =>
      t.clerk.key = leNat data ∧ t.ledger = s.ledger ∧ t.staged = s.staged ∧ t.life = s.life := by
  refine ⟨_, congrArg Host.Outcome.next (State.viaWrite_lap lit heard on fresh free 0x001001 data), ?_⟩
  obtain ⟨txq, kept, answered⟩ := State.answer_lap heard src tid true 0x001001 Lres.ok 0 []
  rw [State.doWrite_answers_first (by decide) form rfl rfl, answered]
  exact ⟨rfl, rfl, rfl, rfl⟩

/-- A device reset asked for on the bus waits until its response has been sent (R526, log 39). -/
theorem deviceReset_lap_completes {data : Bytes} (form : s.writeForm true 0xE00003 data = Lres.ok) :
    Completes (.deviceReset (.lap src tid) data) s fun t =>
      t.power = { s.power with resetAfter := some (.lap s.lap.resps) } ∧ t.life = s.life ∧ t.ledger = s.ledger ∧ t.fns = s.fns := by
  refine ⟨_, congrArg Host.Outcome.next (State.viaWrite_lap lit heard on fresh free 0xE00003 data), ?_⟩
  obtain ⟨txq, kept, answered⟩ := State.answer_lap heard src tid true 0xE00003 Lres.ok 0 []
  rw [State.doWrite_answers_first (by decide) form rfl rfl, answered]
  exact ⟨rfl, rfl, rfl, rfl⟩

variable (idle : s.clerk.bulkBusy = false)
include idle

theorem bulkLoadImage_loads {r : ImageResult} {u : State} (form : s.writeForm true 0x002002 [1] = Lres.ok)
    (loaded : s.loadImage s.bulkImage = (r, u)) : exec (.bulkLoadImage (.lap src tid)) s =
      .next ((u.answer (.lap src tid) true 0x002002 r.code r.bell []).afterAll
        ((u.answer (.lap src tid) true 0x002002 r.code r.bell []).resetWait (.lap src tid)) r.after) := by
  have taken : s.bulkRefused true [1] = Lres.ok := by
    rw [State.bulkRefused_formed form, State.bulkCode_idle _ idle]
    rfl
  exact congrArg _ ((State.viaWrite_lap lit heard on fresh free ..).trans (State.doWrite_bulk_image taken rfl loaded))

theorem bulkLoadFirmware_begins (sealed : s.life = .sealed) (unloaded : s.clerk.loader = none) :
    exec (.bulkLoadFirmware (.lap src tid)) s =
      .next { s with clerk := { s.clerk with loader := some (.bulk (.lap src tid)), bulkBusy := true } } := by
  have taken : s.bulkRefused true [2] = Lres.ok := by
    rw [State.bulkRefused_formed (State.writeForm_bulk_sealed sealed), State.bulkCode_idle _ idle, sealed, State.loading, unloaded]
    rfl
  exact congrArg _ ((State.viaWrite_lap lit heard on fresh free ..).trans (State.doWrite_bulk_begins taken (by decide)))

theorem bulkLoadFirmware_unsealed (unsealed : s.life ≠ .sealed) (form : s.writeForm true 0x002002 [2] = Lres.ok) :
    exec (.bulkLoadFirmware (.lap src tid)) s = .next (s.answer (.lap src tid) true 0x002002 Lres.state 0 []) := by
  have refused : s.bulkRefused true [2] = Lres.state := by
    rw [State.bulkRefused_formed form, State.bulkCode_idle _ idle]
    exact if_pos unsealed
  exact congrArg _ ((State.viaWrite_lap lit heard on fresh free ..).trans (State.doWrite_bulk_refused refused (by decide)))

theorem bulkStageFirmware_begins (form : s.writeForm true 0x002002 [3] = Lres.ok) (may : s.stagingCode = Lres.ok) :
    exec (.bulkStageFirmware (.lap src tid)) s =
      .next { s with clerk := { s.clerk with loader := some (.bulk (.lap src tid)), bulkBusy := true, staged := 1 } } := by
  have taken : s.bulkRefused true [3] = Lres.ok := by
    rw [State.bulkRefused_formed form, State.bulkCode_idle _ idle]
    exact may
  exact congrArg _ ((State.viaWrite_lap lit heard on fresh free ..).trans (State.doWrite_bulk_begins taken (by decide)))

end Lap

/-! ## A device reset through a mailbox (R526) -/

/-- What a device reset leaves: everything at its reset value but the fault log; PWRFAIL_N low takes the part on to SHUT. -/
theorem State.deviceReset_leaves (s : State) : s.deviceReset.life = (if s.power.pwrfail then .shut else .sealed) ∧
    s.deviceReset.ledger = [] ∧ s.deviceReset.keys = [] ∧ s.deviceReset.qps = [] ∧ s.deviceReset.staged = [] ∧
    s.deviceReset.hostA.state = .reset ∧ s.deviceReset.hostB.state = .reset ∧ s.deviceReset.fns = [] ∧
    s.deviceReset.beadle.log = s.beadle.log := by
  unfold State.deviceReset State.resetReleased
  rw [State.notice_rest]
  cases low : s.power.pwrfail with
  | false =>
    rw [if_neg (by simp [State.cleared, low])]
    exact ⟨rfl, rfl, rfl, rfl, rfl, rfl, rfl, rfl, rfl⟩
  | true =>
    rw [if_pos (by simp [State.cleared, low])]
    unfold State.toShut
    rw [State.enterLife_rest]
    exact ⟨rfl, rfl, rfl, rfl, rfl, rfl, rfl, rfl, rfl⟩

theorem State.modMailbox_reachableFn (s : State) (fn : Nat) (f : Mailbox → Mailbox) :
    (s.modMailbox fn f).reachableFn fn = s.reachableFn fn := by
  simp [State.reachableFn, State.modMailbox, State.fnExists]

/-- A mailbox in which a write of a parameter runs: the registers that it sets, and its request. -/
def Mailbox.writes (a : Nat) (data : Bytes) (seq : Nat) (m : Mailbox) : Mailbox :=
  Mailbox.submitted data.length seq 2 (({ m with addr := a } : Mailbox).put data)

theorem State.viaWrite_mailbox {s : State} {fn : Nat} (reach : s.reachableFn fn = true) (idle : (s.fn fn).mailbox.running = false)
    (free : s.clerk.pausedAt = none) (seq a : Nat) (data : Bytes) : s.viaWrite (.mailbox fn seq) a data =
      (s.modMailbox fn (Mailbox.writes a data seq)).doWrite (.mailbox fn seq) a data := by
  unfold State.viaWrite
  dsimp only
  rw [if_neg (by simp [idle]), if_pos reach, State.submit_idle ((s.modMailbox_reachableFn ..).trans reach) _ _ _ _
    (by rw [State.modMailbox_mailbox]; exact idle), State.modMailbox_modMailbox, State.modMailbox_modMailbox]
  exact if_neg (by rw [State.modMailbox, State.setFn_clerk, free]; decide)

/-- A device reset asked for through a mailbox is made at once (log 39), whatever its answer left there. -/
theorem deviceReset_mailbox_completes {s : State} {fn : Nat} {data : Bytes} (pf : fnIsPf fn = true) (reach : s.reachableFn fn = true)
    (idle : (s.fn fn).mailbox.running = false) (free : s.clerk.pausedAt = none) (seq : Nat)
    (form : s.writeForm true 0xE00003 data = Lres.ok) : Completes (.deviceReset (.mailbox fn seq) data) s fun t =>
      t.life = (if s.power.pwrfail then .shut else .sealed) ∧ t.ledger = [] ∧ t.keys = [] ∧ t.qps = [] ∧ t.staged = [] ∧
      t.hostA.state = .reset ∧ t.hostB.state = .reset ∧ t.fns = [] ∧ t.beadle.log = s.beadle.log := by
  refine ⟨_, congrArg Host.Outcome.next (State.viaWrite_mailbox reach idle free seq 0xE00003 data), ?_⟩
  rw [State.doWrite_answers_first (by decide) (by rw [State.modMailbox_writeForm, viaWrites, pf]; exact form) rfl rfl,
    State.answer_mailbox _ _ _ _ _ _ (by rw [State.modMailbox_mailbox]; rfl)]
  exact State.deviceReset_leaves _

/-- Settles O45: every row is the write of its parameter, judged, performed and answered, and the bulk actions are judged apart. -/
theorem ledgerCommandWrites : Obligations.LedgerCommandWrites := by
  intro s src tid data lit heard on fresh free
  refine ⟨fun c a f row => ?_, mgmtKeyWrite_completes lit heard on fresh free, deviceReset_lap_completes lit heard on fresh free,
    fun fn seq pf reach idle form => deviceReset_mailbox_completes pf reach idle free seq form,
    fun r u form idle loaded => bulkLoadImage_loads lit heard on fresh free idle form loaded,
    fun sealed idle unloaded => bulkLoadFirmware_begins lit heard on fresh free idle sealed unloaded,
    fun unsealed idle form => bulkLoadFirmware_unsealed lit heard on fresh free idle unsealed form,
    fun form idle may => bulkStageFirmware_begins lit heard on fresh free idle form may⟩
  have ⟨command, own, now, does⟩ : exec c s = .next (s.viaWrite (.lap src tid) a data) ∧ OwnRow a ∧ afterResponse a = false ∧
      s.perform a (leNat data) = f s := by
    rcases row with row | row | row | row | row | ⟨q, port, rfl, rfl, rfl⟩ | row | row | row | row | row | row |
      ⟨n, counter, rfl, rfl, rfl⟩ | row | row
    any_goals
      obtain ⟨rfl, rfl, rfl⟩ := row
      exact ⟨rfl, by decide, rfl, rfl⟩
    · exact ⟨rfl, .inr (portRetrain_index port), afterResponse_shared (portRetrain_index port), s.perform_retrain _ port⟩
    · exact ⟨rfl, .inr (tallyCount_index counter), afterResponse_shared (tallyCount_index counter), s.perform_tallyCount _ counter⟩
  exact lapWrite_judged lit heard on fresh free command own now does

end Sys2Proof.Machine
end

section
/-!
SUPPORT. The packets of a message (R318): where they start and end, that they follow one another without a gap up to the message's end,
and that they pass the range check of their receiver (R323).
-/
namespace Sys2Proof.Machine

section Cut
variable {t raddr len off n : Nat}

/-! ## Starts and ends of packets -/

/-- The bytes from the last break of R318 to an offset. -/
def breakPhase (t raddr off : Nat) : Nat := (if breaksByAddress t then raddr + off else off) % 4096

theorem breakPhase_lt : breakPhase t raddr off < 4096 := Nat.mod_lt _ (by decide)

theorem breakPhase_eq_zero_iff :
    breakPhase t raddr off = 0 ↔ if breaksByAddress t then (raddr + off) % 4096 = 0 else off % 4096 = 0 := by
  unfold breakPhase
  split <;> rfl

theorem breakPhase_next_break : breakPhase t raddr (off + (4096 - breakPhase t raddr off)) = 0 := by
  unfold breakPhase
  split <;> omega

theorem packetEnd_eq_min : packetEnd t raddr off len = min len (off + (4096 - breakPhase t raddr off)) := by
  unfold packetEnd breakPhase
  split
  · rfl
  · omega

theorem lt_packetEnd (room : off < len) : off < packetEnd t raddr off len := by
  have short := breakPhase_lt (t := t) (raddr := raddr) (off := off)
  rw [packetEnd_eq_min]
  omega

theorem packetEnd_le_len : packetEnd t raddr off len ≤ len := packetEnd_eq_min ▸ Nat.min_le_left ..

theorem packetEnd_le_add : packetEnd t raddr off len ≤ off + 4096 := by
  rw [packetEnd_eq_min]
  omega

/-- A packet starts at the message's start or at a break. -/
def PacketStart (t raddr off : Nat) : Prop := off = 0 ∨ breakPhase t raddr off = 0

theorem packetEnd_starts_or_ends :
    PacketStart t raddr (packetEnd t raddr off len) ∨ len ≤ packetEnd t raddr off len := by
  rw [packetEnd_eq_min]
  rcases Nat.le_total len (off + (4096 - breakPhase t raddr off)) with last | more
  · exact .inr (Nat.le_of_eq (Nat.min_eq_left last).symm)
  · rw [Nat.min_eq_right more]
    exact .inl (.inr breakPhase_next_break)

/-! ## The packets from an offset -/

theorem cutFrom_of_le (ended : len ≤ off) : cutFrom t raddr len n off = [] := by
  cases n with
  | zero => rfl
  | succ n => exact if_pos ended

theorem cutFrom_of_lt (room : off < len) : cutFrom t raddr len (n + 1) off =
    (off, packetEnd t raddr off len - off) :: cutFrom t raddr len n (packetEnd t raddr off len) :=
  if_neg (Nat.not_le.mpr room)

theorem cutFrom_head : ∀ x ∈ (cutFrom t raddr len n off).head?, x.1 = off := by
  intro x head
  cases n with
  | zero => simp [cutFrom] at head
  | succ n =>
    rcases Nat.lt_or_ge off len with room | ended
    · rw [cutFrom_of_lt room, List.head?_cons, Option.mem_some] at head
      exact head ▸ rfl
    · simp [cutFrom_of_le ended] at head

/-- Every packet begins inside the message, where a packet may start, and ends where R318 says. -/
theorem cutFrom_mem (start : PacketStart t raddr off ∨ len ≤ off) : ∀ x ∈ cutFrom t raddr len n off,
    x.1 < len ∧ PacketStart t raddr x.1 ∧ x.1 + x.2 = packetEnd t raddr x.1 len := by
  induction n generalizing off with
  | zero => exact fun x listed => absurd listed List.not_mem_nil
  | succ n ih =>
    rcases Nat.lt_or_ge off len with room | ended
    · have here := start.resolve_right (Nat.not_le.mpr room)
      rw [cutFrom_of_lt room, List.forall_mem_cons]
      exact ⟨⟨room, here, Nat.add_sub_cancel' (Nat.le_of_lt (lt_packetEnd room))⟩, ih packetEnd_starts_or_ends⟩
    · simp [cutFrom_of_le ended]

theorem cutFrom_contiguous (i : Nat) (x y : Nat × Nat) : (cutFrom t raddr len n off)[i]? = some x →
    (cutFrom t raddr len n off)[i + 1]? = some y → y.1 = x.1 + x.2 := by
  induction n generalizing off i with
  | zero => exact fun absent => nomatch absent
  | succ n ih =>
    rcases Nat.lt_or_ge off len with room | ended
    · rw [cutFrom_of_lt room, List.getElem?_cons_succ]
      intro here next
      cases i with
      | zero =>
        obtain rfl := Option.some.inj here
        have starts : y.1 = packetEnd t raddr off len := cutFrom_head y (List.head?_eq_getElem?.trans next)
        exact starts.trans (Nat.add_sub_cancel' (Nat.le_of_lt (lt_packetEnd room))).symm
      | succ i => exact ih i here next
    · rw [cutFrom_of_le ended]
      exact fun absent => nomatch absent

/-- The packets reach the end of the message where they are enough, each break counted from the last one before the offset. -/
theorem cutFrom_sum (enough : len + breakPhase t raddr off ≤ off + 4096 * n) :
    ((cutFrom t raddr len n off).map (·.2)).sum = len - off := by
  induction n generalizing off with
  | zero => exact (Nat.sub_eq_zero_of_le (by omega)).symm
  | succ n ih =>
    rcases Nat.lt_or_ge off len with room | ended
    · have short := breakPhase_lt (t := t) (raddr := raddr) (off := off)
      have forward := lt_packetEnd (t := t) (raddr := raddr) room
      have inside := packetEnd_le_len (t := t) (raddr := raddr) (off := off) (len := len)
      have rest : ((cutFrom t raddr len n (packetEnd t raddr off len)).map (·.2)).sum = len - packetEnd t raddr off len := by
        rcases Nat.le_total len (off + (4096 - breakPhase t raddr off)) with last | more
        · have ends : packetEnd t raddr off len = len := packetEnd_eq_min.trans (Nat.min_eq_left last)
          simp [ends, cutFrom_of_le]
        · rw [packetEnd_eq_min, Nat.min_eq_right more]
          apply ih
          rw [breakPhase_next_break]
          omega
      rw [cutFrom_of_lt room, List.map_cons, List.sum_cons, rest]
      omega
    · rw [cutFrom_of_le ended]
      exact (Nat.sub_eq_zero_of_le ended).symm

/-! ## The packets of a message -/

theorem cutMessage_empty : cutMessage t raddr 0 = [(0, 0)] := rfl

theorem cutMessage_of_ne_zero (bytes : len ≠ 0) : cutMessage t raddr len = cutFrom t raddr len (ceilDiv len 4096 + 1) 0 := if_neg bytes

theorem cutMessage_sum : ((cutMessage t raddr len).map (·.2)).sum = len := by
  by_cases bytes : len = 0
  · simp [bytes, cutMessage_empty]
  · rw [cutMessage_of_ne_zero bytes]
    refine cutFrom_sum ?_
    have short := breakPhase_lt (t := t) (raddr := raddr) (off := 0)
    unfold ceilDiv
    omega

theorem cutMessage_head : (cutMessage t raddr len).head?.map (·.1) = some 0 := by
  by_cases bytes : len = 0
  · simp [bytes, cutMessage_empty]
  · rw [cutMessage_of_ne_zero bytes, cutFrom_of_lt (Nat.pos_of_ne_zero bytes)]
    rfl

/-- A packet of an empty message is empty; any other is one that R318 cuts. -/
theorem cutMessage_mem {x : Nat × Nat} (listed : x ∈ cutMessage t raddr len) : PacketStart t raddr x.1 ∧
    (len = 0 ∧ x = (0, 0) ∨ x.1 < len ∧ x.1 + x.2 = packetEnd t raddr x.1 len) := by
  by_cases bytes : len = 0
  · subst bytes
    obtain rfl := List.mem_singleton.mp listed
    exact ⟨.inl rfl, .inl ⟨rfl, rfl⟩⟩
  · rw [cutMessage_of_ne_zero bytes] at listed
    obtain ⟨inside, start, stop⟩ := cutFrom_mem (.inl (.inl rfl)) x listed
    exact ⟨start, .inr ⟨inside, stop⟩⟩

theorem cutMessage_packet_length {x : Nat × Nat} (listed : x ∈ cutMessage t raddr len) : x.2 ≤ 4096 ∧ (len ≠ 0 → 0 < x.2) := by
  obtain ⟨-, ⟨rfl, rfl⟩ | ⟨inside, stop⟩⟩ := cutMessage_mem listed
  · exact ⟨by decide, fun bytes => absurd rfl bytes⟩
  · have forward := lt_packetEnd (t := t) (raddr := raddr) inside
    have short := packetEnd_le_add (t := t) (raddr := raddr) (off := x.1) (len := len)
    omega

theorem cutMessage_contiguous (i : Nat) (x y : Nat × Nat) : (cutMessage t raddr len)[i]? = some x →
    (cutMessage t raddr len)[i + 1]? = some y → y.1 = x.1 + x.2 := by
  by_cases bytes : len = 0
  · subst bytes
    exact fun _ absent => nomatch absent
  · rw [cutMessage_of_ne_zero bytes]
    exact cutFrom_contiguous i x y

/-! ## The range check (R323) -/

/-- The check puts RADDR at 0 for a type that breaks by its offset, where it does not matter. -/
theorem packetEnd_raddr_of_breaks : packetEnd t (if breaksByAddress t then raddr else 0) off len = packetEnd t raddr off len := by
  unfold packetEnd
  split <;> rfl

theorem Packet.rangeOk_of_cut {p : Packet} (ranged : rangeType p.ptype = true)
    (cut : (Packet.offset p, p.payload.length) ∈ cutMessage p.ptype (Packet.raddr p) (Packet.msgLen p)) :
    Packet.rangeOk p = true := by
  obtain ⟨start, ⟨noBytes, empty⟩ | ⟨inside, stop⟩⟩ := cutMessage_mem cut
  · obtain ⟨first, nothing⟩ := Prod.mk.inj empty
    simp [Packet.rangeOk, ranged, noBytes, first, nothing]
  · have fits : Packet.offset p + p.payload.length ≤ Packet.msgLen p := stop ▸ packetEnd_le_len
    have bytes : Packet.msgLen p ≠ 0 := Nat.ne_zero_of_lt inside
    rw [PacketStart, breakPhase_eq_zero_iff] at start
    simp only [Packet.rangeOk, ranged, if_true, packetEnd_raddr_of_breaks, if_neg bytes, Bool.and_eq_true]
    refine ⟨decide_eq_true fits, ⟨decide_eq_true inside, ?_⟩, beq_iff_eq.mpr stop⟩
    cases byAddress : breaksByAddress p.ptype <;> simpa [byAddress] using start

end Cut

/-- Settles O32: by induction on the packets, each from the break where the one before it ends. -/
theorem packetsCoverTheMessage : Obligations.PacketsCoverTheMessage := by
  intro t raddr len
  refine ⟨cutMessage_sum, cutMessage_head, fun x listed => ?_, cutMessage_contiguous, ?_⟩
  · obtain ⟨short, filled⟩ := cutMessage_packet_length listed
    exact ⟨short, filled, (cutMessage_mem listed).1.imp_right breakPhase_eq_zero_iff.mp⟩
  · rintro p ranged rfl rfl rfl cut
    exact Packet.rangeOk_of_cut ranged cut

end Sys2Proof.Machine
end

section
/-!
SUPPORT. In-band management (R325, R326, R516, R517, R519): the answers that the Clerk keeps, and the rows of a request and of a
response.
-/
namespace Sys2Proof.Machine

/-! ## The answers that are kept (R519) -/

section Keep
variable {s : State} {k : Kpt}

/-- An answer to the requester of another. -/
def Kpt.sameRequester (k x : Kpt) : Bool := x.inband == k.inband && x.requester == k.requester

/-- The kept answers that a new one does not take the place of. -/
def State.keptUnreplaced (s : State) (k : Kpt) : List Kpt :=
  s.clerk.kept.filter (fun x => !(k.sameRequester x && x.ident == k.ident))

/-- The kept answers that stay beside a new one, as far as its own requester has it: the last 15 of that requester, all of others. -/
def State.keptBeside (s : State) (k : Kpt) : List Kpt :=
  (s.keptUnreplaced k).filter (fun x => !k.sameRequester x || (((s.keptUnreplaced k).filter k.sameRequester).take 15).contains x)

/-- The 256 requesters answered last, a new answer's own among them; the answers of the others are forgotten (log 40). -/
def State.keptRequesters (s : State) (k : Kpt) : List (Bool × Nat) :=
  (((k :: s.keptBeside k).map (fun x => (x.inband, x.requester))).eraseDups).take 256

theorem State.keep_eq_filter (s : State) (k : Kpt) : (s.keep k).clerk.kept =
    (k :: s.keptBeside k).filter (fun x => (s.keptRequesters k).contains (x.inband, x.requester)) := rfl

/-- The new answer is kept first, whatever requesters the limit of 256 leaves out behind it. -/
theorem State.keep_puts_first (s : State) (k : Kpt) :
    ∃ listed : Kpt → Bool, (s.keep k).clerk.kept = k :: (s.keptBeside k).filter listed := by
  have own : (s.keptRequesters k).contains (k.inband, k.requester) = true := by
    simp [State.keptRequesters, List.eraseDups_cons]
  exact ⟨_, (s.keep_eq_filter k).trans (List.filter_cons_of_pos own)⟩

theorem State.keptBeside_subset : s.keptBeside k ⊆ s.clerk.kept :=
  fun _ beside => (List.mem_filter.mp (List.mem_filter.mp beside).1).1

theorem State.keptAnswer_keep (now : k.at_ = s.ticks) : (s.keep k).keptAnswer k.inband k.requester k.ident = some k := by
  obtain ⟨listed, kept⟩ := s.keep_puts_first k
  have recent : (s.keep k).ticks ≤ k.at_ + (s.keep k).param 0x001003 := now ▸ Nat.le_add_right ..
  rw [State.keptAnswer, kept]
  exact List.find?_cons_of_pos (by simp [recent])

theorem State.mem_keep {x : Kpt} (member : x ∈ (s.keep k).clerk.kept) : x = k ∨ x ∈ s.clerk.kept := by
  obtain ⟨listed, kept⟩ := s.keep_puts_first k
  rw [kept, List.mem_cons] at member
  exact member.imp_right fun beside => State.keptBeside_subset (List.mem_filter.mp beside).1

/-- Beside a new answer at most 15 of its requester stay, where none was kept twice. -/
theorem State.keptBeside_same_length (distinct : s.clerk.kept.Nodup) : ((s.keptBeside k).filter k.sameRequester).length ≤ 15 := by
  have among : (s.keptBeside k).filter k.sameRequester ⊆ ((s.keptUnreplaced k).filter k.sameRequester).take 15 := by
    intro x member
    obtain ⟨beside, same⟩ := List.mem_filter.mp member
    simpa [same] using (List.mem_filter.mp beside).2
  have once : ((s.keptBeside k).filter k.sameRequester).Nodup := ((distinct.filter _).filter _).filter _
  exact Nat.le_trans (List.Nodup.length_le_of_subset once among) (List.length_take_le ..)

theorem State.keep_same_count (distinct : s.clerk.kept.Nodup) : countP k.sameRequester (s.keep k).clerk.kept ≤ 16 := by
  obtain ⟨listed, kept⟩ := s.keep_puts_first k
  calc countP k.sameRequester (s.keep k).clerk.kept
    _ ≤ (((s.keptBeside k).filter listed).filter k.sameRequester).length + 1 := by
      simp [countP, kept, Kpt.sameRequester]
    _ ≤ ((s.keptBeside k).filter k.sameRequester).length + 1 :=
      Nat.succ_le_succ (List.filter_sublist.filter k.sameRequester).length_le
    _ ≤ 16 := Nat.succ_le_succ (State.keptBeside_same_length distinct)

end Keep

/-! ## Requests and responses -/

section Rows
variable {s : State} {p : Packet} (opened : s.life.opened = true) (sound : Packet.arrivalCheck p = 0)
include opened sound

theorem State.packetRow_sound {t : Nat} (type : p.ptype = t) (go : State → State) : s.packetRow p t go = .next (go (s.without p)) := by
  unfold State.packetRow
  rw [if_pos type, State.checked_sound opened sound]

/-- A response is kept for software: the model's choice, where R325 says only that it comes. -/
theorem mgmtResp_keeps (port : Nat) (type : p.ptype = 0x41) : exec (.mgmtResp port p) s =
    .next { s.without p with clerk := { s.clerk with responses := s.clerk.responses ++ [p] } } :=
  State.packetRow_sound opened sound type _

variable (port : Nat) (type : p.ptype = 0x40)
include type

theorem mgmtReq_discarded (refused : s.flag 0x001002 = false ∨ Packet.ext p 0x28 0 64 ≠ s.clerk.key) :
    exec (.mgmtReq port p) s = .next ((s.without p).count Event.mgmtDiscard anyUnit 1) :=
  (State.packetRow_sound opened sound type _).trans (congrArg _ (if_pos (by
    show (!s.flag 0x001002 || Packet.ext p 0x28 0 64 != s.clerk.key) = true
    simpa using refused)))

variable (enabled : s.flag 0x001002 = true) (key : Packet.ext p 0x28 0 64 = s.clerk.key)
include enabled key

/-- A request that is let in is answered from the kept answers, or goes to the Clerk. -/
theorem mgmtReq_admitted : exec (.mgmtReq port p) s = .next
    (match s.keptAnswer true p.srcDev (Packet.ext p 0x30 16 16) with
      | some k => match k.packet with
        | some r => (s.without p).sendPacket r
        | none => s.without p
      | none => (s.without p).orQueue (.request port p) (fun s => s.doRequest port p)) :=
  (State.packetRow_sound opened sound type _).trans (congrArg _ (if_neg (by
    show ¬ (!s.flag 0x001002 || Packet.ext p 0x28 0 64 != s.clerk.key) = true
    simp [enabled, key])))

theorem mgmtReq_repeated {k : Kpt} {r : Packet} (kept : s.keptAnswer true p.srcDev (Packet.ext p 0x30 16 16) = some k)
    (response : k.packet = some r) : exec (.mgmtReq port p) s = .next ((s.without p).sendPacket r) := by
  simp only [mgmtReq_admitted opened sound port type enabled key, kept, response]

variable (fresh : s.keptAnswer true p.srcDev (Packet.ext p 0x30 16 16) = none)
include fresh

theorem mgmtReq_new : exec (.mgmtReq port p) s = .next ((s.without p).orQueue (.request port p) (fun s => s.doRequest port p)) := by
  simp only [mgmtReq_admitted opened sound port type enabled key, fresh]

/-- During a changeover a request waits (R523). -/
theorem mgmtReq_waits {t : Nat} (paused : s.clerk.pausedAt = some t) : exec (.mgmtReq port p) s =
    .next { s.without p with clerk := { s.clerk with queue := s.clerk.queue ++ [.request port p] } } :=
  (mgmtReq_new opened sound port type enabled key fresh).trans (congrArg _ (if_pos (Option.isSome_of_eq_some paused)))

theorem mgmtReq_performed (free : s.clerk.pausedAt = none) : exec (.mgmtReq port p) s = .next ((s.without p).doRequest port p) :=
  (mgmtReq_new opened sound port type enabled key fresh).trans (congrArg _ (if_neg (by
    show ¬ s.clerk.pausedAt.isSome = true
    simp [free])))

end Rows

/-- A payload that cannot be parsed is answered FORMAT with COUNT = 0 (R516; what counts as malformed: log 41). -/
theorem State.doRequest_malformed (s : State) (port : Nat) {p : Packet} (bad : mgmtParse p.payload = none) :
    s.doRequest port p = s.mgmtAnswer (s.mgmtPacket port p Lres.format 0 []) := by
  simp only [State.doRequest, bad]

theorem State.doRequest_parsed (s : State) (port : Nat) {p : Packet} {l : List MgmtRec} (parsed : mgmtParse p.payload = some l) :
    s.doRequest port p = s.runRequest ⟨port, p, [], 0, []⟩ l := by
  simp only [State.doRequest, parsed]

/-- Settles O48: what a new answer leaves among the kept ones, and the row of a request by its key, its repeat and its parse. -/
theorem inbandRequests : Obligations.InbandRequests := by
  refine ⟨fun s k now => ⟨State.keptAnswer_keep now, fun x => State.mem_keep, State.keep_same_count⟩,
    fun s port p opened sound => ⟨mgmtReq_discarded opened sound port, fun k r type enabled key kept response =>
      mgmtReq_repeated opened sound port type enabled key kept response, fun type enabled key fresh => ⟨fun t paused =>
      mgmtReq_waits opened sound port type enabled key fresh paused, fun free bad => ?_, fun l free parsed => ?_⟩,
    mgmtResp_keeps opened sound port⟩⟩
  · rw [mgmtReq_performed opened sound port type enabled key fresh free, State.doRequest_malformed _ port bad]
  · rw [mgmtReq_performed opened sound port type enabled key fresh free, State.doRequest_parsed _ port parsed]

end Sys2Proof.Machine
end

section
/-!
SUPPORT. The Arcade (R329, R334, R342, R343, R346, R347, R530): the ports that a choice of an output draws on, what each of its steps
can answer, and the rows of the Arcade's commands.
-/
namespace Sys2Proof.Machine

/-! ## Ports that a packet may leave by (R329, R334, R343) -/

/-- A usable port at which a packet's ESC stays within its cap. -/
def State.Admits (s : State) (p : Packet) (q : Nat) (detour : Bool) : Prop := s.usable q = true ∧ s.escAfter p q detour ≤ escCap p

/-- The minimal ports that a choice takes into account. -/
def State.minPorts (s : State) (p : Packet) (t : Nat) : List Nat :=
  (s.usableIn (Route.min (s.tableEntry t))).filter (fun q => decide (s.escAfter p q false ≤ escCap p))

/-- The detour ports that a choice takes into account: LOCAL ones, and only toward a target in the own group. -/
def State.detourPorts (s : State) (p : Packet) (t : Nat) : List Nat :=
  if devGroup t = devGroup s.deviceId then
    (s.usableIn (Route.detour (s.tableEntry t))).filter (fun q => s.portClass q == 1 && decide (s.escAfter p q true ≤ escCap p))
  else []

section Ports
variable {s : State} {p : Packet} {t q : Nat}

theorem State.usable_of_mem_usableIn {mask : Nat} (listed : q ∈ s.usableIn mask) : s.usable q = true := (List.mem_filter.mp listed).2

theorem State.mem_minPorts :
    q ∈ s.minPorts p t ↔ q ∈ s.usableIn (Route.min (s.tableEntry t)) ∧ s.escAfter p q false ≤ escCap p := by
  rw [State.minPorts, List.mem_filter, decide_eq_true_iff]

theorem State.admits_of_mem_minPorts (listed : q ∈ s.minPorts p t) : s.Admits p q false :=
  have ⟨inMask, within⟩ := State.mem_minPorts.mp listed
  ⟨State.usable_of_mem_usableIn inMask, within⟩

theorem State.admits_of_mem_detourPorts (listed : q ∈ s.detourPorts p t) : s.Admits p q true := by
  unfold State.detourPorts at listed
  split at listed
  · obtain ⟨inMask, meets⟩ := List.mem_filter.mp listed
    exact ⟨State.usable_of_mem_usableIn inMask, of_decide_eq_true (Bool.and_eq_true_iff.mp meets).2⟩
  · cases listed

end Ports

/-! ## A port taken from a list (R343, R348) -/

theorem selectPort_mem {m : List Nat} (nonempty : m ≠ []) (h : Nat) : selectPort m h ∈ m := by
  have inside : h % m.length < m.length := Nat.mod_lt _ (List.length_pos_iff.mpr nonempty)
  rw [selectPort, nth, List.getD_eq_getElem?_getD, List.getElem?_eq_getElem inside]
  exact List.getElem_mem inside

theorem State.seenPrice_le (s : State) (q slice at_ : Nat) : s.seenPrice q slice at_ ≤ 255 := by
  unfold State.seenPrice
  split
  · exact Nat.le_refl _
  · split
    · exact Nat.le_refl _
    · split
      · exact Nat.le_refl _
      · exact Nat.le_of_lt_succ (bits_lt _ _ 0 8)

/-- A cost is the sum of two prices of at most 255. -/
theorem State.cost_le (s : State) (q t : Nat) : s.cost q t ≤ 510 := by
  have own : s.livePrice q ≤ 255 := Nat.min_le_left _ _
  unfold State.cost
  extract_lets neighbour
  refine Nat.add_le_add (d := 255) own ?_
  split
  · exact Nat.zero_le _
  · split
    · exact State.seenPrice_le ..
    · exact State.seenPrice_le ..

/-- The least cost of the ports of a list, as the search for a cheapest port finds it. -/
def State.leastCost (s : State) (m : List Nat) (t : Nat) : Nat :=
  (m.map (fun q => (q, s.cost q t))).foldl (fun a x => min a x.2) 65535

/-- The ports of a list between which a tie is broken. -/
def State.tiedPorts (s : State) (m : List Nat) (t : Nat) : List Nat :=
  ((m.map (fun q => (q, s.cost q t))).filter (fun x => x.2 == s.leastCost m t)).map Prod.fst

section Cheapest
variable {s : State} {m : List Nat} {t : Nat}

theorem State.mem_tiedPorts {q : Nat} : q ∈ s.tiedPorts m t ↔ q ∈ m ∧ s.cost q t = s.leastCost m t := by
  constructor
  · intro tied
    obtain ⟨x, kept, rfl⟩ := List.mem_map.mp tied
    obtain ⟨priced, least⟩ := List.mem_filter.mp kept
    obtain ⟨a, listed, rfl⟩ := List.mem_map.mp priced
    exact ⟨listed, eq_of_beq least⟩
  · rintro ⟨listed, least⟩
    exact List.mem_map.mpr ⟨(q, s.cost q t), List.mem_filter.mpr ⟨List.mem_map.mpr ⟨q, listed, rfl⟩, beq_iff_eq.mpr least⟩, rfl⟩

theorem State.leastCost_eq_min : s.leastCost m t = min 65535 ((m.map (s.cost · t)).min?.getD 65535) := by
  rw [State.leastCost, ← List.foldl_min, List.foldl_map, List.foldl_map]

/-- Some port of a list has its least cost: no cost reaches the bound from which the search starts. -/
theorem State.tiedPorts_ne_nil (nonempty : m ≠ []) : s.tiedPorts m t ≠ [] := by
  obtain ⟨c, least⟩ := Option.isSome_iff_exists.mp (List.isSome_min?_of_ne_nil (mt List.map_eq_nil_iff.mp nonempty : m.map (s.cost · t) ≠ []))
  obtain ⟨q, listed, rfl⟩ := List.mem_map.mp (List.min?_mem least)
  refine List.ne_nil_of_mem (State.mem_tiedPorts.mpr ⟨listed, ?_⟩)
  rw [State.leastCost_eq_min, least]
  exact (Nat.min_eq_right (Nat.le_trans (s.cost_le q t) (by decide))).symm

theorem State.cheapest_mem_tiedPorts (nonempty : m ≠ []) : (s.cheapest m t).1 ∈ s.tiedPorts m t := by
  have first : (s.tiedPorts m t).headD 0 ∈ s.tiedPorts m t := by
    rw [List.headD_eq_head?_getD, List.head?_eq_some_head (State.tiedPorts_ne_nil nonempty)]
    exact List.head_mem _
  unfold State.cheapest
  dsimp only
  split
  · split
    · next found => exact List.mem_of_find?_eq_some found
    · exact first
  · exact first

theorem State.cheapest_mem (nonempty : m ≠ []) : (s.cheapest m t).1 ∈ m := (State.mem_tiedPorts.mp (State.cheapest_mem_tiedPorts nonempty)).1

end Cheapest

/-! ## The steps of the choice (R343) -/

section Choice
variable (s : State) (p : Packet)

/-- A search among non-minimal candidates moves nothing but the count of free choices. -/
theorem State.bestVia_rest (groups : List Nat) (n : Nat) (best : Option (Nat × Nat × Nat)) :
    (s.bestVia p groups n best).2 = { s with free := (s.bestVia p groups n best).2.free } := by
  induction n generalizing s best with
  | zero => rfl
  | succ n ih =>
    unfold State.bestVia
    split
    · rfl
    · exact ih ..

/-- A non-minimal candidate, by its cost, group and port: the port is usable and leaves the packet within an ESC of 3. -/
def State.IsCandidate (x : Nat × Nat × Nat) : Prop := s.usable x.2.2 = true ∧ s.escAfter p x.2.2 false ≤ 3

theorem State.bestVia_isCandidate (groups : List Nat) (n : Nat) (best : Option (Nat × Nat × Nat)) (kept : ∀ x ∈ best, s.IsCandidate p x) :
    ∀ x ∈ (s.bestVia p groups n best).1, s.IsCandidate p x := by
  induction n generalizing s best with
  | zero => exact kept
  | succ n ih =>
    unfold State.bestVia
    split
    · exact kept
    · refine ih (s.draw groups.length).2 _ (List.foldlRecOn (motive := fun b => ∀ x ∈ b, s.IsCandidate p x) _ _ kept fun b kept q listed => ?_)
      obtain ⟨inMask, within⟩ := List.mem_filter.mp listed
      have candidate (c v : Nat) : s.IsCandidate p (c, v, q) := ⟨State.usable_of_mem_usableIn inMask, of_decide_eq_true within⟩
      dsimp only
      split
      · split
        · rintro _ ⟨⟩
          exact candidate ..
        · exact kept
      · split
        · rintro _ ⟨⟩
          exact candidate ..
        · exact nofun

/-- The first step chooses nothing, or a non-minimal path where one is allowed (of a class whose cap is 3); nothing else moves but the
count of free choices. -/
theorem State.chooseVia_inv (t : Nat) (m : List Nat) : ∃ o k, s.chooseVia p t m = (o, { s with free := k }) ∧
    ∀ c ∈ o, s.nonminAllowed p m = true ∧ s.Admits p c.port c.detour := by
  have moved := s.bestVia_rest p (s.viaGroups t) (s.param 0x801004) none
  have candidate := s.bestVia_isCandidate p (s.viaGroups t) (s.param 0x801004) none nofun
  unfold State.chooseVia
  split
  · next allowed =>
    have cap : escCap p = 3 := by
      simp only [State.nonminAllowed, Bool.and_eq_true, decide_eq_true_eq] at allowed
      exact if_neg (by omega)
    extract_lets cmin
    rcases found : s.bestVia p (s.viaGroups t) (s.param 0x801004) none with ⟨_ | ⟨c, v, q⟩, u⟩
    · rw [found] at moved
      exact ⟨none, u.free, Prod.ext rfl moved, nofun⟩
    · rw [found] at moved candidate
      dsimp only
      split
      · refine ⟨_, u.free, Prod.ext rfl moved, ?_⟩
        rintro _ ⟨⟩
        exact ⟨allowed, (candidate _ rfl).imp_right fun within => cap.symm ▸ within⟩
      · exact ⟨none, u.free, Prod.ext rfl moved, nofun⟩
  · exact ⟨none, s.free, rfl, nofun⟩

/-- What the further steps may choose: a minimal port or a detour port, and nothing only where there is no minimal port. -/
def State.IsDirectChoice (t : Nat) (m : List Nat) : Option Choice → Prop
  | some c => c.via = none ∧ if c.detour then c.port ∈ s.detourPorts p t else c.port ∈ m
  | none => m = []

theorem State.chooseDirect_isDirectChoice (t : Nat) (m : List Nat) : s.IsDirectChoice p t m (s.chooseDirect p t m).1 := by
  unfold State.chooseDirect
  dsimp only
  rw [← State.detourPorts]
  simp only [Bool.and_eq_true, Bool.not_eq_true', List.isEmpty_eq_false_iff, beq_iff_eq, bne_iff_ne]
  split
  · next minimal => exact ⟨rfl, State.cheapest_mem minimal.1.1⟩
  · next notCheapest =>
    split
    · next minimal => exact ⟨rfl, selectPort_mem minimal.1 _⟩
    · next notHashed =>
      split
      · next detours =>
        split
        · exact ⟨rfl, State.cheapest_mem detours⟩
        · exact ⟨rfl, selectPort_mem detours _⟩
      · split
        · next minimal => exact ⟨rfl, State.cheapest_mem minimal.1⟩
        · next notOwnGroup =>
          show m = []
          refine Decidable.byContradiction fun nonempty => ?_
          have adaptive : p.mode = 0 := Decidable.byContradiction fun hashed => notHashed ⟨nonempty, hashed⟩
          refine notCheapest ⟨⟨nonempty, adaptive⟩, ?_⟩
          rw [beq_false_of_ne fun own => notOwnGroup ⟨nonempty, own⟩, Bool.false_and]

/-- The choice takes what its first step answers, and goes on with the further steps where that is nothing. -/
theorem State.chooseOut_inv (t : Nat) :
    (∃ c, (s.chooseOut p t).1 = some c ∧ s.nonminAllowed p (s.minPorts p t) = true ∧ s.Admits p c.port c.detour) ∨
    s.IsDirectChoice p t (s.minPorts p t) (s.chooseOut p t).1 := by
  obtain ⟨o, k, first, sound⟩ := s.chooseVia_inv p t (s.minPorts p t)
  unfold State.chooseOut
  dsimp only
  rw [← State.minPorts, first]
  cases o with
  | some c => exact .inl ⟨c, rfl, sound c rfl⟩
  | none => exact .inr (State.chooseDirect_isDirectChoice { s with free := k } p t (s.minPorts p t))

theorem State.chooseOut_some {t : Nat} {c : Choice} (chosen : (s.chooseOut p t).1 = some c) :
    s.Admits p c.port c.detour ∧ (c.via.isSome = true → s.nonminAllowed p (s.minPorts p t) = true) := by
  rcases s.chooseOut_inv p t with ⟨d, same, allowed, admits⟩ | direct
  · cases same.symm.trans chosen
    exact ⟨admits, fun _ => allowed⟩
  · rw [chosen] at direct
    obtain ⟨port, detour, via⟩ := c
    obtain ⟨rfl, listed⟩ := direct
    refine ⟨?_, nofun⟩
    cases detour with
    | false => exact State.admits_of_mem_minPorts listed
    | true => exact State.admits_of_mem_detourPorts listed

/-- A packet is unroutable only where no minimal port takes it. -/
theorem State.minPorts_of_unroutable {t : Nat} (unroutable : (s.chooseOut p t).1 = none) : s.minPorts p t = [] := by
  rcases s.chooseOut_inv p t with ⟨d, chosen, -⟩ | direct
  · cases chosen.symm.trans unroutable
  · rwa [unroutable] at direct

end Choice

/-! ## The commands -/

section Commands
variable {s : State} {inp vc : Nat} {x : InPkt}

theorem transitPacket_routes (opened : s.life.opened = true)
    (first : s.inputs.find? (fun x => x.inp == inp && x.vc == vc && !x.routed) = some x) :
    exec (.transitPacket inp vc) s = .next (s.routeBanked x) := by
  change execTransitPacket inp vc s = _
  simp only [execTransitPacket, opened, first]
  rfl

/-- A device that has not been OPEN carries no packet (R530; that the command is then without effect: log 7). -/
theorem transitPacket_unopened (inp vc : Nat) (unopened : s.life.opened = false) : exec (.transitPacket inp vc) s = .next s :=
  if_pos (congrArg (!·) unopened)

/-- A TC3 packet that has waited too long is discarded and counted at its input port (R346, log 60). -/
theorem tc3StaleDiscard_discards (waits : s.inputs.find? (fun x => x.inp == inp && x.pkt.tc == 3) = some x)
    (comes : s.comes (x.clock + nsUnits (s.param 0x804002 * 1000) + 1) = true) : exec (.tc3StaleDiscard inp) s =
      .next ((s.movedTo (x.clock + nsUnits (s.param 0x804002 * 1000) + 1)).dropInput x Event.tc3Stale inp) := by
  change execTc3StaleDiscard inp s = _
  simp only [execTc3StaleDiscard, waits, State.atTime_comes _ _ _ comes]

theorem routingStall_head (head : s.headOf inp vc = some x) : exec (.routingStall inp vc) s =
    .next (if x.tick + s.param 0x804003 ≤ s.ticks then (s.freeInput x).occur FaultCode.routingStall inp 0 else s) := by
  change execRoutingStall inp vc s = _
  simp only [execRoutingStall, head]

end Commands

/-! ## Price boards (R329, R342) -/

/-- The content of a flit is taken on an ACTIVE link whose header does not take it down. -/
theorem State.onFlit_taken {s u v : State} {q : Nat} {f : Flit} {content : State → Option State} (active : (s.link q).active = true)
    (header : s.takeHeader q f = (u, false)) (taken : content u = some v) : s.onFlit q f content = v := by
  simp only [State.onFlit, active, header, taken, if_true]

theorem priceBoard_taken {s u : State} {q : Nat} {f : Flit} (active : (s.link q).active = true) (control : f.kind = 2) (board : f.seq = 1)
    (header : s.takeHeader q f = (u, false)) :
    exec (.priceBoard q f) s = .next ((u.takeBoard q (leNat f.body)).portsChanged u.usablePorts) := by
  refine congrArg Host.Outcome.next ((if_pos ⟨control, ?_⟩).trans (State.onFlit_taken active header rfl))
  rw [board]
  rfl

/-- A board makes its publisher known, and the slice that it brings is no longer stale. -/
theorem State.takeBoard_board (s : State) (q img : Nat) : ∃ b, Tab.look (s.takeBoard q img).boards q = some b ∧ b.seen = true ∧
    b.device = bits img 0 0 18 ∧ Tab.look b.slices (bits img 8 0 3) = some (img, bits img 4 0 32, true) :=
  ⟨_, Tab.look_put_self .., rfl, rfl, Tab.look_put_self ..⟩

/-- Settles O50: the commands by their rows, and the choice by what each of its steps can answer. -/
theorem arcadeCommands : Obligations.ArcadeCommands := by
  refine fun s => ⟨fun inp vc x => transitPacket_routes, fun inp vc => transitPacket_unopened inp vc, fun p t c u chosen => ?_,
    fun p t u unroutable q inMask => ?_, fun inp x => tc3StaleDiscard_discards, fun inp vc x head => ⟨fun due => ?_, fun early => ?_⟩,
    fun q f u => priceBoard_taken, s.takeBoard_board⟩
  · obtain ⟨⟨usable, within⟩, nonminimal⟩ := s.chooseOut_some p (congrArg Prod.fst chosen)
    exact ⟨usable, within, nonminimal⟩
  · refine Nat.lt_of_not_le fun within => ?_
    have listed : q ∈ s.minPorts p t := State.mem_minPorts.mpr ⟨inMask, within⟩
    rw [s.minPorts_of_unroutable p (congrArg Prod.fst unroutable)] at listed
    cases listed
  · rw [routingStall_head head, if_pos due]
  · rw [routingStall_head head, if_neg (Nat.not_le.mpr early)]

end Sys2Proof.Machine
end

section
/-!
SUPPORT. The Auctioneers (R359, R360, R361, R365, R366, R367) and the credit of a link (R393, R394): who wins a call, and the calls at
the host paths and the package-memory channels.
-/
namespace Sys2Proof.Machine

/-! ## The winner of a call (R359, R360) -/

/-- A search that keeps the lesser of the one it holds and the next one answers the least of a list. -/
theorem foldl_least_eq_min? {f : Option Nat → Nat → Option Nat} (start : ∀ x, f none x = some x)
    (keep : ∀ y x, f (some y) x = some (min x y)) (l : List Nat) : l.foldl f none = l.min? := by
  have held (l : List Nat) (y : Nat) : l.foldl f (some y) = some (l.foldl min y) := by
    induction l generalizing y with
    | nil => rfl
    | cons x l ih => rw [List.foldl_cons, keep, ih, Nat.min_comm, List.foldl_cons]
  cases l with
  | nil => rfl
  | cons x l => rw [List.foldl_cons, start, held, List.min?_cons']

/-- The highest rank present. -/
def topRank (bids : List Bid) (k : Nat) : Nat := bids.foldl (fun a b => max a (b.effective k)) 0

/-- The requesters that bid the highest rank. -/
def topRequesters (bids : List Bid) (k : Nat) : List Nat := (bids.filter (fun b => b.effective k == topRank bids k)).map Bid.req

/-- Going up from the last winner and round at the end, a requester `q` does not come before `r`. -/
def NextAfter (last r q : Nat) : Prop := (last < r → q ≤ last ∨ r ≤ q) ∧ (r ≤ last → r ≤ q ∧ q ≤ last)

section Winner
variable {bids : List Bid} {k last r : Nat}

theorem topRank_eq_max : topRank bids k = (bids.map (Bid.effective · k)).max?.getD 0 := by
  rw [topRank, ← List.foldl_map (f := (Bid.effective · k)) (g := max), List.foldl_max, Nat.zero_max]

/-- A rank is the highest present exactly when no bid has a higher one. -/
theorem effective_eq_topRank_iff {b : Bid} (listed : b ∈ bids) :
    b.effective k = topRank bids k ↔ ∀ c ∈ bids, c.effective k ≤ b.effective k := by
  have rank : b.effective k ∈ bids.map (Bid.effective · k) := List.mem_map_of_mem listed
  obtain ⟨top, highest⟩ := Option.isSome_iff_exists.mp (List.isSome_max?_of_mem rank)
  rw [topRank_eq_max, highest, Option.getD_some]
  obtain ⟨attained, bound⟩ := List.max?_eq_some_iff.mp highest
  constructor
  · exact fun same c other => same ▸ bound _ (List.mem_map_of_mem other)
  · obtain ⟨c, other, rfl⟩ := List.mem_map.mp attained
    exact fun above => Nat.le_antisymm (bound _ rank) (above c other)

theorem mem_topRequesters :
    r ∈ topRequesters bids k ↔ ∃ b ∈ bids, b.req = r ∧ ∀ c ∈ bids, c.effective k ≤ b.effective k := by
  simp only [topRequesters, List.mem_map, List.mem_filter, beq_iff_eq]
  constructor
  · rintro ⟨b, ⟨listed, top⟩, same⟩
    exact ⟨b, listed, same, (effective_eq_topRank_iff listed).mp top⟩
  · rintro ⟨b, listed, same, above⟩
    exact ⟨b, ⟨listed, (effective_eq_topRank_iff listed).mpr above⟩, same⟩

theorem topRequesters_eq_nil_iff : topRequesters bids k = [] ↔ bids = [] := by
  refine ⟨fun unheld => ?_, fun empty => empty ▸ rfl⟩
  by_contra nonempty
  obtain ⟨top, highest⟩ := Option.isSome_iff_exists.mp
    (List.isSome_max?_of_ne_nil (mt List.map_eq_nil_iff.mp nonempty : bids.map (Bid.effective · k) ≠ []))
  obtain ⟨attained, bound⟩ := List.max?_eq_some_iff.mp highest
  obtain ⟨b, listed, rfl⟩ := List.mem_map.mp attained
  have held : b.req ∈ topRequesters bids k := mem_topRequesters.mpr ⟨b, listed, rfl, fun c other => bound _ (List.mem_map_of_mem other)⟩
  rw [unheld] at held
  cases held

/-- The call goes round from the last winner: the least of those after it, else the least of all. -/
theorem winner_eq_min : winner bids k last =
    ((topRequesters bids k).filter (fun r => decide (last < r))).min?.or (topRequesters bids k).min? := by
  unfold winner
  dsimp only
  rw [← topRank, ← topRequesters, foldl_least_eq_min?, foldl_least_eq_min?]
  · cases ((topRequesters bids k).filter (fun r => decide (last < r))).min? <;> rfl
  all_goals intros; rfl

theorem winner_eq_none_iff : winner bids k last = none ↔ bids = [] := by
  rw [winner_eq_min, Option.or_eq_none_iff, List.min?_eq_none_iff, List.min?_eq_none_iff, topRequesters_eq_nil_iff]
  exact ⟨And.right, fun empty => ⟨empty ▸ rfl, empty⟩⟩

theorem winner_some (won : winner bids k last = some r) :
    r ∈ topRequesters bids k ∧ ∀ q ∈ topRequesters bids k, NextAfter last r q := by
  rw [winner_eq_min, Option.or_eq_some_iff] at won
  rcases won with after | ⟨noneAfter, least⟩
  · obtain ⟨kept, first⟩ := List.min?_eq_some_iff.mp after
    obtain ⟨listed, later⟩ := List.mem_filter.mp kept
    have later : last < r := of_decide_eq_true later
    refine ⟨listed, fun q other => ⟨fun _ => ?_, fun early => absurd later (Nat.not_lt.mpr early)⟩⟩
    exact (Nat.lt_or_ge last q).symm.imp_right fun beyond => first q (List.mem_filter.mpr ⟨other, decide_eq_true beyond⟩)
  · obtain ⟨listed, first⟩ := List.min?_eq_some_iff.mp least
    have within (q : Nat) (other : q ∈ topRequesters bids k) : q ≤ last :=
      Nat.not_lt.mp (of_decide_eq_false (Bool.not_eq_true _ ▸ List.filter_eq_nil_iff.mp (List.min?_eq_none_iff.mp noneAfter) q other))
    exact ⟨listed, fun q other => ⟨fun _ => .inl (within q other), fun _ => ⟨first q other, within q other⟩⟩⟩

theorem winner_singleton (b : Bid) : winner [b] k last = some b.req := by
  cases call : winner [b] k last with
  | none => cases winner_eq_none_iff.mp call
  | some r =>
    obtain ⟨c, listed, rfl, -⟩ := mem_topRequesters.mp (winner_some call).1
    rw [List.mem_singleton.mp listed]

end Winner

/-! ## Host request paths (R361, R365, R366) -/

/-- The last winner of a host path noted. -/
def State.setWon (s : State) (p : HPort) (r : Nat) : State :=
  match p with
  | .A => { s with wonA := r }
  | .B => { s with wonB := r }

theorem State.setWon_keeps (s : State) (p : HPort) (r : Nat) :
    (s.setWon p r).path p = s.path p ∧ (s.setWon p r).out = s.out ∧ (s.setWon p r).clock = s.clock := by
  cases p <;> exact ⟨rfl, rfl, rfl⟩

section HostPath
variable {s : State} {p : HPort} {u : HostUnit}

theorem State.clock_le_later (s : State) : s.clock ≤ s.later.clock := Nat.add_le_add_left (Nat.le_add_right ..) _

@[simp] theorem State.setPath_self (s : State) (p : HPort) : s.setPath p (s.path p) = s := by cases p <;> rfl

theorem State.later_path (s : State) (p : HPort) : s.later.path p = s.path p := by cases p <;> rfl

/-- Which units may bid does not depend on the place in the bell. -/
theorem State.later_readyUnits (s : State) (p : HPort) (before l : List HostUnit) :
    s.later.readyUnits p before l = s.readyUnits p before l := by
  induction l generalizing before with
  | nil => rfl
  | cons u us ih =>
    rw [State.readyUnits, State.readyUnits, ih]
    cases p <;> rfl

theorem State.readyUnits_singleton (ready : s.unitReady p [] u = true) : s.readyUnits p [] [u] = [u] :=
  congrArg (· ++ []) (if_pos ready)

theorem State.callHost_idle (idle : s.readyUnits p [] (s.path p) = []) : s.callHost p = s.later := by
  unfold State.callHost
  dsimp only
  rw [State.later_path, State.later_readyUnits, idle]
  rfl

theorem State.hostRest_empty (empty : s.path p = []) (req left k : Nat) : s.hostRest p req left k = s := by
  cases k with
  | zero => rfl
  | succ k => simp only [State.hostRest, empty, State.readyUnits, List.find?_nil]

/-- A unit that waits alone is issued, and the lot goes on with what then waits on the path. -/
theorem State.callHost_single (alone : s.path p = [u]) (ready : s.unitReady p [] u = true) : ∃ left,
    s.callHost p = ((s.later.setWon p (u.req + 1)).issueUnit p u).hostRest p u.req left 1 := by
  have waits : s.later.path p = [u] := (s.later_path p).trans alone
  have bids : firstOf (s.later.readyUnits p [] [u]) [] = [u] := by
    rw [State.later_readyUnits, State.readyUnits_singleton ready]
    rfl
  have unchanged : s.later.setPath p [u] = s.later := by rw [← waits, State.setPath_self]
  have noLoser : [u].filter (fun v => v != u) = [] := List.filter_cons_of_neg (by simp)
  unfold State.callHost
  simp only [waits, bids, List.map_cons, List.map_nil, winner_singleton, List.find?_cons, beq_self_eq_true, noLoser, List.contains_nil,
    Bool.false_eq_true, if_false, unchanged]
  cases p <;> exact ⟨_, congrArg _ (congrArg List.length waits)⟩

/-- A message, or a flush read, of a source that lands no packet is all that its unit puts out (R365). -/
theorem State.issueUnit_message (s : State) (p : HPort) (message : (∃ a d, u.op = .msix a d) ∨ ∃ tag a, u.op = .flush tag a)
    (lands : ∀ ctx, u.src ≠ .stall ctx) :
    (s.issueUnit p u).path p = (s.path p).erase u ∧ (s.issueUnit p u).out = s.out ++ [.host p u.op] ∧
      (s.issueUnit p u).clock = s.clock := by
  have written (t : State) : t.writeIssued u.src = t := by
    cases src : u.src with
    | stall ctx => exact absurd src (lands ctx)
    | _ => rfl
  unfold State.issueUnit
  rcases message with ⟨a, d, op⟩ | ⟨tag, a, op⟩ <;> simp only [op, written] <;> cases p <;> exact ⟨rfl, rfl, rfl⟩

theorem State.callHost_message (alone : s.path p = [u]) (ready : s.unitReady p [] u = true)
    (message : (∃ a d, u.op = .msix a d) ∨ ∃ tag a, u.op = .flush tag a) (lands : ∀ ctx, u.src ≠ .stall ctx) :
    (s.callHost p).path p = [] ∧ (s.callHost p).out = s.out ++ [.host p u.op] ∧ s.clock ≤ (s.callHost p).clock := by
  obtain ⟨path, out, clock⟩ := (s.later.setWon p (u.req + 1)).issueUnit_message p message lands
  obtain ⟨wonPath, wonOut, wonClock⟩ := s.later.setWon_keeps p (u.req + 1)
  rw [wonPath, State.later_path, alone, List.erase_cons_head] at path
  obtain ⟨left, call⟩ := State.callHost_single alone ready
  rw [call, State.hostRest_empty path, path, out, clock, wonOut, wonClock]
  exact ⟨rfl, rfl, s.clock_le_later⟩

end HostPath

/-! ## Package-memory channels (R361, R367) -/

/-- A burst joins a lot that has begun only within the limit. -/
theorem lotAccesses_le_max (limit : Nat) (bursts : List Nat) {n : Nat} (begun : 0 < n) : lotAccesses limit bursts n ≤ max limit n := by
  induction bursts generalizing n with
  | nil => exact Nat.le_max_right ..
  | cons b bs ih =>
    rw [lotAccesses, if_neg begun.ne']
    split
    · next within => exact (ih (Nat.add_pos_left begun b)).trans (Nat.max_le.mpr ⟨Nat.le_max_left .., within.trans (Nat.le_max_left ..)⟩)
    · exact Nat.le_max_right ..

theorem State.callPmem_single (s : State) {ch : Nat} {b : PmemBid} (channel : ch < 16) (cls : b.cls < 7) (bursts : b.bursts ≠ []) :
    ∃ losses, s.callPmem ch [b] = { s with
      pmem := Tab.put s.pmem ch { winner := b.cls + 1, losses := losses, lots := lotAccesses (s.param 0x900201) b.bursts 0 } } := by
  have kept : [b].filter (fun b => decide (b.cls < 7) && !b.bursts.isEmpty) = [b] :=
    List.filter_cons_of_pos (by simp [cls, bursts])
  unfold State.callPmem
  rw [if_neg (Nat.not_le.mpr channel)]
  simp only [kept, List.map_cons, List.map_nil, winner_singleton, List.find?_cons, beq_self_eq_true]
  exact ⟨_, rfl⟩

/-! ## The credit of a link (R393, R394) -/

theorem modNth_cancel {α : Type} [Inhabited α] {l : List α} {i : Nat} {f g : α → α} (cancel : g (f (nth l i)) = nth l i) :
    modNth (modNth l i f) i g = l := by
  induction l generalizing i with
  | nil => rfl
  | cons x xs ih =>
    cases i with
    | zero => exact congrArg (· :: xs) cancel
    | succ i => exact congrArg (x :: ·) (ih cancel)

theorem State.creditPool_some {s : State} {q pool : Nat} {p : Packet} (granted : s.creditPool q p = some pool) :
    pool = 0 ∧ cellsOf p ≤ nth (s.link q).priv (p.tc * 4 + p.esc) ∨ pool = 1 ∧ cellsOf p ≤ (s.link q).shared := by
  unfold State.creditPool at granted
  dsimp only at granted
  split at granted
  · next within => exact .inl ⟨(Option.some.inj granted).symm, within⟩
  · split at granted
    · next within => exact .inr ⟨(Option.some.inj granted).symm, within.1⟩
    · cases granted

/-- Credit debited for a packet that has not begun comes back as it was (R394). -/
theorem State.undebit_debit {s : State} {q pool : Nat} {p : Packet} (granted : s.creditPool q p = some pool) (id : Nat) :
    ((s.debit q pool p).link q).undebit { pkt := p, pool := pool, id := id, avail := 0, sent := 0 } = s.link q := by
  rw [State.debit, State.modLink_link]
  rcases State.creditPool_some granted with ⟨rfl, within⟩ | ⟨rfl, within⟩
  · have restored := modNth_cancel (f := (· - cellsOf p)) (g := (· + cellsOf p)) (Nat.sub_add_cancel within)
    simp only [Link.undebit, if_true, restored]
  · have restored := modNth_cancel (l := (s.link q).sharedUse) (i := p.tc * 4 + p.esc) (f := (· + cellsOf p)) (g := (· - cellsOf p))
      (Nat.add_sub_cancel ..)
    simp only [Link.undebit, Nat.one_ne_zero, if_false, restored, Nat.sub_add_cancel within]

/-- Settles O51: the winner from the requesters of the highest rank, and the calls and the credit from the rules above. -/
theorem auctionCalls : Obligations.AuctionCalls := by
  refine ⟨fun bids k last => ⟨winner_eq_none_iff, fun r won => ?_⟩, fun s n opened => congrArg Host.Outcome.next (if_pos opened),
    fun s p => ⟨fun idle => congrArg Host.Outcome.next (State.callHost_idle idle),
      fun u alone ready message lands => ⟨_, rfl, State.callHost_message alone ready message lands⟩⟩,
    fun s ch b channel cls bursts => ?_, fun limit b bs begun _ => ?_, fun s q pool id p granted => State.undebit_debit granted id⟩
  · obtain ⟨top, order⟩ := winner_some won
    obtain ⟨b, listed, same, highest⟩ := mem_topRequesters.mp top
    have ordered (c : Bid) (other : c ∈ bids) (equal : c.effective k = b.effective k) : NextAfter last r c.req :=
      order _ (mem_topRequesters.mpr ⟨c, other, rfl, fun d third => equal ▸ highest d third⟩)
    exact ⟨b, listed, same, Nat.min_le_left .., highest, fun c other equal => (ordered c other equal).1,
      fun c other equal => (ordered c other equal).2⟩
  · obtain ⟨losses, call⟩ := s.callPmem_single channel cls bursts
    exact ⟨_, congrArg Host.Outcome.next call, _, Tab.look_put_self .., rfl, rfl, rfl⟩
  · rw [lotAccesses, if_pos rfl]
    exact lotAccesses_le_max limit bs begun

end Sys2Proof.Machine
end

section
/-!
SUPPORT. The rules of a step (R22): it runs the command at the front of the queue, and keeps a safe state safe.
-/
namespace Sys2Proof.Machine

/-- Settles O1: by the two shapes of the queue. -/
theorem stepRunsFrontCommand : Obligations.StepRunsFrontCommand := by
  refine ⟨fun s c => rfl, fun s c rest front => ?_, fun s empty => ?_⟩
  · rw [step, front]
  · rw [step, empty]

/-- Settles O4. -/
theorem resetIsSafe : Obligations.ResetIsSafe := rfl

/-- A safe state has both memories in canonical form, and its queue holds well-formed commands. -/
theorem State.safe_iff (s : State) : s.safe = true ↔ Held s.pending s.kept ∧ ∀ c ∈ s.pending, c.wf = true := by
  simp only [State.safe, State.memoryOk, Held, State.kept, Bool.and_eq_true, List.all_eq_true, true_and]

theorem Held.replaced {q rest : List Instr} {s : State} (held : Held q s.kept) : Held rest ({ s with pending := rest } : State).kept :=
  ⟨rfl, held.2.1, held.2.2⟩

/-- Settles O5: a command leaves the rest of the queue, and the form of both memories, as they are (`exec_held`). -/
theorem stepKeepsSafe : Obligations.StepKeepsSafe := by
  intro s t safe stepped
  obtain ⟨held, formed⟩ := s.safe_iff.mp safe
  rw [step] at stepped
  split at stepped
  · cases stepped
    exact safe
  · next c rest front =>
    have left : Held rest t.kept := heldO_next_of (exec_held rest c _ held.replaced) stepped
    have queue : t.pending = rest := left.1
    refine t.safe_iff.mpr ⟨queue ▸ left, fun d waits => formed d ?_⟩
    rw [front]
    exact List.mem_cons_of_mem c (queue ▸ waits)

end Sys2Proof.Machine
end

section
/-!
SUPPORT. The frame of the commands outside the core rows: each keeps what `State.kept` lists.
-/
set_option maxRecDepth 4096

namespace Sys2Proof.Machine

/-- A command outside the core rows keeps the core of the state. -/
theorem exec_kept (c : Instr) (s : State) (outside : c.leavesCore = true) : keptO (exec c s) s.kept = s.kept := by
  cases c with
  | bellOverrun domain => exact execBellOverrun_kept domain s
  | quietPeriodExit source => exact execQuietPeriodExit_kept source s
  | flrComplete fn => exact execFlrComplete_kept fn s
  | powerStateWrite fn d3hot pmeEn => exact execPowerStateWrite_kept fn d3hot pmeEn s
  | msixUnmask fn vector => exact execMsixUnmask_kept fn vector s
  | l1Idle p => exact execL1Idle_kept p s
  | deviceStoreRead p off len eccAt => exact execDeviceStoreRead_kept p off len eccAt s
  | sqDoorbell d => exact execSqDoorbell_kept d s
  | rqDoorbell d => exact execRqDoorbell_kept d s
  | srqDoorbell d => exact execSrqDoorbell_kept d s
  | cqDoorbell d => exact execCqDoorbell_kept d s
  | cqArm d => exact execCqArm_kept d s
  | cqArmSolicited d => exact execCqArmSolicited_kept d s
  | eqDoorbell d => exact execEqDoorbell_kept d s
  | adminSqDoorbell d => exact execAdminSqDoorbell_kept d s
  | adminCqDoorbell d => exact execAdminCqDoorbell_kept d s
  | cqReservationGrant fn cq => exact execCqReservationGrant_kept fn cq s
  | eqModerationExpiry fn eq => exact execEqModerationExpiry_kept fn eq s
  | adminEnable fn cfg => exact execAdminEnable_kept fn cfg s
  | adminDisable fn cfg => exact execAdminDisable_kept fn cfg s
  | createCq fn => exact execCreateCq_kept fn s
  | destroyCq fn => exact execDestroyCq_kept fn s
  | createEq fn => exact execCreateEq_kept fn s
  | destroyEq fn => exact execDestroyEq_kept fn s
  | bindAdminCq fn => exact execBindAdminCq_kept fn s
  | createQp fn => exact execCreateQp_kept fn s
  | modifyQp fn => exact execModifyQp_kept fn s
  | destroyQp fn => exact execDestroyQp_kept fn s
  | createSrq fn => exact execCreateSrq_kept fn s
  | destroySrq fn => exact execDestroySrq_kept fn s
  | recallQueue fn => exact execRecall_kept fn s
  | queueAbort fn => exact execQueueAbort_kept fn s
  | queryQueue fn => exact execQueryQueue_kept fn s
  | createPd fn => exact execCreatePd_kept fn s
  | destroyPd fn => exact execDestroyPd_kept fn s
  | destroyKey fn => exact execDestroyKey_kept fn s
  | invalidateComplete fn => exact execInvalidateComplete_kept fn s
  | createMissQueue fn => exact execCreateMissQueue_kept fn s
  | destroyMissQueue fn => exact execDestroyMissQueue_kept fn s
  | createTree fn => exact execCreateTree_kept fn s
  | destroyTree fn => exact execDestroyTree_kept fn s
  | replaceTree fn => exact execReplaceTree_kept fn s
  | porterUnbind fn => exact execPorterUnbind_kept fn s
  | porterPause fn => exact execPorterPause_kept fn s
  | porterDrain fn => exact execPorterDrain_kept fn s
  | porterResume fn => exact execPorterResume_kept fn s
  | porterAbort fn => exact execPorterAbort_kept fn s
  | firmwareStage fn => exact execFirmwareStage_kept fn s
  | loadFirmware p seq => exact execLoadFirmware_kept p seq s
  | stageFirmware p seq => exact execStageFirmware_kept p seq s
  | readLog p seq => exact execReadLog_kept p seq s
  | ping p seq => exact execPing_kept p seq s
  | bootUnknownCommand p seq cmd => exact execBootUnknownCommand_kept p seq cmd s
  | missRingDoorbell d => exact execMissRingDoorbell_kept d s
  | fillRingDoorbell d => exact execFillRingDoorbell_kept d s
  | send qpn => exact execSend_kept qpn s
  | put qpn => exact execPut_kept qpn s
  | putFlag qpn => exact execPutFlag_kept qpn s
  | get qpn => exact execGet_kept qpn s
  | atomic qpn => exact execAtomic_kept qpn s
  | durablePut qpn => exact execDurablePut_kept qpn s
  | replDurablePut qpn => exact execReplDurablePut_kept qpn s
  | mcastPut qpn => exact execMcastPut_kept qpn s
  | sendAtTimeRelease qpn => exact execSendAtTimeRelease_kept qpn s
  | tsend qpn => exact execTsend_kept qpn s
  | trecv fn srq => exact execTrecv_kept fn srq s
  | tbuf fn srq => exact execTbuf_kept fn srq s
  | tcancel fn srq => exact execTcancel_kept fn srq s
  | barrier qpn => exact execBarrier_kept qpn s
  | bcast qpn => exact execBcast_kept qpn s
  | reduce qpn => exact execReduce_kept qpn s
  | allreduce qpn => exact execAllreduce_kept qpn s
  | vote qpn => exact execVote_kept qpn s
  | sendPacket p => exact execSendPacket_kept p s
  | putPacket p => exact execPutPacket_kept p s
  | putFlagData p => exact execPutFlagData_kept p s
  | getReq p => exact execGetReq_kept p s
  | atomicReq p => exact execAtomicReq_kept p s
  | durablePutPacket p => exact execDurablePutPacket_kept p s
  | replDurablePutPacket p => exact execReplDurablePutPacket_kept p s
  | mcastPutPacket p => exact execMcastPutPacket_kept p s
  | getResp p => exact execGetResp_kept p s
  | atomicResp p => exact execAtomicResp_kept p s
  | flag p => exact execFlag_kept p s
  | durableConf p => exact execDurableConf_kept p s
  | memberReply p => exact execMemberReply_kept p s
  | tsendEager p => exact execTsendEager_kept p s
  | tsendRts p => exact execTsendRts_kept p s
  | cts p => exact execCts_kept p s
  | rndvData p => exact execRndvData_kept p s
  | collSeg p => exact execCollSeg_kept p s
  | collHeartbeat p => exact execCollHeartbeat_kept p s
  | collBreak p => exact execCollBreak_kept p s
  | ack p => exact execAck_kept p s
  | nak p => exact execNak_kept p s
  | refuse p => exact execRefuse_kept p s
  | spillWritesIssued ctx => exact execSpillWritesIssued_kept ctx s
  | retransmitTimerExpiry ctx => exact execRetransmitTimerExpiry_kept ctx s
  | refusalBackoffExpiry ctx psn => exact execRefusalBackoffExpiry_kept ctx psn s
  | durableConfTimeout ctx num => exact execDurableConfTimeout_kept ctx num s
  | peerGoneExpiry ctx => exact execPeerGoneExpiry_kept ctx s
  | groupDeadlineExpiry qpn => exact execGroupDeadlineExpiry_kept qpn s
  | msnHoldExpiry fn srq stream => exact execMsnHoldExpiry_kept fn srq stream s
  | ctsWaitExpiry qpn => exact execCtsWaitExpiry_kept qpn s
  | heartbeatDue tree dev => exact execHeartbeatDue_kept tree dev s
  | edgeDead tree dev => exact execEdgeDead_kept tree dev s
  | transitPacket inp vc => exact execTransitPacket_kept inp vc s
  | priceBoard port f => exact execPriceBoard_kept port f s
  | tc3StaleDiscard inp => exact execTc3StaleDiscard_kept inp s
  | routingStall inp vc => exact execRoutingStall_kept inp vc s
  | auctionCall site => exact execAuctionCall_kept site s
  | dataFlit port f => exact execDataFlit_kept port f s
  | idleFlit port f => exact execIdleFlit_kept port f s
  | flitCrcFailure port => exact execFlitCrcFailure_kept port s
  | creditSync port f => exact execCreditSync_kept port f s
  | undefinedControlFlit port f => exact execUndefinedControlFlit_kept port f s
  | replayTimeout port => exact execReplayTimeout_kept port s
  | symbolLockLost lane => exact execSymbolLockLost_kept lane s
  | symbolLockRegained lane => exact execSymbolLockRegained_kept lane s
  | lockLossExpiry lane => exact execLockLossExpiry_kept lane s
  | receiverDetect port lanes => exact execReceiverDetect_kept port lanes s
  | signonSymbols port lanes => exact execSignonSymbols_kept port lanes s
  | commaLock lane inverted => exact execCommaLock_kept lane inverted s
  | capabilityFrame lane record => exact execCapabilityFrame_kept lane record s
  | rateSwitch port => exact execRateSwitch_kept port s
  | rateLock port lanes => exact execRateLock_kept port lanes s
  | eqStep lane step => exact execEqStep_kept lane step s
  | equaliseComplete port peerDone => exact execEqualiseComplete_kept port peerDone s
  | trainingStageTimeout port => exact execTrainingStageTimeout_kept port s
  | laneRequest port f => exact execLaneRequest_kept port f s
  | laneOrder port f => exact execLaneOrder_kept port f s
  | laneDone port f => exact execLaneDone_kept port f s
  | switchMarker port lanes => exact execSwitchMarker_kept port lanes s
  | laneRetrained lane fom => exact execLaneRetrained_kept lane fom s
  | laneDegrade lane => exact execLaneDegrade_kept lane s
  | widthRestore port tx => exact execWidthRestore_kept port tx s
  | p1Idle port => exact execP1Idle_kept port s
  | p1Wake port => exact execP1Wake_kept port s
  | ppsOutPulse => exact execPpsOutPulse_kept s
  | ppsOutEnd => exact execPpsOutEnd_kept s
  | porterDoorbell d => exact execPorterDoorbell_kept d s
  | descriptorStart ch => exact execDescriptorStart_kept ch s
  | descriptorWriteBack ch => exact execDescriptorWriteBack_kept ch s
  | porterPaused ch => exact execPorterPaused_kept ch s
  | mailboxBadOp fn len seq op => exact execMailboxBadOp_kept fn len seq op s
  | lapRate f => exact execLapRate_kept f s
  | lapPing f => exact execLapPing_kept f s
  | lapForeignFrame f => exact execLapForeignFrame_kept f s
  | lapRateSwitch => exact execLapRateSwitch_kept s
  | lapRateFallback => exact execLapRateFallback_kept s
  | busOff => exact execBusOff_kept s
  | busOffRecovered => exact execBusOffRecovered_kept s
  | mgmtResp port p => exact execMgmtResp_kept port p s
  | changeoverStart => exact execChangeoverStart_kept s
  | changeoverReady => exact execChangeoverReady_kept s
  | changeoverFallback => exact execChangeoverFallback_kept s
  | pmemReady => exact execPmemReady_kept s
  | agentsReady => exact execAgentsReady_kept s
  | tallyDump => exact execTallyDump_kept s
  | flitTime port => exact execFlitTime_kept port s
  | thermalLimitExceeded => exact execThermalLimitExceeded_kept s
  | pmPmeRepeat fn => exact execPmPmeRepeat_kept fn s
  | pmeStatusClear fn => exact execPmeStatusClear_kept fn s
  | _ => cases outside

/-- Two states with the same kept part agree on each piece of it. -/
theorem kept_parts {s t : State} (same : t.kept = s.kept) :
    t.pending = s.pending ∧ t.store = s.store ∧ t.bulk = s.bulk ∧ t.life = s.life ∧ t.ticks = s.ticks ∧ t.ledger = s.ledger ∧
    t.keys = s.keys ∧ t.mcast = s.mcast ∧ t.power = s.power ∧ t.clerk.key = s.clerk.key ∧ t.time.now = s.time.now ∧
    t.time.state = s.time.state ∧ t.hostA.core = s.hostA.core ∧ t.hostB.core = s.hostB.core := by
  simp only [State.kept, Prod.mk.injEq] at same
  obtain ⟨pending, store, bulk, life, ticks, ledger, keys, mcast, power, key, now, state, portA, portB, -⟩ := same
  exact ⟨pending, store, bulk, life, ticks, ledger, keys, mcast, power, key, now, state, portA, portB⟩

theorem HostPort.core_eq_iff {g h : HostPort} : g.core = h.core ↔ g.state = h.state ∧ g.cause = h.cause ∧ g.numVfs = h.numVfs := by
  simp only [HostPort.core, Prod.mk.injEq]

/-- Settles O6: each such command keeps the core. -/
theorem coreFrame : Obligations.CoreFrame := by
  intro c s t outside ran
  obtain ⟨pending, store, bulk, life, ticks, ledger, keys, mcast, power, key, now, state, portA, portB⟩ :=
    kept_parts (keptO_next_of (exec_kept c s outside) ran)
  refine ⟨life, ticks, power, ledger, keys, key, mcast, now, state, pending, fun a => ?_, fun p => ?_⟩
  · rw [store, bulk]
    exact ⟨rfl, rfl⟩
  · cases p
    · exact HostPort.core_eq_iff.mp portA
    · exact HostPort.core_eq_iff.mp portB

end Sys2Proof.Machine
end

section
/-!
SUPPORT. The Beadle (R546 to R550, R554, R555): what an occurrence and an exit of a source leave, and the fault log.
-/
namespace Sys2Proof.Machine

/-- The record of a source, fresh where none is listed. -/
def Beadle.record (b : Beadle) (k : Nat) : FaultRec := Tab.getD b.sources k FaultRec.fresh

/-- The record of a source after an occurrence (R546, R547, R554). -/
def FaultRec.again (r : FaultRec) (detail bell ticks : Nat) : FaultRec :=
  { r with active := true, occurrences := min (r.occurrences + 1) 4294967295, last := bell, first := if r.active then r.first else bell,
           lastTick := ticks, detail := detail }

/-- The record of a source after its exit (R549, R554). -/
def FaultRec.ended (r : FaultRec) : FaultRec := { r with active := false, exits := (r.exits + 1) % 2 ^ 32 }

section Source
variable {b : Beadle} {k : Nat} {r : FaultRec}

@[simp] theorem Beadle.occur_look (code inst detail bell ticks : Nat) :
    Tab.look (b.occur code inst detail bell ticks).sources (code * 256 + inst) =
      some ((b.record (code * 256 + inst)).again detail bell ticks) :=
  Tab.look_put_self ..

theorem Beadle.occur_look_ne {code inst detail bell ticks : Nat} (other : k ≠ code * 256 + inst) :
    Tab.look (b.occur code inst detail bell ticks).sources k = Tab.look b.sources k :=
  Tab.look_put_ne _ _ other

theorem Beadle.record_of_look (listed : Tab.look b.sources k = some r) : b.record k = r := by
  rw [Beadle.record, Tab.getD, listed, Option.getD_some]

/-- What the exit of an active source leaves. -/
theorem Beadle.exit_active (listed : Tab.look b.sources k = some r) (active : r.active = true) :
    b.exit k = { b with
      sources := Tab.put b.sources k r.ended
      recoveries := b.recoveries + 1
      log := logAppend b.log (recordImage (k / 256) (k % 256) r.ended)
      faultN := !((Tab.put b.sources k r.ended).any (fun e => e.2.active)) } := by
  have found : Tab.getD b.sources k FaultRec.fresh = r := Beadle.record_of_look listed
  unfold Beadle.exit
  rw [found]
  exact if_pos active

end Source

/-! ## The log (R555) -/

section Log
variable {l : List Nat} {r : Nat}

theorem logAppend_room (room : l.length < 1024) : logAppend l r = l ++ [r] := by
  rw [logAppend, if_pos room]

theorem logAppend_full (full : l.length = 1024) : logAppend l r = l.drop 1 ++ [r] := by
  rw [logAppend, if_neg full.not_lt]

theorem logAppend_length (bound : l.length ≤ 1024) : (logAppend l r).length = min (l.length + 1) 1024 := by
  rcases bound.lt_or_eq with room | full
  · simp [logAppend_room room]
    omega
  · simp [logAppend_full full, full]

@[simp] theorem logAppend_getLast? : (logAppend l r).getLast? = some r := List.getLast?_concat

end Log

/-- Settles O15, from the record that an occurrence and an exit leave, and the two shapes of an append. -/
theorem faultRecords : Obligations.FaultRecords := by
  refine ⟨fun b code inst detail bell ticks => ?_, fun b k r listed active => ?_, fun l r bound => ?_⟩
  · exact ⟨⟨_, Beadle.occur_look .., rfl, rfl, rfl, rfl, rfl, rfl, rfl, rfl⟩, rfl, fun k => Beadle.occur_look_ne, rfl⟩
  · rw [Beadle.exit_active listed active]
    refine ⟨Tab.look_put_self .., fun j other => Tab.look_put_ne _ _ other, rfl, ?_, rfl⟩
    simp only [Bool.not_eq_true', List.any_eq_false, Bool.not_eq_true]
  · refine ⟨logAppend_length bound, logAppend_getLast?, fun i listed => ⟨fun room => ?_, fun full early => ?_⟩⟩
    · rw [logAppend_room room, List.getElem?_append_left listed]
    · rw [logAppend_full full, List.getElem?_append_left (by rw [List.length_drop]; omega), List.getElem?_drop, Nat.add_comm]

end Sys2Proof.Machine
end

section
/-!
SUPPORT. Power and temperature (R534, R584, R585) and the quiet period of a fault source (R549).
-/
namespace Sys2Proof.Machine

/-- The source whose exit is asked for ends where it has been quiet for long enough (R549). -/
theorem execQuietPeriodExit_listed {s : State} {k : Nat} {r : FaultRec} (listed : Tab.look s.beadle.sources k = some r) :
    execQuietPeriodExit k s = .next (if r.active = true ∧ r.lastTick + s.param 0xE10001 < s.ticks ∧ s.onTime 15 = true
      then { s with beadle := s.beadle.exit k } else s) := by
  have found : Tab.getD s.beadle.sources k FaultRec.fresh = r := Beadle.record_of_look listed
  unfold execQuietPeriodExit
  dsimp only
  rw [found]

section Throttle
variable {s : State}

/-- The level of throttle may change: none has changed it in the last 1,024 bells, and the task is on time (R534). -/
theorem execThrottleChange_free (free : ∀ t, s.power.throttleAt = some t → t + 1024 ≤ s.ticks) (onTime : s.onTime 15 = true) :
    execThrottleChange s =
      if s.aboveCap ∧ s.power.throttle < 12 then
        .next { s with power := { s.power with throttle := s.power.throttle + 1, throttleAt := some s.ticks } }
      else if s.belowCap ∧ 0 < s.power.throttle then
        .next { s with power := { s.power with throttle := s.power.throttle - 1, throttleAt := some s.ticks } }
      else .next s := by
  unfold execThrottleChange
  extract_lets p mayChange
  have may : mayChange = true := by
    simp only [mayChange]
    split
    · next t last => exact decide_eq_true (free t last)
    · rfl
  rw [may, onTime]
  rfl

theorem execThrottleChange_early {t : Nat} (last : s.power.throttleAt = some t) (early : s.ticks < t + 1024) :
    execThrottleChange s = .next s := by
  unfold execThrottleChange
  extract_lets p mayChange
  have mayNot : mayChange = false := by
    simp only [mayChange, p, last]
    exact decide_eq_false (Nat.not_le.mpr early)
  rw [mayNot]
  rfl

end Throttle

theorem Power.above_iff {p : Power} {mc : Int} : p.above mc = true ↔ ∃ x ∈ p.tempsMc, mc < x := by
  simp only [Power.above, List.any_eq_true, decide_eq_true_eq]

theorem Power.above_eq_false_iff {p : Power} {mc : Int} : p.above mc = false ↔ ∀ x ∈ p.tempsMc, x ≤ mc := by
  simp only [Power.above, List.any_eq_false, decide_eq_true_eq, Int.not_lt]

/-- Settles O16: each command by the condition of its row. -/
theorem faultAndPowerCommands : Obligations.FaultAndPowerCommands := by
  intro s
  refine ⟨fun k r listed active quiet onTime => ?_, fun k r listed recent => ?_, fun free onTime => ⟨fun above room => ?_, fun below cap room => ?_⟩,
    fun t last early => execThrottleChange_early last early, fun hot => ?_, fun cool => ?_, fun hot => ?_, fun hot first => ?_, fun i => ⟨rfl, rfl, ?_⟩⟩
  · exact (execQuietPeriodExit_listed listed).trans (congrArg _ (if_pos ⟨active, quiet, onTime⟩))
  · exact (execQuietPeriodExit_listed listed).trans (congrArg _ (if_neg (mt (And.left ∘ And.right) (Nat.not_lt.mpr recent))))
  · exact (execThrottleChange_free free onTime).trans (if_pos ⟨above, room⟩)
  · exact (execThrottleChange_free free onTime).trans
      ((if_neg fun high => Bool.false_ne_true (cap.symm.trans high.1)).trans (if_pos ⟨below, room⟩))
  · exact congrArg Host.Outcome.next (if_pos hot)
  · exact congrArg Host.Outcome.next (if_neg (Bool.eq_false_iff.mp (Power.above_eq_false_iff.mpr cool)))
  · exact congrArg Host.Outcome.next (if_pos (Power.above_iff.mpr hot))
  · exact congrArg Host.Outcome.next (if_pos ⟨hot, first⟩)
  · exact if_congr Power.above_iff rfl rfl

end Sys2Proof.Machine
end

section
/-!
SUPPORT. The lifecycle (R526, R527, R536, R541, R542): what a reset, the entry to OPEN, the Shutter and the entry to SHUT leave.
-/
namespace Sys2Proof.Machine

/-! ## Reset release and SHUT -/

theorem State.enterLife_addr (s : State) (l : Life) : (s.enterLife l).lap.addr = s.lap.addr := State.notice_addr _

/-- What the entry to SHUT clears, and what it leaves as it is. -/
theorem State.toShut_leaves (s : State) : s.toShut.life = .shut ∧ s.toShut.power = { s.power with shutDone := true, openPending := false } ∧
    s.toShut.reads = [] ∧ s.toShut.store = s.store ∧ s.toShut.ledger = s.ledger ∧ s.toShut.keys = s.keys ∧
    s.toShut.qps = Tab.map s.qps (fun _ (q : Qp) => { q with sq := { q.sq with ents := [] } }) ∧ s.toShut.hostA = s.hostA ∧
    s.toShut.hostB = s.hostB ∧ s.toShut.time = s.time ∧ s.toShut.lap.addr = s.lap.addr := by
  unfold State.toShut
  refine ⟨?_, ?_, ?_, ?_, ?_, ?_, ?_, ?_, ?_, ?_, State.enterLife_addr ..⟩ <;> rw [State.enterLife_rest]

/-- Reset release leaves every object and value as after reset. -/
theorem State.resetReleased_leaves (s : State) (a : Nat) : (s.resetReleased a).life = (if s.power.pwrfail then .shut else .sealed) ∧
    (s.resetReleased a).ledger = [] ∧ (s.resetReleased a).keys = [] ∧ (s.resetReleased a).qps = [] ∧ (s.resetReleased a).store = [] ∧
    (s.resetReleased a).hostA.state = .reset ∧ (s.resetReleased a).hostB.state = .reset ∧ (s.resetReleased a).time.now = 0 ∧
    (s.resetReleased a).time.state = .free ∧ (s.resetReleased a).lap.addr = a := by
  have addr : (s.cleared .sealed a).notice.lap.addr = a := State.notice_addr _
  have pins : (s.cleared .sealed a).notice.power.pwrfail = s.power.pwrfail := by
    rw [State.notice_rest]
    rfl
  unfold State.resetReleased
  dsimp only
  rw [pins]
  cases s.power.pwrfail with
  | false =>
    rw [State.notice_rest] at addr ⊢
    exact ⟨rfl, rfl, rfl, rfl, rfl, rfl, rfl, rfl, rfl, addr⟩
  | true =>
    obtain ⟨life, -, -, store, ledger, keys, qps, hostA, hostB, time, shutAddr⟩ := (s.cleared .sealed a).notice.toShut_leaves
    simp only [if_true, life, store, ledger, keys, qps, hostA, hostB, time, shutAddr, addr]
    rw [State.notice_rest]
    exact ⟨trivial, rfl, rfl, rfl, rfl, rfl, rfl, rfl, rfl, trivial⟩

/-- A device reset with PWRFAIL_N high leaves SHUT_DONE low. -/
theorem State.deviceReset_shutDone {s : State} (high : s.power.pwrfail = false) : s.deviceReset.power.shutDone = false := by
  have pins : (s.cleared .sealed s.lap.addr).notice.power.pwrfail = false := by
    rw [State.notice_rest]
    exact high
  unfold State.deviceReset State.resetReleased
  dsimp only
  rw [pins, State.notice_rest]
  rfl

/-- Time that moves on inside the bell moves nothing but the place in the bell. -/
theorem State.movedTo_place (s : State) (T : Nat) : ∃ place, s.movedTo T = { s with sub := place } := ⟨_, s.movedTo_rest T⟩

/-! ## OPEN and SHUTTER -/

theorem kept_enterLife (s : State) (l : Life) : (s.enterLife l).kept = ({ s with life := l } : State).kept := State.notice_kept _

theorem State.enterShutter_kept_eq (s : State) : s.enterShutter.kept = ({ s with life := .shutter } : State).kept := by
  unfold State.enterShutter
  extract_lets s1 clerk s2 s3 s4
  have h2 : s2.kept = ({ s with life := .shutter } : State).kept := by
    simp only [s2, s1]
    split
    · rw [← kept_enterLife]
      exact Eq.trans rfl rfl
    · exact kept_enterLife ..
  have h3 : s3.kept = s2.kept := foldl_kept _ _ (fun t n => State.breakTree_kept ..) s2
  have h4 : s4.kept = s3.kept := Eq.trans rfl rfl
  rw [foldl_kept _ _ (fun t n => State.retireSq_kept ..), h4, h3, h2]

/-- The state as it enters OPEN, before what follows the entry. -/
def State.opening (s : State) : State :=
  { s with life := .open_, power := { s.power with entered := true, openPending := false }, store := [], storePoison := [] }

theorem State.enterOpen_kept_eq (s : State) : s.enterOpen.kept = s.opening.kept := by
  unfold State.enterOpen
  extract_lets pw s1 s2 s3
  have h2 : s2.kept = s.opening.kept := kept_enterLife ..
  have h3 : s3.kept = s2.kept := by
    simp only [s3, State.publishBoards_kept, State.applySplit_kept]
  rw [foldl_kept _ _ (fun t n => State.resumeFn_kept ..), h3, h2]

/-! ## The rows of the drain (R541, R542) -/

theorem noDrainRead {s : State} (quiet : ∀ r ∈ s.reads, ∀ p, r.2.for_ ≠ .drain p) :
    s.reads.any (fun r => match r.2.for_ with | .drain _ => true | _ => false) = false := by
  refine List.any_eq_false.mpr fun r listed => ?_
  split
  · next p for_ => exact absurd for_ (quiet r listed p)
  · exact Bool.false_ne_true

/-- PWRFAIL_N that has stayed low takes a part that is not open to SHUT, and one in OPEN to SHUTTER (R526, R536). -/
theorem pwrfailLow_completes {s : State} (low : s.power.pwrfailN = true) (unfiltered : s.power.pwrfail = false)
    (comes : s.comes (s.power.fallAt + nsUnits 2000) = true) : Completes .pwrfailLow s fun t =>
      t.life = (match s.life with | .sealed | .setup => .shut | .open_ => .shutter | l => l) ∧ t.power.pwrfail = true ∧
      ((s.life = .sealed ∨ s.life = .setup) → t.power.shutDone = true) ∧ t.ledger = s.ledger ∧ t.keys = s.keys ∧ t.store = s.store := by
  refine ⟨_, (if_pos ⟨low, unfiltered⟩).trans (congrArg Host.Outcome.next (s.atTime_comes _ _ comes)), ?_⟩
  obtain ⟨place, moved⟩ := s.movedTo_place (s.power.fallAt + nsUnits 2000)
  dsimp only
  rw [moved]
  obtain ⟨shutLife, shutPower, -, shutStore, shutLedger, shutKeys, -⟩ := State.toShut_leaves
    { s with sub := place, power := { s.power with pwrfail := true } }
  obtain ⟨-, store, -, life, -, ledger, keys, -, power, -⟩ := kept_parts (State.enterShutter_kept_eq
    { s with sub := place, power := { s.power with pwrfail := true } })
  cases state : s.life with
  | sealed | setup => exact ⟨shutLife, congrArg Power.pwrfail shutPower, fun _ => congrArg Power.shutDone shutPower, shutLedger, shutKeys, shutStore⟩
  | open_ => exact ⟨life, congrArg Power.pwrfail power, by simp, ledger, keys, store⟩
  | dark | shutter | shut => exact ⟨rfl, rfl, by simp, rfl, rfl, rfl⟩

theorem drainDone_flushed {s : State} (life : s.life = .shutter) (done : s.durableLeft = false) (flushed : s.power.flushed = true)
    (quiet : ∀ r ∈ s.reads, ∀ p, r.2.for_ ≠ .drain p) : execDrainDone s = .next s.toShut := by
  unfold execDrainDone
  rw [if_neg (by simp [life, done]), if_pos flushed]
  exact congrArg Host.Outcome.next (if_neg (Bool.eq_false_iff.mp (noDrainRead quiet)))

/-- The state whose flush reads have been asked for. -/
def State.flushing (s : State) : State := { s with power := { s.power with flushed := true } }

/-- With nothing written, no flush read is issued. -/
theorem State.drainFlush_clean {s : State} {p : HPort} (clean : (s.port p).dirty = none) : s.drainFlush p = s := by
  unfold State.drainFlush
  rw [clean]

theorem drainDone_clean {s : State} (life : s.life = .shutter) (done : s.durableLeft = false) (flushed : s.power.flushed = false)
    (cleanA : s.hostA.dirty = none) (cleanB : s.hostB.dirty = none) (quiet : ∀ r ∈ s.reads, ∀ p, r.2.for_ ≠ .drain p) :
    execDrainDone s = .next s.flushing.toShut := by
  have clean : (s.flushing.drainFlush .A).drainFlush .B = s.flushing := by
    rw [State.drainFlush_clean (s := s.flushing) (p := .A) cleanA, State.drainFlush_clean (s := s.flushing) (p := .B) cleanB]
  unfold execDrainDone
  rw [if_neg (by simp [life, done]), if_neg (by simp [flushed])]
  dsimp only
  rw [← State.flushing, clean]
  exact congrArg Host.Outcome.next (if_neg (Bool.eq_false_iff.mp (noDrainRead quiet)))

/-- The state in which the drain is given up, at a place of the bell (R542). -/
def State.givenUp (s : State) (place : Nat) : State :=
  { s with sub := place
           power := { s.power with abandoned := s.power.abandoned + s.qps.foldl (fun n e => n + countP Wqe.durable e.2.sq.ents) 0 } }

theorem drainLimit_comes {s : State} (shutter : s.life = .shutter)
    (comes : s.comes (s.power.fallAt + nsUnits (s.openParam 0xE02003 * 1000)) = true) :
    ∃ place, execDrainLimit s = .next (s.givenUp place).toShut := by
  obtain ⟨place, moved⟩ := s.movedTo_place (s.power.fallAt + nsUnits (s.openParam 0xE02003 * 1000))
  unfold execDrainLimit
  rw [if_pos shutter, State.atTime_comes _ _ _ comes, moved]
  exact ⟨place, rfl⟩

theorem drainLimit_completes {s : State} (shutter : s.life = .shutter)
    (comes : s.comes (s.power.fallAt + nsUnits (s.openParam 0xE02003 * 1000)) = true) : Completes .drainLimit s fun t =>
      t.life = .shut ∧ t.power.shutDone = true ∧ t.reads = [] ∧
      t.power.abandoned = s.power.abandoned + s.qps.foldl (fun n e => n + countP Wqe.durable e.2.sq.ents) 0 := by
  obtain ⟨place, gaveUp⟩ := drainLimit_comes shutter comes
  obtain ⟨life, power, reads, -⟩ := (s.givenUp place).toShut_leaves
  exact ⟨_, gaveUp, life, congrArg Power.shutDone power, reads, congrArg Power.abandoned power⟩

theorem autoRestart_completes {s : State} (shut : s.life = .shut) (high : s.power.pwrfailN = false) (unfiltered : s.power.pwrfail = false)
    (auto : s.flag 0xE02004 = true) (comes : s.comes (s.power.riseAt + nsUnits (s.param 0xE02005 * 1000000)) = true) :
    Completes .autoRestart s fun t =>
      t.life = .sealed ∧ t.ledger = [] ∧ t.power.shutDone = false ∧ t.hostA.state = .reset ∧ t.hostB.state = .reset := by
  refine ⟨_, (if_pos ⟨shut, high, auto⟩).trans (congrArg Host.Outcome.next (s.atTime_comes _ _ comes)), ?_⟩
  have pins : (s.movedTo (s.power.riseAt + nsUnits (s.param 0xE02005 * 1000000))).power.pwrfail = false := by
    rw [State.movedTo_rest]
    exact unfiltered
  obtain ⟨life, ledger, -, -, -, hostA, hostB, -⟩ :=
    (s.movedTo (s.power.riseAt + nsUnits (s.param 0xE02005 * 1000000))).deviceReset_leaves
  rw [pins] at life
  exact ⟨life, ledger, State.deviceReset_shutDone pins, hostA, hostB⟩

/-- Settles O9: each row by its conditions, and what the entries to SHUT, OPEN and SHUTTER and a reset leave. -/
theorem lifecycleCommands : Obligations.LifecycleCommands := by
  intro s
  refine ⟨fun a dark sound => ?_, fun dark => congrArg Host.Outcome.next (if_pos dark), fun c row => ?_,
    fun lit => congrArg Host.Outcome.next (if_neg lit), fun lit unsealed => congrArg Host.Outcome.next (if_neg (not_or.mpr ⟨lit, unsealed⟩)),
    fun setup asked may early => ?_, fun high => ?_, fun low unfiltered comes => ?_, fun low unfiltered lit => ?_, fun low filtered => ?_,
    fun shutter done flushed quiet => ?_, fun shutter done unflushed cleanA cleanB quiet => ?_, fun shutter comes => ?_,
    fun shut high unfiltered auto comes => ?_⟩
  · exact ⟨_, congrArg Host.Outcome.next (if_pos ⟨dark, rfl, sound⟩), s.resetReleased_leaves a⟩
  · rcases row with rfl | rfl <;> exact ⟨_, rfl, rfl, rfl, rfl, rfl, rfl, rfl, rfl, rfl⟩
  · have opens : s.mayOpen = true := by
      rcases may with free | locked
      · simp [State.mayOpen, State.flag, setup, asked, free]
      · simp [State.mayOpen, setup, asked, locked]
    obtain ⟨-, store, bulk, life, ticks, ledger, keys, mcast, power, -⟩ := kept_parts s.enterOpen_kept_eq
    exact ⟨_, congrArg Host.Outcome.next (if_pos ⟨opens, early⟩), life, power, store, bulk, ledger, keys, mcast, ticks⟩
  · refine ⟨_, if_neg (Bool.eq_false_iff.mp high), rfl, s.clock_le_later, rfl, rfl⟩
  · exact pwrfailLow_completes low unfiltered comes
  · refine ⟨_, if_pos low, ?_, rfl⟩
    simp [unfiltered, lit]
  · refine ⟨_, if_pos low, ?_, rfl⟩
    simp [filtered]
    rfl
  · obtain ⟨life, power, reads, store, -⟩ := s.toShut_leaves
    exact ⟨_, drainDone_flushed shutter done flushed quiet, life, congrArg Power.shutDone power, reads, store⟩
  · obtain ⟨life, power, -⟩ := s.flushing.toShut_leaves
    exact ⟨_, drainDone_clean shutter done unflushed cleanA cleanB quiet, life, congrArg Power.shutDone power⟩
  · exact drainLimit_completes shutter comes
  · exact autoRestart_completes shut high unfiltered auto comes

end Sys2Proof.Machine
end

section
/-!
SUPPORT. The administrative commands of the Ledger (R503, R504, R523): images and the staging and switch of firmware.
-/
namespace Sys2Proof.Machine

section LedgerCommand
variable {s : State} {fn : Nat} {c : AdminCmd}

theorem pfOnly_pf (pf : fnIsPf fn = true) : pfOnly fn = Res.done := if_pos pf

theorem State.stagingCode_life (unset : s.life ≠ .setup) (unopened : s.life ≠ .open_) : s.stagingCode = Lres.state :=
  if_pos ⟨unset, unopened⟩

theorem State.switchCode_staged (staged : s.clerk.staged = 2) (life : s.life = .setup ∨ s.life = .open_) (none : s.clerk.switchBell = none)
    (b : Nat) : s.switchCode b = if s.bell + 16 ≤ b then Lres.ok else Lres.range :=
  if_neg (not_not.mpr ⟨staged, life, by rw [none]; rfl⟩)

theorem imageLoad_taken (has : s.adminHas fn 0x30 c) (pf : fnIsPf fn = true) (clean : Lcmd.clean c.raw = true)
    (aligned : Lcmd.report c.raw % 8 = 0) (image : Option Bytes) : exec (.imageLoad fn image) s =
      .next ((s.admWait fn 0).orQueue (.image fn image) (fun s => s.finishImage fn image)) :=
  congrArg Host.Outcome.next (State.admRun_done has (by simp [clean, aligned]) (by simp [pfOnly_pf pf]))

theorem State.orQueue_running {q : Queued} {go : State → State} (running : s.clerk.pausedAt = none) : s.orQueue q go = go s :=
  if_neg (by rw [running]; decide)

theorem State.orQueue_paused {q : Queued} {go : State → State} {t : Nat} (paused : s.clerk.pausedAt = some t) :
    s.orQueue q go = { s with clerk := { s.clerk with queue := s.clerk.queue ++ [q] } } :=
  if_pos (by rw [paused]; rfl)

/-- A command that has no image to load has a REPORT of 0. -/
theorem Lcmd.formed (clean : Lcmd.clean c.raw = true) (report : Lcmd.report c.raw = 0) :
    (Lcmd.clean c.raw && Lcmd.report c.raw == 0) = true := by
  rw [clean, report]
  rfl

theorem firmwareStage_begins (has : s.adminHas fn 0x31 c) (pf : fnIsPf fn = true) (clean : Lcmd.clean c.raw = true)
    (report : Lcmd.report c.raw = 0) (may : s.stagingCode = Lres.ok) : exec (.firmwareStage fn) s =
      .next (({ s with clerk := { s.clerk with loader := some (.admin fn), staged := 1 } } : State).admWait fn 0) :=
  congrArg Host.Outcome.next (State.admRun_done has (Lcmd.formed clean report) (by simp [pfOnly_pf pf, may]))

theorem firmwareStage_aborts (has : s.adminHas fn 0x31 c) (pf : fnIsPf fn = true) (clean : Lcmd.clean c.raw = true)
    (report : Lcmd.report c.raw = 0) (state : s.stagingCode = Lres.state) :
    exec (.firmwareStage fn) s = .next (s.admAbort fn Res.notPermitted) :=
  congrArg Host.Outcome.next (State.admRun_aborts has (Lcmd.formed clean report) (by rw [pfOnly_pf pf, state]; rfl))

theorem firmwareSwitch_pends (has : s.adminHas fn 0x32 c) (pf : fnIsPf fn = true) (clean : Lcmd.clean c.raw = true)
    (report : Lcmd.report c.raw = 0) (len : Lcmd.len c.raw = 0) (may : s.switchCode (Lcmd.addr c.raw) = Lres.ok) :
    exec (.firmwareSwitch fn) s =
      .next (({ s with clerk := { s.clerk with switchBell := some (Lcmd.addr c.raw), switchResult := 1 } } : State).admOk fn 0) :=
  congrArg Host.Outcome.next (State.admRun_done has (by rw [Lcmd.formed clean report, len]; rfl) (by simp [pfOnly_pf pf, may]))

theorem firmwareSwitch_aborts (has : s.adminHas fn 0x32 c) (pf : fnIsPf fn = true) (clean : Lcmd.clean c.raw = true)
    (report : Lcmd.report c.raw = 0) (len : Lcmd.len c.raw = 0) (early : s.switchCode (Lcmd.addr c.raw) = Lres.range) :
    exec (.firmwareSwitch fn) s = .next (s.admAbort fn Res.badState) :=
  congrArg Host.Outcome.next (State.admRun_aborts has (by rw [Lcmd.formed clean report, len]; rfl) (by rw [pfOnly_pf pf, early]; rfl))

end LedgerCommand

/-- Settles O29: each command by the results that it may meet. -/
theorem ledgerAdminCommands : Obligations.LedgerAdminCommands := by
  intro s fn c pf clean
  refine ⟨fun image has aligned running => ?_, fun image t has aligned paused => ?_,
    fun has report may => firmwareStage_begins has pf clean report may,
    fun has report unset unopened => firmwareStage_aborts has pf clean report (State.stagingCode_life unset unopened),
    fun has report len staged life none due => ?_, fun has report len staged life none early => ?_⟩
  · rw [imageLoad_taken has pf clean aligned, State.orQueue_running (s := s.admWait fn 0) running]
  · refine ⟨_, imageLoad_taken has pf clean aligned image, ?_⟩
    rw [State.orQueue_paused (s := s.admWait fn 0) paused]
    exact ⟨rfl, rfl⟩
  · exact firmwareSwitch_pends has pf clean report len ((State.switchCode_staged staged life none _).trans (if_pos due))
  · exact firmwareSwitch_aborts has pf clean report len
      ((State.switchCode_staged staged life none _).trans (if_neg (Nat.not_le.mpr early)))

end Sys2Proof.Machine
end

section
/-!
SUPPORT. The administrative commands of Porter channels (R472, R473, R485, R486).
-/
namespace Sys2Proof.Machine

section ChannelCommand
variable {s : State} {fn op ch : Nat} {c : AdminCmd} {may : Channel → Bool} {go : Nat → Channel → State}

/-- The command names a channel that the function owns (R472). -/
def State.ownsChan (s : State) (fn ch : Nat) (c : AdminCmd) : Prop :=
  Cmd.chan c.raw = ch ∧ bits c.raw 4 4 28 = 0 ∧ (s.chan ch).state ≠ .unbound ∧ (s.chan ch).fn = fn

theorem State.chanRun_done (owns : s.ownsChan fn ch c) (has : s.adminHas fn op c) (allowed : may (s.chan ch) = true) :
    s.chanRun fn op may go = go ch (s.chan ch) := by
  obtain ⟨rfl, reserved, bound, mine⟩ := owns
  exact State.admRun_done has (by simp [reserved]) (by simp [bound, mine, allowed])

theorem State.chanRun_aborts (owns : s.ownsChan fn ch c) (has : s.adminHas fn op c) (refused : may (s.chan ch) = false) :
    s.chanRun fn op may go = s.admAbort fn Res.badState := by
  obtain ⟨rfl, reserved, bound, mine⟩ := owns
  refine State.admRun_aborts has (by simp [reserved]) ?_
  simp only [bound, mine, refused, if_true, if_false, Bool.false_eq_true]
  rfl

/-- A channel as PORTER_BIND sets it up (R473, R486). -/
def Bind.channel (fn r : Nat) : Channel :=
  { Channel.fresh with state := .active, fn := fn, base := Bind.base r, log2 := Bind.log2 r, onError := Bind.onError r, pd := Bind.pd r,
                       eq := handleOpt (Bind.eq r), slot := Bind.slot r }

/-- A channel bound, with its share (R473, R484). -/
def State.bindChan (s : State) (fn ch r : Nat) : State :=
  (s.setParam (0xD10001 + ch) (Bind.share r)).modChan ch (fun _ => Bind.channel fn r)

theorem porterBind_made {s' : State} (has : s.adminHas fn 0x28 c) (formed : Bind.ok fn c.raw = true) (pd : Bind.pd c.raw ∈ (s.fn fn).pds)
    (eq : s.lookupOpt fn (Bind.eq c.raw) .eq = Res.done) (unused : s.slotInUse fn (Bind.slot c.raw) = false)
    (free : s.choose (fun ch => (s.chan ch).state != .unbound) 0 16 = (some ch, s')) :
    exec (.porterBind fn) s = .next (((s'.bindChan fn ch c.raw).modChan ch
      (fun x => { x with bucket := ((s'.bindChan fn ch c.raw).allowance ch : Nat) })).admOk fn ch) := by
  refine congrArg Host.Outcome.next ((State.admRun_done has formed (by simp [State.lookupPd_mem pd, eq, unused])).trans ?_)
  unfold channelTotal
  rw [free]
  rfl

end ChannelCommand

/-- Settles O26: each command by its state of the channel. -/
theorem porterChannelCommands : Obligations.PorterChannelCommands := by
  refine fun s fn c => ⟨fun ch s' => porterBind_made, fun ch names reserved bound mine => ?_⟩
  have owns : s.ownsChan fn ch c := ⟨names, reserved, bound, mine⟩
  refine ⟨fun has idle => ?_, fun has busy => ?_, fun has halted => ?_, fun has runs => ?_, fun has halted => ?_, fun has runs => ?_,
    fun has halted => ?_, fun has runs => ?_, fun has halted => ?_, fun has runs => ?_⟩
  · exact congrArg Host.Outcome.next (State.chanRun_done owns has idle)
  · exact congrArg Host.Outcome.next (State.chanRun_aborts owns has busy)
  · exact congrArg Host.Outcome.next ((State.chanRun_done owns has rfl).trans (if_pos halted))
  · exact congrArg Host.Outcome.next ((State.chanRun_done owns has rfl).trans (if_neg (Bool.eq_false_iff.mp runs)))
  · exact congrArg Host.Outcome.next ((State.chanRun_done owns has rfl).trans (if_pos halted))
  · exact congrArg Host.Outcome.next ((State.chanRun_done owns has rfl).trans (if_neg (Bool.eq_false_iff.mp runs)))
  · exact congrArg Host.Outcome.next (State.chanRun_done owns has halted)
  · exact congrArg Host.Outcome.next (State.chanRun_aborts owns has runs)
  · exact congrArg Host.Outcome.next ((State.chanRun_done owns has rfl).trans (if_pos halted))
  · exact congrArg Host.Outcome.next ((State.chanRun_done owns has rfl).trans (if_neg (Bool.eq_false_iff.mp runs)))

end Sys2Proof.Machine
end

section
/-!
SUPPORT. The Porter (R476 to R486): what leaves every channel as it is, the rows of a descriptor, and the bounds of a piece.
-/
namespace Sys2Proof.Machine

/-! ## What leaves the channels as they are -/

theorem State.porter_of_eventless {s t : State} (same : t.eventless = s.eventless) : t.porter = s.porter :=
  (congrArg State.porter same :)

@[simp] theorem State.request_porter (s : State) (u : HostUnit) : (s.request u).porter = s.porter :=
  State.porter_of_eventless (State.request_eventless ..)

@[simp] theorem State.postEvent_porter (s : State) (fn eq typ obj source : Nat) (after : List Source) :
    (s.postEvent fn eq typ obj source after).porter = s.porter :=
  State.porter_of_eventless (State.postEvent_eventless ..)

@[simp] theorem State.hostRead_porter (s : State) (fn cls stall : Nat) (src : Source) (addr len : Nat) (why : ReadFor)
    (acc : Option (Nat × Nat × Nat)) : (s.hostRead fn cls stall src addr len why acc).porter = s.porter := by
  unfold State.hostRead
  split
  · exact State.request_porter ..
  · rfl

@[simp] theorem State.tunePort_porter (s : State) (p : HPort) (f : HostPort → HostPort) : (s.tunePort p f).porter = s.porter := by
  cases p <;> rfl

@[simp] theorem State.porterEvent_porter (s : State) (ch : Nat) (c : Channel) (reason : Nat) (idx : BitVec 16) :
    (s.porterEvent ch c reason idx).porter = s.porter := by
  unfold State.porterEvent
  split
  · exact State.postEvent_porter ..
  · rfl

@[simp] theorem State.writeBack_porter (s : State) (ch : Nat) (idx : BitVec 16) (d status done : Nat) :
    (s.writeBack ch idx d status done).porter = s.porter := by
  unfold State.writeBack
  dsimp only
  split <;> split <;> simp

@[simp] theorem State.cqNotify_porter (s : State) (fn cq : Nat) : (s.cqNotify fn cq).porter = s.porter := by
  unfold State.cqNotify
  split
  · rfl
  dsimp only
  split
  · rfl
  · exact State.postEvent_porter ..

@[simp] theorem State.writeCompletion_porter (s : State) (fn cq img : Nat) (solicited : Bool) (after : List Source) :
    (s.writeCompletion fn cq img solicited after).porter = s.porter := by
  unfold State.writeCompletion
  split
  · rfl
  dsimp only
  split <;> simp

theorem State.reserve_porter {s t : State} {fn cq : Nat} (reserved : s.reserve fn cq = some t) : t.porter = s.porter := by
  unfold State.reserve at reserved
  split at reserved
  · cases reserved
  split at reserved
  · cases reserved
    rfl
  · cases reserved

@[simp] theorem State.fetchAdmin_porter (s : State) (fn : Nat) : (s.fetchAdmin fn).porter = s.porter := by
  unfold State.fetchAdmin
  dsimp only
  split
  · split
    · next t reserved =>
      have same : t.porter = s.porter := State.reserve_porter reserved
      exact (State.hostRead_porter ..).trans same
    · rfl
  · rfl

@[simp] theorem State.admOk_porter (s : State) (fn ret : Nat) : (s.admOk fn ret).porter = s.porter := by
  unfold State.admOk State.admDone
  split
  · rfl
  dsimp only
  split
  · exact (State.writeCompletion_porter ..)
  · rw [State.fetchAdmin_porter, State.writeCompletion_porter]
    rfl

theorem State.chan_of_porter {s t : State} (same : t.porter = s.porter) (ch : Nat) : t.chan ch = s.chan ch := by
  rw [State.chan, State.chan, same]

/-! ## The rows of a descriptor (R477 to R479, R481, R483, R486) -/

section Row
variable {s : State} {ch : Nat}

/-- The read of the next descriptor changes nothing of its channel but that one is being read. -/
theorem State.fetchDesc_chan (s : State) (ch : Nat) : ∃ reading, (s.fetchDesc ch).chan ch = { s.chan ch with fetching := reading } := by
  unfold State.fetchDesc
  refine iteInduction (motive := fun t => ∃ reading, State.chan t ch = { s.chan ch with fetching := reading }) (fun _ => ?_) (fun _ => ?_)
  · exact ⟨true, (State.chan_of_porter (State.hostRead_porter ..) ch).trans (State.modChan_chan ..)⟩
  · exact ⟨(s.chan ch).fetching, rfl⟩

theorem State.startDesc_head {d : Nat} {rest : List (BitVec 16 × Nat)} (idle : (s.chan ch).cur = none)
    (head : (s.chan ch).ahead = ((s.chan ch).ci, d) :: rest) (active : (s.chan ch).state = .active) (opened : s.life = .open_)
    (whole : d < 2 ^ 512) : s.startDesc ch = (s.modChan ch (fun c =>
      { c with ahead := rest, cur := some d, off := 0, done := 0, fail := s.descFault (s.chan ch) d })).fetchDesc ch := by
  unfold State.startDesc
  dsimp only
  rw [idle, head]
  dsimp only
  rw [if_pos (by simp [Channel.runs, active, opened]), if_neg (Nat.not_le.mpr whole), Nat.mod_eq_of_lt whole]

/-- The channel once a piece of its descriptor has been issued (R481, R484). -/
def Channel.issued (c : Channel) (d share : Nat) : Channel :=
  { c with off := c.off + Desc64.piece d c.off, inflight := c.inflight ++ [(c.off, Desc64.piece d c.off)],
           bucket := if share = 256 then c.bucket else c.bucket - Desc64.charge d (Desc64.piece d c.off) }

/-- A piece whose source is the Device Store is read at once (R480, R481). -/
theorem State.issuePiece_store {d : Nat} (cur : (s.chan ch).cur = some d) (runs : (s.chan ch).runs = true) (sound : (s.chan ch).fail = none)
    (found : (s.chan ch).missed = false) (left : (s.chan ch).off < Desc64.total d)
    (share : s.chanShare ch = 256 ∨ 0 ≤ (s.chan ch).bucket) (awake : s.awake (s.chan ch).fn = true) (opened : s.life = .open_)
    (source : Desc64.srcKind d = 1) : s.issuePiece ch =
      (s.modChan ch (fun c => c.issued d (s.chanShare ch))).pieceBack ch (s.chan ch).off
        (some (Cells.readBytes s.store (sideAddr (Desc64.srcAddr d) (Desc64.srcLine d) (Desc64.srcStride d) (s.chan ch).off)
          (Desc64.piece d (s.chan ch).off), s.linePoison (sideAddr (Desc64.srcAddr d) (Desc64.srcLine d) (Desc64.srcStride d) (s.chan ch).off)
          (Desc64.piece d (s.chan ch).off))) := by
  have within : (s.chanShare ch != 256 && decide ((s.chan ch).bucket < 0)) = false := by
    rcases share with all | charged
    · simp [all]
    · simp [Int.not_lt.mpr charged]
  unfold State.issuePiece
  dsimp only
  rw [cur]
  dsimp only
  rw [if_neg (by simp [runs, sound, found, Nat.not_le.mpr left, within, awake, opened, source]), source]
  rfl

theorem State.issuePiece_idle {d : Nat} (cur : (s.chan ch).cur = some d)
    (idle : (s.chan ch).fail.isSome = true ∨ (s.chan ch).missed = true ∨ Desc64.total d ≤ (s.chan ch).off ∨ s.life ≠ .open_) :
    s.issuePiece ch = s := by
  unfold State.issuePiece
  dsimp only
  rw [cur]
  refine if_pos ?_
  rcases idle with failed | missed | moved | closed
  · simp [failed]
  · simp [missed]
  · simp [moved]
  · simp [closed]

theorem State.settleDrain_running (undrained : (s.chan ch).state ≠ .draining) : s.settleDrain ch = s :=
  if_neg (mt And.left undrained)

theorem State.settlePause_running (unpaused : (s.chan ch).state ≠ .pausing) : s.settlePause ch = s :=
  if_neg (mt And.left unpaused)

theorem Channel.finished_cur {c : Channel} {st : Nat} (finished : c.finished = some st) : ∃ d, c.cur = some d := by
  cases cur : c.cur with
  | none =>
    rw [Channel.finished, cur] at finished
    cases finished
  | some d => exact ⟨d, rfl⟩

/-- The channel once its descriptor has ended (R478). -/
def Channel.ended (c : Channel) : Channel :=
  { c with ci := c.ci + 1, cur := none, off := 0, done := 0, inflight := [], arrived := [], fail := none, missed := false }

/-- The state once the descriptor of a channel has been written back and its channel has moved on (R478). -/
def State.descEnded (s : State) (ch d status : Nat) : State :=
  (s.writeBack ch (s.chan ch).ci d status (s.chan ch).done).modChan ch Channel.ended

theorem State.descEnded_chan (s : State) (ch d status : Nat) : (s.descEnded ch d status).chan ch = (s.chan ch).ended := by
  rw [State.descEnded, State.modChan_chan, State.chan_of_porter (State.writeBack_porter ..)]

/-- A descriptor that ends well, or malformed, or on a channel that goes on after errors, lets the channel go on (R478, R483). -/
theorem State.endDesc_goesOn {d st : Nat} (cur : (s.chan ch).cur = some d) (active : (s.chan ch).state = .active)
    (goesOn : (s.chan ch).onError = true ∨ st = Status.ok ∨ st = Status.malformed) :
    s.endDesc ch st = (s.descEnded ch d st).fetchDesc ch := by
  have running : ((s.descEnded ch d st).chan ch).state = .active := by
    rw [State.descEnded_chan]
    exact active
  have unstopped : ((s.chan ch).onError == false && st != Status.ok && st != Status.malformed) = false := by
    rcases goesOn with onError | rfl | rfl
    · simp [onError]
    · simp
    · simp
  have settled : ((s.descEnded ch d st).settleDrain ch).settlePause ch = s.descEnded ch d st := by
    rw [State.settleDrain_running (by simp [running]), State.settlePause_running (by simp [running])]
  unfold State.endDesc
  dsimp only
  rw [cur]
  dsimp only
  rw [unstopped, if_neg Bool.false_ne_true]
  show (((s.descEnded ch d st).settleDrain ch).settlePause ch).fetchDesc ch = _
  rw [settled]

/-- A descriptor that fails stops a channel that does not go on after errors (R483). -/
theorem State.endDesc_stops {d st : Nat} (cur : (s.chan ch).cur = some d) (active : (s.chan ch).state = .active)
    (onError : (s.chan ch).onError = false) (failed : st ≠ Status.ok) (formed : st ≠ Status.malformed) :
    s.endDesc ch st = ((s.descEnded ch d st).modChan ch (fun c => { c with state := .stopped, ahead := [] })).porterEvent ch (s.chan ch) 2
      (s.chan ch).ci := by
  have stopped : ((s.chan ch).onError == false && st != Status.ok && st != Status.malformed) = true := by
    simp [onError, failed, formed]
  unfold State.endDesc
  dsimp only
  have unwaited : ¬((s.chan ch).state = .pausing ∨ (s.chan ch).state = .draining) := by simp [active]
  rw [cur, stopped]
  exact if_neg unwaited

theorem descriptorWriteBack_ends {st : Nat} (finished : (s.chan ch).finished = some st) (active : (s.chan ch).state = .active)
    (opened : s.life = .open_) (up : s.portUp (fnPort (s.chan ch).fn) = true) :
    exec (.descriptorWriteBack ch) s = .next (s.endDesc ch st) := by
  show execDescriptorWriteBack ch s = _
  unfold execDescriptorWriteBack
  dsimp only
  rw [finished]
  exact if_pos (by simp [Channel.runs, active, opened, up])

/-- A channel whose last piece is back is PAUSED, and the command that waits is answered (R486). -/
theorem State.settlePause_settles (pausing : (s.chan ch).state = .pausing) (quiet : (s.chan ch).inflight = [])
    (unaborted : ∀ fn, (s.chan ch).waiter ≠ some (fn, true)) : s.settlePause ch =
      ((s.modChan ch (fun c => { c with state := .paused, ahead := [], missed := false })).porterEvent ch (s.chan ch) 1
        (s.chan ch).ci).chanDone ch := by
  unfold State.settlePause
  dsimp only
  rw [if_pos ⟨pausing, quiet⟩]
  split
  · next fn waits => exact absurd waits (unaborted fn)
  · rfl

theorem State.chanDone_chan (s : State) (ch : Nat) : (s.chanDone ch).chan ch = { s.chan ch with waiter := none } := by
  unfold State.chanDone
  split
  · rw [State.chan_of_porter (State.admOk_porter ..), State.modChan_chan]
  · next unwaited => rw [← unwaited]

end Row

/-! ## The bounds of a piece (R481) -/

theorem add_lineLeft {line : Nat} (off : Nat) (long : 0 < line) : off % line + lineLeft line off = line :=
  Nat.add_sub_cancel' (Nat.mod_lt off long).le

theorem lineLeft_pos {line : Nat} (off : Nat) (long : 0 < line) : 0 < lineLeft line off := Nat.sub_pos_of_lt (Nat.mod_lt off long)

/-- The line of an offset within a side ends within the side. -/
theorem add_lineLeft_le {line lines off : Nat} (within : off < line * lines) : off + lineLeft line off ≤ line * lines := by
  have long : 0 < line := Nat.pos_of_mul_pos_right (Nat.zero_lt_of_lt within)
  have earlier : off / line + 1 ≤ lines := Nat.div_lt_of_lt_mul within
  calc off + lineLeft line off = line * (off / line) + (off % line + lineLeft line off) := by rw [← Nat.add_assoc, Nat.div_add_mod]
    _ = line * (off / line + 1) := by rw [add_lineLeft off long, Nat.mul_add, Nat.mul_one]
    _ ≤ line * lines := Nat.mul_le_mul_left line earlier

section Piece
variable {d off : Nat}

/-- Where a stream offset lies at the destination. -/
def Desc64.dstAt (d off : Nat) : Nat := sideAddr (Desc64.dstAddr d) (Desc64.dstLine d) (Desc64.dstStride d) off

/-- Where a stream offset lies at the source. -/
def Desc64.srcAt (d off : Nat) : Nat := sideAddr (Desc64.srcAddr d) (Desc64.srcLine d) (Desc64.srcStride d) off

/-- Bytes left in the page of an address on a side of a kind: only a side in host memory has pages. -/
def pageLeft (kind addr : Nat) : Nat := if kind = 0 then 4096 - addr % 4096 else 4096

theorem pageLeft_pos (kind addr : Nat) : 0 < pageLeft kind addr := by
  unfold pageLeft
  split
  · exact Nat.sub_pos_of_lt (Nat.mod_lt addr (by decide))
  · decide

theorem add_pageLeft {kind : Nat} (host : kind = 0) (addr : Nat) : addr % 4096 + pageLeft kind addr = 4096 := by
  rw [pageLeft, if_pos host]
  exact Nat.add_sub_cancel' (Nat.mod_lt addr (by decide)).le

/-- A piece is the least of what is left in the lines and in the pages of its two sides (R481). -/
theorem Desc64.piece_eq (d off : Nat) : Desc64.piece d off =
    if Desc64.srcKind d = 2 then min (lineLeft (Desc64.dstLine d) off) (pageLeft (Desc64.dstKind d) (Desc64.dstAt d off))
    else min (min (lineLeft (Desc64.dstLine d) off) (pageLeft (Desc64.dstKind d) (Desc64.dstAt d off)))
      (min (lineLeft (Desc64.srcLine d) off) (pageLeft (Desc64.srcKind d) (Desc64.srcAt d off))) := rfl

theorem Desc64.piece_le_dst : Desc64.piece d off ≤ lineLeft (Desc64.dstLine d) off ∧
    Desc64.piece d off ≤ pageLeft (Desc64.dstKind d) (Desc64.dstAt d off) := by
  rw [Desc64.piece_eq, ← Nat.le_min]
  split
  · exact le_rfl
  · exact Nat.min_le_left ..

theorem Desc64.piece_le_src (moved : Desc64.srcKind d ≠ 2) : Desc64.piece d off ≤ lineLeft (Desc64.srcLine d) off ∧
    Desc64.piece d off ≤ pageLeft (Desc64.srcKind d) (Desc64.srcAt d off) := by
  rw [Desc64.piece_eq, ← Nat.le_min, if_neg moved]
  exact Nat.min_le_right ..

theorem Desc64.ok_lines (formed : Desc64.ok d = true) :
    0 < Desc64.dstLine d ∧ (Desc64.srcKind d ≠ 2 → 0 < Desc64.srcLine d) := by
  simp only [Desc64.ok, lineOk, Bool.and_eq_true, decide_eq_true_eq] at formed
  obtain ⟨⟨⟨⟨⟨⟨⟨⟨-, dst⟩, -⟩, src⟩, -⟩, -⟩, -⟩, -⟩, -⟩ := formed
  refine ⟨dst.1, fun moved => ?_⟩
  rw [if_neg (by simpa using moved)] at src
  simp only [Bool.and_eq_true, decide_eq_true_eq] at src
  exact src.1.1

theorem Desc64.piece_pos (formed : Desc64.ok d = true) : 0 < Desc64.piece d off := by
  obtain ⟨dst, src⟩ := Desc64.ok_lines formed
  rw [Desc64.piece_eq]
  have dstLeft := Nat.lt_min.mpr ⟨lineLeft_pos off dst, pageLeft_pos (Desc64.dstKind d) (Desc64.dstAt d off)⟩
  split
  · exact dstLeft
  · next moved => exact Nat.lt_min.mpr ⟨dstLeft, Nat.lt_min.mpr ⟨lineLeft_pos off (src moved), pageLeft_pos ..⟩⟩

end Piece

/-- Settles O58: each row by its condition on the channel, and the piece as the least of what its sides leave. -/
theorem porterCommands : Obligations.PorterCommands := by
  intro s ch
  refine ⟨fun i d rest idle head active at_ opened whole => ?_, fun d cur runs sound found left share awake opened source => ?_,
    fun d cur idle => congrArg Host.Outcome.next (State.issuePiece_idle cur idle), fun st finished active opened up => ?_,
    fun pausing quiet unaborted => ?_, fun unpaused => congrArg Host.Outcome.next (State.settlePause_running unpaused),
    fun d off formed within => ?_⟩
  · have ran : exec (.descriptorStart ch) s = .next (s.startDesc ch) := rfl
    have starts := State.startDesc_head idle (at_ ▸ head) active opened whole
    obtain ⟨reading, chan⟩ := State.fetchDesc_chan (s.modChan ch (fun c =>
      { c with ahead := rest, cur := some d, off := 0, done := 0, fail := s.descFault (s.chan ch) d })) ch
    rw [State.modChan_chan, ← starts] at chan
    refine ⟨_, ran, ?_⟩
    obtain ⟨-, store, -⟩ := kept_parts (keptO_next_of (execDescriptorStart_kept ch s) ran)
    rw [chan]
    exact ⟨rfl, rfl, rfl, rfl, rfl, rfl, store⟩
  · refine ⟨s.modChan ch (fun c => c.issued d (s.chanShare ch)), ?_, ?_, rfl,
      congrArg Host.Outcome.next (State.issuePiece_store cur runs sound found left share awake opened source)⟩
    all_goals rw [State.modChan_chan]; rfl
  · obtain ⟨d, cur⟩ := Channel.finished_cur finished
    have ran := descriptorWriteBack_ends finished active opened up
    obtain ⟨-, store, -⟩ := kept_parts (keptO_next_of (execDescriptorWriteBack_kept ch s) ran)
    refine ⟨fun goesOn => ⟨_, ran, ?_⟩, fun onError failed unmalformed => ⟨_, ran, ?_⟩⟩
    · obtain ⟨reading, chan⟩ := State.fetchDesc_chan (s.descEnded ch d st) ch
      rw [State.descEnded_chan, ← State.endDesc_goesOn cur active goesOn] at chan
      rw [chan]
      exact ⟨rfl, rfl, active, store⟩
    · have chan := State.chan_of_porter (congrArg State.porter (State.endDesc_stops cur active onError failed unmalformed)) ch
      rw [State.chan_of_porter (State.porterEvent_porter ..), State.modChan_chan, State.descEnded_chan] at chan
      dsimp only
      rw [chan]
      exact ⟨rfl, rfl, rfl, store⟩
  · have ran : exec (.porterPaused ch) s = .next (s.settlePause ch) := rfl
    obtain ⟨-, store, -⟩ := kept_parts (keptO_next_of (execPorterPaused_kept ch s) ran)
    have chan := congrArg (State.chan · ch) (State.settlePause_settles pausing quiet unaborted)
    rw [State.chanDone_chan, State.chan_of_porter (State.porterEvent_porter ..), State.modChan_chan] at chan
    refine ⟨_, ran, ?_⟩
    dsimp only
    rw [chan]
    exact ⟨rfl, rfl, rfl, store⟩
  · obtain ⟨dst, src⟩ := Desc64.ok_lines formed
    obtain ⟨dstLeft, dstPage⟩ := Desc64.piece_le_dst (d := d) (off := off)
    refine ⟨Desc64.piece_pos formed, (Nat.add_le_add_left dstLeft off).trans (add_lineLeft_le within),
      (Nat.add_le_add_left dstLeft _).trans (add_lineLeft off dst).le,
      fun host => (Nat.add_le_add_left dstPage _).trans (add_pageLeft host _).le, fun host => ?_⟩
    have moved : Desc64.srcKind d ≠ 2 := by simp [host]
    obtain ⟨srcLeft, srcPage⟩ := Desc64.piece_le_src (off := off) moved
    exact ⟨(Nat.add_le_add_left srcLeft _).trans (add_lineLeft off (src moved)).le,
      (Nat.add_le_add_left srcPage _).trans (add_pageLeft host _).le⟩

end Sys2Proof.Machine
end

section
/-!
SUPPORT. The management bus (R508 to R515, R519): frames that are taken, the requests, the rate, error confinement and frames not sent.
-/
namespace Sys2Proof.Machine

section Frame
variable {s : State} {f : LapFrame} {go : State → State}

/-! ## Frames that are taken (R511, R515, R519) -/

theorem State.lapHears_audible (hears : s.lapHears = true) : s.lap.silent = false := by
  simp only [State.lapHears, Bool.and_eq_true, Bool.not_eq_true'] at hears
  exact hears.1.2

/-- The state in which a request runs: the frame is counted, and a WRITE under assembly of its requester is dropped (R511). -/
def State.lapTaken (s : State) (f : LapFrame) : State :=
  { s with lap := { s.lap with goodSince := true, counts := modNth s.lap.counts 0 (· + 1),
                               writes := s.lap.writes.filter (fun w => w.1 != LapFrame.field f 2 0 7) } }

theorem State.lapTaken_eq (s : State) (f : LapFrame) : (s.lapGood.lapCount 1).dropWrite (LapFrame.field f 2 0 7) = s.lapTaken f := by
  simp only [State.lapTaken, State.dropWrite, State.lapCount, State.lapGood]

@[simp] theorem State.lapCount_counts (s : State) (n : Nat) : (s.lapCount n).lap.counts = modNth s.lap.counts (n - 1) (· + 1) := rfl
@[simp] theorem State.lapCount_txq (s : State) (n : Nat) : (s.lapCount n).lap.txq = s.lap.txq := rfl
@[simp] theorem State.lapCount_ledger (s : State) (n : Nat) : (s.lapCount n).ledger = s.ledger := rfl
@[simp] theorem State.lapGood_counts (s : State) : s.lapGood.lap.counts = s.lap.counts := rfl
@[simp] theorem State.lapGood_txq (s : State) : s.lapGood.lap.txq = s.lap.txq := rfl
@[simp] theorem State.lapGood_ledger (s : State) : s.lapGood.ledger = s.ledger := rfl
@[simp] theorem State.lapTaken_counts (s : State) (f : LapFrame) : (s.lapTaken f).lap.counts = modNth s.lap.counts 0 (· + 1) := rfl
@[simp] theorem State.lapTaken_txq (s : State) (f : LapFrame) : (s.lapTaken f).lap.txq = s.lap.txq := rfl
@[simp] theorem State.lapTaken_clerk (s : State) (f : LapFrame) : (s.lapTaken f).clerk = s.clerk := rfl
@[simp] theorem State.lapTaken_silent (s : State) (f : LapFrame) : (s.lapTaken f).lap.silent = s.lap.silent := rfl
@[simp] theorem State.lapTaken_ledger (s : State) (f : LapFrame) : (s.lapTaken f).ledger = s.ledger := rfl
@[simp] theorem State.lapTaken_keptAnswer (s : State) (f : LapFrame) (inband : Bool) (who ident : Nat) :
    (s.lapTaken f).keptAnswer inband who ident = s.keptAnswer inband who ident := rfl

theorem State.lapTake_room (room : s.lapHeld < 32) (other : LapFrame.field f 0 0 8 ≠ 2) : s.lapTake f go = go (s.lapTaken f) := by
  unfold State.lapTake
  simp only [other, if_false, State.lapTaken_eq]
  exact if_neg (Nat.not_le.mpr room)

theorem State.lapTake_write (room : s.lapHeld < 32) (write : LapFrame.field f 0 0 8 = 2) :
    s.lapTake f go = go (s.lapGood.lapCount 1) := by
  unfold State.lapTake
  simp only [write, if_true]
  exact if_neg (Nat.not_le.mpr room)

/-- A frame beyond the requests that the part holds is dropped and counted, and nothing is answered (R515). -/
theorem State.lapTake_full (full : 32 ≤ s.lapHeld) : s.lapTake f go =
    (if LapFrame.field f 0 0 8 = 2 then s.lapGood.lapCount 1 else s.lapTaken f).lapCount 6 := by
  unfold State.lapTake
  by_cases write : LapFrame.field f 0 0 8 = 2
  · simp only [write, if_true]
    exact if_pos full
  · simp only [write, if_false, State.lapTaken_eq]
    exact if_pos full

/-- The state with the first segment of a WRITE under assembly (R511). -/
def State.lapAssembles (s : State) (f : LapFrame) : State :=
  { s with lap := { s.lap with
    writes := s.lap.writes ++ [(LapFrame.field f 2 0 7, LapFrame.field f 1 0 8, LapFrame.field f 4 0 24, f.data.drop 8, 1)] } }

/-- The WRITE under assembly of the frame's requester is the one that the frame begins. -/
theorem State.lapAssembles_find (s : State) (f : LapFrame) :
    ((s.lapTaken f).lapAssembles f).lap.writes.find? (fun w => w.1 == LapFrame.field f 2 0 7) =
      some (LapFrame.field f 2 0 7, LapFrame.field f 1 0 8, LapFrame.field f 4 0 24, f.data.drop 8, 1) := by
  have dropped : (s.lapTaken f).lap.writes.find? (fun w => w.1 == LapFrame.field f 2 0 7) = none := by
    refine List.find?_eq_none.mpr fun w kept => ?_
    simpa using (List.mem_filter.mp kept).2
  rw [State.lapAssembles, List.find?_append, dropped]
  simp

theorem State.lapOnce_new (new : s.keptAnswer false (LapFrame.field f 2 0 7) (LapFrame.field f 1 0 8) = none) : s.lapOnce f go = go s := by
  unfold State.lapOnce
  rw [new]

theorem State.lapOnce_repeated {k : Kpt} (kept : s.keptAnswer false (LapFrame.field f 2 0 7) (LapFrame.field f 1 0 8) = some k) :
    s.lapOnce f go = s.lapQueue k.frames := by
  unfold State.lapOnce
  rw [kept]

/-! ## The rows of requests (R510, R511, R520) -/

section Own
variable (hears : s.lapHears = true) (own : f.ident = s.lapOwn)
include hears own

theorem lapRead_taken (op : LapFrame.field f 0 0 8 = 1) : exec (.lapRead f) s = .next (s.lapTake f (fun s =>
    if LapFrame.field f 0 0 8 != 1 || !LapFrame.addressed f then s.lapFormat f
    else s.lapOnce f (fun s => s.access (.lap (LapFrame.field f 2 0 7) (LapFrame.field f 1 0 8)) false (LapFrame.field f 4 0 24) []))) :=
  if_neg (by simp [hears, own, op])

theorem lapRead_addressed (op : LapFrame.field f 0 0 8 = 1) (room : s.lapHeld < 32) (addressed : LapFrame.addressed f = true) :
    exec (.lapRead f) s = .next ((s.lapTaken f).lapOnce f (fun s =>
      s.access (.lap (LapFrame.field f 2 0 7) (LapFrame.field f 1 0 8)) false (LapFrame.field f 4 0 24) [])) := by
  rw [lapRead_taken hears own op, State.lapTake_room room (by simp [op])]
  exact congrArg Host.Outcome.next (if_neg (by simp [op, addressed]))

theorem lapRead_unaddressed (op : LapFrame.field f 0 0 8 = 1) (room : s.lapHeld < 32) (unaddressed : LapFrame.addressed f = false) :
    exec (.lapRead f) s = .next ((s.lapTaken f).lapFormat f) := by
  rw [lapRead_taken hears own op, State.lapTake_room room (by simp [op])]
  exact congrArg Host.Outcome.next (if_pos (by simp [unaddressed]))

/-- The segment of a WRITE that begins one, in the state in which it is taken (R511). -/
theorem lapWrite_first (op : LapFrame.field f 0 0 8 = 2) (room : s.lapHeld < 32) (addressed : LapFrame.addressed f = true)
    (first : LapFrame.field f 3 0 7 = 0) : exec (.lapWrite f) s = .next (if LapFrame.field f 3 7 1 = 0 then
        (s.lapTaken f).lapAssembles f
      else (lapValue (LapFrame.field f 4 0 24) (f.data.drop 8)).elim ((s.lapTaken f).lapFormat f) (fun v => (s.lapTaken f).lapOnce f (fun s =>
        s.access (.lap (LapFrame.field f 2 0 7) (LapFrame.field f 1 0 8)) true (LapFrame.field f 4 0 24) v))) := by
  show execLapWrite f s = _
  unfold execLapWrite
  dsimp only
  rw [if_neg (by simp [hears, own, op]), State.lapTake_write room op, if_pos first, addressed, first, State.lapTaken_eq]
  refine congrArg Host.Outcome.next ?_
  dsimp only
  rw [List.nil_append]
  cases lapValue (LapFrame.field f 4 0 24) (f.data.drop 8) <;> rfl

theorem lapWrite_taken (op : LapFrame.field f 0 0 8 = 2) : ∃ go, exec (.lapWrite f) s = .next (s.lapTake f go) := by
  show ∃ go, execLapWrite f s = _
  unfold execLapWrite
  dsimp only
  rw [if_neg (by simp [hears, own, op])]
  exact ⟨_, rfl⟩

theorem lapBlock_taken (op : LapFrame.field f 0 0 8 = 3) : ∃ go, exec (.lapBlock f) s = .next (s.lapTake f go) := by
  show ∃ go, execLapBlock f s = _
  unfold execLapBlock
  dsimp only
  rw [if_neg (by simp [hears, own, op])]
  exact ⟨_, rfl⟩

theorem lapBlock_formed (op : LapFrame.field f 0 0 8 = 3) (room : s.lapHeld < 32) (reserved : LapFrame.field f 2 7 1 = 0)
    (some_ : 1 ≤ LapFrame.field f 3 0 8) (most : LapFrame.field f 3 0 8 ≤ 56) (whole : 8 + LapFrame.field f 3 0 8 ≤ f.data.length) :
    exec (.lapBlock f) s = .next ((s.lapTaken f).lapOnce f (fun s => s.orQueue
      (.block (.lap (LapFrame.field f 2 0 7) (LapFrame.field f 1 0 8)) (LapFrame.field f 4 0 32) ((f.data.drop 8).take (LapFrame.field f 3 0 8)))
      (fun s => (s.putBlock (LapFrame.field f 4 0 32) ((f.data.drop 8).take (LapFrame.field f 3 0 8))).2.lapAnswer
        (LapFrame.field f 2 0 7) (LapFrame.field f 1 0 8)
        [(s.putBlock (LapFrame.field f 4 0 32) ((f.data.drop 8).take (LapFrame.field f 3 0 8))).2.lapPlain 3 (LapFrame.field f 2 0 7)
          (LapFrame.field f 1 0 8) (LapFrame.field f 3 0 8)
          (s.putBlock (LapFrame.field f 4 0 32) ((f.data.drop 8).take (LapFrame.field f 3 0 8))).1]))) := by
  show execLapBlock f s = _
  unfold execLapBlock
  dsimp only
  rw [if_neg (by simp [hears, own, op]), State.lapTake_room room (by simp [op])]
  exact congrArg Host.Outcome.next (if_neg (by omega))

end Own

theorem lapPing_taken (hears : s.lapHears = true) (heard : f.ident = s.lapOwn ∨ f.ident = s.lapAll) (op : LapFrame.field f 0 0 8 = 5) :
    exec (.lapPing f) s = .next (s.lapTake f (fun s => s.lapOnce f (fun s => s.lapAnswer (LapFrame.field f 2 0 7) (LapFrame.field f 1 0 8)
      [s.lapPlain 5 (LapFrame.field f 2 0 7) (LapFrame.field f 1 0 8) 0 Lres.ok]))) :=
  if_neg (by rcases heard with heard | heard <;> simp [hears, heard, op])

/-- What a request leaves that the part has no room for (R515). -/
theorem lapTake_full_completes {c : Instr} (full : 32 ≤ s.lapHeld) (taken : exec c s = .next (s.lapTake f go)) : Completes c s fun t =>
    t.lap.txq = s.lap.txq ∧ t.lap.counts = modNth (modNth s.lap.counts 0 (· + 1)) 5 (· + 1) ∧ t.ledger = s.ledger := by
  refine ⟨_, taken, ?_⟩
  rw [State.lapTake_full full]
  split <;> simp

theorem lapRequest_full {c : Instr} {n : Nat} (hears : s.lapHears = true) (own : f.ident = s.lapOwn) (full : 32 ≤ s.lapHeld)
    (op : LapFrame.field f 0 0 8 = n) (row : c = .lapRead f ∧ n = 1 ∨ c = .lapWrite f ∧ n = 2 ∨ c = .lapBlock f ∧ n = 3 ∨ c = .lapPing f ∧ n = 5) :
    Completes c s fun t => t.lap.txq = s.lap.txq ∧ t.lap.counts = modNth (modNth s.lap.counts 0 (· + 1)) 5 (· + 1) ∧ t.ledger = s.ledger := by
  rcases row with ⟨rfl, rfl⟩ | ⟨rfl, rfl⟩ | ⟨rfl, rfl⟩ | ⟨rfl, rfl⟩
  · exact lapTake_full_completes full (lapRead_taken hears own op)
  · obtain ⟨go, taken⟩ := lapWrite_taken hears own op
    exact lapTake_full_completes full taken
  · obtain ⟨go, taken⟩ := lapBlock_taken hears own op
    exact lapTake_full_completes full taken
  · exact lapTake_full_completes full (lapPing_taken hears (.inl own) op)

end Frame

/-! ## Answers and blocks -/

section Answer
variable {s : State}

theorem State.lapQueue_audible (audible : s.lap.silent = false) (frames : List LapFrame) : s.lapQueue frames =
    { s with lap := { s.lap with txq := s.lap.txq ++ frames.map (fun f => ⟨f, s.clock, s.lap.resps⟩), resps := s.lap.resps + 1 } } :=
  if_neg (Bool.eq_false_iff.mp audible)

theorem State.lapAnswer_txq (audible : s.lap.silent = false) (src tid : Nat) (frames : List LapFrame) :
    (s.lapAnswer src tid frames).lap.txq = s.lap.txq ++ frames.map (fun f => ⟨f, s.clock, s.lap.resps⟩) := by
  rw [State.lapAnswer, State.lapQueue_audible audible]
  rfl

theorem State.putBlock_ok {off : Nat} {data : Bytes} (may : s.blockCode off data.length = Lres.ok) :
    s.putBlock off data = (Lres.ok, { s with bulk := Cells.writeBytes s.bulk off data }) := by
  unfold State.putBlock
  rw [may]
  rfl


/-- A BLOCK that may be stored is written into the bulk buffer, and answered (R520). -/
theorem lapBlock_stores {f : LapFrame} (hears : s.lapHears = true) (own : f.ident = s.lapOwn) (op : LapFrame.field f 0 0 8 = 3)
    (room : s.lapHeld < 32) (reserved : LapFrame.field f 2 7 1 = 0) (some_ : 1 ≤ LapFrame.field f 3 0 8) (most : LapFrame.field f 3 0 8 ≤ 56)
    (whole : 8 + LapFrame.field f 3 0 8 ≤ f.data.length)
    (new : s.keptAnswer false (LapFrame.field f 2 0 7) (LapFrame.field f 1 0 8) = none) (running : s.clerk.pausedAt = none)
    (may : s.blockCode (LapFrame.field f 4 0 32) (LapFrame.field f 3 0 8) = Lres.ok) : Completes (.lapBlock f) s fun t =>
      t.bulk = Cells.writeBytes s.bulk (LapFrame.field f 4 0 32) ((f.data.drop 8).take (LapFrame.field f 3 0 8)) ∧
      t.store = s.store ∧ t.ledger = s.ledger := by
  have length : ((f.data.drop 8).take (LapFrame.field f 3 0 8)).length = LapFrame.field f 3 0 8 := by
    rw [List.length_take, List.length_drop]
    omega
  have code : (s.lapTaken f).blockCode (LapFrame.field f 4 0 32) ((f.data.drop 8).take (LapFrame.field f 3 0 8)).length = Lres.ok := by
    rw [length]
    exact may
  have ran := lapBlock_formed hears own op room reserved some_ most whole
  rw [State.lapOnce_new ((s.lapTaken_keptAnswer ..).trans new), State.orQueue, if_neg (by rw [State.lapTaken_clerk, running]; decide),
    State.putBlock_ok code] at ran
  refine ⟨_, ran, ?_⟩
  obtain ⟨-, store, bulk, -, -, ledger, -⟩ := kept_parts (State.lapAnswer_kept _ (LapFrame.field f 2 0 7) (LapFrame.field f 1 0 8) _)
  exact ⟨bulk, store, ledger⟩

/-- A PING is answered at once (R510). -/
theorem lapPing_new {f : LapFrame} (hears : s.lapHears = true) (heard : f.ident = s.lapOwn ∨ f.ident = s.lapAll) (room : s.lapHeld < 32)
    (op : LapFrame.field f 0 0 8 = 5) (new : s.keptAnswer false (LapFrame.field f 2 0 7) (LapFrame.field f 1 0 8) = none) :
    exec (.lapPing f) s = .next ((s.lapTaken f).lapAnswer (LapFrame.field f 2 0 7) (LapFrame.field f 1 0 8)
      [s.lapPlain 5 (LapFrame.field f 2 0 7) (LapFrame.field f 1 0 8) 0 Lres.ok]) := by
  rw [lapPing_taken hears heard op, State.lapTake_room room (by simp [op]), State.lapOnce_new ((s.lapTaken_keptAnswer ..).trans new)]
  rfl

end Answer

/-! ## Rate, errors and frames that are not sent (R513 to R515) -/

section Controller
variable {s : State}

/-- The controller as it comes back on the bus (R514). -/
def State.lapBack (s : State) : State := { s with lap := { s.lap with off := false, txErr := 0, rxErr := 0, ownErrors := 0 } }

theorem busOffRecovered_comes (off : s.lap.off = true)
    (comes : s.comes (s.lap.offAt + nsUnits (1408000 + s.param 0xF80004 * 1000000)) = true) :
    ∃ place, exec .busOffRecovered s = .next (State.lapBack { s with sub := place }).notice := by
  obtain ⟨place, moved⟩ := s.movedTo_place (s.lap.offAt + nsUnits (1408000 + s.param 0xF80004 * 1000000))
  show ∃ place, execBusOffRecovered s = _
  unfold execBusOffRecovered
  rw [if_pos off, State.atTime_comes _ _ _ comes, moved]
  exact ⟨place, rfl⟩

/-- A NOTICE changes the frames that wait and the count of responses alone, and adds one frame where LAP is on (R509). -/
theorem State.notice_lap (s : State) : s.notice.lap.off = s.lap.off ∧ s.notice.lap.txErr = s.lap.txErr ∧ s.notice.lap.rxErr = s.lap.rxErr ∧
    (s.lap.silent = false → s.notice.lap.txq.length = s.lap.txq.length + 1) := by
  unfold State.notice
  cases silent : s.lap.silent with
  | true =>
    rw [State.lapQueue, if_pos silent]
    exact ⟨rfl, rfl, rfl, fun audible => absurd audible (by decide)⟩
  | false =>
    rw [State.lapQueue_audible silent]
    exact ⟨rfl, rfl, rfl, fun _ => List.length_append⟩

theorem lapRate_pends {f : LapFrame} {code ms : Nat} (hears : s.lapHears = true) (all : f.ident = s.lapAll)
    (op : LapFrame.field f 0 0 8 = 4) (codeField : LapFrame.field f 8 0 8 = code) (delay : LapFrame.field f 8 8 16 = ms) (codes : code ≤ 3)
    (least : 1 ≤ ms) (most : ms ≤ 1000) : exec (.lapRate f) s = .next { s.lapGood.later with
      lap := { s.lapGood.later.lap with pendingRate := some (code, s.lapGood.later.clock + nsUnits (ms * 1000000)) } } := by
  show execLapRate f s = _
  unfold execLapRate
  rw [if_neg (by simp [hears, all, op])]
  dsimp only
  rw [codeField, delay]
  exact congrArg Host.Outcome.next (if_pos ⟨codes, least, most⟩)

theorem lapRateSwitch_comes {code at_ : Nat} (pending : s.lap.pendingRate = some (code, at_)) (comes : s.comes at_ = true) :
    ∃ place windowEnd, exec .lapRateSwitch s = .next { s with
      sub := place, lap := { s.lap with rate := code, pendingRate := none, goodSince := false, windowEnd := windowEnd } } := by
  obtain ⟨place, moved⟩ := s.movedTo_place at_
  show ∃ place windowEnd, execLapRateSwitch s = _
  unfold execLapRateSwitch
  rw [pending]
  dsimp only
  rw [State.atTime_comes _ _ _ comes, moved]
  exact ⟨place, _, rfl⟩

theorem lapRateFallback_comes (fast : s.lap.rate ≠ 0) (silent : s.lap.goodSince = false) (passive : 128 ≤ s.lap.txErr ∨ 128 ≤ s.lap.rxErr)
    (comes : s.comes s.lap.windowEnd = true) : ∃ place, exec .lapRateFallback s = .next { s with sub := place, lap := { s.lap with rate := 0 } } := by
  obtain ⟨place, moved⟩ := s.movedTo_place s.lap.windowEnd
  show ∃ place, execLapRateFallback s = _
  unfold execLapRateFallback
  rw [if_neg (by simp [fast, silent]; omega), State.atTime_comes _ _ _ comes, moved]
  exact ⟨place, rfl⟩

/-- The frames of a response given up, at a place of the bell (R515). -/
def State.lapGivesUp (s : State) (place resp : Nat) : State :=
  { s with sub := place, lap := { s.lap with txq := s.lap.txq.filter (fun y => y.resp != resp) } }

theorem lapTxAbandon_comes {x : LapTx} {l : List LapTx} (queued : s.lap.txq = x :: l)
    (comes : s.comes (x.at_ + nsUnits (s.param 0xF80005 * 1000000)) = true) (unreset : s.power.resetAfter = none) :
    ∃ place, exec .lapTxAbandon s = .next ((s.lapGivesUp place x.resp).lapCount 5) := by
  obtain ⟨place, moved⟩ := s.movedTo_place (x.at_ + nsUnits (s.param 0xF80005 * 1000000))
  have quiet : ((s.lapGivesUp place x.resp).lapCount 5).power.resetAfter = none := unreset
  show ∃ place, execLapTxAbandon s = _
  unfold execLapTxAbandon
  rw [queued]
  dsimp only
  rw [State.atTime_comes _ _ _ comes, moved]
  exact ⟨place, congrArg Host.Outcome.next (State.settleReset_none quiet)⟩

theorem lapBitError_txBit (hears : s.lapHears = true) (few : s.lap.ownErrors + 1 ≠ 16) : exec (.lapBitError .txBit) s = .next { s with
    lap := { s.lap with txErr := s.lap.txErr + 8, ownErrors := s.lap.ownErrors + 1, counts := modNth s.lap.counts 2 (· + 1) } } := by
  show execLapBitError .txBit s = _
  unfold execLapBitError
  rw [if_neg (by simp [hears])]
  exact congrArg Host.Outcome.next (if_neg few)

theorem lapBitError_txOk {x : LapTx} {l : List LapTx} (hears : s.lapHears = true) (queued : s.lap.txq = x :: l)
    (unreset : s.power.resetAfter = none) : exec (.lapBitError .txOk) s = .next { s with
      lap := { s.lap with txErr := s.lap.txErr - 1, ownErrors := 0, txq := l }, out := s.out ++ [.lap x.frame] } := by
  show execLapBitError .txOk s = _
  unfold execLapBitError
  rw [if_neg (by simp [hears])]
  dsimp only
  unfold State.lapSent
  dsimp only
  rw [queued]
  exact congrArg Host.Outcome.next (State.settleReset_none unreset)

end Controller

/-- Settles O49: each row by its frame, and the rest of the controller by its own condition. -/
theorem lapBusCommands : Obligations.LapBusCommands := by
  refine ⟨fun s off comes => ?_, fun s f hears => ?_⟩
  · obtain ⟨place, back⟩ := busOffRecovered_comes off comes
    obtain ⟨on, txErr, rxErr, queued⟩ := (State.lapBack { s with sub := place }).notice_lap
    obtain ⟨-, -, -, life, -⟩ := kept_parts (State.lapBack { s with sub := place }).notice_kept
    exact ⟨_, back, on, txErr, rxErr, life, queued⟩
  · simp only [State.lapTaken_eq]
    refine ⟨fun own room op addressed new => ?_, fun k c own room kept row => ?_,
      fun own room op unaddressed => lapRead_unaddressed hears own op room unaddressed,
      fun c n row op own full => lapRequest_full hears own full op row, fun own room op addressed first more => ?_,
      fun v own room op addressed first last value new => ?_, fun own room op reserved some_ most whole new running may sound => ?_,
      fun code ms all op codeField delay codes least most => ?_, fun heard room op new => ?_, ?_, fun code at_ pending comes => ?_,
      fun fast silent passive comes => ?_, fun errors => ?_, fun x l queued comes unreset => ?_, ?_, fun few => ?_, fun x l queued unreset => ?_⟩
    · rw [lapRead_addressed hears own op room addressed, State.lapOnce_new ((s.lapTaken_keptAnswer ..).trans new)]
    · rcases row with ⟨rfl, op, addressed⟩ | ⟨rfl, op⟩
      · rw [lapRead_addressed hears own op room addressed, State.lapOnce_repeated ((s.lapTaken_keptAnswer ..).trans kept)]
      · rw [lapPing_taken hears (.inl own) op, State.lapTake_room room (by simp [op]), State.lapOnce_repeated ((s.lapTaken_keptAnswer ..).trans kept)]
    · have assembles := lapWrite_first hears own op room addressed first
      rw [if_pos more] at assembles
      exact ⟨_, assembles, s.lapTaken_ledger f, s.lapTaken_txq f, s.lapAssembles_find f⟩
    · rw [lapWrite_first hears own op room addressed first, if_neg (by simp [last]), value, Option.elim_some,
        State.lapOnce_new ((s.lapTaken_keptAnswer ..).trans new)]
    · obtain ⟨t, ran, bulk, store, ledger⟩ := lapBlock_stores hears own op room reserved some_ most whole new running may
      have length : ((f.data.drop 8).take (LapFrame.field f 3 0 8)).length = LapFrame.field f 3 0 8 := by
        rw [List.length_take, List.length_drop]
        omega
      have wf : Cells.wf s.bulk = true := (Bool.and_eq_true_iff.mp sound).2
      refine ⟨t, ran, ?_, fun a outside => ?_, store, ledger⟩
      · have stored := cells_readBytes_writeBytes s.bulk (LapFrame.field f 4 0 32) ((f.data.drop 8).take (LapFrame.field f 3 0 8)) wf
        rwa [← bulk, length] at stored
      · rw [bulk]
        exact cells_read_writeBytes_outside _ _ _ _ (by rwa [length])
    · exact ⟨_, lapRate_pends hears all op codeField delay codes least most, rfl, s.lapGood.clock_le_later, rfl, rfl, rfl⟩
    · refine ⟨_, lapPing_new hears heard room op new, State.lapAnswer_txq (s.lapTaken_silent f |>.trans (State.lapHears_audible hears)) .., ?_⟩
      obtain ⟨-, -, -, -, -, ledger, -⟩ := kept_parts (State.lapAnswer_kept (s.lapTaken f) (LapFrame.field f 2 0 7) (LapFrame.field f 1 0 8) _)
      exact ledger
    · exact congrArg Host.Outcome.next (if_pos hears)
    · obtain ⟨place, windowEnd, switched⟩ := lapRateSwitch_comes pending comes
      exact ⟨_, switched, rfl, rfl, rfl, rfl⟩
    · obtain ⟨place, fell⟩ := lapRateFallback_comes fast silent passive comes
      exact ⟨_, fell, rfl⟩
    · exact ⟨_, if_pos ⟨hears, errors⟩, rfl, s.clock_le_later, rfl, rfl⟩
    · obtain ⟨place, abandoned⟩ := lapTxAbandon_comes queued comes unreset
      refine ⟨_, abandoned, ?_, rfl⟩
      rw [State.lapCount_txq, State.lapGivesUp]
      dsimp only
      rw [queued, List.filter_cons_of_neg (by simp)]
    · exact if_neg (by simp [hears])
    · exact lapBitError_txBit hears few
    · exact lapBitError_txOk hears queued unreset

end Sys2Proof.Machine
end

section
/-!
SUPPORT. The link layer (R385 to R411): what arrives on an ACTIVE link, its flit times and its replay.
-/
namespace Sys2Proof.Machine

/-! ## Flits that arrive (R397) -/

section Flit
variable {s u : State} {q : Nat} {f : Flit} {content : State → Option State}

theorem State.onFlit_up (active : (s.link q).active = true) (header : s.takeHeader q f = (u, false)) :
    s.onFlit q f content = (content u).getD (u.linkFails q) := by
  unfold State.onFlit
  rw [if_pos active, header]
  dsimp only
  cases content u <;> rfl

theorem State.onFlit_falls (active : (s.link q).active = true) (header : s.takeHeader q f = (u, true)) :
    s.onFlit q f content = u.linkFails q := by
  unfold State.onFlit
  rw [if_pos active, header]

theorem State.onFlit_inactive (inactive : (s.link q).active = false) : s.onFlit q f content = s :=
  if_neg (by simp [inactive])

theorem State.onControl_inactive (inactive : (s.link q).active = false) (ctype : Nat) : s.onControl q ctype f content = s :=
  ite_eq_right_iff.mpr fun _ => State.onFlit_inactive inactive

/-! ## DATA flits (R399) -/

theorem State.takeData_behind (behind : 2048 ≤ (f.seq - (s.link q).expected).toNat) : s.takeData q f = some (s.health q 0x0B 1) :=
  if_pos behind

theorem State.takeData_ahead (other : f.seq ≠ (s.link q).expected) (ahead : (f.seq - (s.link q).expected).toNat < 2048) :
    s.takeData q f = some (s.modLink q (fun l => { l with replayReq := true })) := by
  have apart : (f.seq - (s.link q).expected).toNat ≠ 0 := by bv_omega
  exact (if_neg (Nat.not_le.mpr ahead)).trans (if_pos apart)

theorem State.takeData_expected (expected : f.seq = (s.link q).expected) : s.takeData q f =
    (s.modLink q (fun l => ({ l with expected := l.expected + 1, replayReq := false } : Link).counted 2 1)).acceptBody q f := by
  have same : (f.seq - (s.link q).expected).toNat = 0 := by bv_omega
  exact (if_neg (by omega)).trans (if_neg (by omega))

theorem dataFlit_data (kind : f.kind = 0) : exec (.dataFlit q f) s = .next (s.onFlit q f (fun s => s.takeData q f)) := if_pos kind

theorem dataFlit_inactive (inactive : (s.link q).active = false) : exec (.dataFlit q f) s = .next s := by
  show execDataFlit q f s = _
  unfold execDataFlit
  simp only [State.onFlit_inactive inactive, ite_self]

/-! ## CREDIT_SYNC (R409) -/

theorem modNth_self {α : Type} {g : α → α} (same : ∀ x, g x = x) (l : List α) (i : Nat) : modNth l i g = l := by
  induction l generalizing i with
  | nil => rfl
  | cons x xs ih =>
    cases i with
    | zero => exact congrArg (· :: xs) (same x)
    | succ i => exact congrArg (x :: ·) (ih i)

/-- No cells that come back leave the link as it was. -/
theorem Link.returned_none (l : Link) (v pool : Nat) : (l.returned v pool 0).counted 7 0 = l := by
  have got : modNth l.got (2 * v + pool) (· + BitVec.ofNat 32 0) = l.got := modNth_self (by simp) ..
  have health : modNth l.health 6 (· + BitVec.ofNat 64 0) = l.health := modNth_self (by simp) ..
  have priv : modNth l.priv v (· + 0) = l.priv := modNth_self (by simp) ..
  have used : modNth l.sharedUse v (· - 0) = l.sharedUse := modNth_self (by simp) ..
  unfold Link.returned
  split
  · simp only [Link.counted, got, priv, health]
  · simp only [Link.counted, got, used, health, Nat.add_zero]

/-- A count that agrees with what came back changes no link. -/
theorem State.syncOne_agrees {body i : Nat} (agrees : bits body (4 * i) 0 32 = (nth (s.link q).got i).toNat) :
    ∃ t, State.syncOne q body i s = some t ∧ t.link q = s.link q := by
  have lost : (BitVec.ofNat 32 (bits body (4 * i) 0 32) - nth (s.link q).got i).toNat = 0 := by
    rw [agrees, BitVec.ofNat_toNat, BitVec.setWidth_eq, BitVec.sub_self]
    rfl
  refine ⟨_, if_pos (by rw [lost]; decide), ?_⟩
  rw [lost, State.modLink_link, Link.returned_none]

theorem State.syncs_agree {body : Nat} (is : List Nat) (agree : ∀ i ∈ is, bits body (4 * i) 0 32 = (nth (s.link q).got i).toNat) :
    ∃ t, is.foldl (fun o i => o.bind (State.syncOne q body i)) (some s) = some t ∧ t.link q = s.link q := by
  induction is generalizing s with
  | nil => exact ⟨s, rfl, rfl⟩
  | cons i is ih =>
    obtain ⟨t, synced, link⟩ := State.syncOne_agrees (agree i List.mem_cons_self)
    obtain ⟨v, rest, last⟩ := ih (s := t) (fun j later => link ▸ agree j (List.mem_cons_of_mem _ later))
    refine ⟨v, ?_, last.trans link⟩
    rw [List.foldl_cons, Option.bind_some, synced]
    exact rest

theorem creditSync_control (kind : f.kind = 2) (seq : f.seq = 2) : exec (.creditSync q f) s = .next (s.onFlit q f
    (fun s => (List.range 32).foldl (fun o i => o.bind (State.syncOne q (leNat f.body) i)) (some s))) :=
  congrArg Host.Outcome.next (if_pos ⟨kind, by rw [seq]; rfl⟩)

end Flit

/-! ## Reports -/

/-- A report to the Beadle leaves every link as it was. -/
@[simp] theorem State.occur_link (s : State) (code inst detail q : Nat) : (s.occur code inst detail).link q = s.link q := rfl

/-! ## Flits that fail, timers and flit times (R385, R386, R401) -/

section Time
variable {s : State} {q : Nat}

/-- A flit whose CRC fails asks for a replay, whatever is reported (R385, R399, R414). -/
theorem flitCrcFailure_up (active : (s.link q).active = true) : ∃ n since, exec (.flitCrcFailure q) s = .next (if n = s.param 0xA02002 + 1 then
      (s.modLink q (fun l => ({ l with replayReq := true, crcCount := n, crcFrom := since } : Link).counted 3 1)).occur FaultCode.linkDegraded q 0
    else s.modLink q (fun l => ({ l with replayReq := true, crcCount := n, crcFrom := since } : Link).counted 3 1)) := by
  show ∃ n since, execFlitCrcFailure q s = _
  unfold execFlitCrcFailure
  dsimp only
  rw [if_pos active]
  exact ⟨_, _, rfl⟩

theorem State.startReplay_readable {k : Kept} {ks : List Kept} (kept : (s.link q).kept = k :: ks)
    (readable : (k :: ks).any Kept.bad = false) : s.startReplay q = (s.modLink q (fun l =>
        ({ l with replay := k :: ks, replays := l.replays + 1, replayFrom := some (k.flit.seq, s.clock) } : Link).counted 4 1),
      decide (s.param 0xA01003 ≤ (s.link q).replays + 1)) := by
  unfold State.startReplay
  dsimp only
  rw [kept]
  exact if_neg (by simp [readable])

theorem replayTimeout_comes {k : Kept} {ks : List Kept} (active : (s.link q).active = true) (kept : (s.link q).kept = k :: ks)
    (readable : (k :: ks).any Kept.bad = false) (due : ∀ j ∈ (s.link q).replay, j.flit.seq ≠ k.flit.seq)
    (comes : s.comes (k.sentAt + nsUnits (s.param 0xA01002)) = true) (few : (s.link q).replays + 1 < s.param 0xA01003) :
    ∃ place at_, exec (.replayTimeout q) s = .next (({ s with sub := place } : State).modLink q (fun l =>
      ({ l with replay := k :: ks, replays := l.replays + 1, replayFrom := some (k.flit.seq, at_) } : Link).counted 4 1)) := by
  obtain ⟨place, moved⟩ := s.movedTo_place (k.sentAt + nsUnits (s.param 0xA01002))
  have replay := (State.startReplay_readable (s := { s with sub := place }) kept readable).trans
    (congrArg (Prod.mk _) (decide_eq_false (Nat.not_le.mpr few)))
  show ∃ place at_, execReplayTimeout q s = _
  unfold execReplayTimeout
  dsimp only
  rw [kept]
  dsimp only
  rw [if_neg (by simpa [active] using due), State.atTime_comes _ _ _ comes, moved]
  rw [replay]
  exact ⟨place, _, rfl⟩

end Time

/-- Settles O52: each kind of flit by its row, on the state after what every flit carries. -/
theorem linkCommands : Obligations.LinkCommands := by
  refine ⟨fun s q f u active header => ⟨fun kind behind => ?_, fun kind other ahead => ?_, fun v kind expected accepts => ?_,
    fun kind expected refuses => ?_, fun kind => ?_, fun kind => ?_, fun kind undefined => ?_, fun kind seq agree => ?_⟩,
    fun s q f u c active header row => ?_, fun s q active => ?_, fun s q k ks active kept readable due comes few => ?_,
    fun s q active => congrArg Host.Outcome.next (if_pos active), fun s q f c inactive row => ?_⟩
  · rw [dataFlit_data kind, State.onFlit_up active header, State.takeData_behind behind]
    rfl
  · rw [dataFlit_data kind, State.onFlit_up active header, State.takeData_ahead other ahead]
    rfl
  · rw [dataFlit_data kind, State.onFlit_up active header, State.takeData_expected expected, accepts]
    rfl
  · rw [dataFlit_data kind, State.onFlit_up active header, State.takeData_expected expected, refuses]
    rfl
  · refine (if_neg (by omega)).trans ((if_pos kind).trans ?_)
    rw [State.onFlit_up active header]
    rfl
  · refine (congrArg Host.Outcome.next (if_pos kind)).trans ?_
    rw [State.onFlit_up active header]
    rfl
  · refine (congrArg Host.Outcome.next (if_pos ⟨kind, undefined⟩)).trans ?_
    rw [State.onFlit_up active header]
    rfl
  · obtain ⟨t, synced, link⟩ := State.syncs_agree (List.range 32) (fun i below => agree i (List.mem_range.mp below))
    refine ⟨t, ?_, by simp only [link, and_self]⟩
    rw [creditSync_control kind seq, State.onFlit_up active header, synced]
    rfl
  · rcases row with ⟨rfl, kind⟩ | ⟨rfl, kind⟩ | ⟨rfl, kind, seq⟩
    · rw [dataFlit_data kind, State.onFlit_falls active header]
    · exact (congrArg Host.Outcome.next (if_pos kind)).trans (congrArg Host.Outcome.next (State.onFlit_falls active header))
    · rw [creditSync_control kind seq, State.onFlit_falls active header]
  · obtain ⟨n, since, asked⟩ := flitCrcFailure_up active
    refine ⟨_, asked, ?_⟩
    dsimp only
    split
    · simp only [State.occur_link, State.modLink_link]
      exact ⟨rfl, rfl, rfl, rfl, rfl, rfl⟩
    · simp only [State.modLink_link]
      exact ⟨rfl, rfl, rfl, rfl, rfl, rfl⟩
  · obtain ⟨place, at_, replays⟩ := replayTimeout_comes active kept readable due comes few
    refine ⟨_, replays, ?_⟩
    simp only [State.modLink_link]
    exact ⟨rfl, kept, rfl, active⟩
  · rcases row with rfl | rfl | rfl | rfl | rfl | rfl
    · exact dataFlit_inactive inactive
    · exact congrArg Host.Outcome.next (ite_eq_right_iff.mpr fun _ => State.onFlit_inactive inactive)
    · exact congrArg Host.Outcome.next (State.onControl_inactive inactive 0x002)
    · exact congrArg Host.Outcome.next (ite_eq_right_iff.mpr fun _ => State.onFlit_inactive inactive)
    · exact if_neg (by simp [inactive])
    · exact congrArg Host.Outcome.next (if_neg (by simp [inactive]))

end Sys2Proof.Machine
end

section
/-!
SUPPORT. The replay buffer (R400, R403) and the bodies of DATA flits (R388, R391, R398).
-/
namespace Sys2Proof.Machine

/-! ## The replay buffer -/

theorem Link.acked_outside {l : Link} {a : BitVec 12} (outside : ∀ k ∈ l.kept, k.flit.seq ≠ a) : l.acked a = l :=
  if_neg (by simpa using outside)

/-- An ACK retires the flits up to the one it names, which is the first of its sequence. -/
theorem Link.acked_inside {l : Link} {pre post : List Kept} {k : Kept} (kept : l.kept = pre ++ k :: post)
    (before : ∀ j ∈ pre, j.flit.seq ≠ k.flit.seq) : l.acked k.flit.seq = { l with
      kept := post, replays := 0, replay := l.replay.filter (fun k => post.any (fun j => j.flit.seq == k.flit.seq)) } := by
  have named : l.kept.any (fun j => j.flit.seq == k.flit.seq) = true := by simp [kept]
  have gone : l.kept.takeWhile (fun j => j.flit.seq != k.flit.seq) = pre := by
    rw [kept, List.takeWhile_append_of_pos (by simpa using before), List.takeWhile_cons_of_neg (by simp), List.append_nil]
  have left : l.kept.drop (pre.length + 1) = post := by simp [kept]
  unfold Link.acked
  rw [if_pos named, gone]
  dsimp only
  rw [left]

/-! ## Bodies under construction -/

/-- A body within its 240 bytes, with no more packets begun than a number. -/
def Packing.Within (k : Packing) (n : Nat) : Prop := k.body.length ≤ 240 ∧ k.begun ≤ n

theorem Packing.send_within {k : Packing} {n : Nat} (within : k.Within n) (x : Sending) : (k.send x).1.Within n := by
  obtain ⟨bytes, begun⟩ := within
  have sent : (k.body ++ ((Packet.wire x.pkt).drop x.sent).take (min (240 - k.body.length) (x.avail - x.sent))).length ≤ 240 := by
    rw [List.length_append, List.length_take]
    omega
  unfold Packing.send
  dsimp only
  split
  · exact ⟨sent, begun⟩
  · exact ⟨sent, begun⟩

theorem Packing.fill_within (n : Nat) {k : Packing} {m : Nat} (within : k.Within m) : (k.fill n).Within (m + n) := by
  induction n generalizing k m with
  | zero => exact within
  | succ n ih =>
    have stays : k.Within (m + (n + 1)) := ⟨within.1, within.2.trans (Nat.le_add_right ..)⟩
    unfold Packing.fill
    split
    · exact stays
    · next x xs _ =>
      split
      · exact stays
      · have begins := Packing.send_within (k := { k with
          queue := xs, start := if k.begun = 0 then k.body.length else k.start, pool := k.pool + x.pool * 2 ^ k.begun, begun := k.begun + 1 })
          (n := m + 1) ⟨within.1, Nat.succ_le_succ within.2⟩ x
        dsimp only
        split
        · next sent =>
          rw [sent] at begins
          exact Nat.add_right_comm m 1 n ▸ ih begins
        · next sent =>
          rw [sent] at begins
          exact ⟨begins.1, begins.2.trans (by omega)⟩

theorem Link.pack_within (l : Link) : l.pack.Within 4 := by
  have empty : ({ body := [], start := 255, pool := 0, begun := 0, ended := [], tx := l.tx, queue := l.queue } : Packing).Within 0 :=
    ⟨Nat.zero_le _, Nat.le_refl _⟩
  unfold Link.pack
  dsimp only
  split
  · next x _ =>
    have goes := Packing.send_within empty x
    split
    · next sent =>
      rw [sent] at goes
      exact Nat.zero_add 4 ▸ Packing.fill_within 4 goes
    · next sent =>
      rw [sent] at goes
      exact ⟨goes.1, goes.2.trans (by decide)⟩
  · exact Nat.zero_add 4 ▸ Packing.fill_within 4 empty

theorem body240_length {d : Bytes} (within : d.length ≤ 240) : (body240 d).length = 240 := by
  rw [body240, List.length_append, List.length_replicate]
  omega

/-! ## The sender (R398) -/

section Send
variable {s : State} {q : Nat}

/-- With no control flit, no replay and a full window, the flit time is IDLE. -/
theorem State.sendNext_full (control : (s.link q).control = []) (replay : (s.link q).replay = [])
    (full : s.sendWindow q ≤ (s.link q).kept.length) : s.sendNext q = s.sendFlit q (plainFlit 1 0 []) := by
  unfold State.sendNext
  dsimp only
  rw [control, replay]
  exact if_neg fun fits => absurd fits.1 (Nat.not_lt.mpr full)

@[simp] theorem State.emit_link (s : State) (o : Output) (q : Nat) : (s.emit o).link q = s.link q := rfl

/-- A flit that goes out leaves the replay buffer as it was. -/
theorem State.sendFlit_buffer (f : Flit) : ((s.sendFlit q f).link q).kept = (s.link q).kept := by
  unfold State.sendFlit
  simp only [State.emit_link, State.modLink_link]

end Send

/-- Settles O53: the replay buffer by where the ACK falls, the bodies by the bound that each packet put in keeps. -/
theorem replayAndBodies : Obligations.ReplayAndBodies := by
  refine ⟨fun l a outside => Link.acked_outside outside, fun l pre post k kept before => ?_, fun l => ?_, fun s q k ks kept readable => ?_,
    fun s q control replay full => ?_⟩
  · rw [Link.acked_inside kept before]
    refine ⟨rfl, rfl, fun j resent => ?_⟩
    simpa using (List.mem_filter.mp resent).2
  · obtain ⟨bytes, begun⟩ := l.pack_within
    exact ⟨bytes, begun, body240_length bytes⟩
  · rw [State.startReplay_readable kept readable]
    exact ⟨rfl, congrArg Link.replay (State.modLink_link ..)⟩
  · rw [State.sendNext_full control replay full]
    exact ⟨rfl, State.sendFlit_buffer _⟩

end Sys2Proof.Machine
end

section
/-!
SUPPORT. Training of a port (R421 to R432): what the operations on lanes and stages change, and the rows of training.
-/
namespace Sys2Proof.Machine

/-! ## Lanes, records and stages -/

/-- Steps that change lanes alone change, together, lanes alone. -/
theorem State.foldl_lanes {g : State → Nat → State} (step : ∀ s i, ∃ lanes, g s i = { s with lanes := lanes }) (is : List Nat) (s : State) :
    ∃ lanes, is.foldl g s = { s with lanes := lanes } := by
  induction is generalizing s with
  | nil => exact ⟨s.lanes, rfl⟩
  | cons i is ih =>
    obtain ⟨first, stepped⟩ := step s i
    obtain ⟨lanes, rest⟩ := ih { s with lanes := first }
    exact ⟨lanes, by rw [List.foldl_cons, stepped, rest]⟩

/-- Steps that only send send, together. -/
theorem State.foldl_out {g : State → Nat → State} (step : ∀ s i, ∃ out, g s i = { s with out := out }) (is : List Nat) (s : State) :
    ∃ out, is.foldl g s = { s with out := out } := by
  induction is generalizing s with
  | nil => exact ⟨s.out, rfl⟩
  | cons i is ih =>
    obtain ⟨first, stepped⟩ := step s i
    obtain ⟨out, rest⟩ := ih { s with out := first }
    exact ⟨out, by rw [List.foldl_cons, stepped, rest]⟩

theorem State.modLanes_lanes (s : State) (q mask : Nat) (f : Lane → Lane) : ∃ lanes, s.modLanes q mask f = { s with lanes := lanes } := by
  refine State.foldl_lanes (fun s i => ?_) _ s
  split
  · exact ⟨_, rfl⟩
  · exact ⟨s.lanes, rfl⟩

theorem State.emitLanes_out (s : State) (q mask stage content : Nat) : ∃ out, s.emitLanes q mask stage content = { s with out := out } := by
  refine State.foldl_out (fun s i => ?_) _ s
  split
  · exact ⟨_, rfl⟩
  · exact ⟨s.out, rfl⟩

theorem State.sendRecords_out (s : State) (q : Nat) : ∃ out, s.sendRecords q = { s with out := out } :=
  State.foldl_out (fun _ _ => ⟨_, rfl⟩) _ s

theorem State.modPort_modPort (s : State) (q : Nat) (f g : LanePort → LanePort) :
    (s.modPort q f).modPort q g = s.modPort q (fun p => g (f p)) := by
  rw [State.modPort, State.modPort_lport]
  unfold State.modPort
  dsimp only
  rw [Tab.put_put]

/-- A port that has dropped what it knew of its lanes and its peer. -/
def LanePort.cleared (p : LanePort) : LanePort := { LanePort.fresh with attempts := p.attempts, orderId := p.orderId, refLane := p.refLane }

/-- A port as it trains from the beginning, in a stage entered at a clock value. -/
def LanePort.begun (p : LanePort) (T : Train) (at_ : Nat) : LanePort := { p.cleared with stage := T, since := at_ }

theorem State.restartPort_begun (s : State) (q : Nat) (T : Train) :
    ∃ lanes, s.restartPort q T = ({ s with lanes := lanes } : State).modPort q (fun p => p.begun T s.clock) := by
  obtain ⟨lanes, changed⟩ := (s.modPort q LanePort.cleared).modLanes_lanes q 15 Lane.restarted
  refine ⟨lanes, ?_⟩
  calc s.restartPort q T = ((s.modPort q LanePort.cleared).modLanes q 15 Lane.restarted).toStage q T := rfl
    _ = (({ s with lanes := lanes } : State).modPort q LanePort.cleared).modPort q (fun p => { p with stage := T, since := s.clock }) := by
      rw [changed]
      rfl
    _ = ({ s with lanes := lanes } : State).modPort q (fun p => p.begun T s.clock) := State.modPort_modPort ..

theorem State.toSignon_begun (s : State) (q : Nat) :
    ∃ lanes out, s.toSignon q = ({ s with lanes := lanes, out := out } : State).modPort q (fun p => p.begun .signon s.clock) := by
  obtain ⟨lanes, begun⟩ := s.restartPort_begun q .signon
  obtain ⟨out, sent⟩ := (({ s with lanes := lanes } : State).modPort q (fun p => p.begun .signon s.clock)).emitLanes_out q 15 2 0
  exact ⟨lanes, out, by rw [State.toSignon, begun, sent]; rfl⟩

theorem State.toDetect_begun (s : State) {q : Nat} (wired : s.portMask q ≠ 0) :
    ∃ lanes, s.toDetect q = ({ s with lanes := lanes } : State).modPort q (fun p => p.begun .detect s.clock) := by
  rw [State.toDetect, if_neg wired]
  exact s.restartPort_begun q .detect

theorem State.chooseRate_port (s : State) (q code : Nat) : s.chooseRate q code =
    s.modPort q (fun p => { p with rateGo := some code, rateGoAt := s.clock, stage := .rate, since := s.clock }) :=
  State.modPort_modPort s q (fun p => { p with rateGo := some code, rateGoAt := s.clock }) (fun p => { p with stage := .rate, since := s.clock })

/-- A port in SIGNON, as its lanes sign on at the present time (R421). -/
theorem State.toSignon_signs (s : State) (q : Nat) : ((s.toSignon q).lport q).stage = .signon ∧ ((s.toSignon q).lport q).since = s.clock ∧
    ((s.toSignon q).lport q).attempts = (s.lport q).attempts ∧ (s.toSignon q).links = s.links := by
  obtain ⟨lanes, out, begun⟩ := s.toSignon_begun q
  rw [begun, State.modPort_lport, State.modPort_links]
  exact ⟨rfl, rfl, rfl, rfl⟩

/-! ## Links that fail (R411) -/

theorem State.dropLink_inactive (s : State) (q : Nat) : ((s.dropLink q).link q).active = false := by
  unfold State.dropLink
  split
  · rw [State.occur_link]
    unfold State.health
    rw [State.modLink_link, State.modLink_link]
    rfl
  · next inactive => exact Bool.eq_false_iff.mpr inactive

theorem State.linkFails_inactive (s : State) (q : Nat) : ((s.linkFails q).link q).active = false := by
  unfold State.linkFails
  split
  · obtain ⟨-, -, -, links⟩ := (s.dropLink q).toSignon_signs q
    unfold State.link
    rw [links]
    exact s.dropLink_inactive q
  · exact s.dropLink_inactive q

theorem State.linkFails_signon {s : State} {q : Nat} (active : (s.lport q).stage = .active) : ((s.linkFails q).lport q).stage = .signon := by
  rw [State.linkFails, if_pos active]
  exact ((s.dropLink q).toSignon_signs q).1

/-! ## Detection and sign-on (R421, R422) -/

section Rows
variable {s : State} {q : Nat}

theorem receiverDetect_load {lanes : Nat} (detect : (s.lport q).stage = .detect) (load : (s.portLanes q).any (bitAt lanes) = true) :
    ∃ out, exec (.receiverDetect q lanes) s = .next (State.toSignon { s with out := out } q) := by
  obtain ⟨out, sent⟩ := s.emitLanes_out q 15 1 0
  refine ⟨out, (if_pos detect).trans (congrArg Host.Outcome.next ?_)⟩
  rw [sent]
  exact if_pos load

theorem receiverDetect_none {lanes : Nat} (detect : (s.lport q).stage = .detect) (none_ : (s.portLanes q).any (bitAt lanes) = false) :
    exec (.receiverDetect q lanes) s = .next (s.emitLanes q 15 1 0) := by
  obtain ⟨out, sent⟩ := s.emitLanes_out q 15 1 0
  refine (if_pos detect).trans (congrArg Host.Outcome.next ?_)
  rw [sent]
  exact if_neg (ne_true_of_eq_false none_)

theorem signonSymbols_detect {lanes : Nat} (detect : (s.lport q).stage = .detect) (load : (s.portLanes q).any (bitAt lanes) = true) :
    exec (.signonSymbols q lanes) s = .next (s.toSignon q) := by
  show execSignonSymbols q lanes s = _
  unfold execSignonSymbols
  dsimp only
  rw [detect]
  exact congrArg Host.Outcome.next (if_pos load)

theorem signonSymbols_active {lanes : Nat} (active : (s.lport q).stage = .active) (used : Nat.land lanes (s.lport q).rxSet ≠ 0) :
    exec (.signonSymbols q lanes) s = .next (s.linkFails q) := by
  show execSignonSymbols q lanes s = _
  unfold execSignonSymbols
  dsimp only
  rw [active]
  exact congrArg Host.Outcome.next (if_pos used)

theorem commaLock_locks {l : Nat} {inv : Bool} (owner : s.laneOwner l = q) (stage : (s.lport q).stage = .signon ∨ (s.lport q).stage = .exchange) :
    ∃ ports out, exec (.commaLock l inv) s = .next ({ s.modLane l (fun x => { x with locked := true, inverted := inv }) with
      ports := ports, out := out }) ∧ (Tab.getD ports q LanePort.fresh).stage = .exchange := by
  show ∃ ports out, execCommaLock l inv s = _ ∧ _
  unfold execCommaLock
  dsimp only
  rw [owner, if_pos stage]
  by_cases signon : (s.lport q).stage = .signon
  · rw [if_pos signon]
    obtain ⟨out, sent⟩ := ((s.modLane l (fun x => { x with locked := true, inverted := inv })).toStage q .exchange).sendRecords_out q
    refine ⟨_, out, congrArg Host.Outcome.next sent, ?_⟩
    exact congrArg LanePort.stage (State.modPort_lport (s.modLane l (fun x => { x with locked := true, inverted := inv })) q _)
  · rw [if_neg signon]
    obtain ⟨out, sent⟩ := (s.modLane l (fun x => { x with locked := true, inverted := inv })).sendRecords_out q
    exact ⟨_, out, congrArg Host.Outcome.next sent, stage.resolve_left signon⟩

/-! ## Capability records and the rate (R424 to R426) -/

/-- What a record says changes lanes and the port alone. -/
theorem State.takeRecord_rest (s : State) (q l r : Nat) : ∃ lanes ports, s.takeRecord q l r = { s with lanes := lanes, ports := ports } ∧
    (Tab.getD ports q LanePort.fresh).peerRates = bits r 0 8 3 := by
  unfold State.takeRecord
  extract_lets serial pg mine hold s1
  generalize presetOf (bits r 0 16 3) = preset
  obtain ⟨pre, post⟩ := preset
  dsimp only
  obtain ⟨lanes, changed⟩ := s1.modLanes_lanes q 15 (fun x => { x with pre := pre, post := post })
  refine ⟨lanes, _, by rw [changed]; rfl, ?_⟩
  exact congrArg LanePort.peerRates (Tab.getD_put_self ..)

theorem capabilityFrame_broken {l : Nat} {record : Bytes} (broken : crc32c (record.take 0x1C) ≠ bits (leNat record) 0x1C 0 32) :
    exec (.capabilityFrame l record) s = .next s := if_pos (.inl broken)

section Exchange
variable {l : Nat} {record : Bytes} (owner : s.laneOwner l = q) (crc : crc32c (record.take 0x1C) = bits (leNat record) 0x1C 0 32)
  (locked : (s.lane l).locked = true) (exchange : (s.lport q).stage = .exchange) (unheld : ((s.takeRecord q l (leNat record)).lport q).hold = 0)
include owner crc locked exchange unheld

theorem capabilityFrame_follows (follower : ((s.takeRecord q l (leNat record)).lport q).leader = false) (go : bits (leNat record) 0 11 1 = 1) :
    exec (.capabilityFrame l record) s = .next ((s.takeRecord q l (leNat record)).chooseRate q (bits (leNat record) 0 12 2)) := by
  show execCapabilityFrame l record s = _
  unfold execCapabilityFrame
  dsimp only
  rw [if_neg (by simp [crc, locked]), owner, if_pos exchange, if_neg (by simp [unheld]), if_pos (by simp [follower, go])]

theorem capabilityFrame_leads {code : Nat} (leader : ((s.takeRecord q l (leNat record)).lport q).leader = true)
    (exchanged : (s.takeRecord q l (leNat record)).exchanged q = true)
    (highest : highestRate (Nat.land (s.param (0xB00201 + q / 2)) (bits (leNat record) 0 8 3)) = code) (some_ : code ≠ 0) :
    exec (.capabilityFrame l record) s = .next (((s.takeRecord q l (leNat record)).chooseRate q code).sendRecords q) := by
  obtain ⟨lanes, ports, taken, rates⟩ := s.takeRecord_rest q l (leNat record)
  have chosen : highestRate (Nat.land ((s.takeRecord q l (leNat record)).param (0xB00201 + q / 2))
      ((s.takeRecord q l (leNat record)).lport q).peerRates) = code := by
    rw [taken]
    exact (congrArg (fun rates => highestRate (Nat.land (s.param (0xB00201 + q / 2)) rates)) rates).trans highest
  obtain ⟨n, rfl⟩ := Nat.exists_eq_succ_of_ne_zero some_
  show execCapabilityFrame l record s = _
  unfold execCapabilityFrame
  dsimp only
  rw [if_neg (by simp [crc, locked]), owner, if_pos exchange, if_neg (by simp [unheld]), if_neg (by simp [leader]), if_pos exchanged,
    if_pos leader, chosen]
  rfl

end Exchange

theorem State.takeRecord_clock (s : State) (q l r : Nat) : (s.takeRecord q l r).clock = s.clock := by
  obtain ⟨lanes, ports, taken, -⟩ := s.takeRecord_rest q l r
  rw [taken]
  rfl

/-- The port after a rate is chosen, whatever goes out beside it (R426). -/
theorem State.chooseRate_chosen (s : State) (q code : Nat) : ((s.chooseRate q code).lport q).stage = .rate ∧
    ((s.chooseRate q code).lport q).rateGo = some code ∧ ((s.chooseRate q code).lport q).rateGoAt = s.clock := by
  rw [State.chooseRate_port, State.modPort_lport]
  exact ⟨rfl, rfl, rfl⟩

theorem State.sendRecords_lport (s : State) (q r : Nat) : (s.sendRecords q).lport r = s.lport r := by
  obtain ⟨out, sent⟩ := s.sendRecords_out q
  rw [sent]
  rfl

theorem rateSwitch_comes {code : Nat} (stage : (s.lport q).stage = .rate) (go : (s.lport q).rateGo = some code)
    (comes : s.comes ((s.lport q).rateGoAt + nsUnits 10000) = true) : ∃ place lanes, exec (.rateSwitch q) s = .next
      { ({ s with sub := place } : State).modPort q (fun p => { p with rate := code, rateGo := none }) with lanes := lanes } := by
  obtain ⟨place, moved⟩ := s.movedTo_place ((s.lport q).rateGoAt + nsUnits 10000)
  obtain ⟨lanes, changed⟩ := (({ s with sub := place } : State).modPort q (fun p => { p with rate := code, rateGo := none })).modLanes_lanes
    q 15 (fun x => { x with locked := false })
  show ∃ place lanes, execRateSwitch q s = _
  unfold execRateSwitch
  dsimp only
  rw [stage, go]
  dsimp only
  rw [State.atTime_comes _ _ _ comes, moved]
  exact ⟨place, lanes, congrArg Host.Outcome.next changed⟩

theorem rateLock_locks {mask : Nat} (stage : (s.lport q).stage = .rate) (rate : (s.lport q).rate ≠ 0) (go : (s.lport q).rateGo = none)
    (any : (s.portLanes q).any (bitAt mask) = true) : ∃ lanes out, exec (.rateLock q mask) s = .next
      (({ s with lanes := lanes, out := out } : State).toStage q .equalise) := by
  obtain ⟨lanes, changed⟩ := s.modLanes_lanes q mask (fun x => { x with locked := true })
  obtain ⟨out, sent⟩ := (({ s with lanes := lanes } : State).toStage q .equalise).emitLanes_out q 15 5 0
  show ∃ lanes out, execRateLock q mask s = _
  unfold execRateLock
  dsimp only
  rw [if_pos ⟨.inl stage, rate, go, any⟩, if_pos stage, changed]
  exact ⟨lanes, out, congrArg Host.Outcome.next sent⟩

/-! ## Equalisation and ACTIVE (R430 to R432) -/

theorem eqStep_equalises {l : Nat} {e : EqStep} (owner : s.laneOwner l = q) (stage : (s.lport q).stage = .equalise)
    (locked : (s.lane l).locked = true) : exec (.eqStep l e) s =
      .next ((s.modLane l (fun x => x.judged e (s.grade (s.lport q).rate))).emit (.eqAnswer l ((s.lane l).stepped e).isNone)) := by
  show execEqStep l e s = _
  unfold execEqStep
  dsimp only
  rw [owner, stage, locked]
  rfl

theorem State.linkUp_link (s : State) (q : Nat) : (s.linkUp q).link q = (s.link q).started (s.sharedCells q) :=
  State.modLink_link s q (fun l => l.started (s.sharedCells q))

theorem State.linkUp_lport (s : State) (q r : Nat) : (s.linkUp q).lport r = s.lport r := rfl

theorem State.toStage_lport (s : State) (q : Nat) (T : Train) : (s.toStage q T).lport q = { s.lport q with stage := T, since := s.clock } :=
  State.modPort_lport ..

/-- The port and its link as they go ACTIVE on the lanes that are done (R432). -/
theorem State.toActive_goes (s : State) (q done : Nat) : ((s.toActive q done).lport q).stage = .active ∧
    ((s.toActive q done).link q).active = true ∧ ((s.toActive q done).link q).kept = [] ∧ ((s.toActive q done).lport q).attempts = 0 ∧
    ((s.toActive q done).lport q).txSet = lanesMask ((maskList 4 done).take (widthFor (maskList 4 done).length)) ∧
    ((s.toActive q done).lport q).rxSet = ((s.toActive q done).lport q).txSet := by
  unfold State.toActive
  extract_lets l w set s1 s2 s3
  clear_value s2
  rw [State.linkUp_link, State.linkUp_lport, State.toStage_lport]
  simp only [s3, State.modPort_lport]
  exact ⟨trivial, rfl, rfl, trivial, rfl, trivial⟩

theorem equaliseComplete_goes {peerDone done : Nat} (stage : (s.lport q).stage = .equalise)
    (some_ : lanesMask (s.lanesWhere q 15 Lane.locked) ≠ 0)
    (both : done = Nat.land (lanesMask (s.lanesWhere q (lanesMask (s.lanesWhere q 15 Lane.locked)) Lane.done)) peerDone)
    (ready : done = lanesMask (s.lanesWhere q 15 Lane.locked) ∨
      done ≠ 0 ∧ s.comes ((s.lport q).since + nsUnits (s.param 0xB02002 * 1000)) = true) :
    ∃ place, exec (.equaliseComplete q peerDone) s = .next (State.toActive { s with sub := place } q done) := by
  obtain ⟨place, moved⟩ := s.movedTo_place ((s.lport q).since + nsUnits (s.param 0xB02002 * 1000))
  show ∃ place, execEqualiseComplete q peerDone s = _
  unfold execEqualiseComplete
  dsimp only
  rw [if_neg (by simp [stage]), ← both]
  by_cases all : done = lanesMask (s.lanesWhere q 15 Lane.locked)
  · exact ⟨s.sub, if_pos ⟨all, some_⟩⟩
  · obtain ⟨done_, comes⟩ := ready.resolve_left all
    rw [if_neg (fun both => all both.1), State.atTime_comes _ _ _ comes, moved]
    exact ⟨place, congrArg Host.Outcome.next (if_neg done_)⟩

/-! ## Attempts that fail (R423) -/

/-- The attempts of a port once one more has failed (R423). -/
def State.attemptsNext (s : State) (q : Nat) : Nat :=
  if s.param 0xB02003 ≤ (s.lport q).attempts + 1 then 0 else (s.lport q).attempts + 1

theorem State.attemptFails_begins (unheld : (s.lport q).hold = 0) (wired : s.portMask q ≠ 0) : ∃ lanes beadle, s.attemptFails q =
      ({ s with lanes := lanes, beadle := beadle } : State).modPort q (fun p =>
        LanePort.begun { p with attempts := s.attemptsNext q } .detect s.clock) ∧
    (s.param 0xB02003 ≤ (s.lport q).attempts + 1 → beadle.faultN = false) := by
  obtain ⟨lanes, begun⟩ := (s.modPort q (fun p => { p with attempts := s.attemptsNext q })).toDetect_begun (q := q) wired
  have joined : (s.modPort q (fun p => { p with attempts := s.attemptsNext q })).toDetect q = ({ s with lanes := lanes } : State).modPort q
      (fun p => LanePort.begun { p with attempts := s.attemptsNext q } .detect s.clock) :=
    begun.trans (State.modPort_modPort { s with lanes := lanes } q (fun p => { p with attempts := s.attemptsNext q })
      (fun p => p.begun .detect s.clock))
  have fails : s.attemptFails q = if s.param 0xB02003 ≤ (s.lport q).attempts + 1
      then ((s.modPort q (fun p => { p with attempts := s.attemptsNext q })).toDetect q).occur FaultCode.bringUp q 0
      else (s.modPort q (fun p => { p with attempts := s.attemptsNext q })).toDetect q := if_neg (by simp [unheld])
  rw [fails, joined]
  split
  · exact ⟨lanes, s.beadle.occur FaultCode.bringUp q 0 s.bell s.ticks, rfl, fun _ => rfl⟩
  · next more => exact ⟨lanes, s.beadle, rfl, fun limit => absurd limit more⟩

theorem trainingStageTimeout_comes (stage : (s.lport q).stage = .detect ∨ (s.lport q).stage = .signon ∨ (s.lport q).stage = .exchange ∨
    (s.lport q).stage = .rate) (comes : s.comes ((s.lport q).since + nsUnits (s.param 0xB02001 * 1000)) = true) :
    ∃ place, exec (.trainingStageTimeout q) s = .next (State.attemptFails { s with sub := place } q) := by
  obtain ⟨place, moved⟩ := s.movedTo_place ((s.lport q).since + nsUnits (s.param 0xB02001 * 1000))
  refine ⟨place, ?_⟩
  have fails := State.atTime_comes s _ (fun s => s.attemptFails q) comes
  rw [moved] at fails
  show execTrainingStageTimeout q s = _
  unfold execTrainingStageTimeout
  dsimp only
  rcases stage with stage | stage | stage | stage <;> rw [stage] <;> exact congrArg Host.Outcome.next fails

end Rows

/-! ## Coefficients (R428, R430) -/

section Coefficients
variable {x y : Lane} {e : EqStep} {g : Nat}

/-- A step moves one coefficient by one, within its range. -/
theorem Lane.stepped_moves (stepped : x.stepped e = some y) :
    y.pre = x.pre ∧ (y.post = x.post + 1 ∧ x.post < 24 ∨ y.post + 1 = x.post) ∨
    y.post = x.post ∧ (y.pre = x.pre + 1 ∧ x.pre < 16 ∨ y.pre + 1 = x.pre) := by
  unfold Lane.stepped at stepped
  split at stepped <;> split at stepped <;> split at stepped
  all_goals cases stepped
  · exact .inl ⟨rfl, .inr (by dsimp only; omega)⟩
  · exact .inl ⟨rfl, .inl ⟨rfl, by omega⟩⟩
  · exact .inr ⟨rfl, .inr (by dsimp only; omega)⟩
  · exact .inr ⟨rfl, .inl ⟨rfl, by omega⟩⟩

/-- A round leaves the coefficients, or takes the step where that raised the figure of merit. -/
theorem Lane.judged_coefficients (x : Lane) (e : EqStep) (g : Nat) : (x.judged e g).pre = x.pre ∧ (x.judged e g).post = x.post ∨
    e.fomBefore < e.fomAfter ∧ ∃ y, x.stepped e = some y ∧ (x.judged e g).pre = y.pre ∧ (x.judged e g).post = y.post := by
  unfold Lane.judged
  split
  · exact .inl ⟨rfl, rfl⟩
  · next y stepped =>
    by_cases raised : e.fomBefore < e.fomAfter
    · exact .inr ⟨raised, y, stepped, by simp [raised]⟩
    · exact .inl (by simp [raised])

theorem Lane.judged_done (done : (x.judged e g).done = true) : g ≤ (x.judged e g).fom ∧ 16 ≤ (x.judged e g).stale := by
  unfold Lane.judged at done ⊢
  split at done
  · exact (Bool.and_eq_true_iff.mp done).imp of_decide_eq_true of_decide_eq_true
  · exact (Bool.and_eq_true_iff.mp done).imp of_decide_eq_true of_decide_eq_true

end Coefficients

/-- Settles O54: the rows of training by the stage to which each belongs, and the coefficients by what a step moves. -/
theorem laneTraining : Obligations.LaneTraining := by
  refine ⟨fun s q => ⟨fun lanes detect load c row => ?_, fun lanes detect none_ => receiverDetect_none detect none_,
    fun lanes active used => ?_, fun l inv owner stage => ?_, fun l record owner broken => capabilityFrame_broken broken,
    fun l record u owner crc locked exchange taken unheld => ⟨fun follower go => ?_, fun code leader exchanged highest some_ => ?_⟩,
    fun code stage go comes => ?_, fun lanes stage rate go any => ?_,
    fun l e owner stage locked => eqStep_equalises owner stage locked, fun peerDone done stage some_ both ready => ?_,
    fun stage unheld wired comes => ?_⟩, fun x e g => ?_⟩
  · rcases row with rfl | rfl
    · obtain ⟨out, ran⟩ := receiverDetect_load detect load
      exact ⟨_, ran, State.toSignon_signs { s with out := out } q⟩
    · exact ⟨_, signonSymbols_detect detect load, s.toSignon_signs q⟩
  · exact ⟨_, signonSymbols_active active used, State.linkFails_signon active, s.linkFails_inactive q⟩
  · obtain ⟨ports, out, ran, exchange⟩ := commaLock_locks (inv := inv) owner stage
    have lane : (s.modLane l (fun x => { x with locked := true, inverted := inv })).lane l = _ := State.modLane_lane ..
    exact ⟨_, ran, congrArg Lane.locked lane, congrArg Lane.inverted lane, exchange, rfl⟩
  · subst taken
    obtain ⟨stage, rateGo, at_⟩ := (s.takeRecord q l (leNat record)).chooseRate_chosen q (bits (leNat record) 0 12 2)
    exact ⟨_, capabilityFrame_follows owner crc locked exchange unheld follower go, stage, rateGo, at_.trans (s.takeRecord_clock ..)⟩
  · subst taken
    obtain ⟨stage, rateGo, at_⟩ := (s.takeRecord q l (leNat record)).chooseRate_chosen q code
    refine ⟨_, capabilityFrame_leads owner crc locked exchange unheld leader exchanged highest some_, ?_⟩
    simp only [State.sendRecords_lport]
    exact ⟨stage, rateGo, at_.trans (s.takeRecord_clock ..)⟩
  · obtain ⟨place, lanes, ran⟩ := rateSwitch_comes stage go comes
    have port : (({ s with sub := place } : State).modPort q (fun p => { p with rate := code, rateGo := none })).lport q = _ :=
      State.modPort_lport ..
    exact ⟨_, ran, congrArg LanePort.rate port, congrArg LanePort.rateGo port, (congrArg LanePort.stage port).trans stage⟩
  · obtain ⟨lanes, out, ran⟩ := rateLock_locks stage rate go any
    refine ⟨_, ran, ?_⟩
    simp only [State.toStage_lport]
    exact ⟨trivial, rfl, rfl⟩
  · obtain ⟨place, ran⟩ := equaliseComplete_goes stage some_ both ready
    exact ⟨_, ran, State.toActive_goes { s with sub := place } q done⟩
  · obtain ⟨place, ran⟩ := trainingStageTimeout_comes stage comes
    obtain ⟨lanes, beadle, fails, reported⟩ := State.attemptFails_begins (s := { s with sub := place }) unheld wired
    rw [fails] at ran
    refine ⟨_, ran, ?_⟩
    simp only [State.modPort_lport]
    exact ⟨rfl, rfl, reported, rfl⟩
  · refine ⟨?_, ?_, ?_, ?_, ?_, Lane.judged_done⟩
    all_goals
      rcases x.judged_coefficients e g with ⟨pre, post⟩ | ⟨raised, y, stepped, pre, post⟩
      · omega
      · have moves := Lane.stepped_moves stepped
        omega

end Sys2Proof.Machine
end

section
/-!
SUPPORT. Lane sets in ACTIVE (R433 to R441): orders and requests, the switch of a direction, sparing and power.
-/
namespace Sys2Proof.Machine

section Orders
variable {s u : State} {q : Nat}

/-! ## Lane control flits (R433) -/

/-- A control flit put in line changes the links alone. -/
theorem State.laneControl_links (s : State) (q ctype w : Nat) : ∃ links, s.laneControl q ctype w = { s with links := links } := by
  unfold State.laneControl State.control
  split
  · exact ⟨_, rfl⟩
  · exact ⟨s.links, rfl⟩

theorem State.onControl_up {f : Flit} {content : State → Option State} {v : State} {seq : BitVec 12} (active : (s.link q).active = true)
    (kind : f.kind = 2) (header : s.takeHeader q f = (u, false)) (ctype : f.seq = seq) (taken : content u = some v) :
    s.onControl q seq.toNat f content = v := by
  rw [State.onControl, if_pos ⟨kind, ctype ▸ rfl⟩, State.onFlit_up active header, taken]
  rfl

/-! ## Orders (R434, R441) -/

/-- The transmitter's switch, on the port. -/
theorem State.switchTx_lport (s : State) (q w : Nat) : (s.switchTx q w).lport q =
    { s.lport q with txSet := Order.lanes w, txP1 := Order.p1 w, idle := 0, goodTx := 0 } :=
  State.modPort_lport (s.emit (.marker q (Nat.lor (s.lport q).txSet (Order.lanes w)))) q _

theorem State.switchTx_lanes (s : State) (q w : Nat) : (s.switchTx q w).lanes = s.lanes := rfl
theorem State.switchTx_ledger (s : State) (q w : Nat) : (s.switchTx q w).ledger = s.ledger := rfl

theorem State.takeOrder_leader {w : Nat} (leader : (s.lport q).leader = true) : s.takeOrder q w = s := if_pos leader

/-- The follower's requests that an order leaves standing. -/
def State.requestsLeft (s : State) (q w : Nat) : State := s.modPort q (fun p => { p with request := p.request.filter (fun r => requestStays r w) })

theorem State.requestsLeft_lport (s : State) (q w : Nat) : (s.requestsLeft q w).lport q =
    { s.lport q with request := (s.lport q).request.filter (fun r => requestStays r w) } := State.modPort_lport ..

theorem State.takeOrder_transmit {w : Nat} (follower : (s.lport q).leader = false) (dir : Order.dir w = 1) :
    s.takeOrder q w = (s.requestsLeft q w).switchTx q w :=
  (if_neg (by simp [follower])).trans (if_pos dir)

theorem State.takeOrder_receive {w : Nat} (follower : (s.lport q).leader = false) (dir : Order.dir w = 0)
    (other : (s.lport q).rxSet ≠ Order.lanes w) : s.takeOrder q w = (s.requestsLeft q w).modPort q (fun p => { p with switching := some w }) :=
  (if_neg (by simp [follower])).trans ((if_neg (by omega)).trans (if_neg fun same => other same.1))

theorem laneOrder_transmit {f : Flit} (active : (s.link q).active = true) (kind : f.kind = 2) (header : s.takeHeader q f = (u, false))
    (ctype : f.seq = 0x021) (follower : (u.lport q).leader = false) (dir : Order.dir (Flit.word f) = 1) :
    exec (.laneOrder q f) s = .next ((u.requestsLeft q (Flit.word f)).switchTx q (Flit.word f)) :=
  congrArg Host.Outcome.next (State.onControl_up active kind header ctype (congrArg some (State.takeOrder_transmit follower dir)))

/-- A port with an order just given. -/
def LanePort.ordered (p : LanePort) (w dir : Nat) : LanePort :=
  { p with order := some w, orderId := (p.orderId + 1) % 256, switching := if dir = 1 then some w else p.switching }

theorem State.giveOrder_busy {dir lanes power reason : Nat} (busy : (s.lport q).order.isSome = true ∨ lanes = 0) :
    s.giveOrder q dir lanes power reason = s := if_pos busy

theorem State.giveOrder_free {dir lanes power reason : Nat} (free : (s.lport q).order = none) (some_ : lanes ≠ 0) :
    ∃ links, s.giveOrder q dir lanes power reason = if dir = 0
      then (({ s with links := links } : State).modPort q (fun p => p.ordered (orderWord (s.lport q).orderId dir lanes power reason) dir)).switchTx
        q (orderWord (s.lport q).orderId dir lanes power reason)
      else ({ s with links := links } : State).modPort q (fun p => p.ordered (orderWord (s.lport q).orderId dir lanes power reason) dir) := by
  obtain ⟨links, sent⟩ := (s.modPort q (fun p => p.ordered (orderWord (s.lport q).orderId dir lanes power reason) dir)).laneControl_links
    q 0x021 (orderWord (s.lport q).orderId dir lanes power reason)
  have given : s.giveOrder q dir lanes power reason = if dir = 0
      then ((s.modPort q (fun p => p.ordered (orderWord (s.lport q).orderId dir lanes power reason) dir)).laneControl
        q 0x021 (orderWord (s.lport q).orderId dir lanes power reason)).switchTx q (orderWord (s.lport q).orderId dir lanes power reason)
      else (s.modPort q (fun p => p.ordered (orderWord (s.lport q).orderId dir lanes power reason) dir)).laneControl
        q 0x021 (orderWord (s.lport q).orderId dir lanes power reason) := if_neg (by simp [free, some_])
  rw [given, sent]
  exact ⟨links, rfl⟩

/-! ## Changes that an end wants (R440, R441) -/

theorem State.wantChange_leader {tx : Bool} {lanes power reason : Nat} (leader : (s.lport q).leader = true) :
    s.wantChange q tx lanes power reason = s.giveOrder q (if tx then 0 else 1) lanes power reason := by
  unfold State.wantChange
  dsimp only
  rw [if_pos leader, leader]
  cases tx <;> rfl

theorem State.wantChange_follower {tx : Bool} {lanes power reason : Nat} (follower : (s.lport q).leader = false) (some_ : lanes ≠ 0) :
    ∃ links, s.wantChange q tx lanes power reason = ({ s with links := links } : State).modPort q (fun p =>
      { p with request := some (orderWord 0 (if tx then 1 else 0) lanes power reason) }) := by
  obtain ⟨links, sent⟩ := (s.modPort q (fun p => { p with
    request := some (orderWord 0 (if tx then 1 else 0) lanes power reason) })).laneControl_links q 0x020
      (orderWord 0 (if tx then 1 else 0) lanes power reason)
  refine ⟨links, ?_⟩
  unfold State.wantChange
  dsimp only
  rw [if_neg (by simp [follower]), if_neg some_, follower]
  cases tx
  · exact sent
  · exact sent

/-- A change that is wanted leaves the lanes, the Ledger and the port's stage as they are. -/
theorem State.wantChange_rest (s : State) (q : Nat) (tx : Bool) (lanes power reason : Nat) :
    (s.wantChange q tx lanes power reason).lanes = s.lanes ∧ (s.wantChange q tx lanes power reason).ledger = s.ledger ∧
    ((s.wantChange q tx lanes power reason).lport q).stage = (s.lport q).stage := by
  cases leader : (s.lport q).leader with
  | true =>
    rw [State.wantChange_leader leader]
    generalize (if tx = true then 0 else 1) = dir
    by_cases busy : (s.lport q).order.isSome = true ∨ lanes = 0
    · rw [State.giveOrder_busy busy]
      exact ⟨rfl, rfl, rfl⟩
    · rw [not_or, Bool.not_eq_true, Option.isSome_eq_false_iff, Option.isNone_iff_eq_none] at busy
      obtain ⟨links, given⟩ := State.giveOrder_free (s := s) (dir := dir) (power := power) (reason := reason) busy.1 busy.2
      rw [given]
      split
      · rw [State.switchTx_lport, State.switchTx_lanes, State.switchTx_ledger, State.modPort_lport]
        exact ⟨rfl, rfl, rfl⟩
      · rw [State.modPort_lport]
        exact ⟨rfl, rfl, rfl⟩
  | false =>
    by_cases none_ : lanes = 0
    · have same : s.wantChange q tx lanes power reason = s := (if_neg (by simp [leader])).trans (if_pos none_)
      rw [same]
      exact ⟨rfl, rfl, rfl⟩
    · obtain ⟨links, asked⟩ := State.wantChange_follower (tx := tx) (power := power) (reason := reason) leader none_
      rw [asked, State.modPort_lport]
      exact ⟨rfl, rfl, rfl⟩

/-! ## The receiver's switch (step 4 of R434) -/

/-- The port after the switch of its receive direction. -/
def LanePort.switchedRx (p : LanePort) (w : Nat) : LanePort :=
  { p with rxSet := Order.lanes w, rxP1 := Order.p1 w, switching := none, goodRx := 0 }

theorem State.switchRx_leader {w : Nat} (switching : (s.lport q).switching = some w) (leader : (s.lport q).leader = true) :
    s.switchRx q = (s.modPort q (fun p => p.switchedRx w)).modPort q (fun p => { p with order := none }) := by
  unfold State.switchRx
  dsimp only
  rw [switching]
  exact if_pos leader

theorem State.switchRx_follower {w : Nat} (switching : (s.lport q).switching = some w) (follower : (s.lport q).leader = false) :
    s.switchRx q = (s.modPort q (fun p => p.switchedRx w)).laneControl q 0x022 w := by
  unfold State.switchRx
  dsimp only
  rw [switching]
  exact if_neg (by simp [follower])

end Orders

/-! ## Lanes that fail and come back (R411, R412, R419, R435, R436) -/

section Lanes
variable {s : State} {l : Nat}

/-- A lane as it is marked degraded (R436). -/
def Lane.marked (x : Lane) : Lane := { x with degraded := true, done := false, below := 0, blink := false, degrades := x.degrades + 1 }

theorem State.degrade_marks (s : State) (l : Nat) : (s.degrade l).lane l = (s.lane l).marked ∧ (s.degrade l).ledger = s.ledger ∧
    ((s.degrade l).lport (s.laneOwner l)).stage = (s.lport (s.laneOwner l)).stage := by
  obtain ⟨lanes, ledger, stage⟩ := (s.modLane l Lane.marked).wantChange_rest (s.laneOwner l) false
    ((s.modLane l Lane.marked).setWithout (s.laneOwner l) (l % 4)) 0 0
  refine ⟨?_, ledger, stage⟩
  have lane : (s.modLane l Lane.marked).lane l = (s.lane l).marked := State.modLane_lane ..
  unfold State.lane at lane ⊢
  rw [← lane]
  exact congrArg (fun lanes => Tab.getD lanes l Lane.fresh) lanes

theorem symbolLockLost_starts (active : (s.lport (s.laneOwner l)).stage = .active)
    (used : bitAt (s.lport (s.laneOwner l)).rxSet (l % 4) = true) (held : (s.lane l).lostAt = none) : exec (.symbolLockLost l) s =
      .next (s.later.modLane l (fun x => { x with locked := false, lostAt := some s.later.clock })) :=
  if_pos ⟨active, used, held⟩

theorem symbolLockRegained_early {t : Nat} (lost : (s.lane l).lostAt = some t) (early : s.clock < t + nsUnits (s.param 0xA01001 * 1000)) :
    exec (.symbolLockRegained l) s = .next (s.modLane l (fun x => { x with locked := true, lostAt := none, blink := true })) := by
  show execSymbolLockRegained l s = _
  unfold execSymbolLockRegained
  rw [lost]
  exact if_pos early

theorem lockLossExpiry_comes {t : Nat} (lost : (s.lane l).lostAt = some t) (active : (s.lport (s.laneOwner l)).stage = .active)
    (used : bitAt (s.lport (s.laneOwner l)).rxSet (l % 4) = true) (comes : s.comes (t + nsUnits (s.param 0xA01001 * 1000)) = true) :
    ∃ place, exec (.lockLossExpiry l) s = .next (State.linkFails { s with sub := place } (s.laneOwner l)) := by
  obtain ⟨place, moved⟩ := s.movedTo_place (t + nsUnits (s.param 0xA01001 * 1000))
  show ∃ place, execLockLossExpiry l s = _
  unfold execLockLossExpiry
  dsimp only
  rw [lost]
  dsimp only
  rw [if_pos ⟨active, used⟩, State.atTime_comes _ _ _ comes, moved]
  exact ⟨place, rfl⟩

theorem laneRetrained_outside {fom : Nat} (active : (s.lport (s.laneOwner l)).stage = .active)
    (txFree : bitAt (s.lport (s.laneOwner l)).txSet (l % 4) = false) (rxFree : bitAt (s.lport (s.laneOwner l)).rxSet (l % 4) = false) :
    exec (.laneRetrained l fom) s = .next (s.modLane l (fun x => if s.grade (s.lport (s.laneOwner l)).rate ≤ fom then
      { x with fom := fom, locked := true, done := true, degraded := false, below := 0, blink := false, lostAt := none }
      else { x with fom := fom })) := by
  show execLaneRetrained l fom s = _
  unfold execLaneRetrained
  dsimp only
  rw [if_pos ⟨active, txFree, rxFree⟩]
  simp only [decide_eq_true_eq]

end Lanes

/-- Settles O55: what arrives by its CTYPE, the changes by who leads, and the lanes by their own rows. -/
theorem laneChanges : Obligations.LaneChanges := by
  refine ⟨fun s u q f active kind header => ⟨fun ctype => ?_, fun ctype leader => ?_, fun ctype follower dir => ?_,
      fun ctype follower dir other => ?_, fun o ctype leader order same => ?_⟩,
    fun s q => ⟨fun lanes w active used switching => ?_, fun tx active p0 held narrow => ?_, fun active p0 may idle => ?_,
      fun active p1 waiting => ?_, fun lanes power reason leader free some_ tx => ?_, fun tx lanes power reason leader busy => ?_,
      fun tx lanes power reason follower some_ => ?_⟩,
    fun s l active => ⟨fun used good bad => ?_, fun used held => ?_, fun t lost early => symbolLockRegained_early lost early,
      fun t lost used comes => ?_, fun fom txFree rxFree => ⟨fun good => ?_, fun poor => ?_⟩⟩⟩
  · exact congrArg Host.Outcome.next (State.onControl_up active kind header ctype rfl)
  · exact congrArg Host.Outcome.next (State.onControl_up active kind header ctype (congrArg some (State.takeOrder_leader leader)))
  · refine ⟨_, laneOrder_transmit active kind header ctype follower dir, ?_⟩
    dsimp only
    rw [State.switchTx_lport, State.requestsLeft_lport]
    refine ⟨rfl, rfl, rfl, ?_⟩
    exact congrArg (fun p : LanePort => u.out ++ [.marker q (Nat.lor p.txSet (Order.lanes (Flit.word f)))]) (u.requestsLeft_lport q (Flit.word f))
  · refine ⟨_, congrArg Host.Outcome.next (State.onControl_up active kind header ctype
      (congrArg some (State.takeOrder_receive follower dir other))), ?_⟩
    dsimp only
    rw [State.modPort_lport, State.requestsLeft_lport]
    exact ⟨rfl, rfl, rfl⟩
  · refine congrArg Host.Outcome.next (State.onControl_up active kind header ctype (congrArg some ?_))
    rw [order]
    exact if_pos ⟨same, leader⟩
  · have ran : exec (.switchMarker q lanes) s = .next (s.switchRx q) := congrArg Host.Outcome.next (if_pos ⟨active, used⟩)
    refine ⟨_, ran, ?_⟩
    cases leader : (s.lport q).leader with
    | true =>
      rw [State.switchRx_leader switching leader, State.modPort_lport, State.modPort_lport]
      exact ⟨rfl, rfl, rfl, rfl, fun _ => rfl⟩
    | false =>
      obtain ⟨links, sent⟩ := (s.modPort q (fun p => p.switchedRx w)).laneControl_links q 0x022 w
      have port : ({ s.modPort q (fun p => p.switchedRx w) with links := links } : State).lport q = (s.lport q).switchedRx w :=
        State.modPort_lport s q (fun p => p.switchedRx w)
      rw [State.switchRx_follower switching leader, sent, port]
      exact ⟨rfl, rfl, rfl, rfl, fun leads => absurd leads (by decide)⟩
  · exact if_pos ⟨active, p0, held, narrow⟩
  · exact if_pos ⟨active, p0, may, idle⟩
  · exact if_pos ⟨active, p1, .inl waiting⟩
  · rw [State.wantChange_leader leader]
    generalize (if tx = true then 0 else 1) = dir
    obtain ⟨links, given⟩ := State.giveOrder_free (s := s) (dir := dir) (power := power) (reason := reason) free some_
    rw [given]
    split
    · rw [State.switchTx_lport, State.modPort_lport]
      exact ⟨rfl, rfl, rfl⟩
    · rw [State.modPort_lport]
      exact ⟨rfl, rfl, rfl⟩
  · rw [State.wantChange_leader leader, State.giveOrder_busy (.inl busy)]
  · obtain ⟨links, asked⟩ := State.wantChange_follower (tx := tx) (power := power) (reason := reason) follower some_
    rw [asked, State.modPort_lport]
    exact ⟨rfl, rfl, rfl⟩
  · obtain ⟨marked, ledger, stage⟩ := s.degrade_marks l
    refine ⟨_, if_pos ⟨active, used, good, bad⟩, ?_⟩
    dsimp only
    rw [marked]
    exact ⟨rfl, rfl, rfl, stage.trans active, ledger⟩
  · refine ⟨_, symbolLockLost_starts active used held, ?_⟩
    dsimp only
    rw [State.modLane_lane]
    exact ⟨rfl, rfl, s.clock_le_later, rfl⟩
  · obtain ⟨place, ran⟩ := lockLossExpiry_comes lost active used comes
    exact ⟨_, ran, State.linkFails_signon (s := { s with sub := place }) active, State.linkFails_inactive { s with sub := place } _⟩
  · rw [laneRetrained_outside active txFree rxFree]
    simp only [good, if_true]
  · rw [laneRetrained_outside active txFree rxFree]
    simp only [Nat.not_le.mpr poor, if_false]

end Sys2Proof.Machine
end

section
/-!
SUPPORT. Fabric time (R445 to R471): the commands of the time unit, the choice of a root, and the limits of the servo.
-/
namespace Sys2Proof.Machine

section Commands
variable {s u : State} {q : Nat} {f : Flit} {arrival stamp local_ : Nat}

/-! ## Arrivals and the time state (R453, R461) -/

theorem timeSync_down (active : (s.link q).active = true) (kind : f.kind = 2) (ctype : f.seq = 0x010) (header : s.takeHeader q f = (u, true)) :
    exec (.timeSync q f arrival) s = .next (u.linkFails q) := by
  show execTimeSync q f arrival s = _
  unfold execTimeSync
  rw [if_pos ⟨active, kind, ctype⟩, header]
  rfl

theorem timeSync_up (active : (s.link q).active = true) (kind : f.kind = 2) (ctype : f.seq = 0x010) (header : s.takeHeader q f = (u, false)) :
    exec (.timeSync q f arrival) s = .next (u.takeSync q (leNat f.body) arrival) := by
  show execTimeSync q f arrival s = _
  unfold execTimeSync
  rw [if_pos ⟨active, kind, ctype⟩, header]
  rfl

/-! ## The reference (R458, R459) -/

theorem State.setSeconds_none (unset : s.time.refSeconds = none) : s.setSeconds stamp = s := by
  unfold State.setSeconds
  rw [unset]

theorem ppsInEdge_root (root : s.time.isRoot = true) (used : s.param 0xC02001 ≠ 0) : exec (.ppsInEdge stamp local_) s =
    .next (s.time.lastEdge.elim (State.setSeconds { s with time := { s.time with lastEdge := some local_ } } stamp) fun t =>
      if t + 10 ^ 12 ≤ local_ + 10 ^ 8 ∧ local_ ≤ t + 10 ^ 12 + 10 ^ 8 then s.goodEdge stamp local_ else s.count Event.ppsDiscard anyUnit 1) := by
  show execPpsInEdge stamp local_ s = _
  unfold execPpsInEdge
  rw [if_neg (by simp [root, used])]
  cases s.time.lastEdge with
  | none => rfl
  | some t =>
    rw [Option.elim_some, apply_ite Host.Outcome.next]

/-! ## PPS_OUT (R470) -/

theorem ppsOutPulse_rises (second : s.secondHere = true)
    (mode : s.param 0xC06001 = 2 ∨ s.param 0xC06001 = 1 ∧ (s.time.state = .locked ∨ s.time.state = .holdover)) : exec .ppsOutPulse s =
    .next { s.later with time := { s.later.time with ppsOut := true, ppsEnd := s.later.clock + nsUnits (s.later.param 0xC06002 * 1000) } } :=
  if_pos ⟨second, mode⟩

theorem ppsOutEnd_falls (high : s.time.ppsOut = true) (comes : s.comes s.time.ppsEnd = true) :
    ∃ place, exec .ppsOutEnd s = .next { s with sub := place, time := { s.time with ppsOut := false } } := by
  obtain ⟨place, moved⟩ := s.movedTo_place s.time.ppsEnd
  refine ⟨place, (if_pos high).trans (congrArg Host.Outcome.next ?_)⟩
  rw [State.atTime_comes _ _ _ comes, moved]

end Commands

/-- Settles O56: each command of fabric time where its row applies. -/
theorem fabricTimeCommands : Obligations.FabricTimeCommands := by
  refine fun s => ⟨fun q f arrival u active kind ctype => ⟨timeSync_up active kind ctype, timeSync_down active kind ctype⟩,
    fun state other had empty => ⟨_, if_pos ⟨state, other, had, empty⟩, rfl, rfl, rfl, rfl⟩,
    fun state run member => ⟨_, if_pos ⟨state, run, member⟩, rfl⟩, fun state other run => ⟨_, if_pos ⟨state, other, run⟩, rfl⟩,
    fun stamp local_ root used => ⟨fun first unset => ?_, fun t last early late unset => ?_, fun t last apart => ?_⟩,
    fun stamp local_ other => if_pos (.inl other), fun root used held due => if_pos ⟨root, used, held, due⟩,
    fun second mode => ⟨_, ppsOutPulse_rises second mode, rfl, s.clock_le_later⟩, fun high comes => ?_⟩
  · rw [ppsInEdge_root root used, first]
    exact congrArg Host.Outcome.next (State.setSeconds_none unset)
  · rw [ppsInEdge_root root used, last, Option.elim_some, if_pos ⟨early, late⟩]
    exact congrArg Host.Outcome.next (State.setSeconds_none unset)
  · rw [ppsInEdge_root root used, last, Option.elim_some, if_neg (by omega)]
  · obtain ⟨place, falls⟩ := ppsOutEnd_falls high comes
    exact ⟨_, falls, rfl, rfl⟩

section Rules
variable {s : State}

/-! ## The servo and its steps (R460, R464) -/

theorem State.slewLimit_nonneg (s : State) : 0 ≤ s.slewLimit := Int.tdiv_nonneg (by positivity) (by decide)

theorem clampInt_within {lo hi : Int} (ordered : lo ≤ hi) (v : Int) : lo ≤ clampInt lo hi v ∧ clampInt lo hi v ≤ hi := by
  unfold clampInt
  split
  · omega
  · split <;> omega

theorem State.clampInt_slew (s : State) (v : Int) :
    -s.slewLimit ≤ clampInt (-s.slewLimit) s.slewLimit v ∧ clampInt (-s.slewLimit) s.slewLimit v ≤ s.slewLimit :=
  clampInt_within (by have := s.slewLimit_nonneg; omega) v

theorem State.stepAllowed_backward {e : Int} (backward : e ≤ 0) (opened : s.life = .open_ ∨ s.life = .shutter) : s.stepAllowed e = false := by
  rcases opened with life | life <;> simp [State.stepAllowed, life, Int.not_lt.mpr backward]

theorem State.stepAllowed_small {e : Int} (small : e.natAbs ≤ s.param 0xC03001 * 1000) : s.stepAllowed e = false := by
  have within : ¬ (s.param 0xC03001 : Int) * 1000 < (e.natAbs : Int) := by omega
  rw [State.stepAllowed, decide_eq_false within, Bool.false_and]

/-! ## The choice of a root (R455, R456) -/

theorem foldl_max_below {α : Type} {rank : α → Nat} (l : List α) {m : Nat} (below : ∀ x ∈ l, rank x < m) :
    l.foldl (fun m x => max m (rank x)) m = m := by
  induction l with
  | nil => rfl
  | cons x xs ih =>
    rw [List.foldl_cons, Nat.max_eq_left (below x List.mem_cons_self).le]
    exact ih fun y later => below y (List.mem_cons_of_mem _ later)

theorem rootRank_pos {cls prio : Nat} (prio_ : prio ≠ 0) (serial : Nat) : rootRank cls prio serial ≠ 0 := by
  unfold rootRank
  omega

theorem State.bestRank_own (candidate : s.param 0xC01001 ≠ 0) (best : ∀ x ∈ s.offers,
      rootRank x.2.rootClass x.2.rootPriority x.2.rootSerial < rootRank s.ownClass (s.param 0xC01001) Config.serial.toNat) :
    s.bestRank = rootRank s.ownClass (s.param 0xC01001) Config.serial.toNat := by
  unfold State.bestRank
  dsimp only
  rw [if_neg candidate]
  exact foldl_max_below _ best

/-- A device better than every root offered is the root, at distance 0 and LOCKED. -/
theorem State.elect_own (candidate : s.param 0xC01001 ≠ 0)
    (best : s.bestRank = rootRank s.ownClass (s.param 0xC01001) Config.serial.toNat) :
    s.elect.time.isRoot = true ∧ s.elect.time.distance = 0 ∧ s.elect.time.state = .locked := by
  have own : (decide (s.param 0xC01001 ≠ 0) && s.bestRank == rootRank s.ownClass (s.param 0xC01001) Config.serial.toNat) = true := by
    simp [candidate, best]
  unfold State.elect
  dsimp only
  rw [if_neg (best ▸ rootRank_pos candidate _), own]
  simp only [if_true]
  split
  · next locked => exact ⟨rfl, rfl, locked⟩
  · exact ⟨rfl, rfl, rfl⟩

theorem State.elect_none (other : s.param 0xC01001 = 0) (silent : s.offers = []) :
    s.elect.time.isRoot = false ∧ s.elect.time.rootClass = 0 ∧ s.elect.time.state = s.time.state := by
  have best : s.bestRank = 0 := by rw [State.bestRank, silent, if_pos other]; rfl
  have elected : s.elect = { s with time := { s.time.noReference with
      isRoot := false, rootSerial := 0, rootPriority := 0, rootClass := 0, distance := 0 } } := if_pos best
  rw [elected]
  exact ⟨rfl, rfl, rfl⟩

/-! ## The boundary and the bound (R462, R466) -/

theorem State.nextBoundary_whole (s : State) : s.nextBoundary.time.now % 2 ^ 28 = 0 := by
  have now : s.nextBoundary.time.now = (s.time.now / 2 ^ 28 + 1) * 2 ^ 28 % 2 ^ 96 := rfl
  rw [now]
  omega

theorem State.timeBound_le (s : State) : s.timeBound ≤ 4294967295 := Nat.min_le_right ..

theorem State.timeBound_sourceless (sourceless : s.time.state = .free ∨ s.time.state = .acquire) : s.timeBound = 4294967295 := by
  rcases sourceless with state | state <;> simp [State.timeBound, state]

theorem State.timeBound_root (locked : s.time.state = .locked) (root : s.time.isRoot = true) (unused : s.time.refInUse = false) :
    s.timeBound = 0 := by
  simp [State.timeBound, locked, root, unused]

end Rules

/-- Settles O57: the servo by its clamp, the steps by their rules, the root by its rank. -/
theorem fabricTimeRules : Obligations.FabricTimeRules := by
  refine fun s e => ⟨?_, State.stepAllowed_backward, State.stepAllowed_small, fun candidate best => ?_, State.elect_none,
    ⟨s.nextBoundary_whole, rfl, rfl⟩, State.timeBound_sourceless, State.timeBound_root⟩
  · exact ⟨(s.clampInt_slew _).1, (s.clampInt_slew _).2, (s.clampInt_slew _).1, (s.clampInt_slew _).2⟩
  · obtain ⟨root, distance, locked⟩ := State.elect_own candidate (State.bestRank_own candidate best)
    exact ⟨root, distance, locked, s.elect.timeBound_le⟩

end Sys2Proof.Machine
end

section
/-!
SUPPORT. The queue of commands that waits: no operation of the model touches it. The laws of what is held ask for byte memories in
canonical form; these equations ask for nothing, so that they speak of every state.
-/
namespace Sys2Proof.Machine

/-- The queue of a state, as the first of its kept parts; the rest of what the rules need to reach it. -/
theorem queue_rules :
    (∀ s : State, s.pending = s.kept.1) ∧
    (∀ (p : Prop) [Decidable p] (a b : Unmoved), (if p then a else b).1 = if p then a.1 else b.1) ∧
    (∀ (p : Prop) [Decidable p] (l : List Instr), (if p then l else l) = l) :=
  ⟨fun _ => rfl, fun _ _ _ _ => apply_ite Prod.fst .., fun _ _ _ => ite_self _⟩

/-- An outcome is a next state in which the same queue waits. -/
def Leaves (s : State) (o : Host.Outcome State Fault Refusal) : Prop := ∃ t, o = .next t ∧ t.kept.1 = s.kept.1

theorem leaves_next (s t : State) : Leaves s (.next t) = (t.kept.1 = s.kept.1) :=
  propext ⟨fun ⟨_, same, queue⟩ => Host.Outcome.next.inj same ▸ queue, fun queue => ⟨t, rfl, queue⟩⟩

theorem leaves_rules : (∀ s t : State, Leaves s (.next t) = (t.kept.1 = s.kept.1)) ∧ (∀ s : State, ok s = .next s) := ⟨leaves_next, ok_eq⟩

theorem leaves_ok {s t : State} (queue : t.kept.1 = s.kept.1) : Leaves s (ok t) := ⟨t, rfl, queue⟩

theorem leaves_ite {s : State} {p : Prop} [Decidable p] {a b : Host.Outcome State Fault Refusal} (yes : Leaves s a) (no : Leaves s b) :
    Leaves s (if p then a else b) := by
  split
  · exact yes
  · exact no

theorem foldl_queue {α : Type} (f : State → α → State) (l : List α) (h : ∀ s x, (f s x).kept.1 = s.kept.1) (s : State) :
    (l.foldl f s).kept.1 = s.kept.1 := by
  induction l generalizing s with
  | nil => rfl
  | cons a l ih => rw [List.foldl_cons, ih, h]

/-! ## Host ports, the Device Store and the Porter -/

theorem State.setPort_queue (s : State) (p : HPort) (f : HostPort → HostPort) : (s.setPort p f).kept.1 = s.kept.1 := by
  cases p <;> rfl

theorem State.setParam_queue (s : State) (addr v : Nat) : (s.setParam addr v).kept.1 = s.kept.1 := rfl

theorem State.atTime_queue (s : State) (t : Nat) (go : State → State) (goes : ∀ u, (go u).kept.1 = u.kept.1) :
    (s.atTime t go).kept.1 = s.kept.1 := by
  unfold State.atTime
  split
  · next reached => rw [goes, State.until_cases reached]
  · rfl

theorem State.admRow_queue (s : State) (fn op : Nat) (go : AdminCmd → State) (goes : ∀ c, (go c).kept.1 = s.kept.1) :
    (s.admRow fn op go).kept.1 = s.kept.1 := by
  unfold State.admRow
  repeat' (first | simp only [goes] | split)

theorem State.storeWrite_queue (s : State) (off : Nat) (d : Bytes) (poisoned : Bool) :
    (s.storeWrite off d poisoned).kept.1 = s.kept.1 := by
  unfold State.storeWrite
  split <;> rfl

theorem State.porterPut_queue (s : State) (ch d off : Nat) (data : Bytes) (poison : Bool) :
    (s.porterPut ch d off data poison).2.kept.1 = s.kept.1 := by
  unfold State.porterPut
  repeat' (first
    | simp only [State.hostWrite_kept, State.modChan_kept, State.raiseMiss_kept, State.storeWrite_queue]
    | split
    | rw [State.reachKey_cases (by assumption)])

theorem State.porterPut_cases_queue {s t : State} {ch d off : Nat} {data : Bytes} {poison : Bool} {st : Option Nat}
    (put : s.porterPut ch d off data poison = (st, t)) : t.kept.1 = s.kept.1 := by
  have queue := s.porterPut_queue ch d off data poison
  rwa [put] at queue

theorem State.flushChan_queue (s : State) (ch n : Nat) : (s.flushChan ch n).kept.1 = s.kept.1 := by
  induction n generalizing s with
  | zero => rfl
  | succ n ih =>
    unfold State.flushChan
    repeat' (first
      | simp only [State.chanFails_kept, State.count_kept, State.modChan_kept, ih]
      | split
      | rw [State.porterPut_cases_queue (by assumption)])

theorem State.pieceBack_queue (s : State) (ch off : Nat) (got : Option (Bytes × Bool)) : (s.pieceBack ch off got).kept.1 = s.kept.1 := by
  unfold State.pieceBack
  repeat' (first
    | simp only [State.chanFails_kept, State.modChan_kept, State.settlePause_kept, State.flushChan_queue]
    | split)

theorem State.issuePiece_queue (s : State) (ch : Nat) : (s.issuePiece ch).kept.1 = s.kept.1 := by
  unfold State.issuePiece
  repeat' (first
    | simp only [State.chanFails_kept, State.hostRead_kept, State.modChan_kept, State.raiseMiss_kept, State.pieceBack_queue]
    | split
    | rw [State.reachKey_cases (by assumption)])

theorem State.wakeChan_queue (s : State) (ch : Nat) : (s.wakeChan ch).kept.1 = s.kept.1 := by
  simp only [State.wakeChan, State.modChan_kept, State.settlePause_kept, State.flushChan_queue]

/-! ## Walks and fills -/

theorem State.resume_queue (s : State) (w : MissWaiter) : (s.resume w).kept.1 = s.kept.1 := by
  unfold State.resume
  repeat' (first | simp only [State.pump_kept, State.wakeMatched_kept, State.wakeMember_kept, State.wakeChan_queue] | split)

theorem State.endMiss_queue (s : State) (id : Nat) (good : Bool) : (s.endMiss id good).kept.1 = s.kept.1 := by
  unfold State.endMiss
  repeat' (first
    | simp only [State.benchAllFail_kept, State.dropMiss_kept, State.unbenchMiss_kept, State.waitFails_kept,
      State.resume_queue, foldl_queue, implies_true]
    | split)

theorem State.walkDone_queue (s : State) (id : Nat) (m : Miss) (leaf : Nat) : (s.walkDone id m leaf).kept.1 = s.kept.1 := by
  simp only [State.walkDone, State.loadTlb_kept, State.endMiss_queue]

theorem State.walkLeaf_queue (s : State) (id : Nat) (m : Miss) (fn leaf : Nat) : (s.walkLeaf id m fn leaf).kept.1 = s.kept.1 := by
  simp only [State.walkLeaf, queue_rules, kept_rules, State.hostAtomic_kept, State.endMiss_queue, State.walkDone_queue]

theorem State.walkEntry_queue (s : State) (id e : Nat) : (s.walkEntry id e).kept.1 = s.kept.1 := by
  unfold State.walkEntry
  repeat' (first | simp only [State.walkRead_kept, State.endMiss_queue, State.walkLeaf_queue] | split)

theorem State.walkBack_queue (s : State) (id : Nat) (a : Answer) : (s.walkBack id a).kept.1 = s.kept.1 := by
  unfold State.walkBack
  repeat' (first | simp only [State.walkEntry_queue, State.endMiss_queue] | split)

theorem State.casBack_queue (s : State) (id : Nat) (a : Answer) : (s.casBack id a).kept.1 = s.kept.1 := by
  unfold State.casBack
  repeat' (first | simp only [State.walkRead_kept, State.walkDone_queue, State.endMiss_queue] | split)

theorem execMissTimeout_leaves (miss : Nat) (s : State) : Leaves s (execMissTimeout miss s) := by
  unfold execMissTimeout
  repeat' (first | simp only [leaves_rules, State.endMiss_queue] | split)

theorem State.answerMiss_queue (s : State) (r : Nat) (good : Bool) : (s.answerMiss r good).kept.1 = s.kept.1 := by
  simp only [State.answerMiss, queue_rules, kept_rules, State.endMiss_queue]

theorem State.fillLeaf_queue (s : State) (r : Nat) : (s.fillLeaf r).kept.1 = s.kept.1 := by
  simp only [State.fillLeaf, queue_rules, kept_rules, State.loadTlb_kept, State.answerMiss_queue]

theorem State.fillRow_queue (s : State) (fn op : Nat) (go : Nat → State → State) (goes : ∀ r t, (go r t).kept.1 = t.kept.1) :
    (s.fillRow fn op go).kept.1 = s.kept.1 := by
  unfold State.fillRow
  repeat' (first | simp only [State.count_kept, State.setFn_kept, goes] | split)

theorem execFill_leaves (fn : Nat) (s : State) : Leaves s (execFill fn s) := by
  simp only [execFill, leaves_rules, State.fillRow_queue, State.fillLeaf_queue, implies_true]

theorem execFault_leaves (fn : Nat) (s : State) : Leaves s (execFault fn s) := by
  simp only [execFault, leaves_rules, State.fillRow_queue, State.answerMiss_queue, implies_true]

/-! ## Functions and the host port state machine -/

theorem State.endFns_queue (s : State) (gone : Nat → Bool) : (s.endFns gone).kept.1 = s.kept.1 := by
  unfold State.endFns
  extract_lets s1 s2 s3 s4 s5 mine s6 s7 groups s8 dead s9 s10 s11
  have served : s5.kept.1 = s.kept.1 := by
    simp only [s5, s4, s3, s2, s1, kept_rules, State.dropUnits_kept, State.dropReads_kept, State.endQps_kept, State.endTrees_kept]
  have grouped : s8.kept.1 = s5.kept.1 := foldl_queue _ _ (fun t e => by rw [State.groupDone_kept]) _
  have walked : s9.kept.1 = s8.kept.1 := by simp only [s9, State.endMisses_kept]
  have keyed : s11.kept.1 = s9.kept.1 := by
    simp only [s11, s10, queue_rules, kept_rules, State.setParam_queue]
  rw [State.rebench_kept, State.reland_kept, keyed, walked, grouped, served]

theorem execFlr_leaves (fn : Nat) (s : State) : Leaves s (execFlr fn s) := by
  unfold execFlr
  repeat' (first | simp only [leaves_rules, State.setFn_kept, State.endFns_queue] | split)

theorem execNumvfsWrite_leaves (p : HPort) (n : Nat) (s : State) : Leaves s (execNumvfsWrite p n s) := by
  unfold execNumvfsWrite
  repeat' (first | simp only [leaves_rules, queue_rules, kept_rules, State.setPort_queue, State.endFns_queue] | split)

theorem State.noteCause_queue (s : State) (p : HPort) (bit : Nat) : (s.noteCause p bit).kept.1 = s.kept.1 := by
  simp only [State.noteCause, State.setPort_queue]

theorem State.enterFrozen_queue (s : State) (p : HPort) (bit : Nat) : (s.enterFrozen p bit).kept.1 = s.kept.1 := by
  simp only [State.enterFrozen, State.clearFetches_kept, State.clearPath_kept, State.setPort_queue, State.noteCause_queue]

theorem State.freezePort_queue (s : State) (p : HPort) (bit : Nat) : (s.freezePort p bit).kept.1 = s.kept.1 := by
  unfold State.freezePort
  repeat' (first
    | simp only [State.containPort_kept, State.draw_kept, State.loseLists_kept, State.occur_kept, State.noteCause_queue,
      State.enterFrozen_queue]
    | split)

theorem State.thawPort_queue (s : State) (p : HPort) : (s.thawPort p).kept.1 = s.kept.1 := by
  simp only [State.thawPort, State.advanceQp_kept, State.setPath_kept, State.setPort_queue, foldl_queue, implies_true]

theorem execFreeze_leaves (p : HPort) (s : State) : Leaves s (execFreeze p s) := by
  simp only [execFreeze, leaves_rules, State.freezePort_queue]

theorem execSurpriseDown_leaves (p : HPort) (s : State) : Leaves s (execSurpriseDown p s) := by
  unfold execSurpriseDown
  repeat' (first | simp only [leaves_rules, State.tunePort_kept, State.freezePort_queue] | split)

theorem State.askThaw_queue (s : State) (p : HPort) : (s.askThaw p).kept.1 = s.kept.1 := by
  simp only [State.askThaw, queue_rules, kept_rules, State.thawPort_queue]

theorem execThaw_leaves (p : HPort) (s : State) : Leaves s (execThaw p s) := by
  simp only [execThaw, leaves_rules, State.askThaw_queue]

theorem execAutoThaw_leaves (p : HPort) (s : State) : Leaves s (execAutoThaw p s) := by
  unfold execAutoThaw
  repeat' (first | simp only [leaves_rules, State.thawPort_queue] | split)

theorem State.clearCause_queue (s : State) (p : HPort) (mask : BitVec 32) : (s.clearCause p mask).kept.1 = s.kept.1 := by
  simp only [State.clearCause, State.setPort_queue]

theorem execThawComplete_leaves (p : HPort) (s : State) : Leaves s (execThawComplete p s) := by
  unfold execThawComplete
  repeat' (first
    | simp only [leaves_rules, State.msix_kept, State.resumeFn_kept, State.setPort_queue, foldl_queue, implies_true]
    | split)

theorem State.resetPort_queue (s : State) (p : HPort) (perst : Bool) : (s.resetPort p perst).kept.1 = s.kept.1 := by
  simp only [State.resetPort, queue_rules, kept_rules, State.dropReads_kept, State.retirePort_kept, State.setBoot_kept,
      State.setPath_kept, State.setPort_queue, State.endFns_queue]

theorem State.bringUp_queue (s : State) (p : HPort) (link : HostLink) : (s.bringUp p link).kept.1 = s.kept.1 := by
  simp only [State.bringUp, queue_rules, kept_rules, State.tunePort_kept, State.setPort_queue]

theorem execPerstDeassert_leaves (p : HPort) (link : Option HostLink) (s : State) : Leaves s (execPerstDeassert p link s) := by
  unfold execPerstDeassert
  repeat' (first | simp only [leaves_rules, State.endWake_kept, State.tunePort_kept, State.bringUp_queue] | split)

theorem execDataLinkUp_leaves (p : HPort) (link : HostLink) (s : State) : Leaves s (execDataLinkUp p link s) := by
  unfold execDataLinkUp
  repeat' (first | simp only [leaves_rules, State.bringUp_queue] | split)

/-! ## Administrative commands and keys -/

theorem State.admRun_queue (s : State) (fn op : Nat) (wellFormed : Nat → Bool) (results : Nat → List Nat) (go : AdminCmd → State)
    (goes : ∀ c, (go c).kept.1 = s.kept.1) : (s.admRun fn op wellFormed results go).kept.1 = s.kept.1 := by
  refine State.admRow_queue s fn op _ fun c => ?_
  repeat' (first | simp only [State.admAbort_kept, State.admMalformed_kept, goes] | split)

theorem State.newKey_queue {s t : State} {k : Key} {idx : Nat} (granted : s.newKey k = some (idx, t)) : t.kept.1 = s.kept.1 := by
  unfold State.newKey at granted
  split at granted
  · cases granted
  · next chosen =>
    split at granted
    · cases granted
    · next variant =>
      cases granted
      simp only [queue_rules, kept_rules, State.choose_cases variant, State.choose_cases chosen]

theorem State.admKey_queue (s : State) (fn r : Nat) (ask : Bool) (load : State → Nat → State) (loads :
    ∀ t i, (load t i).kept.1 = t.kept.1) :
    (s.admKey fn r ask load).kept.1 = s.kept.1 := by
  unfold State.admKey
  split
  · rw [State.admAbort_kept]
  · next granted => simp only [State.admOk_kept, State.admWrite_kept, loads, State.newKey_queue granted]

theorem execRegisterRegion_leaves (fn : Nat) (s : State) : Leaves s (execRegisterRegion fn s) := by
  refine leaves_ok (State.admRun_queue _ _ _ _ _ _ fun c => ?_)
  split
  · exact State.admKey_queue _ _ _ _ _ fun _ _ => rfl
  · rw [State.hostRead_kept, State.admWait_kept]

theorem State.takePageList_queue (s : State) (fn : Nat) (data : Bytes) : (s.takePageList fn data).kept.1 = s.kept.1 := by
  unfold State.takePageList
  repeat' (first
    | simp only [State.admAbort_kept, State.loadTlb_kept, State.admKey_queue, foldl_queue, implies_true]
    | split)

theorem execCreateAsk_leaves (fn : Nat) (s : State) : Leaves s (execCreateAsk fn s) := by
  simp only [execCreateAsk, leaves_rules, State.admKey_queue, State.admRun_queue, implies_true]

theorem State.removeKey_queue (s : State) (fn v : Nat) : (s.removeKey fn v).kept.1 = s.kept.1 := rfl

theorem State.settleKey_queue (s : State) (fn : Nat) : (s.settleKey fn).kept.1 = s.kept.1 := by
  unfold State.settleKey
  repeat' (first | simp only [State.admOk_kept, State.removeKey_queue] | split)

theorem State.invalidateRange_queue (s : State) (v r : Nat) : (s.invalidateRange v r).kept.1 = s.kept.1 := by
  simp only [State.invalidateRange, queue_rules, kept_rules, State.dropMiss_kept, State.unbenchMiss_kept, State.resume_queue,
      foldl_queue, implies_true]

theorem execInvalidate_leaves (fn : Nat) (s : State) : Leaves s (execInvalidate fn s) := by
  simp only [execInvalidate, leaves_rules, State.admRun_queue, State.invalidateRange_queue, State.admWait_kept, implies_true]

theorem execPorterBind_leaves (fn : Nat) (s : State) : Leaves s (execPorterBind fn s) := by
  refine leaves_ok (State.admRun_queue _ _ _ _ _ _ fun c => ?_)
  repeat' (first
    | simp only [State.admAbort_kept, State.admOk_kept, State.modChan_kept, State.setParam_queue]
    | split
    | rw [State.choose_cases (by assumption)])

/-! ## Host reads -/

theorem State.serve_queue (s : State) (r : HostRead) (a : Answer) : (s.serve r a).kept.1 = s.kept.1 := by
  unfold State.serve
  repeat' (first
    | simp only [State.atomicBack_kept, State.collBack_kept, State.contextBack_kept, State.copyBack_kept,
      State.failAdminFetch_kept, State.failDesc_kept, State.failFill_kept, State.failPageList_kept, State.failRqFetch_kept,
      State.failSqFetch_kept, State.failSrqFetch_kept, State.flushBack_kept, State.groupFlushBack_kept, State.payloadBack_kept,
      State.takeAdmin_kept, State.takeDesc_kept, State.takeFill_kept, State.takeRqEntry_kept, State.takeSqEntry_kept,
      State.takeSrqEntry_kept, State.walkBack_queue, State.casBack_queue, State.takePageList_queue, State.pieceBack_queue]
    | split)

theorem State.freezeRun_queue (s : State) (p : HPort) (a : Answer) : (s.freezeRun p a).kept.1 = s.kept.1 := by
  unfold State.freezeRun
  repeat' (first | simp only [State.freezePort_queue] | split)

theorem State.answerRead_queue (s : State) (tag : Nat) (r : HostRead) (a : Answer) : (s.answerRead tag r a).kept.1 = s.kept.1 := by
  simp only [State.answerRead, State.noteAnswer_kept, State.freezeRun_queue, State.serve_queue]

theorem State.readRow_queue (s : State) (tag : Nat) (kind : ReadFor → Bool) (a : Answer) : (s.readRow tag kind a).kept.1 = s.kept.1 := by
  unfold State.readRow
  repeat' (first | simp only [State.answerRead_queue] | split)

theorem execHostReadComplete_leaves (tag : Nat) (data : Bytes) (poisoned : Bool) (s : State) :
    Leaves s (execHostReadComplete tag data poisoned s) := by
  simp only [execHostReadComplete, leaves_rules, State.readRow_queue]

theorem execCompletionTimeout_leaves (tag : Nat) (s : State) : Leaves s (execCompletionTimeout tag s) := by
  unfold execCompletionTimeout
  repeat' (first | simp only [leaves_rules, State.readRow_queue] | split)

/-! ## Packets that arrive -/

theorem State.checked_queue (s : State) (p : Packet) (go : State → State) (goes : ∀ t, (go t).kept.1 = t.kept.1) :
    (s.checked p go).kept.1 = s.kept.1 := by
  unfold State.checked
  repeat' (first | simp only [queue_rules, kept_rules, State.count_kept, State.occur_kept, goes] | split)

theorem State.packetRow_leaves (s : State) (p : Packet) (t : Nat) (go : State → State) (goes : ∀ t, (go t).kept.1 = t.kept.1) :
    Leaves s (s.packetRow p t go) := by
  simp only [State.packetRow, leaves_rules, queue_rules, kept_rules, State.checked_queue s p go goes]

theorem State.mcastPut_queue (s : State) (v : Nat) : (s.mcastPut v).kept.1 = s.kept.1 := rfl

/-! ## Fabric time -/

theorem State.timeTo_queue (s : State) (t : TimeState) : (s.timeTo t).kept.1 = s.kept.1 := rfl

theorem State.elect_queue (s : State) : s.elect.kept.1 = s.kept.1 := by
  unfold State.elect
  dsimp only
  repeat' split
  all_goals rfl

theorem State.stepTime_queue (s : State) (units : Int) : (s.stepTime units).kept.1 = s.kept.1 := by
  unfold State.stepTime
  dsimp only
  split
  · rw [State.releasePassed_kept]
    rfl
  · rfl

theorem State.servoStep_queue (s : State) (e : Int) : (s.servoStep e).kept.1 = s.kept.1 := by
  simp only [State.servoStep, kept_rules, State.occur_kept, State.stepTime_queue]

theorem State.servoWith_queue (s : State) (e : Int) : (s.servoWith e).kept.1 = s.kept.1 := by
  simp only [State.servoWith, queue_rules, kept_rules, State.noLockRun_kept, State.occur_kept, State.servoRuns_kept,
    State.servoTerms_kept, State.servoStep_queue]

theorem State.servo_queue (s : State) : s.servo.kept.1 = s.kept.1 := by
  simp only [State.servo, queue_rules, kept_rules, State.servoFree_kept, State.elect_queue, State.timeTo_queue, State.servoWith_queue]

theorem State.nextBoundary_queue (s : State) : s.nextBoundary.kept.1 = s.kept.1 := rfl

theorem State.takeSync_queue (s : State) (q r arrival : Nat) : (s.takeSync q r arrival).kept.1 = s.kept.1 := by
  simp only [State.takeSync, kept_rules, State.count_kept, State.modTimePort_kept, State.elect_queue]

theorem execTimeSync_leaves (q : Nat) (f : Flit) (arrival : Nat) (s : State) : Leaves s (execTimeSync q f arrival s) := by
  unfold execTimeSync
  repeat' (first | simp only [leaves_rules, State.linkFails_kept, State.takeHeader_kept, State.takeSync_queue] | split)

theorem execUpstreamSilent_leaves (s : State) : Leaves s (execUpstreamSilent s) := by
  unfold execUpstreamSilent
  repeat' (first | simp only [leaves_rules, queue_rules, kept_rules, State.timeTo_queue] | split)

theorem execTimeLock_leaves (s : State) : Leaves s (execTimeLock s) := by
  unfold execTimeLock
  repeat' (first | simp only [leaves_rules, State.timeTo_queue] | split)

theorem execTimeUnlock_leaves (s : State) : Leaves s (execTimeUnlock s) := by
  unfold execTimeUnlock
  repeat' (first | simp only [leaves_rules, State.timeTo_queue] | split)

theorem State.setSeconds_queue (s : State) (stamp : Nat) : (s.setSeconds stamp).kept.1 = s.kept.1 := by
  unfold State.setSeconds
  repeat' (first | simp only [queue_rules, kept_rules, State.occur_kept, State.stepTime_queue] | split)

theorem State.goodEdge_queue (s : State) (stamp local_ : Nat) : (s.goodEdge stamp local_).kept.1 = s.kept.1 := by
  simp only [State.goodEdge, queue_rules, kept_rules, State.setSeconds_queue]

theorem execPpsInEdge_leaves (stamp local_ : Nat) (s : State) : Leaves s (execPpsInEdge stamp local_ s) := by
  unfold execPpsInEdge
  refine leaves_ite (leaves_ok rfl) ?_
  split
  · exact leaves_ok (State.setSeconds_queue { s with time := { s.time with lastEdge := some local_ } } stamp)
  · exact leaves_ite (leaves_ok (s.goodEdge_queue stamp local_)) (leaves_ok (congrArg Prod.fst (s.count_kept ..)))

theorem execReferenceLost_leaves (s : State) : Leaves s (execReferenceLost s) := by
  unfold execReferenceLost
  repeat' (first | simp only [leaves_rules, queue_rules, kept_rules, State.occur_kept, State.elect_queue] | split)

/-! ## The lifecycle and power -/

theorem State.enterLife_queue (s : State) (l : Life) : (s.enterLife l).kept.1 = s.kept.1 := by
  rw [State.enterLife, State.notice_kept]
  rfl

theorem State.cleared_queue (s : State) (life : Life) (addr : Nat) : (s.cleared life addr).kept.1 = s.kept.1 := rfl

theorem State.toShut_queue (s : State) : s.toShut.kept.1 = s.kept.1 := by
  rw [State.toShut, State.enterLife_queue]
  rfl

theorem State.resetReleased_queue (s : State) (addr : Nat) : (s.resetReleased addr).kept.1 = s.kept.1 := by
  simp only [State.resetReleased, queue_rules, kept_rules, State.notice_kept, State.cleared_queue, State.toShut_queue]

theorem State.deviceReset_queue (s : State) : s.deviceReset.kept.1 = s.kept.1 := by
  simp only [State.deviceReset, queue_rules, kept_rules, State.resetReleased_queue]

theorem execResetRelease_leaves (maddr : Nat) (testMode : Bool) (s : State) : Leaves s (execResetRelease maddr testMode s) := by
  simp only [execResetRelease, queue_rules, kept_rules, leaves_rules, State.resetReleased_queue]

theorem execOrderViolation_leaves (s : State) : Leaves s (execOrderViolation s) := by
  simp only [execOrderViolation, leaves_rules, queue_rules, kept_rules]

theorem State.goDark_queue (s : State) : s.goDark.kept.1 = s.kept.1 := by
  simp only [State.goDark, State.cleared_queue]

theorem State.enterOpen_queue (s : State) : s.enterOpen.kept.1 = s.kept.1 := by
  unfold State.enterOpen
  refine (foldl_queue _ _ (fun t fn => by rw [State.resumeFn_kept]) _).trans ?_
  rw [State.publishBoards_kept, State.applySplit_kept, State.enterLife_queue]
  rfl

theorem execEnterOpen_leaves (s : State) : Leaves s (execEnterOpen s) := by
  simp only [execEnterOpen, queue_rules, kept_rules, leaves_rules, State.enterOpen_queue]

theorem State.askOpen_queue (s : State) : s.askOpen.kept.1 = s.kept.1 := by
  simp only [State.askOpen, queue_rules, kept_rules]

theorem State.enterShutter_queue (s : State) : s.enterShutter.kept.1 = s.kept.1 := by
  simp only [State.enterShutter, queue_rules, kept_rules, State.breakTree_kept, State.retireSq_kept, State.enterLife_queue, foldl_queue,
      implies_true]

theorem execPwrfailNFall_leaves (s : State) : Leaves s (execPwrfailNFall s) := by
  unfold execPwrfailNFall
  repeat' (first | simp only [leaves_rules, queue_rules, kept_rules, State.later_kept] | split)

theorem execPwrfailLow_leaves (s : State) : Leaves s (execPwrfailLow s) := by
  unfold execPwrfailLow
  split
  · refine leaves_ok (State.atTime_queue _ _ _ fun t => ?_)
    repeat' (first | simp only [queue_rules, kept_rules, State.toShut_queue, State.enterShutter_queue] | split)
  · exact leaves_ok rfl

theorem execPwrfailNRise_leaves (s : State) : Leaves s (execPwrfailNRise s) := by
  unfold execPwrfailNRise
  repeat' (first | simp only [leaves_rules, queue_rules, kept_rules, State.later_kept] | split)

theorem execDrainDone_leaves (s : State) : Leaves s (execDrainDone s) := by
  unfold execDrainDone
  repeat' (first | simp only [leaves_rules, queue_rules, kept_rules, State.toShut_queue, State.drainFlush_kept] | split)

theorem execDrainLimit_leaves (s : State) : Leaves s (execDrainLimit s) := by
  unfold execDrainLimit
  repeat' (first | simp only [leaves_rules, queue_rules, kept_rules, State.atTime_queue, State.toShut_queue, implies_true] | split)

theorem execAutoRestart_leaves (s : State) : Leaves s (execAutoRestart s) := by
  unfold execAutoRestart
  repeat' (first | simp only [leaves_rules, State.deviceReset_queue, State.atTime_queue, implies_true] | split)

theorem execThrottleChange_leaves (s : State) : Leaves s (execThrottleChange s) := by
  unfold execThrottleChange
  repeat' (first | simp only [leaves_rules, queue_rules, kept_rules] | split)

theorem execThermalHold_leaves (s : State) : Leaves s (execThermalHold s) := by
  simp only [execThermalHold, leaves_rules, queue_rules, kept_rules]

theorem execThermalRelease_leaves (s : State) : Leaves s (execThermalRelease s) := by
  simp only [execThermalRelease, leaves_rules, queue_rules, kept_rules]

/-! ## The Ledger -/

theorem State.setDumpEnable_queue (s : State) (v : Nat) : (s.setDumpEnable v).kept.1 = s.kept.1 := by
  simp only [State.setDumpEnable, queue_rules, kept_rules, State.setParam_queue]

theorem State.sense_queue (s : State) (addr : Nat) : (s.sense addr).kept.1 = s.kept.1 := by
  simp only [State.sense, queue_rules, kept_rules, State.later_kept, State.modLane_kept, State.draw_kept, State.draws_kept]

theorem State.stage_queue (s : State) (b : Nat) (l : List (Nat × Nat)) : (s.stage b l).kept.1 = s.kept.1 := by
  rfl

theorem State.stageQuiet_queue (s : State) (addr v : Nat) : (s.stageQuiet addr v).kept.1 = s.kept.1 := by
  rfl

theorem State.afterWrite_queue (s : State) (w : Option ResetWait) (addr v : Nat) : (s.afterWrite w addr v).kept.1 = s.kept.1 := by
  unfold State.afterWrite
  repeat' (first | simp only [queue_rules, kept_rules, State.deviceReset_queue, State.setParam_queue] | split)

theorem State.settleReset_queue (s : State) : s.settleReset.kept.1 = s.kept.1 := by
  unfold State.settleReset
  repeat' (first | simp only [State.deviceReset_queue] | split)

theorem State.perform_queue (s : State) (addr v : Nat) : (s.perform addr v).kept.1 = s.kept.1 := by
  unfold State.perform
  repeat' (first
    | simp only [queue_rules, kept_rules, State.clearSources_kept, State.installTree_kept, State.removeTree_kept, State.retrain_kept,
      State.freezePort_queue, State.mcastPut_queue, State.askOpen_queue, State.setDumpEnable_queue, State.setParam_queue]
    | split)

theorem State.ledgerWrite_queue (s : State) (pf : Bool) (addr : Nat) (data : Bytes) :
    (s.ledgerWrite pf addr data).2.2.kept.1 = s.kept.1 := by
  unfold State.ledgerWrite
  repeat' (first | simp only [State.stage_queue, State.stageQuiet_queue, State.perform_queue] | split)

theorem State.ledgerRead_queue (s : State) (addr : Nat) : (s.ledgerRead addr).2.2.kept.1 = s.kept.1 := by
  unfold State.ledgerRead
  repeat' (first | simp only [State.sense_queue] | split)

theorem ImageTrial.record_queue (t : ImageTrial) (r : ImageRecord) : (t.record r).st.kept.1 = t.st.kept.1 := by
  unfold ImageTrial.record
  repeat' (first | simp only [State.stageQuiet_queue, State.perform_queue] | split)

theorem imageTrials_queue (l : List ImageRecord) (t : ImageTrial) : (l.foldl ImageTrial.record t).st.kept.1 = t.st.kept.1 := by
  induction l generalizing t with
  | nil => rfl
  | cons r l ih => rw [List.foldl_cons, ih, ImageTrial.record_queue]

theorem State.loadImage_queue (s : State) (d : Bytes) : (s.loadImage d).2.kept.1 = s.kept.1 := by
  unfold State.loadImage
  repeat' (first | simp only [State.stage_queue, imageTrials_queue] | split)

theorem State.afterAll_queue (s : State) (w : Option ResetWait) (l : List (Nat × Nat)) : (s.afterAll w l).kept.1 = s.kept.1 := by
  simp only [State.afterAll, State.afterWrite_queue, foldl_queue, implies_true]

theorem State.putBlock_queue (s : State) (off : Nat) (data : Bytes) : (s.putBlock off data).2.kept.1 = s.kept.1 := by
  unfold State.putBlock
  dsimp only
  split <;> rfl

theorem State.doWrite_queue (s : State) (via : Via) (addr : Nat) (data : Bytes) : (s.doWrite via addr data).kept.1 = s.kept.1 := by
  simp only [State.doWrite, queue_rules, kept_rules, State.answer_kept, State.beginBulk_kept, State.loadImage_queue,
    State.afterAll_queue, State.ledgerWrite_queue, State.afterWrite_queue]

theorem State.doRead_queue (s : State) (via : Via) (addr : Nat) : (s.doRead via addr).kept.1 = s.kept.1 := by
  simp only [State.doRead, State.answer_kept, State.ledgerRead_queue]

theorem State.orQueue_queue (s : State) (q : Queued) (go : State → State) (goes : ∀ t, (go t).kept.1 = t.kept.1) :
    (s.orQueue q go).kept.1 = s.kept.1 := by
  simp only [State.orQueue, queue_rules, kept_rules, goes]

theorem State.access_queue (s : State) (via : Via) (write : Bool) (addr : Nat) (data : Bytes) :
    (s.access via write addr data).kept.1 = s.kept.1 := by
  simp only [State.access, queue_rules, kept_rules, State.doWrite_queue, State.doRead_queue, State.orQueue_queue, implies_true]

/-! ## Requests in band, and the mailboxes -/

theorem MgmtRun.add_queue (r : MgmtRun) (s : State) (m : MgmtRec) (code bell : Nat) (value : Bytes) (after : List (Nat × Nat))
    (same : s.kept.1 = r.st.kept.1) : (r.add s m code bell value after).st.kept.1 = r.st.kept.1 := by
  unfold MgmtRun.add
  dsimp only
  split
  · rfl
  · exact same

theorem MgmtRun.record_queue (dev reqId : Nat) (r : MgmtRun) (m : MgmtRec) : (r.record dev reqId m).st.kept.1 = r.st.kept.1 := by
  unfold MgmtRun.record
  repeat' (first
    | simp only [MgmtRun.add_queue, State.ledgerRead_queue, State.putBlock_queue, State.loadImage_queue, State.beginBulk_kept,
      State.ledgerWrite_queue]
    | split)

theorem mgmtRuns_queue (dev reqId : Nat) (l : List MgmtRec) (r : MgmtRun) :
    (l.foldl (MgmtRun.record dev reqId) r).st.kept.1 = r.st.kept.1 := by
  induction l generalizing r with
  | nil => rfl
  | cons m l ih => rw [List.foldl_cons, ih, MgmtRun.record_queue]

theorem State.runRequest_queue (s : State) (q : PartReq) (l : List MgmtRec) : (s.runRequest q l).kept.1 = s.kept.1 := by
  simp only [State.runRequest, queue_rules, kept_rules, State.afterAll_queue, State.mgmtAnswer_kept, mgmtRuns_queue]

theorem State.doRequest_queue (s : State) (port : Nat) (p : Packet) : (s.doRequest port p).kept.1 = s.kept.1 := by
  unfold State.doRequest
  repeat' (first | simp only [State.mgmtAnswer_kept, State.runRequest_queue] | split)

theorem State.endBulk_queue (s : State) (via : Via) (code : Nat) : (s.endBulk via code).kept.1 = s.kept.1 := by
  unfold State.endBulk
  repeat' (first | simp only [queue_rules, kept_rules, State.answer_kept, State.runRequest_queue] | split)

theorem execMgmtReq_leaves (port : Nat) (p : Packet) (s : State) : Leaves s (execMgmtReq port p s) := by
  refine State.packetRow_leaves s p _ _ fun t => ?_
  repeat' (first | simp only [State.count_kept, State.sendPacket_kept, State.doRequest_queue, State.orQueue_queue, implies_true] | split)

theorem State.submit_queue (s : State) (fn len seq op : Nat) (go : State → State) (goes : ∀ t, (go t).kept.1 = t.kept.1) :
    (s.submit fn len seq op go).kept.1 = s.kept.1 := by
  simp only [State.submit, queue_rules, kept_rules, State.modMailbox_kept, goes]

theorem execMailboxRead_leaves (fn len seq : Nat) (s : State) : Leaves s (execMailboxRead fn len seq s) := by
  simp only [execMailboxRead, leaves_rules, State.modMailbox_kept, State.access_queue, State.submit_queue, implies_true]

theorem execMailboxWrite_leaves (fn len seq : Nat) (s : State) : Leaves s (execMailboxWrite fn len seq s) := by
  simp only [execMailboxWrite, leaves_rules, State.modMailbox_kept, State.access_queue, State.submit_queue, implies_true]

theorem State.viaWrite_queue (s : State) (via : Via) (addr : Nat) (data : Bytes) : (s.viaWrite via addr data).kept.1 = s.kept.1 := by
  unfold State.viaWrite
  repeat' (first
    | simp only [queue_rules, kept_rules, State.count_kept, State.lapQueue_kept, State.modMailbox_kept, State.sendPacket_kept,
      State.access_queue, State.submit_queue, implies_true]
    | split)

theorem execTallyCountWrite_leaves (via : Via) (counter : Nat) (data : Bytes) (s : State) :
    Leaves s (execTallyCountWrite via counter data s) := by
  simp only [execTallyCountWrite, leaves_rules, State.viaWrite_queue]

/-! ## Errors of the memories -/

theorem State.strike_queue {α : Type} (s : State) (l : List α) (f : State → α → State) (strikes : ∀ t x, (f t x).kept.1 = t.kept.1) :
    (s.strike l f).kept.1 = s.kept.1 := by
  unfold State.strike
  split
  · next struck => rw [strikes, State.struck_cases struck]
  · next struck => rw [State.struck_cases struck]

theorem State.strikeRoutes_queue (s : State) : s.strikeRoutes.kept.1 = s.kept.1 := by
  unfold State.strikeRoutes
  rw [State.portsChanged_kept]
  refine State.strike_queue _ _ _ fun t x => ?_
  split <;> rfl

theorem State.strikeSram_queue (s : State) (block : Nat) : (s.strikeSram block).kept.1 = s.kept.1 := by
  unfold State.strikeSram
  repeat' (first
    | simp only [State.draw_kept, State.strikeInput_kept, State.strikeL1_kept, State.strikeMatch_kept,
      State.strikePayload_kept, State.strikePorter_kept, State.strikeShelf_kept, State.strikeStaging_kept, State.strikeRoutes_queue]
    | split)

theorem State.uncorrectableAt_queue (s : State) (code inst addr : Nat) : (s.uncorrectableAt code inst addr).kept.1 = s.kept.1 := by
  simp only [State.uncorrectableAt, queue_rules, kept_rules, State.occur_kept, State.strikePmem_kept, State.strikeSram_queue]

/-! ## The management bus -/

theorem State.lapTake_queue (s : State) (f : LapFrame) (go : State → State) (goes : ∀ t, (go t).kept.1 = t.kept.1) :
    (s.lapTake f go).kept.1 = s.kept.1 := by
  simp only [State.lapTake, queue_rules, kept_rules, State.dropWrite_kept, State.lapCount_kept, State.lapGood_kept, goes]

theorem State.lapOnce_queue (s : State) (f : LapFrame) (go : State → State) (goes : ∀ t, (go t).kept.1 = t.kept.1) :
    (s.lapOnce f go).kept.1 = s.kept.1 := by
  unfold State.lapOnce
  split
  · rw [State.lapQueue_kept]
  · exact goes s

theorem execLapRead_leaves (f : LapFrame) (s : State) : Leaves s (execLapRead f s) := by
  unfold execLapRead
  repeat' (first
    | simp only [leaves_rules, State.lapFormat_kept, State.access_queue, State.lapTake_queue, State.lapOnce_queue,
      implies_true]
    | split)

theorem execLapWrite_leaves (f : LapFrame) (s : State) : Leaves s (execLapWrite f s) := by
  refine leaves_ite (leaves_ok rfl) (leaves_ok (State.lapTake_queue _ _ _ fun t => ?_))
  repeat' (first
    | simp only [queue_rules, kept_rules, State.dropWrite_kept, State.lapFormat_kept, State.access_queue, State.lapOnce_queue,
      implies_true]
    | split)

theorem execLapBlock_leaves (f : LapFrame) (s : State) : Leaves s (execLapBlock f s) := by
  refine leaves_ite (leaves_ok rfl) (leaves_ok (State.lapTake_queue _ _ _ fun t => ?_))
  repeat' (first
    | simp only [State.lapAnswer_kept, State.lapFormat_kept, State.putBlock_queue, State.lapOnce_queue, State.orQueue_queue, implies_true]
    | split)

theorem execLapTxAbandon_leaves (s : State) : Leaves s (execLapTxAbandon s) := by
  unfold execLapTxAbandon
  repeat' (first
    | simp only [leaves_rules, queue_rules, kept_rules, State.lapCount_kept, State.settleReset_queue, State.atTime_queue, implies_true]
    | split)

theorem State.lapSent_queue (s : State) : s.lapSent.kept.1 = s.kept.1 := by
  unfold State.lapSent
  repeat' (first | simp only [queue_rules, kept_rules, State.emit_kept, State.settleReset_queue] | split)

theorem execLapBitError_leaves (e : BusError) (s : State) : Leaves s (execLapBitError e s) := by
  unfold execLapBitError
  repeat' (first
    | simp only [leaves_rules, queue_rules, kept_rules, State.draw_kept, State.lapCount_kept, State.lapGood_kept, State.occur_kept,
      State.lapSent_queue]
    | split)

/-! ## Images -/

theorem State.endLoad_queue (s : State) (result : Nat) : (s.endLoad result).kept.1 = s.kept.1 := by
  unfold State.endLoad
  repeat' (first
    | simp only [queue_rules, kept_rules, State.admAbort_kept, State.admOk_kept, State.setBoot_kept, State.endBulk_queue]
    | split)

theorem execFirmwareLoaded_leaves (r : FwRead) (s : State) : Leaves s (execFirmwareLoaded r s) := by
  unfold execFirmwareLoaded
  repeat' (first
    | simp only [leaves_rules, queue_rules, kept_rules, State.applyGroups_kept, State.fetchAdmins_kept, State.endLoad_queue,
      State.enterLife_queue]
    | split)

theorem execStagingDone_leaves (r : FwRead) (s : State) : Leaves s (execStagingDone r s) := by
  unfold execStagingDone
  repeat' (first | simp only [leaves_rules, queue_rules, kept_rules, State.endLoad_queue] | split)

theorem State.finishImage_queue (s : State) (fn : Nat) (d : Option Bytes) : (s.finishImage fn d).kept.1 = s.kept.1 := by
  unfold State.finishImage
  repeat' (first | simp only [State.admDone_kept, State.hostWrite_kept, State.loadImage_queue, State.afterAll_queue] | split)

theorem execImageLoad_leaves (fn : Nat) (image : Option Bytes) (s : State) : Leaves s (execImageLoad fn image s) := by
  simp only [execImageLoad, leaves_rules, State.admWait_kept, State.finishImage_queue, State.admRun_queue,
      State.orQueue_queue, implies_true]

theorem execFirmwareSwitch_leaves (fn : Nat) (s : State) : Leaves s (execFirmwareSwitch fn s) := by
  simp only [execFirmwareSwitch, leaves_rules, State.admOk_kept, State.perform_queue, State.admRun_queue, implies_true]

theorem execDeviceStoreWrite_leaves (p : HPort) (off : Nat) (data : Bytes) (poisoned : Bool) (s : State) :
    Leaves s (execDeviceStoreWrite p off data poisoned s) := by
  unfold execDeviceStoreWrite
  repeat' (first | simp only [leaves_rules, State.emit_kept, State.storeWrite_queue] | split)

theorem execDeviceStoreAtomic_leaves (p : HPort) (bar off op operand compare : Nat) (s : State) :
    Leaves s (execDeviceStoreAtomic p bar off op operand compare s) := by
  unfold execDeviceStoreAtomic
  repeat' (first | simp only [leaves_rules, State.emit_kept, State.storeWrite_queue] | split)

/-! ## Registers -/

theorem State.andThen_queue (s : State) (f : State → Host.Outcome State Fault Refusal) (leaves : Leaves s (f s)) :
    (s.andThen f).kept.1 = s.kept.1 := by
  obtain ⟨t, ran, queue⟩ := leaves
  rw [State.andThen, ran]
  exact queue

theorem execMailboxBadOp_leaves (fn len seq op : Nat) (s : State) : Leaves s (execMailboxBadOp fn len seq op s) := by
  simp only [execMailboxBadOp, leaves_rules, State.submit_queue, State.modMailbox_kept, implies_true]

theorem State.writeMailbox_queue (s : State) (fn off : Nat) (d : Bytes) : (s.writeMailbox fn off d).kept.1 = s.kept.1 := by
  simp only [State.writeMailbox, queue_rules, kept_rules, State.modMailbox_kept, State.andThen_queue, execMailboxRead_leaves,
    execMailboxWrite_leaves, execMailboxBadOp_leaves]

theorem State.writePort_queue (s : State) (p : HPort) (off : Nat) (d : Bytes) : (s.writePort p off d).kept.1 = s.kept.1 := by
  simp only [State.writePort, queue_rules, kept_rules, State.clearCause_queue, execFreeze_leaves, execThaw_leaves, State.andThen_queue]

theorem State.writeBar0_queue (s : State) (fn off : Nat) (d : Bytes) : (s.writeBar0 fn off d).kept.1 = s.kept.1 := by
  simp only [State.writeBar0, queue_rules, kept_rules, State.writeAdmin_kept, State.writeBoot_kept, State.writeVectors_kept,
    State.writeMailbox_queue, State.writePort_queue]

theorem execRegisterWrite_leaves (fn bar off : Nat) (data : Bytes) (poisoned : Bool) (s : State) :
    Leaves s (execRegisterWrite fn bar off data poisoned s) := by
  unfold execRegisterWrite
  repeat' (first | simp only [leaves_rules, State.doorbell_kept, State.emit_kept, State.writeBar0_queue] | split)

/-! ## Bells -/

theorem State.switchBell_queue (s : State) : s.switchBell.kept.1 = s.kept.1 := by
  unfold State.switchBell
  extract_lets due was s1 changed s2
  have written : s1.kept.1 = s.kept.1 := foldl_queue _ _ (fun (t : State) (x : Staged) => t.setParam_queue x.addr x.value) _
  have settled : s2.kept.1 = s.kept.1 := by
    simp only [s2, State.portsChanged_kept, State.leaveHold_kept, State.retune_kept, written]
  split
  · rfl
  · split
    · rw [State.applyGroups_kept, settled]
    · exact settled

theorem State.timeTask_queue (s : State) : s.timeTask.kept.1 = s.kept.1 := by
  simp only [State.timeTask, State.control_kept, State.servo_queue, foldl_queue, implies_true]

theorem State.powerSample_queue (s : State) (mw : Nat) : (s.powerSample mw).kept.1 = s.kept.1 := by
  simp only [State.powerSample, queue_rules, kept_rules, State.count_kept, State.occur_kept]

theorem State.domainTask_queue (s : State) (domain bell : Nat) (i : BellInputs) : (s.domainTask domain bell i).kept.1 = s.kept.1 := by
  unfold State.domainTask
  split
  · rw [State.scrubStep_kept]
  · rfl
  · rw [State.chainCheck_kept]
  · rw [State.publishBoards_kept]
  · simp only [State.releaseShaped_kept, State.recordSamples_kept, State.leaveHold_kept, State.refill_kept]
  · rw [State.creditSyncs_kept]
  · rw [foldl_kept _ _ (fun t n => State.portBell_kept t n), State.adaptLanes_kept]
  · exact s.timeTask_queue
  · rw [State.porterRefill_kept]
  · exact s.powerSample_queue _
  · rfl

theorem execRwBellApply_leaves (s : State) : Leaves s (execRwBellApply s) := by
  unfold execRwBellApply
  repeat' (first
    | simp only [leaves_rules, queue_rules, kept_rules, State.switchBell_queue, State.nextBoundary_queue, State.endBell_kept]
    | split)

theorem State.resumeDomain_queue (s : State) (domain : Nat) : (s.resumeDomain domain).kept.1 = s.kept.1 := by
  simp only [State.resumeDomain, queue_rules, kept_rules, State.domainTask_queue, foldl_queue, implies_true]

theorem State.domainBell_queue (s : State) (i : BellInputs) (domain : Nat) : (s.domainBell i domain).kept.1 = s.kept.1 := by
  simp only [State.domainBell, queue_rules, kept_rules, State.resumeDomain_queue]

theorem State.senseBell_queue (s : State) (i : BellInputs) : (s.senseBell i).kept.1 = s.kept.1 := rfl

theorem State.eccBell_queue (s : State) (i : BellInputs) : (s.eccBell i).kept.1 = s.kept.1 := by
  simp only [State.eccBell, State.correctedAt_kept, State.eccWindow_kept, State.uncorrectableAt_queue, foldl_queue,
      implies_true]

theorem State.boundary_queue (s : State) (i : BellInputs) : (s.boundary i).kept.1 = s.kept.1 := by
  unfold State.boundary
  simp only [State.settleReset_queue, State.bellRetries_kept]
  refine (foldl_queue _ _ (fun t d => State.domainBell_queue t i _) _).trans ?_
  simp only [State.pathCheck_kept, State.bellAcks_kept, State.eccBell_queue, State.heldFaults_kept, State.senseBell_queue,
      State.dumpDue_kept,
    State.latchSamples_kept, State.tallyLatch_kept, State.cycleCounts_kept]
  split
  · rfl
  · rw [State.switchBell_queue, State.nextBoundary_queue, State.endBell_kept]

theorem execBellBoundary_leaves (i : BellInputs) (s : State) : Leaves s (execBellBoundary i s) := by
  simp only [execBellBoundary, queue_rules, kept_rules, leaves_rules, State.boundary_queue]

theorem State.performQueued_queue (s : State) (q : Queued) : (s.performQueued q).kept.1 = s.kept.1 := by
  unfold State.performQueued
  repeat' (first
    | simp only [State.lapAnswer_kept, State.doWrite_queue, State.doRead_queue, State.putBlock_queue, State.doRequest_queue,
      State.finishImage_queue]
    | split)

theorem execChangeoverResume_leaves (s : State) : Leaves s (execChangeoverResume s) := by
  unfold execChangeoverResume
  repeat' (first
    | simp only [leaves_rules, queue_rules, kept_rules, State.performQueued_queue, State.resumeDomain_queue, foldl_queue, implies_true]
    | split)

/-! ## Every command -/

/-- A command outside the core rows answers a next state on each of its branches. -/
theorem exec_next {c : Instr} (s : State) (core : c.leavesCore = true) : ∃ t, exec c s = .next t := by
  cases c
  case bellOverrun | flrComplete | powerStateWrite | msixUnmask | l1Idle | deviceStoreRead | sqDoorbell | rqDoorbell | srqDoorbell
      | cqDoorbell | cqArm | cqArmSolicited | eqDoorbell | adminSqDoorbell | adminCqDoorbell | eqModerationExpiry | adminEnable
      | adminDisable | stageFirmware | missRingDoorbell | fillRingDoorbell | sendAtTimeRelease | ack | nak | refuse | spillWritesIssued
      | retransmitTimerExpiry | refusalBackoffExpiry | durableConfTimeout | peerGoneExpiry | msnHoldExpiry | heartbeatDue | edgeDead
      | transitPacket | tc3StaleDiscard | routingStall | auctionCall | dataFlit | flitCrcFailure | replayTimeout | symbolLockLost
      | symbolLockRegained | lockLossExpiry | receiverDetect | signonSymbols | commaLock | capabilityFrame | rateSwitch | rateLock
      | eqStep | equaliseComplete | trainingStageTimeout | laneRetrained | laneDegrade | widthRestore | p1Idle | p1Wake | ppsOutPulse
      | ppsOutEnd | porterDoorbell | descriptorWriteBack | lapRate | lapPing | lapRateSwitch | lapRateFallback | busOff | busOffRecovered
      | changeoverStart | changeoverReady | changeoverFallback | tallyDump | pmPmeRepeat | pmeStatusClear =>
    simp only [exec, State.doorbellRow, State.admCfgRow, State.sackRow,
      execBellOverrun, execFlrComplete, execPowerStateWrite, execMsixUnmask, execL1Idle, execDeviceStoreRead, execSqDoorbell,
      execRqDoorbell, execSrqDoorbell, execCqDoorbell, execCqArm, execCqArmSolicited, execEqDoorbell, execAdminSqDoorbell,
      execAdminCqDoorbell, execEqModerationExpiry, execAdminEnable, execAdminDisable, execStageFirmware, execMissRingDoorbell,
      execFillRingDoorbell, execSendAtTimeRelease, execAck, execNak, execRefuse, execSpillWritesIssued, execRetransmitTimerExpiry,
      execRefusalBackoffExpiry, execDurableConfTimeout, execPeerGoneExpiry, execMsnHoldExpiry, execHeartbeatDue, execEdgeDead,
      execTransitPacket, execTc3StaleDiscard, execRoutingStall, execAuctionCall, execDataFlit, execFlitCrcFailure, execReplayTimeout,
      execSymbolLockLost, execSymbolLockRegained, execLockLossExpiry, execReceiverDetect, execSignonSymbols, execCommaLock,
      execCapabilityFrame, execRateSwitch, execRateLock, execEqStep, execEqualiseComplete, execTrainingStageTimeout, execLaneRetrained,
      execLaneDegrade, execWidthRestore, execP1Idle, execP1Wake, execPpsOutPulse, execPpsOutEnd, execPorterDoorbell,
      execDescriptorWriteBack, execLapRate, execLapPing, execLapRateSwitch, execLapRateFallback, execBusOff, execBusOffRecovered,
      execChangeoverStart, execChangeoverReady, execChangeoverFallback, execTallyDump, execPmPmeRepeat, execPmeStatusClear]
    repeat' split
    all_goals exact ⟨_, rfl⟩
  case rwBellApply | throttleChange | perstDeassert | surpriseDown | autoThaw | thawComplete | flr | numvfsWrite | deviceStoreWrite
      | deviceStoreAtomic | registerWrite | completionTimeout | firmwareLoaded | stagingDone | missTimeout | timeSync | upstreamSilent
      | timeLock | timeUnlock | ppsInEdge | referenceLost | lapRead | lapWrite | lapBlock | lapTxAbandon | changeoverResume | pwrfailNFall
      | pwrfailLow | pwrfailNRise | drainDone | drainLimit | autoRestart | dataLinkUp | lapBitError => cases core
  all_goals exact ⟨_, rfl⟩

/-- A command of the core rows answers a next state, in which the same queue waits. -/
theorem exec_leaves_core {c : Instr} (s : State) (core : c.leavesCore = false) : Leaves s (exec c s) := by
  cases c
  case bellBoundary => exact execBellBoundary_leaves ..
  case rwBellApply => exact execRwBellApply_leaves s
  case throttleChange => exact execThrottleChange_leaves s
  case thermalHold => exact execThermalHold_leaves s
  case thermalRelease => exact execThermalRelease_leaves s
  case perstDeassert => exact execPerstDeassert_leaves ..
  case portReset => exact leaves_ok (State.resetPort_queue s ..)
  case surpriseDown => exact execSurpriseDown_leaves ..
  case fatalError => exact leaves_ok (State.freezePort_queue s ..)
  case freeze => exact execFreeze_leaves ..
  case thaw => exact execThaw_leaves ..
  case freezeCauseClear => exact leaves_ok (State.clearCause_queue s ..)
  case freezeRequest | treeWrite | treeDestroy | mcastWrite | portRetrain | refSecondsWrite | directorySelect | mgmtKeyWrite
      | bulkLoadImage | bulkLoadFirmware | bulkStageFirmware | switchBellWrite | requestOpen | deviceReset | beadleSelect | beadleClear
      | tallyDumpEnable | tallyDumpCi => exact leaves_ok (State.viaWrite_queue s ..)
  case autoThaw => exact execAutoThaw_leaves ..
  case thawComplete => exact execThawComplete_leaves ..
  case flr => exact execFlr_leaves ..
  case numvfsWrite => exact execNumvfsWrite_leaves ..
  case deviceStoreWrite => exact execDeviceStoreWrite_leaves ..
  case deviceStoreAtomic => exact execDeviceStoreAtomic_leaves ..
  case registerWrite => exact execRegisterWrite_leaves ..
  case completionTimeout => exact execCompletionTimeout_leaves ..
  case hostReadComplete => exact execHostReadComplete_leaves ..
  case hostReadError | pageListReadComplete | walkReadComplete | walkCasComplete | contextFetchComplete | flushReadComplete
      | targetAtomicComplete => exact leaves_ok (State.readRow_queue s ..)
  case registerRegion => exact execRegisterRegion_leaves ..
  case createAsk => exact execCreateAsk_leaves ..
  case destroyKeyComplete => exact leaves_ok (State.settleKey_queue s ..)
  case invalidate => exact execInvalidate_leaves ..
  case porterBind => exact execPorterBind_leaves ..
  case imageLoad => exact execImageLoad_leaves ..
  case firmwareSwitch => exact execFirmwareSwitch_leaves ..
  case firmwareLoaded => exact execFirmwareLoaded_leaves ..
  case stagingDone => exact execStagingDone_leaves ..
  case missTimeout => exact execMissTimeout_leaves ..
  case fill => exact execFill_leaves ..
  case fault => exact execFault_leaves ..
  case timeSync => exact execTimeSync_leaves ..
  case upstreamSilent => exact execUpstreamSilent_leaves s
  case timeLock => exact execTimeLock_leaves s
  case timeUnlock => exact execTimeUnlock_leaves s
  case ppsInEdge => exact execPpsInEdge_leaves ..
  case referenceLost => exact execReferenceLost_leaves s
  case pieceIssue => exact leaves_ok (State.issuePiece_queue s ..)
  case mailboxRead => exact execMailboxRead_leaves ..
  case mailboxWrite => exact execMailboxWrite_leaves ..
  case lapRead => exact execLapRead_leaves ..
  case lapWrite => exact execLapWrite_leaves ..
  case lapBlock => exact execLapBlock_leaves ..
  case lapTxAbandon => exact execLapTxAbandon_leaves s
  case mgmtReq => exact execMgmtReq_leaves ..
  case changeoverResume => exact execChangeoverResume_leaves s
  case resetRelease => exact execResetRelease_leaves ..
  case orderViolation => exact execOrderViolation_leaves s
  case railOutOfRange | refclkStop => exact leaves_ok (State.goDark_queue s ..)
  case enterOpen => exact execEnterOpen_leaves s
  case pwrfailNFall => exact execPwrfailNFall_leaves s
  case pwrfailLow => exact execPwrfailLow_leaves s
  case pwrfailNRise => exact execPwrfailNRise_leaves s
  case drainDone => exact execDrainDone_leaves s
  case drainLimit => exact execDrainLimit_leaves s
  case autoRestart => exact execAutoRestart_leaves s
  case tallyCountWrite => exact execTallyCountWrite_leaves ..
  case dataLinkUp => exact execDataLinkUp_leaves ..
  case lapBitError => exact execLapBitError_leaves ..
  all_goals cases core

/-- Settles O2: a command of the core rows by its own lemma, any other because it leaves the kept state. -/
theorem everyCommandCompletes : Obligations.EveryCommandCompletes := by
  intro c s
  cases core : c.leavesCore with
  | true =>
    obtain ⟨t, ran⟩ := exec_next s core
    exact ⟨t, ran, (kept_parts (keptO_next_of (exec_kept c s core) ran)).1⟩
  | false => exact exec_leaves_core s core

end Sys2Proof.Machine
end

section
/-!
SUPPORT. Packets of two-sided messages at their receiver (R213 to R215, R252, R261 to R266).
-/
namespace Sys2Proof.Machine

section TwoSided
variable {s u v : State} {p : Packet} {x : Ctx} {key : Nat}

section Types
variable (found : Tab.look s.ctxs key = some x)
include found

theorem State.deliver_send (type : p.ptype = 0x01) : s.deliver key p = s.deliverSend key x p := by
  simp only [State.deliver, found, type]

theorem State.deliver_eager (type : p.ptype = 0x10) : s.deliver key p = s.deliverEager key x p := by
  simp only [State.deliver, found, type]

theorem State.deliver_rts (type : p.ptype = 0x11) : s.deliver key p = s.deliverRts key p := by
  simp only [State.deliver, found, type]

theorem State.deliver_rndv (type : p.ptype = 0x13) : s.deliver key p = s.deliverRndv key x p := by
  simp only [State.deliver, found, type]

end Types

/-! ## SEND (R213 to R215) -/

/-- What the bytes of a SEND do once they are in the receive entry of their message (R214, R215). -/
def State.recvTaken (v : State) (key : Nat) (m : RxMsg) (room : Nat) : State :=
  if m.whole then v.recvWhole key m room else v.putRx key m

theorem State.deliverSend_rq {m : RxMsg} {q : Qp} {n raw k : Nat} {i : BitVec 16} (opens : s.openSend key x p = .inr (m, u))
    (sound : m.failed = none) (dest : m.dest = .rq n i raw) (names : Tab.look u.qps n = some q)
    (lands : u.landLocal key p q.fn q.pd (Ent.lkey raw) (Ent.laddr raw) (Ent.len raw) false = .inr (k, v)) :
    s.deliverSend key x p = (delivered p, v.recvTaken key (m.took p k) (Ent.len raw)) := by
  unfold State.deliverSend
  rw [opens]
  dsimp only
  rw [dest]
  dsimp only
  rw [names]
  dsimp only
  rw [sound, lands]
  rfl

theorem State.deliverSend_srq {m : RxMsg} {srq raw k : Nat} {i : BitVec 16} (opens : s.openSend key x p = .inr (m, u))
    (sound : m.failed = none) (dest : m.dest = .srq srq i raw)
    (lands : u.landLocal key p (srq / 65536) (u.srqPd srq) (Ent.lkey raw) (Ent.laddr raw) (Ent.len raw) false = .inr (k, v)) :
    s.deliverSend key x p = (delivered p, v.recvTaken key (m.took p k) (Ent.len raw)) := by
  unfold State.deliverSend
  rw [opens]
  dsimp only
  rw [dest]
  dsimp only
  rw [sound, lands]
  rfl

theorem State.openSend_empty {q : Qp} {r : Rq} (first : x.rxOf (Packet.msgNum p) = none) (ct : p.st = false)
    (names : Tab.look s.qps p.qpn = some q) (own : q.srq = none) (ring : q.rq = some r) (empty : r.pool = [])
    (before : s.allBefore key x p.psn = true) :
    s.openSend key x p = .inl (.refuse Refuse.notReady s.backoffBells, s) := by
  unfold State.openSend
  rw [first]
  dsimp only
  rw [ct, if_neg Bool.false_ne_true, names]
  dsimp only
  rw [own]
  dsimp only
  rw [before, ring]
  dsimp only
  rw [empty]
  rfl

theorem State.deliverSend_refused {w : Verdict} (refuses : s.openSend key x p = .inl (w, u)) : s.deliverSend key x p = (w, u) := by
  unfold State.deliverSend
  rw [refuses]

/-! ## TSEND_EAGER (R252, R261, R266) -/

theorem State.deliverEager_unmatched (first : x.rxOf (Packet.msgNum p) = none) (shared : Tab.has s.srqs (qkey p.destFn p.destQueue) = true)
    (unmatched : s.firstTagged (qkey p.destFn p.destQueue) key p = none) :
    s.deliverEager key x p = (.refuse Refuse.notReady s.backoffBells, s) := by
  unfold State.deliverEager
  rw [first]
  dsimp only
  rw [unmatched, shared]
  rfl

/-- The first packet of an eager message goes to the posted receive that it has matched. -/
theorem State.deliverEager_matched {q h : Nat} (first : x.rxOf (Packet.msgNum p) = none)
    (shared : Tab.has s.srqs (qkey p.destFn p.destQueue) = true)
    (matched : s.firstTagged (qkey p.destFn p.destQueue) key p = some (.trecv q h, u)) :
    s.deliverEager key x p =
      (u.putRx key (newRx p (.trecv q h) 0)).intoMatched key p (newRx p (.trecv q h) 0) q h false := by
  unfold State.deliverEager
  rw [first]
  dsimp only
  rw [matched, shared]
  rfl

/-- Bytes that end their message land in the matched receive, which is then advanced. -/
theorem State.intoMatched_whole {m : RxMsg} {r : Matched} {srq h k : Nat} {strict : Bool} (matched : s.matchedOf srq h = some r)
    (lands : s.landLocal key p (srq / 65536) (s.srqPd srq) (Ent.lkey r.raw) (Ent.laddr r.raw) (Ent.len r.raw) strict = .inr (k, v))
    (whole : (m.took p k).whole = true) :
    s.intoMatched key p m srq h strict = (delivered p, ((v.modMatched srq h (fun r => { r with
      seen := r.seen + p.payload.length, written := r.written + k, poisoned := r.poisoned || p.poison,
      solicited := r.solicited || p.solicited })).keepRx key (m.took p k)).advanceMatched srq h) := by
  unfold State.intoMatched
  rw [matched]
  dsimp only
  rw [lands]
  dsimp only
  rw [whole]
  rfl

/-! ## Rendezvous (R262, R264) -/

theorem State.deliverRts_stored (shared : Tab.has s.srqs (qkey p.destFn p.destQueue) = true)
    (stores : s.firstTagged (qkey p.destFn p.destQueue) key p = some (.none, u)) : s.deliverRts key p = (.ok, u) := by
  unfold State.deliverRts
  dsimp only
  rw [stores, shared]
  rfl

/-- A rendezvous that has matched and asks for bytes waits for its data. -/
theorem State.deliverRts_matched {q h : Nat} {r : Matched} (shared : Tab.has s.srqs (qkey p.destFn p.destQueue) = true)
    (matches_ : s.firstTagged (qkey p.destFn p.destQueue) key p = some (.trecv q h, u)) (matched : u.matchedOf q h = some r)
    (asks : r.need ≠ 0) : s.deliverRts key p = (.ok, u) := by
  unfold State.deliverRts
  dsimp only
  rw [matches_, shared]
  dsimp only
  rw [matched]
  dsimp only
  rw [if_neg asks]
  rfl

theorem State.deliverRndv_lands {q : Nat} (first : x.rxOf (Packet.msgNum p) = none)
    (lands : s.landingOf p.destFn (Packet.ext p 0x34 0 24) = some q) :
    s.deliverRndv key x p = (s.putRx key (newRx p (.trecv q (Packet.ext p 0x34 0 24)) 0)).intoMatched key p
      (newRx p (.trecv q (Packet.ext p 0x34 0 24)) 0) q (Packet.ext p 0x34 0 24) true := by
  unfold State.deliverRndv
  rw [first]
  dsimp only
  rw [lands]

theorem State.deliverRndv_gone (first : x.rxOf (Packet.msgNum p) = none)
    (gone : s.landingOf p.destFn (Packet.ext p 0x34 0 24) = none) : s.deliverRndv key x p = (.fail Status.endpointGone, s) := by
  unfold State.deliverRndv
  rw [first]
  dsimp only
  rw [gone]

end TwoSided

/-- Settles O37, type by type: a packet that passes every test is delivered, and its delivery is the one of its type. -/
theorem twoSidedArrivals : Obligations.TwoSidedArrivals := by
  intro s p x takes
  have ⟨_, _, _, found, _⟩ := takes
  refine ⟨fun m u n i raw q k v type opens sound dest names lands => ?_,
    fun m u srq i raw k v type opens sound dest lands => ?_,
    fun q r type ct first names own ring empty before => ?_,
    fun h u k r v type first shared matches_ matched lands whole => ?_,
    fun type first shared unmatched => ?_, fun u type shared stores => ?_,
    fun h u r type shared matched asks matches_ => ?_, fun q type first lands => ?_, fun type first gone => ?_⟩
  · exact State.arrivalRow_delivers takes type ((State.deliver_send (s := s.without p) found type).trans
      (State.deliverSend_rq opens sound dest names lands))
  · exact State.arrivalRow_delivers takes type ((State.deliver_send (s := s.without p) found type).trans
      (State.deliverSend_srq opens sound dest lands))
  · exact State.arrivalRow_delivers takes type ((State.deliver_send (s := s.without p) found type).trans
      (State.deliverSend_refused (State.openSend_empty (s := s.without p) first ct names own ring empty before)))
  · exact State.arrivalRow_delivers takes type ((State.deliver_eager (s := s.without p) found type).trans
      ((State.deliverEager_matched (s := s.without p) first shared matches_).trans (State.intoMatched_whole matched lands whole)))
  · exact State.arrivalRow_delivers takes type ((State.deliver_eager (s := s.without p) found type).trans
      (State.deliverEager_unmatched (s := s.without p) first shared unmatched))
  · exact State.arrivalRow_delivers takes type ((State.deliver_rts (s := s.without p) found type).trans
      (State.deliverRts_stored shared stores))
  · exact State.arrivalRow_delivers takes type ((State.deliver_rts (s := s.without p) found type).trans
      (State.deliverRts_matched shared matches_ matched asks))
  · exact State.arrivalRow_delivers takes type ((State.deliver_rndv (s := s.without p) found type).trans
      (State.deliverRndv_lands first lands))
  · exact State.arrivalRow_delivers takes type ((State.deliver_rndv (s := s.without p) found type).trans
      (State.deliverRndv_gone first gone))

end Sys2Proof.Machine
end

section
/-!
SUPPORT. Send-queue entries that start, and the messages that they become (R98, R123, R139, R173, R205, R206, R237, R261, R262).
-/
namespace Sys2Proof.Machine

/-! ## An entry that starts -/

section Start
variable {s u : State} {n op : Nat} {q : Qp} {w : Wqe}

theorem State.startRow_ripe (ripe : s.ripe n .fetched = some (q, w)) (opcode : Ent.opcode w.raw = op) (now : Ent.atTime w.raw = 0) :
    s.startRow n op = s.startOp n q w := by
  unfold State.startRow
  rw [ripe]
  exact (if_pos opcode).trans (if_pos now)

theorem State.startOp_message (opcode : Ent.opcode w.raw = 0x01 ∨ Ent.opcode w.raw = 0x02 ∨ Ent.opcode w.raw = 0x03 ∨
    Ent.opcode w.raw = 0x04 ∨ Ent.opcode w.raw = 0x05 ∨ Ent.opcode w.raw = 0x10) : s.startOp n q w = s.launch n q w := by
  unfold State.startOp
  rcases opcode with h | h | h | h | h | h <;> simp only [h]

/-- A durable entry under the limit of R537 starts as any other. -/
theorem State.startOp_durable (opcode : Ent.opcode w.raw = 0x06) (under : s.durableInit + Ent.len w.raw ≤ s.openParam 0xE02001) :
    s.startOp n q w = s.launch n q w := by
  have fits : ¬ s.openParam 0xE02001 < Ent.len w.raw := Nat.not_lt.mpr (Nat.le_trans (Nat.le_add_left _ _) under)
  unfold State.startOp
  rw [opcode]
  exact (if_neg fits).trans (if_neg (Nat.not_lt.mpr under))

theorem State.launch_declined (bad : s.localOk q w ≠ Status.ok) :
    s.launch n q w = s.finishWqe n w.idx (s.localOk q w) 0 0 [] := if_pos bad

theorem State.launch_ct (good : s.localOk q w = Status.ok) (ct : q.st = false) (resident : s.resident (ctKey n) = true) :
    s.launch n q w = ((s.startWqe n q w).addMsg (ctKey n) (s.entryMsg n q w)).pump (ctKey n) pumpFuel := by
  unfold State.launch Qp.ctxKey
  simp only [good, ct, resident, ne_eq, not_true_eq_false, Bool.false_eq_true, if_false, if_true]

theorem State.launch_st (good : s.localOk q w = Status.ok) (st : q.st = true)
    (got : s.needSt (fnPort q.fn) (Ent.destDev w.raw) q.tc = some u)
    (resident : u.resident (stKey (fnPort q.fn) (Ent.destDev w.raw) q.tc) = true) :
    s.launch n q w = ((u.startWqe n q w).addMsg (stKey (fnPort q.fn) (Ent.destDev w.raw) q.tc) (u.entryMsg n q w)).pump
      (stKey (fnPort q.fn) (Ent.destDev w.raw) q.tc) pumpFuel := by
  unfold State.launch Qp.ctxKey
  simp only [good, st, got, resident, ne_eq, not_true_eq_false, if_false, if_true]

end Start

/-- The command of a message entry and its opcode; a durable entry is under its limit (R537). -/
def State.startsAs (s : State) (n : Nat) (w : Wqe) (c : Instr) : Prop :=
  c = .send n ∧ Ent.opcode w.raw = 0x01 ∨ c = .put n ∧ Ent.opcode w.raw = 0x02 ∨ c = .putFlag n ∧ Ent.opcode w.raw = 0x03 ∨
  c = .get n ∧ Ent.opcode w.raw = 0x04 ∨ c = .atomic n ∧ Ent.opcode w.raw = 0x05 ∨ c = .tsend n ∧ Ent.opcode w.raw = 0x10 ∨
  c = .durablePut n ∧ Ent.opcode w.raw = 0x06 ∧ s.durableInit + Ent.len w.raw ≤ s.openParam 0xE02001

/-- The row of an entry that is next, without AT_TIME, hands it to its context. -/
theorem State.startsAs_launches {s : State} {n : Nat} {q : Qp} {w : Wqe} {c : Instr} (row : s.startsAs n w c)
    (ripe : s.ripe n .fetched = some (q, w)) (now : Ent.atTime w.raw = 0) : exec c s = .next (s.launch n q w) := by
  have plain (op : Nat) (opcode : Ent.opcode w.raw = op)
      (kind : op = 0x01 ∨ op = 0x02 ∨ op = 0x03 ∨ op = 0x04 ∨ op = 0x05 ∨ op = 0x10) : s.startRow n op = s.launch n q w :=
    (State.startRow_ripe ripe opcode now).trans (State.startOp_message (opcode ▸ kind))
  rcases row with ⟨rfl, h⟩ | ⟨rfl, h⟩ | ⟨rfl, h⟩ | ⟨rfl, h⟩ | ⟨rfl, h⟩ | ⟨rfl, h⟩ | ⟨rfl, h, under⟩
  case inr.inr.inr.inr.inr.inr =>
    exact congrArg Host.Outcome.next ((State.startRow_ripe ripe h now).trans (State.startOp_durable h under))
  all_goals exact congrArg Host.Outcome.next (plain _ h (by decide))

/-! ## The message of an entry -/

section Message
variable {s : State} {n : Nat} {q : Qp} {w : Wqe}

/-- Whatever its opcode, an entry's message belongs to the entry and its queue pair, and its header is one of the entry. -/
theorem State.entryMsg_entry : ∃ t e, (s.entryMsg n q w).proto = s.entryProto n q w.raw t e ∧
    (s.entryMsg n q w).owner = some (n, w.idx) ∧ (s.entryMsg n q w).fn = q.fn ∧ (s.entryMsg n q w).pd = some q.pd := by
  unfold State.entryMsg
  dsimp only
  split
  case h_7 => split <;> exact ⟨_, _, rfl, rfl, rfl, rfl⟩
  all_goals exact ⟨_, _, rfl, rfl, rfl, rfl⟩

/-- The message of an entry that carries its buffer and nothing else. -/
theorem State.entryMsg_payload {t : Nat} (kind : t = 0x01 ∨ t = 0x02 ∨ t = 0x06) (opcode : Ent.opcode w.raw = t) :
    ∃ e a, s.entryMsg n q w = s.payloadMsg n q w t e a := by
  unfold State.entryMsg
  rcases kind with rfl | rfl | rfl <;> simp only [opcode] <;> exact ⟨_, _, rfl⟩

theorem State.entryMsg_ptype {t : Nat} (kind : t = 0x01 ∨ t = 0x02 ∨ t = 0x03 ∨ t = 0x04 ∨ t = 0x05 ∨ t = 0x06)
    (opcode : Ent.opcode w.raw = t) : (s.entryMsg n q w).ptype = t := by
  unfold State.entryMsg
  rcases kind with rfl | rfl | rfl | rfl | rfl | rfl <;> simp only [opcode] <;> rfl

/-- A TSEND goes out eagerly, or with a request to send (R260 to R262). -/
theorem State.entryMsg_tagged (opcode : Ent.opcode w.raw = 0x10) :
    (s.entryMsg n q w).ptype = if s.eager w.raw = true then 0x10 else 0x11 := by
  unfold State.entryMsg
  simp only [opcode]
  split <;> rfl

/-- Inline payload stands in the message; other payload is read from the entry's buffer (R208). -/
theorem State.payloadMsg_source {t e a : Nat} :
    (Ent.inline w.raw = 1 → (s.payloadMsg n q w t e a).src = none ∧ (s.payloadMsg n q w t e a).todo = []) ∧
    (Ent.inline w.raw ≠ 1 → (s.payloadMsg n q w t e a).src = some (Ent.lkey w.raw, Ent.laddr w.raw)) :=
  ⟨fun inl => ⟨if_pos inl, if_pos inl⟩, fun out => if_neg out⟩

end Message

/-- Settles O31: the entry by what its start answers, and its message by its opcode. -/
theorem entriesStart : Obligations.EntriesStart := by
  refine ⟨fun s n q w c row ripe now => ⟨fun good ct resident => ?_, fun u good st got resident => ?_, fun bad => ?_⟩,
    fun s n q w => ⟨?_, fun ct => ?_, fun st => ?_, fun t kind opcode => State.entryMsg_ptype kind opcode, State.entryMsg_tagged,
      fun t kind opcode => ?_⟩⟩
  · rw [State.startsAs_launches row ripe now, State.launch_ct good ct resident]
  · rw [State.startsAs_launches row ripe now, State.launch_st good st got resident]
  · rw [State.startsAs_launches row ripe now, State.launch_declined bad]
  · obtain ⟨t, e, header, owner, fn, pd⟩ := State.entryMsg_entry (s := s) (n := n) (q := q) (w := w)
    rw [header]
    exact ⟨owner, fn, pd, rfl, rfl, rfl, rfl, rfl⟩
  · obtain ⟨t, e, header, _⟩ := State.entryMsg_entry (s := s) (n := n) (q := q) (w := w)
    rw [header]
    simp [State.entryProto, Qp.dest, ct]
  · obtain ⟨t, e, header, _⟩ := State.entryMsg_entry (s := s) (n := n) (q := q) (w := w)
    rw [header]
    simp [State.entryProto, Qp.dest, st]
  · obtain ⟨e, a, same⟩ := State.entryMsg_payload (s := s) (n := n) (q := q) kind opcode
    rw [same]
    exact ⟨rfl, State.payloadMsg_source⟩

end Sys2Proof.Machine
end

section
/-!
SUPPORT. Administrative commands that make and unmake queues and queue pairs (R83, R103, R104, R118 to R121, R201).
-/
namespace Sys2Proof.Machine

section QueueCommand
variable {s s' : State} {fn op h : Nat} {c : AdminCmd}

/-- A create command that has its handle puts its object under it, and returns it (R108, R118). -/
theorem State.admCreate_made {put : State → Nat → State} (fresh : s.freshHandle fn 1 = (some h, s')) :
    s.admCreate fn put = (put s' h).admOk fn h := by
  unfold State.admCreate
  rw [fresh]

/-- An object that stands unbound under its handle is destroyed (R119). -/
theorem State.admDestroy_unbound {k : Obj} {bound : State → Nat → Bool} {del : State → Nat → State} (has : s.adminHas fn op c)
    (arg : Cmd.argOk c.raw false = true) (names : s.objNamed fn c.raw = some k) (unbound : bound s (bits c.raw 4 0 16) = false) :
    s.admDestroy fn op k bound del = (del s (bits c.raw 4 0 16)).admOk fn 0 :=
  State.admRun_done has arg (by simp [names, unbound])

theorem createCq_made (fresh : s.freshHandle fn 1 = (some h, s')) (has : s.adminHas fn 0x01 c) (arg : Ent.arg c.raw = 0)
    (ring : Cmd.ringOnly c.raw = true) (ring2 : Cmd.ring2Base c.raw = 0) (vector : Cmd.vector c.raw = 0) (mod : Cmd.mod c.raw = 0)
    (bind2 : Cmd.bind2 c.raw = 0) (event : Cmd.eventEq c.raw = 0) (eq : s.lookupOpt fn (Cmd.bind c.raw) .eq = Res.done)
    (room : s.eqFull fn (Cmd.bind c.raw) = Res.done) : exec (.createCq fn) s = .next (({ s' with
      cqs := Tab.put s'.cqs (qkey fn h) (Cq.fresh (Cmd.ringBase c.raw) (Cmd.log2 c.raw) (handleOpt (Cmd.bind c.raw))) } : State).admOk
      fn h) :=
  congrArg Host.Outcome.next ((State.admRun_done has (by simp [arg, ring, ring2, vector, mod, bind2, event]) (by simp [eq, room])).trans
    (State.admCreate_made fresh))

theorem createEq_made (fresh : s.freshHandle fn 1 = (some h, s')) (has : s.adminHas fn 0x03 c) (arg : Ent.arg c.raw = 0)
    (ring : Cmd.ringOnly c.raw = true) (ring2 : Cmd.ring2Base c.raw = 0) (low : 1 ≤ Cmd.vector c.raw) (high : Cmd.vector c.raw < fnVectors fn)
    (bind : Cmd.bind c.raw = 0) (bind2 : Cmd.bind2 c.raw = 0) (event : Cmd.eventEq c.raw = 0) (mod : s.param 0x303001 ≤ Cmd.mod c.raw) :
    exec (.createEq fn) s = .next (({ s' with
      eqs := Tab.put s'.eqs (qkey fn h) ⟨Cmd.ringBase c.raw, Cmd.log2 c.raw, 0, 0, Cmd.vector c.raw, Cmd.mod c.raw, none, false, []⟩ }
        : State).admOk fn h) :=
  congrArg Host.Outcome.next ((State.admRun_done has (by simp [arg, ring, ring2, low, high, bind, bind2, event])
    (by simp [Nat.not_lt.mpr mod])).trans (State.admCreate_made fresh))

theorem createSrq_made (fresh : s.freshHandle fn 1 = (some h, s')) (has : s.adminHas fn 0x09 c) (arg : bits c.raw 4 16 16 = 0)
    (ring : Cmd.ringOnly c.raw = true) (shadow : Cmd.ring2Base c.raw % 8 = 0) (vector : Cmd.vector c.raw = 0) (mod : Cmd.mod c.raw = 0)
    (cq : s.lookup fn (Cmd.bind2 c.raw) .cq = Res.done) (eq : s.lookupOpt fn (Cmd.eventEq c.raw) .eq = Res.done)
    (pd : bits c.raw 4 0 16 ∈ (s.fn fn).pds) : exec (.createSrq fn) s = .next (({ s' with
      srqs := Tab.put s'.srqs (qkey fn h) ⟨Cmd.ringBase c.raw, Cmd.log2 c.raw, 0, 0, false, false, Cmd.ring2Base c.raw, Cmd.bind2 c.raw,
        bits c.raw 4 0 16, Cmd.bind c.raw, handleOpt (Cmd.eventEq c.raw), false, [], 0, none, false, [], [], [], [], [],
        0, 0, 0⟩ } : State).admOk fn h) :=
  congrArg Host.Outcome.next ((State.admRun_done has (by simp [arg, ring, shadow, vector, mod])
    (by simp [cq, eq, pd])).trans (State.admCreate_made fresh))

theorem bindAdminCq_bound (has : s.adminHas fn 0x05 c) (arg : bits c.raw 4 16 16 = 0)
    (eq : s.lookupOpt fn (bits c.raw 4 0 16) .eq = Res.done) (room : s.eqFull fn (bits c.raw 4 0 16) = Res.done) :
    exec (.bindAdminCq fn) s = .next (({ s with
      cqs := Tab.mod s.cqs (qkey fn 1) (fun q => { q with eq := handleOpt (bits c.raw 4 0 16) }) } : State).admOk fn 0) :=
  congrArg Host.Outcome.next (State.admRun_done has (by simp [arg]) (by simp [eq, room]))

end QueueCommand

section QueuePair
variable {s s' : State} {fn n : Nat} {c : AdminCmd}

/-- A CREATE_QP that is well formed makes its queue pair where a QPN is free, with a context where it is CT (R83, R172, R201). -/
theorem createQp_accepted (has : s.adminHas fn 0x06 c) (formed : Cmd.createQpOk fn c.raw = true)
    (cq : s.lookup fn (Cmd.bind c.raw) .cq = Res.done)
    (receives : s.lookup fn (Cmd.bind2 c.raw) (if Cmd.usesSrq c.raw then .srq else .cq) = Res.done)
    (eq : s.lookupOpt fn (Cmd.eventEq c.raw) .eq = Res.done) (pd : Tb.pd c.raw 0x80 ∈ (s.fn fn).pds)
    (slots : s.slotsFree fn c.raw = Res.done) (fresh : s.freshQpn fn (Tb.transport c.raw 0x80 == 1) = (some n, s')) :
    exec (.createQp fn) s = .next ((if Tb.transport c.raw 0x80 == 1
      then ({ s' with qps := Tab.put s'.qps n (Qp.fresh fn c.raw) } : State)
      else ({ s' with qps := Tab.put s'.qps n (Qp.fresh fn c.raw) } : State).makeCtx (ctKey n)
        (({ s' with qps := Tab.put s'.qps n (Qp.fresh fn c.raw) } : State).freshCtx Kind.ct (fnPort fn)
          (Tb.peerDev c.raw 0x80) (Tb.tc c.raw 0x80))).admDone fn Status.ok 0 n []) := by
  refine congrArg Host.Outcome.next ((State.admRun_done has formed (by simp [cq, receives, eq, pd, slots])).trans ?_)
  have asked : s.freshQpn fn (Qp.fresh fn c.raw).st = (some n, s') := fresh
  dsimp only
  rw [asked]
  rfl

theorem queryQueue_sq {q : Qp} (has : s.adminHas fn 0x0D c) (arg : Cmd.argOk c.raw true = true) (aligned : bits c.raw 0x40 0 6 = 0)
    (tail : bits c.raw 0x48 0 448 = 0) (names : s.objNamed fn c.raw = some (.qp n)) (sq : bits c.raw 4 30 1 = 0)
    (found : Tab.look s.qps n = some q) : exec (.queryQueue fn) s =
      .next ((s.admWrite fn (bits c.raw 0x40 0 64) (leBytes 64 (s.sqRecord n q))).admOk fn 0) := by
  have record : s.queueRecord fn c.raw = .inr (s.sqRecord n q) := by
    simp only [State.queueRecord, names, found, sq, if_true]
  refine congrArg Host.Outcome.next ((State.admRun_done has (by simp [arg, aligned, tail]) (by simp)).trans ?_)
  rw [record]

end QueuePair

/-- Settles O21, command by command. -/
theorem queueObjectCommands : Obligations.QueueObjectCommands := by
  intro s fn c
  refine ⟨fun _ _ => createCq_made, fun has arg names unbound => congrArg Host.Outcome.next (State.admDestroy_unbound has arg names unbound),
    fun _ _ => createEq_made, fun has arg names unbound => congrArg Host.Outcome.next (State.admDestroy_unbound has arg names unbound),
    bindAdminCq_bound, fun n s' has formed cq receives eq pd slots st fresh => ?_,
    fun n s' has formed cq receives eq pd slots ct fresh => ?_, fun _ _ => createSrq_made,
    fun has arg names unbound => congrArg Host.Outcome.next (State.admDestroy_unbound has arg names unbound), fun _ _ => queryQueue_sq⟩
  · rw [createQp_accepted has formed cq receives eq pd slots (by rw [st]; exact fresh), st]
    rfl
  · rw [createQp_accepted has formed cq receives eq pd slots (by rw [ct]; exact fresh), ct]
    rfl

end Sys2Proof.Machine
end

section
/-!
SUPPORT. Administrative commands on one queue pair (R113, R119, R122, R191, R202, R239), and the send queue that a RECALL leaves.
-/
namespace Sys2Proof.Machine

/-! ## The queue pair that a command names (R590) -/

section Named
variable {s : State} {fn n r : Nat} {q : Qp}

theorem State.fnQp_found (found : Tab.look s.qps n = some q) (mine : q.fn = fn) : s.fnQp fn n = some q := by
  unfold State.fnQp
  rw [found]
  exact if_pos mine

theorem Cmd.qpn_field (names : Cmd.qpn r = some n) : bits r 4 0 24 = n := by
  unfold Cmd.qpn at names
  split at names
  · exact Option.some.inj names
  · cases names

theorem State.namedQp_found (names : Cmd.qpn r = some n) (found : Tab.look s.qps n = some q) (mine : q.fn = fn) :
    s.namedQp fn r = Res.done := by
  unfold State.namedQp State.objNamed
  rw [names]
  dsimp only
  rw [State.fnQp_found found mine]
  rfl

end Named

/-! ## MODIFY_QP (R191, R202) -/

/-- A queue pair that goes to READY with what a MODIFY_QP gives it (R202). -/
def Qp.readied (q : Qp) (r : Nat) : Qp :=
  { q.limits r with
    state := .ready, tc := Tb.tc r 0x40, peerDev := Tb.peerDev r 0x40, peerFn := Tb.peerFn r 0x40, peerQpn := Tb.peerQpn r 0x40 }

/-- A queue pair that goes back to IDLE (R202). -/
def Qp.idled (q : Qp) : Qp := { q with state := .idle, cause := 0 }

/-- What MODIFY_QP makes of a queue pair, by its TARGET (R202). -/
def State.modified (s : State) (n r : Nat) (q : Qp) : State :=
  match Tb.target r 0x40 with
  | 0 => s.modQp n (fun q => q.limits r)
  | 1 => (s.modQp n (fun q => q.readied r)).loadCt n (q.readied r) (BitVec.ofNat 32 (Tb.sendPsn r 0x40)) (BitVec.ofNat 32 (Tb.recvPsn r 0x40))
  | 2 => s.qpError n Status.cancelled
  | _ => (s.modQp n Qp.idled).loadCt n q.idled 0 0

/-- The state of a queue pair allows the TARGET of a MODIFY_QP (R202). -/
def Qp.mayBecome (q : Qp) (r : Nat) : Prop :=
  Tb.target r 0x40 = 0 ∧ q.state = .ready ∧ q.sameAs r = true ∨ Tb.target r 0x40 = 1 ∧ q.state = .idle ∨
  Tb.target r 0x40 = 2 ∧ q.state = .ready ∨ Tb.target r 0x40 = 3 ∧ q.state = .flushed

section Command
variable {s : State} {fn n : Nat} {c : AdminCmd} {q : Qp} (found : Tab.look s.qps n = some q) (mine : q.fn = fn)
include found mine

theorem modifyQp_accepted (has : s.adminHas fn 0x07 c) (arg : bits c.raw 4 24 8 = 0) (names : bits c.raw 4 0 24 = n)
    (formed : Tb.ok c.raw 0x40 q.st = true) (may : q.mayBecome c.raw) :
    exec (.modifyQp fn) s = .next (((s.modified n c.raw q).admOk fn 0).advanceQp n) := by
  have named : s.fnQp fn (bits c.raw 4 0 24) = some q := by rw [names]; exact State.fnQp_found found mine
  have changed (f : Qp → Qp) : Tab.look (s.modQp n f).qps n = some (f q) := by rw [State.modQp_qps, found]; rfl
  refine congrArg Host.Outcome.next ((State.admRun_done has (by simp [arg, named, formed]) ?_).trans ?_)
  · rw [named]
    rcases may with ⟨target, state, same⟩ | ⟨target, state⟩ | ⟨target, state⟩ | ⟨target, state⟩ <;> simp [*]
  · unfold State.modified
    rcases may with ⟨target, -⟩ | ⟨target, -⟩ | ⟨target, -⟩ | ⟨target, -⟩ <;> simp only [names, target, changed] <;> rfl

theorem modifyQp_refused (has : s.adminHas fn 0x07 c) (arg : bits c.raw 4 24 8 = 0) (names : bits c.raw 4 0 24 = n)
    (formed : Tb.ok c.raw 0x40 q.st = true) (bad : Tb.target c.raw 0x40 = 1 ∧ q.state ≠ .idle ∨
      Tb.target c.raw 0x40 = 2 ∧ q.state ≠ .ready ∨ Tb.target c.raw 0x40 = 3 ∧ q.state ≠ .flushed) :
    exec (.modifyQp fn) s = .next (s.admAbort fn Res.badState) := by
  have named : s.fnQp fn (bits c.raw 4 0 24) = some q := by rw [names]; exact State.fnQp_found found mine
  refine congrArg Host.Outcome.next (State.admRun_aborts has (by simp [arg, named, formed]) ?_)
  rw [named]
  rcases bad with ⟨target, state⟩ | ⟨target, state⟩ | ⟨target, state⟩ <;> simp only [target] <;>
    cases now : q.state <;> simp [now] at state ⊢

/-! ## DESTROY_QP, RECALL and QUEUE_ABORT (R113, R119, R122) -/

theorem destroyQp_named (has : s.adminHas fn 0x08 c) (arg : Cmd.argOk c.raw false = true) (names : Cmd.qpn c.raw = some n) :
    exec (.destroyQp fn) s =
      .next (if q.state = .ready then (s.admWait fn 0).qpError n Status.flushed else (s.admWait fn 0).advanceQp n) := by
  have kept : Tab.look (s.admWait fn 0).qps n = some q := found
  refine congrArg Host.Outcome.next ((State.admRun_done has arg (by simp [State.namedQp_found names found mine])).trans ?_)
  dsimp only
  rw [Cmd.qpn_field names, kept]

theorem recallQueue_sq (has : s.adminHas fn 0x0B c) (arg : Cmd.argOk c.raw true = true) (names : Cmd.qpn c.raw = some n)
    (sq : bits c.raw 4 30 1 = 0) (state : q.state = .ready ∨ q.state = .idle) :
    exec (.recallQueue fn) s = .next (s.recallSq n q) := by
  have runs : ¬ (q.state = .error ∨ q.state = .flushed) := by rcases state with h | h <;> simp [h]
  refine congrArg Host.Outcome.next ((State.admRun_done has arg ?_).trans ?_)
  · simp [State.namedQp_found names found mine, Cmd.qpn_field names, State.fnQp_found found mine, sq]
  · dsimp only
    rw [Cmd.qpn_field names, found]
    exact (if_neg runs).trans (if_pos sq)

theorem recallQueue_rq {r : Rq} (has : s.adminHas fn 0x0B c) (arg : Cmd.argOk c.raw true = true) (names : Cmd.qpn c.raw = some n)
    (rq : bits c.raw 4 30 1 = 1) (state : q.state = .ready ∨ q.state = .idle) (ring : q.rq = some r) :
    exec (.recallQueue fn) s = .next (s.recallRq n q r) := by
  have runs : ¬ (q.state = .error ∨ q.state = .flushed) := by rcases state with h | h <;> simp [h]
  refine congrArg Host.Outcome.next ((State.admRun_done has arg ?_).trans ?_)
  · simp [State.namedQp_found names found mine, Cmd.qpn_field names, State.fnQp_found found mine, ring]
  · dsimp only
    rw [Cmd.qpn_field names, found]
    refine ((if_neg runs).trans (if_neg (by rw [rq]; decide))).trans ?_
    rw [ring]

theorem queueAbort_named (has : s.adminHas fn 0x0C c) (arg : Cmd.argOk c.raw false = true) (names : Cmd.qpn c.raw = some n) :
    exec (.queueAbort fn) s = .next ((s.admWait fn q.sq.pi).advanceQp n) := by
  refine congrArg Host.Outcome.next ((State.admRun_done has arg (by simp [State.namedQp_found names found mine])).trans ?_)
  dsimp only
  rw [Cmd.qpn_field names, found]

end Command

/-! ## The send queue that a RECALL leaves (R113) -/

/-- An entry that has not started: it has been read, or waits for its time. -/
def Wqe.unstarted (w : Wqe) : Bool := w.stage == .fetched || w.stage == .waitTime

theorem Sq.recall_ents (q : Sq) : q.recall.ents = q.ents.takeWhile (fun w => !w.unstarted) := rfl

theorem Sq.recall_started (q : Sq) {w : Wqe} (kept : w ∈ q.recall.ents) : w.stage = .started ∨ w.stage = .done := by
  have started : (!w.unstarted) = true := List.mem_takeWhile_imp (p := fun w : Wqe => !w.unstarted) kept
  cases stage : w.stage <;> simp [Wqe.unstarted, stage] at started ⊢

/-- What a RECALL keeps is followed by an entry that has not started, or by none. -/
theorem Sq.recall_rest (q : Sq) : ∃ rest, q.ents = q.recall.ents ++ rest ∧
    ∀ w l, rest = w :: l → w.stage = .fetched ∨ w.stage = .waitTime := by
  refine ⟨q.ents.dropWhile (fun w => !w.unstarted), List.takeWhile_append_dropWhile.symm, fun w l rest => ?_⟩
  have waits : w.unstarted = true := by
    have := List.head?_dropWhile_not (fun w : Wqe => !w.unstarted) q.ents
    rw [rest] at this
    simpa using this
  simpa [Wqe.unstarted] using waits

/-- Settles O22, command by command; a RECALL by the entries that it keeps. -/
theorem queuePairCommands : Obligations.QueuePairCommands := by
  refine ⟨fun s fn c n q found mine => ⟨fun has arg names formed => ⟨fun target state same => ?_, fun target state => ?_,
      fun target state => ?_, fun target state => ?_, modifyQp_refused found mine has arg names formed⟩,
    destroyQp_named found mine, recallQueue_sq found mine, fun _ => recallQueue_rq found mine, queueAbort_named found mine⟩,
    fun q => ⟨fun _ => q.recall_started, q.recall_rest, rfl, rfl, rfl, rfl⟩⟩
  · rw [modifyQp_accepted found mine has arg names formed (.inl ⟨target, state, same⟩), State.modified, target]
    rfl
  · rw [modifyQp_accepted found mine has arg names formed (.inr (.inl ⟨target, state⟩)), State.modified, target]
    rfl
  · rw [modifyQp_accepted found mine has arg names formed (.inr (.inr (.inl ⟨target, state⟩))), State.modified, target]
    rfl
  · rw [modifyQp_accepted found mine has arg names formed (.inr (.inr (.inr ⟨target, state⟩))), State.modified, target]
    rfl

end Sys2Proof.Machine
end

section
/-!
SUPPORT. Reservations granted, event queues that are due (R99, R100, R105), and the administrative path switched on and off (R114 to
R116).
-/
namespace Sys2Proof.Machine

/-! ## Grants and moderation (R100, R105) -/

section Service
variable {s : State} {fn h : Nat}

theorem State.grantCq_sq {c : Cq} {n : Nat} {rest : List Waiter} {x : Qp} {w : Wqe} (found : Tab.look s.cqs (qkey fn h) = some c)
    (room : c.room = true) (first : c.waiters = .sq n :: rest) (names : Tab.look s.qps n = some x) (waits : x.sq.firstWaiting = some w) :
    s.grantCq fn h = (({ s with cqs := Tab.put s.cqs (qkey fn h) { c with waiters := rest, reserved := c.reserved + 1 } } : State).modSq n
      (fun y => { (Sq.modEnt y w.idx (fun w => { w with reserved := true })) with waiting := false })).advanceQp n := by
  unfold State.grantCq
  dsimp only
  rw [found]
  dsimp only
  rw [room, first]
  dsimp only
  rw [names]
  dsimp only
  rw [waits]
  rfl

theorem State.grantCq_full {c : Cq} (found : Tab.look s.cqs (qkey fn h) = some c) (full : c.room = false) : s.grantCq fn h = s := by
  unfold State.grantCq
  dsimp only
  rw [found]
  exact if_pos (by simp [full])

/-- An event queue whose moderation count has passed since its last message sends one (R105). -/
theorem State.announce_due {e : EventQ} (found : Tab.look s.eqs (qkey fn h) = some e) (due : ∀ t, e.lastMsg = some t → t + e.mod ≤ s.ticks) :
    s.announce fn h = ({ s with eqs := Tab.put s.eqs (qkey fn h) { e with lastMsg := some s.ticks, owed := false } } : State).msix fn
      e.vector [.eq (qkey fn h)] := by
  unfold State.announce
  rw [found]
  refine if_pos ?_
  cases last : e.lastMsg with
  | none => rfl
  | some t => exact decide_eq_true (due t last)

theorem eqModerationExpiry_due {e : EventQ} (found : Tab.look s.eqs (qkey fn h) = some e) (owed : e.owed = true)
    (free : s.onTime 4 = true) : exec (.eqModerationExpiry fn h) s = .next (s.announce fn h) := by
  show execEqModerationExpiry fn h s = _
  unfold execEqModerationExpiry
  rw [found]
  exact congrArg Host.Outcome.next (if_pos (by rw [owed, free]; rfl))

end Service

/-! ## The administrative path (R114 to R116) -/

section Path
variable {s : State} {fn : Nat} {cfg : BitVec 32}

theorem State.admCfg_sealed (v : Nat) (life : s.life = .sealed) : s.admCfg fn v = s := if_pos life

theorem State.admCfgRow_sealed (on : Bool) (life : s.life = .sealed) : s.admCfgRow fn cfg on = .next s := by
  unfold State.admCfgRow
  rw [State.admCfg_sealed _ life]
  exact ite_self _

theorem State.admCfgRow_writes {on : Bool} (lives : s.fnExists fn = true) (port : (s.port (fnPort fn)).state ≠ .reset)
    (enable : (bits cfg.toNat 0 16 1 == 1) = on) : s.admCfgRow fn cfg on = .next (s.admCfg fn cfg.toNat) :=
  if_pos ⟨lives, port, enable⟩

/-- The sizes of QUE_ADM_CFG are taken (R115). -/
def State.admSized (s : State) (fn v : Nat) : State :=
  s.setFn fn (fun f => { f with admSqLog2 := clampNat 4 12 (bits v 0 0 4), admCqLog2 := clampNat 4 12 (bits v 0 8 4) })

/-- The path runs, with both indices 0 (R116). -/
def State.admSwitched (s : State) (fn : Nat) : State := s.setFn fn (fun f => { f with admOn := true, admPi := 0, admCi := 0 })

theorem State.admCfg_starts {v : Nat} (unsealed : s.life ≠ .sealed) (off : (s.fn fn).admOn = false) (enable : bits v 0 16 1 = 1) :
    s.admCfg fn v = { (s.admSized fn v).admSwitched fn with
      cqs := Tab.put s.cqs (qkey fn 1) (Cq.fresh ((s.fn fn).admCqBase * 4096) (clampNat 4 12 (bits v 0 8 4)) none) } := by
  have sized : ((s.admSized fn v).fn fn).admCqBase = (s.fn fn).admCqBase ∧
      ((s.admSized fn v).fn fn).admCqLog2 = clampNat 4 12 (bits v 0 8 4) := by
    rw [State.admSized, State.setFn_fn]
    exact ⟨rfl, rfl⟩
  obtain ⟨base, size⟩ := sized
  rw [← base, ← size]
  unfold State.admCfg
  simp only [unsealed, off, enable, if_false, Bool.false_eq_true, beq_self_eq_true, if_true]
  rfl

theorem State.admStarted_fn (v : Nat) : ((s.admSized fn v).admSwitched fn).fn fn =
    { s.fn fn with
      admSqLog2 := clampNat 4 12 (bits v 0 0 4), admCqLog2 := clampNat 4 12 (bits v 0 8 4), admOn := true, admPi := 0, admCi := 0 } := by
  rw [State.admSwitched, State.setFn_fn, State.admSized, State.setFn_fn]

/-- The path that runs is stopped: at once where no command is in progress, after that command otherwise (R115). -/
theorem State.admCfg_stops {v : Nat} (unsealed : s.life ≠ .sealed) (on : (s.fn fn).admOn = true) (disable : bits v 0 16 1 = 0) :
    s.admCfg fn v = if (s.fn fn).admCur.isSome then s.setFn fn (fun f => { f with admStop := true }) else s.adminOff fn := by
  have off : ¬ (bits v 0 16 1 == 1) = true := by rw [disable]; decide
  unfold State.admCfg
  dsimp only
  rw [if_neg unsealed, if_pos on, if_neg off]

theorem State.adminOff_fn : (s.adminOff fn).fn fn =
    { s.fn fn with admOn := false, admStop := false, admPi := 0, admCi := 0, admFetching := false, admCur := none } :=
  State.setFn_fn s fn (fun f =>
    { f with admOn := false, admStop := false, admPi := 0, admCi := 0, admFetching := false, admCur := none })

theorem enableBit_off {v : Nat} (disable : bits v 0 16 1 = 0) : (bits v 0 16 1 == 1) = false := by rw [disable]; rfl

end Path

/-- Settles O19: the queues by the rules above, the path by whether it runs and has a command in progress. -/
theorem queueService : Obligations.QueueService := by
  intro s fn
  refine ⟨fun h c n rest x w found room first names waits => congrArg Host.Outcome.next (State.grantCq_sq found room first names waits),
    fun h c found full => congrArg Host.Outcome.next (State.grantCq_full found full), fun h e found owed free due => ?_,
    fun cfg lives port unsealed off enable => ?_, fun cfg life => ⟨State.admCfgRow_sealed true life, State.admCfgRow_sealed false life⟩,
    fun cfg lives port unsealed on disable idle => ?_, fun cfg c lives port unsealed on disable current => ?_⟩
  · rw [eqModerationExpiry_due found owed free, State.announce_due found due]
  · have started := State.admStarted_fn (s := s) (fn := fn) cfg.toNat
    refine ⟨_, (State.admCfgRow_writes lives port (by rw [enable]; rfl)).trans
      (congrArg Host.Outcome.next (State.admCfg_starts unsealed off enable)), ?_⟩
    exact ⟨congrArg Fn.admOn started, congrArg Fn.admPi started, congrArg Fn.admCi started, congrArg Fn.admSqLog2 started,
      congrArg Fn.admCqLog2 started, Tab.look_put_self ..⟩
  · have stops : s.admCfg fn cfg.toNat = s.adminOff fn := by rw [State.admCfg_stops unsealed on disable, idle]; rfl
    have stopped := State.adminOff_fn (s := s) (fn := fn)
    exact ⟨_, (State.admCfgRow_writes lives port (enableBit_off disable)).trans (congrArg Host.Outcome.next stops),
      congrArg Fn.admOn stopped, congrArg Fn.admPi stopped, congrArg Fn.admCi stopped, rfl⟩
  · refine (State.admCfgRow_writes lives port (enableBit_off disable)).trans (congrArg Host.Outcome.next ?_)
    rw [State.admCfg_stops unsealed on disable, current]
    rfl

end Sys2Proof.Machine
end

section
/-!
SUPPORT. The Boot Channel (R126, R127): a command as it is submitted, and how each one finishes or begins its load.
-/
namespace Sys2Proof.Machine

/-! ## A Boot Channel that changes -/

@[simp] theorem State.setBoot_life (s : State) (p : HPort) (f : Boot → Boot) : (s.setBoot p f).life = s.life := by cases p <;> rfl
@[simp] theorem State.setBoot_clerk (s : State) (p : HPort) (f : Boot → Boot) : (s.setBoot p f).clerk = s.clerk := by cases p <;> rfl
@[simp] theorem State.setBoot_fns (s : State) (p : HPort) (f : Boot → Boot) : (s.setBoot p f).fns = s.fns := by cases p <;> rfl
@[simp] theorem State.setBoot_pathA (s : State) (p : HPort) (f : Boot → Boot) : (s.setBoot p f).pathA = s.pathA := by cases p <;> rfl
@[simp] theorem State.setBoot_pathB (s : State) (p : HPort) (f : Boot → Boot) : (s.setBoot p f).pathB = s.pathB := by cases p <;> rfl
@[simp] theorem State.setBoot_beadle (s : State) (p : HPort) (f : Boot → Boot) : (s.setBoot p f).beadle = s.beadle := by cases p <;> rfl
@[simp] theorem State.setBoot_loading (s : State) (p : HPort) (f : Boot → Boot) : (s.setBoot p f).loading = s.loading := by cases p <;> rfl
@[simp] theorem State.setBoot_awake (s : State) (p : HPort) (f : Boot → Boot) (fn : Nat) : (s.setBoot p f).awake fn = s.awake fn := by
  cases p <;> rfl

/-- A command as it is submitted (R127). -/
def Boot.submitted (b : Boot) (seq cmd : Nat) : Boot := { b with seq := seq, cmd := cmd }

@[simp] theorem Boot.submitted_lenOk (b : Boot) (seq cmd : Nat) : (b.submitted seq cmd).lenOk = b.lenOk := rfl

/-- The state once a command has been submitted. -/
def State.submitted (s : State) (p : HPort) (seq cmd : Nat) : State := s.setBoot p (fun b => b.submitted seq cmd)

/-- The state once a command of the Boot Channel has been submitted and has finished (R127). -/
def State.bootFinished (s : State) (p : HPort) (seq result cmd : Nat) : State :=
  (s.submitted p seq cmd).setBoot p (fun b => b.finish seq result cmd)

section Finished
variable {s : State} {p : HPort} {seq result cmd : Nat}

theorem State.bootFinished_boot : (s.bootFinished p seq result cmd).boot p =
    { s.boot p with seq := seq, cmd := cmd, doneSeq := seq, result := result, doneCmd := cmd } := by
  rw [State.bootFinished, State.submitted, State.setBoot_boot, State.setBoot_boot]
  rfl

/-- A command that finishes changes its Boot Channel and nothing else. -/
theorem State.bootFinished_rest : (s.bootFinished p seq result cmd).life = s.life ∧ (s.bootFinished p seq result cmd).clerk = s.clerk ∧
    (s.bootFinished p seq result cmd).fns = s.fns ∧ (s.bootFinished p seq result cmd).pathA = s.pathA ∧
    (s.bootFinished p seq result cmd).pathB = s.pathB := by
  simp [State.bootFinished, State.submitted]

end Finished

/-! ## Submission (R127) -/

section Submit
variable {s : State} {p : HPort} {seq cmd : Nat} (reached : s.reachableFn (portPf p) = true)
include reached

theorem State.bootSubmit_idle {go : State → State} (idle : (s.boot p).running = none) :
    s.bootSubmit p seq cmd go = go (s.submitted p seq cmd) := by
  have unset : ((s.submitted p seq cmd).boot p).running.isSome = false := by
    rw [State.submitted, State.setBoot_boot]
    exact congrArg Option.isSome idle
  refine (if_neg (by simp [reached])).trans (if_neg ?_)
  exact Bool.eq_false_iff.mp unset

theorem State.bootSubmit_busy {go : State → State} (busy : (s.boot p).running ≠ none) :
    s.bootSubmit p seq cmd go = s.bootFinished p seq 4 cmd := by
  have set : ((s.submitted p seq cmd).boot p).running.isSome = true := by
    rw [State.submitted, State.setBoot_boot]
    exact Option.isSome_iff_ne_none.mpr busy
  exact (if_neg (by simp [reached])).trans (if_pos set)

/-- While a command runs, every other one finishes with result 4. -/
theorem bootCommand_busy {c : Instr} (busy : (s.boot p).running ≠ none)
    (command : c = .loadFirmware p seq ∧ cmd = 1 ∨ c = .stageFirmware p seq ∧ cmd = 2 ∨ c = .readLog p seq ∧ cmd = 3 ∨
      c = .ping p seq ∧ cmd = 4 ∨ c = .bootUnknownCommand p seq cmd) : exec c s = .next (s.bootFinished p seq 4 cmd) := by
  have finishes {n : Nat} {go : State → State} : ok (s.bootSubmit p seq n go) = .next (s.bootFinished p seq 4 n) :=
    congrArg Host.Outcome.next (State.bootSubmit_busy reached busy)
  rcases command with ⟨rfl, rfl⟩ | ⟨rfl, rfl⟩ | ⟨rfl, rfl⟩ | ⟨rfl, rfl⟩ | rfl
  · exact finishes
  · show execStageFirmware p seq s = _
    unfold execStageFirmware
    split <;> exact finishes
  · exact finishes
  · exact finishes
  · exact finishes

end Submit

/-! ## Loads (R126) -/

section Load
variable {s : State} {p : HPort} {seq cmd : Nat} (reached : s.reachableFn (portPf p) = true) (idle : (s.boot p).running = none)
include reached idle

/-- The state as a load begins: the command runs, and the Boot Channel is the loader. -/
def State.bootLoads (s : State) (p : HPort) (seq cmd : Nat) : State :=
  { (s.submitted p seq cmd).setBoot p (fun b => { b with running := some (cmd, seq) }) with
    clerk := { s.clerk with loader := some (.boot p) } }

omit reached idle in
theorem State.bootLoads_boot : (s.bootLoads p seq cmd).boot p = { s.boot p with seq := seq, cmd := cmd, running := some (cmd, seq) } := by
  cases p <;> rfl

omit reached idle in
theorem State.bootLoads_life : (s.bootLoads p seq cmd).life = s.life := by cases p <;> rfl

theorem State.bootLoad_begins {begin_ : State → State} (len : (s.boot p).lenOk = true) (free : s.clerk.loader = none)
    (awake : s.awake (portPf p) = true) : s.bootLoad p seq cmd true begin_ = begin_ (s.bootLoads p seq cmd) := by
  have unloaded : s.loading = false := congrArg Option.isSome free
  unfold State.bootLoad
  rw [State.bootSubmit_idle reached idle]
  simp only [State.submitted, State.setBoot_boot, Boot.submitted_lenOk, len, State.setBoot_loading, unloaded, State.setBoot_awake, awake,
    State.setBoot_clerk, Bool.not_true, Bool.false_eq_true, if_false]
  rfl

theorem loadFirmware_begins (life : s.life = .sealed) (len : (s.boot p).lenOk = true) (free : s.clerk.loader = none)
    (awake : s.awake (portPf p) = true) : exec (.loadFirmware p seq) s = .next (s.bootLoads p seq 1) := by
  show ok (s.bootLoad p seq 1 (s.life == .sealed) id) = _
  rw [life]
  exact congrArg Host.Outcome.next (State.bootLoad_begins reached idle len free awake)

theorem loadFirmware_unsealed (life : s.life ≠ .sealed) : exec (.loadFirmware p seq) s = .next (s.bootFinished p seq 5 1) := by
  show ok (s.bootLoad p seq 1 (s.life == .sealed) id) = _
  unfold State.bootLoad
  rw [State.bootSubmit_idle reached idle]
  exact congrArg Host.Outcome.next (if_pos (by simpa using life))

omit reached idle in
/-- Staging may start only while no load runs (R520). -/
theorem State.loader_of_stagingCode (may : s.stagingCode = Lres.ok) : s.clerk.loader = none := by
  unfold State.stagingCode State.loading at may
  split at may
  · cases may
  split at may
  · cases may
  · next quiet => simpa using (not_or.mp (not_or.mp quiet).2).2

theorem stageFirmware_begins (may : s.stagingCode = Lres.ok) (len : (s.boot p).lenOk = true) (awake : s.awake (portPf p) = true) :
    exec (.stageFirmware p seq) s = .next ({ s.bootLoads p seq 2 with
      clerk := { s.clerk with loader := some (.boot p), staged := 1 } } : State) := by
  show execStageFirmware p seq s = _
  unfold execStageFirmware
  rw [may]
  refine (if_neg (by decide)).trans (congrArg Host.Outcome.next ?_)
  exact State.bootLoad_begins reached idle len (State.loader_of_stagingCode may) awake

end Load

/-! ## READ_LOG (R126, R555) -/

/-- The bytes of the fault log that a READ_LOG writes. -/
def State.logBytes (s : State) (len : Nat) : Bytes := (s.beadle.log.flatMap (leBytes 32)).take len

theorem State.logBytes_ne_nil {s : State} {len : Nat} (log : s.beadle.log ≠ []) (some_ : 1 ≤ len) : s.logBytes len ≠ [] := by
  obtain ⟨r, l, h⟩ := List.exists_cons_of_ne_nil log
  unfold State.logBytes
  rw [h, List.flatMap_cons, ← List.length_pos_iff, List.length_take, List.length_append, leBytes_length]
  omega

section ReadLog
variable {s : State} {p : HPort} {seq : Nat} (reached : s.reachableFn (portPf p) = true) (idle : (s.boot p).running = none)
include reached idle

theorem readLog_writes (len : (s.boot p).lenOk = true) (awake : s.awake (portPf p) = true) (log : s.beadle.log ≠ []) :
    exec (.readLog p seq) s = .next (((s.submitted p seq 3).hostWrite (portPf p) 0 0 .clerk (s.boot p).addr
      (s.logBytes (s.boot p).len) false none).setBoot p (fun b => b.finish seq 0 3)) := by
  have low : 1 ≤ (s.boot p).len := (of_decide_eq_true len).1
  have bytes : (s.logBytes (s.boot p).len).isEmpty = false := List.isEmpty_eq_false_iff.mpr (State.logBytes_ne_nil log low)
  refine congrArg Host.Outcome.next ((State.bootSubmit_idle reached idle).trans ?_)
  unfold State.logBytes at bytes
  simp only [State.submitted, State.setBoot_boot, Boot.submitted_lenOk, len, State.setBoot_awake, awake, State.setBoot_beadle,
    Bool.not_true, Bool.false_eq_true, if_false]
  exact congrArg (State.setBoot · p (fun b => b.finish seq 0 3)) (if_neg (Bool.eq_false_iff.mp bytes))

theorem readLog_badLength (len : (s.boot p).lenOk = false) : exec (.readLog p seq) s = .next (s.bootFinished p seq 2 3) := by
  refine congrArg Host.Outcome.next ((State.bootSubmit_idle reached idle).trans (if_pos ?_))
  rw [State.submitted, State.setBoot_boot, Boot.submitted_lenOk, len]
  rfl

end ReadLog

/-- Settles O27, command by command. -/
theorem bootChannelCommands : Obligations.BootChannelCommands := by
  intro s p seq reached
  refine ⟨fun c n command busy => ?_, fun idle => ?_, fun n idle => ?_, fun idle life len free awake => ?_, fun idle life => ?_,
    fun idle may len awake => ?_, fun idle len awake log => readLog_writes reached idle len awake log, fun idle len => ?_⟩
  · obtain ⟨life, clerk, -⟩ := State.bootFinished_rest (s := s) (p := p) (seq := seq) (result := 4) (cmd := n)
    exact ⟨_, bootCommand_busy reached busy command, State.bootFinished_boot, life, clerk⟩
  · obtain ⟨-, clerk, fns, -⟩ := State.bootFinished_rest (s := s) (p := p) (seq := seq) (result := 0) (cmd := 4)
    exact ⟨_, congrArg Host.Outcome.next (State.bootSubmit_idle reached idle), State.bootFinished_boot, clerk, fns⟩
  · obtain ⟨-, clerk, fns, -⟩ := State.bootFinished_rest (s := s) (p := p) (seq := seq) (result := 6) (cmd := n)
    exact ⟨_, congrArg Host.Outcome.next (State.bootSubmit_idle reached idle), State.bootFinished_boot, clerk, fns⟩
  · exact ⟨_, loadFirmware_begins reached idle life len free awake, State.bootLoads_boot, rfl, State.bootLoads_life.trans life⟩
  · obtain ⟨-, clerk, -⟩ := State.bootFinished_rest (s := s) (p := p) (seq := seq) (result := 5) (cmd := 1)
    exact ⟨_, loadFirmware_unsealed reached idle life, State.bootFinished_boot, clerk⟩
  · exact ⟨_, stageFirmware_begins reached idle may len awake, State.bootLoads_boot, rfl, State.bootLoads_life⟩
  · obtain ⟨-, -, -, pathA, pathB⟩ := State.bootFinished_rest (s := s) (p := p) (seq := seq) (result := 2) (cmd := 3)
    exact ⟨_, readLog_badLength reached idle len, State.bootFinished_boot, pathA, pathB⟩

end Sys2Proof.Machine
end

section
/-!
SUPPORT. What leaves the Clerk as it is: every operation that the rest of an in-band request can reach when a bulk action ends (R517,
R520), apart from those that write the Clerk. One rule for each, in the order of the model's definitions.
-/
namespace Sys2Proof.Machine

theorem clerk_of_pair {α : Type} {p : α × State} {a : α} {t : State} (h : p = (a, t)) : t.clerk = p.2.clerk := by
  rw [h]

theorem foldl_clerk {α : Type} (f : State → α → State) (l : List α) (h : ∀ s x, (f s x).clerk = s.clerk) (s : State) :
    (l.foldl f s).clerk = s.clerk := by
  induction l generalizing s with
  | nil => rfl
  | cons a l ih => rw [List.foldl_cons, ih, h]

theorem foldl_fst_clerk {α β : Type} (f : State × β → α → State × β) (l : List α)
    (h : ∀ s x, (f s x).1.clerk = s.1.clerk) (s : State × β) : (l.foldl f s).1.clerk = s.1.clerk := by
  induction l generalizing s with
  | nil => rfl
  | cons a l ih => rw [List.foldl_cons, ih, h]

/-! ## Host ports, reads and writes, events, counters and completions -/

@[simp] theorem State.setPort_clerk (s : State) (p : HPort) (f : HostPort → HostPort) : (s.setPort p f).clerk = s.clerk := by
  unfold State.setPort
  split <;> simp

@[simp] theorem State.tunePort_clerk (s : State) (p : HPort) (f : HostPort → HostPort) : (s.tunePort p f).clerk = s.clerk := by
  simp [State.tunePort]

@[simp] theorem State.setPath_clerk (s : State) (p : HPort) (l : List HostUnit) : (s.setPath p l).clerk = s.clerk := by
  unfold State.setPath
  split <;> simp

@[simp] theorem State.setParam_clerk (s : State) (addr v : Nat) : (s.setParam addr v).clerk = s.clerk := rfl

@[simp] theorem State.draw_clerk (s : State) (bound : Nat) : (s.draw bound).2.clerk = s.clerk := rfl

@[simp] theorem State.request_clerk (s : State) (u : HostUnit) : (s.request u).clerk = s.clerk := by
  unfold State.request
  dsimp only
  repeat' split
  all_goals simp

@[simp] theorem State.hostWrite_clerk (s : State) (fn cls stall : Nat) (src : Source) (addr : Nat) (data : Bytes)
    (poisoned : Bool) (acc : Option (Nat × Nat × Nat)) :
    (s.hostWrite fn cls stall src addr data poisoned acc).clerk = s.clerk := by
  simp [State.hostWrite]

@[simp] theorem State.newRead_clerk (s : State) (fn addr len : Nat) (why : ReadFor) (acc : Option (Nat × Nat × Nat)) :
    (s.newRead fn addr len why acc).clerk = s.clerk := rfl

@[simp] theorem State.hostRead_clerk (s : State) (fn cls stall : Nat) (src : Source) (addr len : Nat) (why : ReadFor)
    (acc : Option (Nat × Nat × Nat)) :
    (s.hostRead fn cls stall src addr len why acc).clerk = s.clerk := by
  unfold State.hostRead
  split <;> simp

@[simp] theorem State.hostFlush_clerk (s : State) (fn cls stall : Nat) (src : Source) (after : List Source) (addr : Nat)
    (why : ReadFor) :
    (s.hostFlush fn cls stall src after addr why).clerk = s.clerk := by
  unfold State.hostFlush
  split <;> simp

@[simp] theorem State.hostAtomic_clerk (s : State) (fn cls stall : Nat) (src : Source) (addr op : Nat) (operands : Bytes)
    (why : ReadFor) (acc : Option (Nat × Nat × Nat)) :
    (s.hostAtomic fn cls stall src addr op operands why acc).clerk = s.clerk := by
  unfold State.hostAtomic
  split <;> simp

@[simp] theorem State.msix_clerk (s : State) (fn v : Nat) (after : List Source) : (s.msix fn v after).clerk = s.clerk := by
  simp [State.msix, apply_ite State.clerk]

@[simp] theorem State.announce_clerk (s : State) (fn eq : Nat) : (s.announce fn eq).clerk = s.clerk := by
  unfold State.announce
  split <;> simp [apply_ite State.clerk]

@[simp] theorem State.writeEvent_clerk (s : State) (fn eq typ source ts : Nat) (after : List Source) :
    (s.writeEvent fn eq typ source ts after).clerk = s.clerk := by
  unfold State.writeEvent
  split <;> simp

@[simp] theorem State.postEvent_clerk (s : State) (fn eq typ obj source : Nat) (after : List Source) :
    (s.postEvent fn eq typ obj source after).clerk = s.clerk := by
  unfold State.postEvent
  dsimp only
  repeat' split
  all_goals simp

@[simp] theorem State.tallyAdd_clerk (s : State) (n amount : Nat) : (s.tallyAdd n amount).clerk = s.clerk := by
  simp [State.tallyAdd, apply_ite State.clerk]

@[simp] theorem State.count_clerk (s : State) (event inst amount : Nat) : (s.count event inst amount).clerk = s.clerk := by
  simp [State.count, foldl_clerk, apply_ite State.clerk]

@[simp] theorem State.occur_clerk (s : State) (code inst detail : Nat) : (s.occur code inst detail).clerk = s.clerk := rfl

@[simp] theorem State.cqNotify_clerk (s : State) (fn cq : Nat) : (s.cqNotify fn cq).clerk = s.clerk := by
  unfold State.cqNotify
  repeat' split
  all_goals simp

@[simp] theorem State.writeCompletion_clerk (s : State) (fn cq img : Nat) (solicited : Bool) (after : List Source) :
    (s.writeCompletion fn cq img solicited after).clerk = s.clerk := by
  unfold State.writeCompletion
  split <;> simp [apply_ite State.clerk]

theorem State.reserve_clerk {s t : State} {fn cq : Nat} (h : s.reserve fn cq = some t) : t.clerk = s.clerk := by
  unfold State.reserve at h
  split at h
  · cases h
  · split at h
    · cases h; rfl
    · cases h

@[simp] theorem State.unreserve_clerk (s : State) (fn cq : Nat) : (s.unreserve fn cq).clerk = s.clerk := rfl

/-! ## Translation -/

@[simp] theorem State.lookPage_clerk (s : State) (idx : Nat) (k : Key) (page : Nat) (acc : Access) (durable : Bool) :
    (s.lookPage idx k page acc durable).2.clerk = s.clerk := by
  unfold State.lookPage
  repeat' split
  all_goals simp

@[simp] theorem State.reach_clerk (s : State) (idx : Nat) (k : Key) (acc : Access) (durable : Bool) (n va len : Nat) :
    (s.reach idx k acc durable n va len).2.clerk = s.clerk := by
  induction n generalizing s va len with
  | zero => rfl
  | succ n ih =>
    have looked {a : Reach} {t : State} (h : s.lookPage idx k (va / 4096) acc durable = (a, t)) : t.clerk = s.clerk :=
      (clerk_of_pair h).trans (State.lookPage_clerk ..)
    unfold State.reach
    split
    · rfl
    · split
      · next h =>
        dsimp only
        split
        · next rest => exact (clerk_of_pair rest).trans ((ih ..).trans (looked h))
        · exact (ih ..).trans (looked h)
      · next h => exact looked h
      · exact State.lookPage_clerk ..

@[simp] theorem State.reachKey_clerk (s : State) (key va len : Nat) (acc : Access) (durable : Bool) :
    (s.reachKey key va len acc durable).2.clerk = s.clerk := by
  unfold State.reachKey
  split <;> simp

@[simp] theorem State.walkRead_clerk (s : State) (id : Nat) (m : Miss) (fn table level : Nat) :
    (s.walkRead id m fn table level).clerk = s.clerk := by
  simp [State.walkRead]

@[simp] theorem State.writeMiss_clerk (s : State) (fn id : Nat) : (s.writeMiss fn id).clerk = s.clerk := by
  unfold State.writeMiss
  repeat' split
  all_goals simp

@[simp] theorem State.raiseMiss_clerk (s : State) (idx : Nat) (k : Key) (page : Nat) (acc : Access) (w : MissWaiter) :
    (s.raiseMiss idx k page acc w).clerk = s.clerk := by
  unfold State.raiseMiss
  split <;> simp [apply_ite State.clerk]

/-! ## Rings -/

@[simp] theorem State.modSq_clerk (s : State) (qpn : Nat) (f : Sq → Sq) : (s.modSq qpn f).clerk = s.clerk := rfl

@[simp] theorem State.modRq_clerk (s : State) (qpn : Nat) (f : Rq → Rq) : (s.modRq qpn f).clerk = s.clerk := rfl

@[simp] theorem State.fetchEntry_clerk (s : State) (fn base log2 : Nat) (next pi : BitVec 16) (why : ReadFor) :
    (s.fetchEntry fn base log2 next pi why).clerk = s.clerk := by
  simp [State.fetchEntry]

/-! ## The administrative path -/

@[simp] theorem State.fetchAdmin_clerk (s : State) (fn : Nat) : (s.fetchAdmin fn).clerk = s.clerk := by
  unfold State.fetchAdmin
  dsimp only
  repeat' split
  all_goals simp (disch := assumption) [State.reserve_clerk]

@[simp] theorem State.adminOff_clerk (s : State) (fn : Nat) : (s.adminOff fn).clerk = s.clerk := rfl

@[simp] theorem State.admDone_clerk (s : State) (fn status aux qpn : Nat) (after : List Source) :
    (s.admDone fn status aux qpn after).clerk = s.clerk := by
  unfold State.admDone
  split <;> simp [apply_ite State.clerk]

@[simp] theorem State.admOk_clerk (s : State) (fn ret : Nat) : (s.admOk fn ret).clerk = s.clerk := by
  simp [State.admOk]

@[simp] theorem State.admAbort_clerk (s : State) (fn res : Nat) : (s.admAbort fn res).clerk = s.clerk := by
  simp [State.admAbort]

/-! ## Queue pairs -/

@[simp] theorem State.retireHead_clerk (s : State) (qpn : Nat) (q : Qp) (w : Wqe) : (s.retireHead qpn q w).clerk = s.clerk := by
  unfold State.retireHead
  split <;> simp [apply_ite State.clerk]

@[simp] theorem State.retireSq_clerk (s : State) (qpn n : Nat) : (s.retireSq qpn n).clerk = s.clerk := by
  induction n generalizing s with
  | zero => rfl
  | succ n ih =>
    unfold State.retireSq
    repeat' split
    all_goals simp [ih]

@[simp] theorem State.reserveFor_clerk (s : State) (qpn : Nat) (q : Qp) (w : Wqe) : (s.reserveFor qpn q w).clerk = s.clerk := by
  unfold State.reserveFor
  repeat' split
  all_goals simp (disch := assumption) [State.reserve_clerk]

@[simp] theorem State.countAbort_clerk (s : State) (fn : Nat) : (s.countAbort fn).clerk = s.clerk := rfl

@[simp] theorem State.settleSq_clerk (s : State) (qpn n : Nat) : (s.settleSq qpn n).clerk = s.clerk := by
  induction n generalizing s with
  | zero => rfl
  | succ n ih =>
    unfold State.settleSq
    dsimp only
    repeat' split
    all_goals simp [ih]

@[simp] theorem State.fetchSq_clerk (s : State) (qpn : Nat) : (s.fetchSq qpn).clerk = s.clerk := by
  unfold State.fetchSq
  split <;> simp [apply_ite State.clerk]

@[simp] theorem State.retireRq_clerk (s : State) (qpn n : Nat) : (s.retireRq qpn n).clerk = s.clerk := by
  induction n generalizing s with
  | zero => rfl
  | succ n ih =>
    unfold State.retireRq
    dsimp only
    repeat' split
    all_goals simp [ih]

@[simp] theorem State.settleRq_clerk (s : State) (qpn n : Nat) : (s.settleRq qpn n).clerk = s.clerk := by
  induction n generalizing s with
  | zero => rfl
  | succ n ih =>
    unfold State.settleRq
    dsimp only
    repeat' split
    all_goals simp (disch := assumption) [State.reserve_clerk, ih]

@[simp] theorem State.fetchRq_clerk (s : State) (qpn : Nat) : (s.fetchRq qpn).clerk = s.clerk := by
  unfold State.fetchRq
  repeat' split
  all_goals simp [apply_ite State.clerk]

@[simp] theorem State.flushDone_clerk (s : State) (qpn : Nat) : (s.flushDone qpn).clerk = s.clerk := by
  unfold State.flushDone
  split <;> simp [apply_ite State.clerk]

@[simp] theorem State.destroyQp_clerk (s : State) (qpn : Nat) (q : Qp) : (s.destroyQp qpn q).clerk = s.clerk := by
  unfold State.destroyQp
  dsimp only
  repeat' split
  all_goals simp

@[simp] theorem State.queueCommand_clerk (s : State) (qpn : Nat) : (s.queueCommand qpn).clerk = s.clerk := by
  unfold State.queueCommand
  repeat' split
  all_goals simp [apply_ite State.clerk]

@[simp] theorem State.advanceQp_clerk (s : State) (qpn : Nat) : (s.advanceQp qpn).clerk = s.clerk := by
  unfold State.advanceQp
  split <;> simp

@[simp] theorem State.finishWqe_clerk (s : State) (qpn : Nat) (idx : BitVec 16) (status bytes aux : Nat)
    (after : List Source) :
    (s.finishWqe qpn idx status bytes aux after).clerk = s.clerk := by
  simp [State.finishWqe]

@[simp] theorem State.finishRecv_clerk (s : State) (qpn : Nat) (idx : BitVec 16) (status bytes : Nat) (solicited : Bool)
    (after : List Source) :
    (s.finishRecv qpn idx status bytes solicited after).clerk = s.clerk := by
  simp [State.finishRecv]

@[simp] theorem State.finishSrq_clerk (s : State) (key qpn : Nat) (idx : BitVec 16) (raw status bytes : Nat)
    (solicited : Bool) (after : List Source) :
    (s.finishSrq key qpn idx raw status bytes solicited after).clerk = s.clerk := by
  unfold State.finishSrq
  split <;> simp

@[simp] theorem State.failSrqRecvs_clerk (s : State) (l : List RxMsg) (qpn status : Nat) :
    (s.failSrqRecvs l qpn status).clerk = s.clerk := by
  unfold State.failSrqRecvs
  refine foldl_clerk _ _ (fun s m => ?_) s
  split <;> simp

@[simp] theorem State.qpError_clerk (s : State) (qpn cause : Nat) : (s.qpError qpn cause).clerk = s.clerk := by
  unfold State.qpError
  dsimp only
  repeat' split
  all_goals simp

@[simp] theorem State.fetchSrq_clerk (s : State) (key : Nat) : (s.fetchSrq key).clerk = s.clerk := by
  unfold State.fetchSrq
  split <;> simp [apply_ite State.clerk]

/-! ## The Porter -/

@[simp] theorem State.porterEvent_clerk (s : State) (ch : Nat) (c : Channel) (reason : Nat) (idx : BitVec 16) :
    (s.porterEvent ch c reason idx).clerk = s.clerk := by
  unfold State.porterEvent
  split <;> simp

@[simp] theorem State.writeBack_clerk (s : State) (ch : Nat) (idx : BitVec 16) (d status done : Nat) :
    (s.writeBack ch idx d status done).clerk = s.clerk := by
  unfold State.writeBack
  split <;> simp [apply_ite State.clerk]

@[simp] theorem State.chanDone_clerk (s : State) (ch : Nat) : (s.chanDone ch).clerk = s.clerk := by
  unfold State.chanDone
  split <;> simp

@[simp] theorem State.unreadDesc_clerk (s : State) : s.unreadDesc.2.clerk = s.clerk := rfl

@[simp] theorem State.abortDescs_clerk (s : State) (ch n : Nat) (i : BitVec 16) : (s.abortDescs ch n i).clerk = s.clerk := by
  induction n generalizing s i with
  | zero => rfl
  | succ n ih =>
    unfold State.abortDescs
    dsimp only
    repeat' split
    all_goals simp [ih]

@[simp] theorem State.abortChan_clerk (s : State) (ch : Nat) : (s.abortChan ch).clerk = s.clerk := by
  unfold State.abortChan
  dsimp only
  repeat' split
  all_goals simp

@[simp] theorem State.freezeChan_clerk (s : State) (ch : Nat) : (s.freezeChan ch).clerk = s.clerk := by
  unfold State.freezeChan
  dsimp only
  repeat' split
  all_goals simp

/-! ## The way into the fabric -/

@[simp] theorem State.drawBucket_clerk (s : State) (id rate burst : Nat) (charge : Int) :
    (s.drawBucket id rate burst charge).clerk = s.clerk := rfl

@[simp] theorem State.touchEdge_clerk (s : State) (p : Packet) : (s.touchEdge p).clerk = s.clerk := by
  unfold State.touchEdge
  split <;> simp

@[simp] theorem State.enterArcade_clerk (s : State) (p : Packet) : (s.enterArcade p).clerk = s.clerk := by
  simp [State.enterArcade, apply_ite State.clerk]

@[simp] theorem State.startPacket_clerk (s : State) (p : Packet) : (s.startPacket p).clerk = s.clerk := by
  simp [State.startPacket, apply_ite State.clerk]

@[simp] theorem State.sendPacket_clerk (s : State) (p : Packet) : (s.sendPacket p).clerk = s.clerk := by
  unfold State.sendPacket
  split <;> simp

/-! ## Contexts -/

@[simp] theorem State.drawInc_clerk (s : State) (old : BitVec 32) : (s.drawInc old).2.clerk = s.clerk := rfl

@[simp] theorem State.spill_clerk (s : State) (key : Nat) (c : Ctx) : (s.spill key c).clerk = s.clerk := by
  simp [State.spill, foldl_clerk]

@[simp] theorem State.fetchContext_clerk (s : State) (key : Nat) (c : Ctx) : (s.fetchContext key c).clerk = s.clerk := by
  simp [State.fetchContext]

@[simp] theorem State.grantSlots_clerk (s : State) (kind stall : Nat) : (s.grantSlots kind stall).clerk = s.clerk := by
  unfold State.grantSlots
  refine foldl_clerk _ _ (fun s key => ?_) s
  dsimp only
  repeat' split
  all_goals simp

@[simp] theorem State.wakeCtx_clerk (s : State) (key : Nat) : (s.wakeCtx key).clerk = s.clerk := by
  unfold State.wakeCtx
  split <;> simp [apply_ite State.clerk]

@[simp] theorem State.makeCtx_clerk (s : State) (key : Nat) (c : Ctx) : (s.makeCtx key c).clerk = s.clerk := by
  unfold State.makeCtx
  split <;> simp [apply_ite State.clerk]

theorem State.needSt_clerk {s t : State} {p : HPort} {peer tc : Nat} (h : s.needSt p peer tc = some t) :
    t.clerk = s.clerk := by
  unfold State.needSt at h
  dsimp only at h
  split at h
  · cases h; rfl
  · split at h
    · cases h; simp
    · cases h

@[simp] theorem State.toBench_clerk (s : State) (stall : Nat) (p : Packet) (why : BenchWait) :
    (s.toBench stall p why).clerk = s.clerk := by
  unfold State.toBench
  split <;> simp

/-! ## The sender -/

@[simp] theorem State.addMsg_clerk (s : State) (key : Nat) (m : TxMsg) : (s.addMsg key m).clerk = s.clerk := rfl

@[simp] theorem State.modMsg_clerk (s : State) (key id : Nat) (f : TxMsg → TxMsg) : (s.modMsg key id f).clerk = s.clerk := rfl

@[simp] theorem State.dropMsg_clerk (s : State) (key id : Nat) : (s.dropMsg key id).clerk = s.clerk := rfl

@[simp] theorem State.endMsg_clerk (s : State) (key : Nat) (m : TxMsg) (status : Nat) :
    (s.endMsg key m status).clerk = s.clerk := by
  unfold State.endMsg
  repeat' split
  all_goals simp [apply_ite State.clerk]

@[simp] theorem State.localFail_clerk (s : State) (key : Nat) (m : TxMsg) (status : Nat) :
    (s.localFail key m status).clerk = s.clerk := by
  unfold State.localFail
  split <;> simp [apply_ite State.clerk]

@[simp] theorem State.readSpans_clerk (s : State) (fn cls stall : Nat) (src : Source) (key va : Nat) (why : Nat → ReadFor)
    (spans : List (Nat × Nat)) (off : Nat) :
    (s.readSpans fn cls stall src key va why spans off).clerk = s.clerk := by
  induction spans generalizing s va off with
  | nil => rfl
  | cons span spans ih =>
    unfold State.readSpans
    simp [ih]

@[simp] theorem State.readMore_clerk (s : State) (key id n : Nat) : (s.readMore key id n).clerk = s.clerk := by
  induction n generalizing s with
  | zero => rfl
  | succ n ih =>
    unfold State.readMore
    dsimp only
    repeat' split
    all_goals simp (disch := assumption) [clerk_of_pair, ih]

@[simp] theorem State.pumpOne_clerk (s : State) (key : Nat) : (s.pumpOne key).2.clerk = s.clerk := by
  unfold State.pumpOne
  repeat' split
  all_goals simp

@[simp] theorem State.pump_clerk (s : State) (key n : Nat) : (s.pump key n).clerk = s.clerk := by
  induction n generalizing s with
  | zero => rfl
  | succ n ih =>
    have read : (match Tab.look s.ctxs key with
        | some c => c.msgs.foldl (fun (s : State) (m : TxMsg) =>
            if m.todo.isEmpty then s else s.readMore key m.id (m.todo.length + 1)) s
        | none => s).clerk = s.clerk := by
      split
      · exact foldl_clerk _ _ (fun s m => by split <;> simp) s
      · rfl
    unfold State.pump
    dsimp only
    split
    · next h => exact (ih _).trans ((clerk_of_pair h).trans ((State.pumpOne_clerk ..).trans read))
    · next h => exact (clerk_of_pair h).trans ((State.pumpOne_clerk ..).trans read)

@[simp] theorem State.ctFails_clerk (s : State) (qpn status : Nat) : (s.ctFails qpn status).clerk = s.clerk := by
  unfold State.ctFails
  split <;> simp [apply_ite State.clerk]

/-! ## The receiver -/

@[simp] theorem State.answerNoCtx_clerk (s : State) (p : Packet) (kind code backoff : Nat) :
    (s.answerNoCtx p kind code backoff).clerk = s.clerk := by
  unfold State.answerNoCtx
  split <;> simp

@[simp] theorem State.sendSack_clerk (s : State) (key : Nat) (p : Packet) (kind code backoff : Nat) :
    (s.sendSack key p kind code backoff).clerk = s.clerk := by
  unfold State.sendSack
  split <;> simp [apply_ite State.clerk]

@[simp] theorem State.wakeFor_clerk (s : State) (fn : Nat) : (s.wakeFor fn).clerk = s.clerk := by
  simp [State.wakeFor, apply_ite State.clerk]

@[simp] theorem State.meter_clerk (s : State) (base cId pId charge : Nat) (arrival : Colour) :
    (s.meter base cId pId charge arrival).2.2.clerk = s.clerk := by
  unfold State.meter
  dsimp only
  repeat' split
  all_goals simp

@[simp] theorem State.police_clerk (s : State) (p : Packet) : (s.police p).2.2.clerk = s.clerk := by
  unfold State.police
  dsimp only
  repeat' split
  all_goals simp

@[simp] theorem State.markReceived_clerk (s : State) (key : Nat) (p : Packet) (code : Nat) :
    (s.markReceived key p code).clerk = s.clerk := by
  unfold State.markReceived
  split <;> simp [apply_ite State.clerk]

@[simp] theorem State.land_clerk (s : State) (key : Nat) (p : Packet) (code : Nat) (wrote : Bool) :
    (s.land key p code wrote).clerk = s.clerk := by
  simp [State.land, apply_ite State.clerk]

@[simp] theorem State.putRx_clerk (s : State) (key : Nat) (m : RxMsg) : (s.putRx key m).clerk = s.clerk := rfl

@[simp] theorem State.dropRx_clerk (s : State) (key : Nat) (num : BitVec 32) : (s.dropRx key num).clerk = s.clerk := rfl

@[simp] theorem State.writeSpans_clerk (s : State) (key fn cls stall va rkey : Nat) (poison : Bool)
    (spans : List (Nat × Nat)) (data : Bytes) :
    (s.writeSpans key fn cls stall va rkey poison spans data).clerk = s.clerk := by
  induction spans generalizing s va data with
  | nil => rfl
  | cons span spans ih =>
    unfold State.writeSpans
    simp [ih, apply_ite State.clerk]

@[simp] theorem State.missFor_clerk (s : State) (rkey page : Nat) (acc : Access) :
    (s.missFor rkey page acc).2.clerk = s.clerk := by
  unfold State.missFor
  dsimp only
  repeat' split
  all_goals simp

/-! ## Collective trees -/

@[simp] theorem State.dropEdges_clerk (s : State) (tree : Nat) : (s.dropEdges tree).clerk = s.clerk := rfl

@[simp] theorem State.breakTree_clerk (s : State) (tree : Nat) : (s.breakTree tree).clerk = s.clerk := by
  unfold State.breakTree
  split
  · rfl
  · split
    · rfl
    · next t _ _ =>
      have told (s : State) : ((Node.edges t.raw).foldl (fun s dev =>
          match Tab.look t.edges dev with
          | some e => if s.edgeSilent e then s else s.sendPacket (s.treePacket t 0x22 dev 0)
          | none => s) s).clerk = s.clerk := by
        refine foldl_clerk _ _ (fun s dev => ?_) s
        repeat' split
        all_goals simp
      have failed (s : State) : (t.ops.foldl (fun s o => o.members.foldl (fun s m =>
          if m.finished then s else s.finishWqe m.qpn m.idx Status.peerGone m.written 0 [.exchange tree]) s) s).clerk = s.clerk :=
        foldl_clerk _ _ (fun s o => foldl_clerk _ _ (fun s m => by split <;> simp) s) s
      refine (foldl_clerk _ _ (fun s m => ?_) _).trans ?_
      · split <;> simp
      · refine (told _).trans ?_
        split
        · exact (failed _).trans (by simp)
        · simp

@[simp] theorem State.installTree_clerk (s : State) (r : Nat) (owner : Option Nat) :
    (s.installTree r owner).clerk = s.clerk := by
  simp [State.installTree, foldl_clerk]

@[simp] theorem State.removeTree_clerk (s : State) (tree : Nat) : (s.removeTree tree).clerk = s.clerk := by
  simp [State.removeTree]

/-! ## Groups -/

@[simp] theorem State.memberReply_clerk (s : State) (p : Packet) (status : Nat) : (s.memberReply p status).clerk = s.clerk := by
  simp [State.memberReply]

@[simp] theorem State.groupDone_clerk (s : State) (p : Packet) (status : Nat) : (s.groupDone p status).clerk = s.clerk := by
  simp [State.groupDone]

@[simp] theorem State.groupWrite_clerk (s : State) (p : Packet) (fn rkey va : Nat) (spans : List (Nat × Nat)) :
    (s.groupWrite p fn rkey va spans).clerk = s.clerk := by
  unfold State.groupWrite
  repeat' split
  all_goals simp [apply_ite State.clerk]

@[simp] theorem State.groupArrive_clerk (s : State) (p : Packet) : (s.groupArrive p).clerk = s.clerk := by
  unfold State.groupArrive
  dsimp only
  repeat' split
  all_goals simp (disch := assumption) [clerk_of_pair]

/-! ## Matching -/

@[simp] theorem State.payOwed_clerk (s : State) (fn n : Nat) : (s.payOwed fn n).clerk = s.clerk := by
  induction n generalizing s with
  | zero => rfl
  | succ n ih =>
    unfold State.payOwed
    repeat' split
    all_goals simp (disch := assumption) [State.reserve_clerk, ih]

@[simp] theorem State.owe_clerk (s : State) (fn cq img : Nat) : (s.owe fn cq img).clerk = s.clerk := by
  simp [State.owe]

@[simp] theorem State.settleTbufs_clerk (s : State) (key : Nat) : (s.settleTbufs key).clerk = s.clerk := by
  unfold State.settleTbufs
  split <;> simp [foldl_clerk]

@[simp] theorem State.freeBuf_clerk (s : State) (key : Nat) (buf : Option (Nat × Nat)) :
    (s.freeBuf key buf).clerk = s.clerk := by
  unfold State.freeBuf
  split <;> simp

@[simp] theorem State.modMatched_clerk (s : State) (key handle : Nat) (f : Matched → Matched) :
    (s.modMatched key handle f).clerk = s.clerk := rfl

@[simp] theorem State.finishMatched_clerk (s : State) (key : Nat) (m : Matched) (status : Nat) :
    (s.finishMatched key m status).clerk = s.clerk := by
  simp [State.finishMatched]

@[simp] theorem State.writeLocal_clerk (s : State) (fn pd cls stall : Nat) (src : Source) (lkey va : Nat) (data : Bytes)
    (poison : Bool) (waiter : MissWaiter) :
    (s.writeLocal fn pd cls stall src lkey va data poison waiter).2.clerk = s.clerk := by
  unfold State.writeLocal
  dsimp only
  split
  · rfl
  · split
    · rfl
    · split
      · next h => exact (foldl_fst_clerk _ _ (fun s x => by simp) _).trans ((clerk_of_pair h).trans (State.reachKey_clerk ..))
      · split <;> simp (disch := assumption) [clerk_of_pair]
      · simp (disch := assumption) [clerk_of_pair]

@[simp] theorem State.copyPiece_clerk (s : State) (key : Nat) (m : Matched) (buf off : Nat) :
    (s.copyPiece key m buf off).clerk = s.clerk := by
  unfold State.copyPiece
  dsimp only
  repeat' split
  all_goals simp (disch := assumption) [clerk_of_pair]

@[simp] theorem State.finishEnv_clerk (s : State) (key : Nat) (m : Matched) : (s.finishEnv key m).clerk = s.clerk := by
  unfold State.finishEnv
  dsimp only
  repeat' split
  all_goals simp (disch := assumption) [clerk_of_pair]

@[simp] theorem State.advanceMatched_clerk (s : State) (key handle : Nat) : (s.advanceMatched key handle).clerk = s.clerk := by
  unfold State.advanceMatched
  repeat' split
  all_goals simp

@[simp] theorem State.landingHandle_clerk (s : State) : s.landingHandle.2.clerk = s.clerk := rfl

@[simp] theorem State.sendCts_clerk (s : State) (ctx fn dev srcFn : Nat) (num : BitVec 32) (grant handle : Nat) :
    (s.sendCts ctx fn dev srcFn num grant handle).clerk = s.clerk := by
  unfold State.sendCts
  split <;> simp

@[simp] theorem State.take_clerk (s : State) (key : Nat) (p : Posted) (m : Stored) : (s.take key p m).2.clerk = s.clerk := by
  simp [State.take, apply_ite State.clerk]

@[simp] theorem State.release_clerk (s : State) (key dev fn rank context n : Nat) :
    (s.release key dev fn rank context n).clerk = s.clerk := by
  induction n generalizing s with
  | zero => rfl
  | succ n ih =>
    unfold State.release
    dsimp only
    repeat' split
    all_goals simp (disch := assumption) [State.reserve_clerk, ih]

theorem State.keepTagged_clerk {s : State} {key ctx : Nat} {p : Packet} {eligible : Bool} {d : Dest} {t : State}
    (h : s.keepTagged key ctx p eligible = some (d, t)) : t.clerk = s.clerk := by
  unfold State.keepTagged at h
  split at h
  · cases h
  · split at h
    · cases h
    · dsimp only at h
      split at h
      · cases h; simp
      · split at h
        · cases h
        · cases h; simp

@[simp] theorem State.nextInStream_clerk (s : State) (key : Nat) (p : Packet) (d : Nat) :
    (s.nextInStream key p d).clerk = s.clerk := by
  unfold State.nextInStream
  split <;> simp

theorem State.firstTagged_clerk {s : State} {key ctx : Nat} {p : Packet} {d : Dest} {t : State}
    (h : s.firstTagged key ctx p = some (d, t)) : t.clerk = s.clerk := by
  unfold State.firstTagged at h
  split at h
  · cases h
  · dsimp only at h
    split at h
    · split at h
      · cases h
      · next kept =>
        cases h
        simpa using State.keepTagged_clerk kept
    · split at h
      · split at h
        · cases h
        · next held =>
          cases h
          simpa using State.reserve_clerk held
      · split at h
        · cases h
        · next kept =>
          cases h
          simpa using State.keepTagged_clerk kept

@[simp] theorem State.storedWhole_clerk (s : State) (key ctx : Nat) (num : BitVec 32) (poisoned : Bool) :
    (s.storedWhole key ctx num poisoned).clerk = s.clerk := by
  unfold State.storedWhole
  dsimp only
  repeat' split
  all_goals simp

@[simp] theorem State.dropTagged_clerk (s : State) (m : RxMsg) (ctx status : Nat) :
    (s.dropTagged m ctx status).clerk = s.clerk := by
  unfold State.dropTagged
  repeat' split
  all_goals simp

@[simp] theorem State.clearMatching_clerk (s : State) (key : Nat) : (s.clearMatching key).clerk = s.clerk := by
  unfold State.clearMatching
  split <;> simp [foldl_clerk]

/-! ## Deliveries at the target -/

@[simp] theorem State.sendReply_clerk (s : State) (key : Nat) (m : TxMsg) : (s.sendReply key m).clerk = s.clerk := by
  simp [State.sendReply]

@[simp] theorem State.confirm_clerk (s : State) (key : Nat) (p : Packet) (num : BitVec 32) :
    (s.confirm key p num).clerk = s.clerk := by
  simp [State.confirm]

@[simp] theorem State.takeRecv_clerk (s : State) (qpn n : Nat) : (s.takeRecv qpn n).2.clerk = s.clerk := by
  induction n generalizing s with
  | zero => rfl
  | succ n ih =>
    unfold State.takeRecv
    dsimp only
    repeat' split
    all_goals simp (disch := assumption) [State.reserve_clerk, ih]

@[simp] theorem State.takeShared_clerk (s : State) (key qpn n : Nat) : (s.takeShared key qpn n).2.clerk = s.clerk := by
  induction n generalizing s with
  | zero => rfl
  | succ n ih =>
    unfold State.takeShared
    dsimp only
    repeat' split
    all_goals simp (disch := assumption) [State.reserve_clerk, ih]

theorem State.openSend_clerk (s : State) (key : Nat) (c : Ctx) (p : Packet) :
    (Sum.elim Prod.snd Prod.snd (s.openSend key c p)).clerk = s.clerk := by
  unfold State.openSend
  dsimp only
  repeat' split
  all_goals simp (disch := assumption) [clerk_of_pair]

theorem State.openSend_clerk_inl {s : State} {key : Nat} {c : Ctx} {p : Packet} {y : Verdict × State}
    (h : s.openSend key c p = .inl y) : y.2.clerk = s.clerk := by
  have same := State.openSend_clerk s key c p
  rwa [h] at same

theorem State.openSend_clerk_inr {s : State} {key : Nat} {c : Ctx} {p : Packet} {m : RxMsg} {t : State}
    (h : s.openSend key c p = .inr (m, t)) : t.clerk = s.clerk := by
  have same := State.openSend_clerk s key c p
  rwa [h] at same

@[simp] theorem State.rxStops_clerk (s : State) (key : Nat) (m : RxMsg) (status : Nat) :
    (s.rxStops key m status).clerk = s.clerk := by
  unfold State.rxStops
  split <;> simp

@[simp] theorem State.keepRx_clerk (s : State) (key : Nat) (m : RxMsg) : (s.keepRx key m).clerk = s.clerk := by
  unfold State.keepRx
  split <;> simp

@[simp] theorem State.packetFails_clerk (s : State) (key : Nat) (p : Packet) (loc rem : Nat) :
    (s.packetFails key p loc rem).2.clerk = s.clerk := by
  unfold State.packetFails
  dsimp only
  repeat' split
  all_goals simp

@[simp] theorem State.recvWhole_clerk (s : State) (key : Nat) (m : RxMsg) (room : Nat) :
    (s.recvWhole key m room).clerk = s.clerk := by
  simp [State.recvWhole]

theorem State.landLocal_clerk (s : State) (key : Nat) (p : Packet) (fn pd lkey laddr room : Nat) (strict : Bool) :
    (Sum.elim Prod.snd Prod.snd (s.landLocal key p fn pd lkey laddr room strict)).clerk = s.clerk := by
  unfold State.landLocal
  dsimp only
  repeat' split
  all_goals simp (disch := assumption) [clerk_of_pair]

theorem State.landLocal_clerk_inl {s : State} {key : Nat} {p : Packet} {fn pd lkey laddr room : Nat} {strict : Bool}
    {y : Verdict × State}
    (h : s.landLocal key p fn pd lkey laddr room strict = .inl y) : y.2.clerk = s.clerk := by
  have same := State.landLocal_clerk s key p fn pd lkey laddr room strict
  rwa [h] at same

theorem State.landLocal_clerk_inr {s : State} {key : Nat} {p : Packet} {fn pd lkey laddr room : Nat} {strict : Bool}
    {n : Nat} {t : State}
    (h : s.landLocal key p fn pd lkey laddr room strict = .inr (n, t)) : t.clerk = s.clerk := by
  have same := State.landLocal_clerk s key p fn pd lkey laddr room strict
  rwa [h] at same

@[simp] theorem State.deliverSend_clerk (s : State) (key : Nat) (c : Ctx) (p : Packet) :
    (s.deliverSend key c p).2.clerk = s.clerk := by
  unfold State.deliverSend
  dsimp only
  repeat' split
  all_goals simp (disch := assumption) [State.openSend_clerk_inl, State.openSend_clerk_inr, State.landLocal_clerk_inl,
     State.landLocal_clerk_inr]

theorem State.landRemote_clerk (s : State) (key : Nat) (p : Packet) (rkey va : Nat) (op : RemoteOp) (only : Option Nat) :
    (Sum.elim Prod.snd (fun x => x.2.2) (s.landRemote key p rkey va op only)).clerk = s.clerk := by
  unfold State.landRemote
  dsimp only
  repeat' split
  all_goals simp (disch := assumption) [clerk_of_pair]

theorem State.landRemote_clerk_inl {s : State} {key : Nat} {p : Packet} {rkey va : Nat} {op : RemoteOp} {only : Option Nat}
    {y : Verdict × State}
    (h : s.landRemote key p rkey va op only = .inl y) : y.2.clerk = s.clerk := by
  have same := State.landRemote_clerk s key p rkey va op only
  rwa [h] at same

theorem State.landRemote_clerk_inr {s : State} {key : Nat} {p : Packet} {rkey va : Nat} {op : RemoteOp} {only : Option Nat}
    {fn : Nat} {last : Option Nat} {t : State}
    (h : s.landRemote key p rkey va op only = .inr (fn, last, t)) : t.clerk = s.clerk := by
  have same := State.landRemote_clerk s key p rkey va op only
  rwa [h] at same

@[simp] theorem State.deliverPut_clerk (s : State) (key : Nat) (p : Packet) : (s.deliverPut key p).2.clerk = s.clerk := by
  unfold State.deliverPut
  split <;> simp (disch := assumption) [State.landRemote_clerk_inl, State.landRemote_clerk_inr]

theorem State.writeFlag_clerk (s : State) (key : Nat) (p : Packet) (m : RxMsg) :
    (Sum.elim Prod.snd id (s.writeFlag key p m)).clerk = s.clerk := by
  unfold State.writeFlag
  repeat' split
  all_goals simp (disch := assumption) [clerk_of_pair]

theorem State.writeFlag_clerk_inl {s : State} {key : Nat} {p : Packet} {m : RxMsg} {y : Verdict × State}
    (h : s.writeFlag key p m = .inl y) : y.2.clerk = s.clerk := by
  have same := State.writeFlag_clerk s key p m
  rwa [h] at same

theorem State.writeFlag_clerk_inr {s : State} {key : Nat} {p : Packet} {m : RxMsg} {t : State}
    (h : s.writeFlag key p m = .inr t) : t.clerk = s.clerk := by
  have same := State.writeFlag_clerk s key p m
  rwa [h] at same

@[simp] theorem State.deliverFlagged_clerk (s : State) (key : Nat) (c : Ctx) (p : Packet) :
    (s.deliverFlagged key c p).2.clerk = s.clerk := by
  unfold State.deliverFlagged
  dsimp only
  repeat' split
  all_goals simp (disch := assumption) [clerk_of_pair, State.landRemote_clerk_inl, State.landRemote_clerk_inr,
     State.writeFlag_clerk_inl, State.writeFlag_clerk_inr]

@[simp] theorem State.deliverFlag_clerk (s : State) (key : Nat) (c : Ctx) (p : Packet) :
    (s.deliverFlag key c p).2.clerk = s.clerk := by
  unfold State.deliverFlag
  dsimp only
  repeat' split
  all_goals simp (disch := assumption) [clerk_of_pair, State.writeFlag_clerk_inl, State.writeFlag_clerk_inr]

@[simp] theorem State.deliverGet_clerk (s : State) (key : Nat) (p : Packet) : (s.deliverGet key p).2.clerk = s.clerk := by
  unfold State.deliverGet
  dsimp only
  repeat' split
  all_goals simp (disch := assumption) [clerk_of_pair]

@[simp] theorem State.deliverAtomic_clerk (s : State) (key : Nat) (c : Ctx) (p : Packet) :
    (s.deliverAtomic key c p).2.clerk = s.clerk := by
  unfold State.deliverAtomic
  dsimp only
  repeat' split
  all_goals simp (disch := assumption) [clerk_of_pair]

@[simp] theorem State.flushRx_clerk (s : State) (key : Nat) (c : Ctx) (m : RxMsg) (fn : Nat) :
    (s.flushRx key c m fn).clerk = s.clerk := by
  unfold State.flushRx
  dsimp only
  repeat' split
  all_goals simp

@[simp] theorem State.deliverDurable.go_clerk (s : State) (key : Nat) (c : Ctx) (p : Packet) (m : RxMsg) :
    (State.deliverDurable.go s key c p m).2.clerk = s.clerk := by
  unfold State.deliverDurable.go
  split
  · next h =>
    have same := State.landRemote_clerk_inl h
    dsimp only at same ⊢
    split <;> simpa using same
  · simp (disch := assumption) [State.landRemote_clerk_inl]
  · dsimp only
    split <;> simp (disch := assumption) [State.landRemote_clerk_inr, apply_ite Prod.snd, apply_ite State.clerk]

@[simp] theorem State.deliverDurable_clerk (s : State) (key : Nat) (c : Ctx) (p : Packet) :
    (s.deliverDurable key c p).2.clerk = s.clerk := by
  unfold State.deliverDurable
  repeat' split
  all_goals simp

@[simp] theorem State.deliverGetResp_clerk (s : State) (key : Nat) (c : Ctx) (p : Packet) :
    (s.deliverGetResp key c p).2.clerk = s.clerk := by
  unfold State.deliverGetResp
  dsimp only
  repeat' split
  all_goals simp (disch := assumption) [State.landLocal_clerk_inl, State.landLocal_clerk_inr]

@[simp] theorem State.deliverAtomicResp_clerk (s : State) (key : Nat) (c : Ctx) (p : Packet) :
    (s.deliverAtomicResp key c p).2.clerk = s.clerk := by
  unfold State.deliverAtomicResp
  dsimp only
  repeat' split
  all_goals simp (disch := assumption) [State.landLocal_clerk_inl, State.landLocal_clerk_inr]

@[simp] theorem State.deliverConf_clerk (s : State) (key : Nat) (c : Ctx) (p : Packet) :
    (s.deliverConf key c p).2.clerk = s.clerk := by
  unfold State.deliverConf
  repeat' split
  all_goals simp

@[simp] theorem State.deliverCts_clerk (s : State) (key : Nat) (c : Ctx) (p : Packet) :
    (s.deliverCts key c p).2.clerk = s.clerk := by
  unfold State.deliverCts
  dsimp only
  repeat' split
  all_goals simp

@[simp] theorem State.intoMatched_clerk (s : State) (key : Nat) (p : Packet) (m : RxMsg) (srq handle : Nat) (strict : Bool) :
    (s.intoMatched key p m srq handle strict).2.clerk = s.clerk := by
  unfold State.intoMatched
  dsimp only
  repeat' split
  all_goals simp (disch := assumption) [State.landLocal_clerk_inl, State.landLocal_clerk_inr]

@[simp] theorem State.intoStore_clerk (s : State) (key : Nat) (p : Packet) (m : RxMsg) (srq buf off : Nat) :
    (s.intoStore key p m srq buf off).2.clerk = s.clerk := by
  unfold State.intoStore
  extract_lets land done
  have landed (x : (Verdict × State) ⊕ (Nat × State)) (h : land = some x) : (Sum.elim Prod.snd Prod.snd x).clerk = s.clerk := by
    simp only [land] at h
    split at h
    · split at h
      · cases h; exact State.landLocal_clerk ..
      · cases h
    · cases h
  have finished (t : State) (n : Nat) : (done t n).2.clerk = t.clerk := by simp [done, apply_ite State.clerk]
  clear_value land
  split
  · exact landed _ rfl
  · exact (finished _ _).trans (landed _ rfl)
  · split <;> simp [finished]

@[simp] theorem State.deliverEager_clerk (s : State) (key : Nat) (c : Ctx) (p : Packet) :
    (s.deliverEager key c p).2.clerk = s.clerk := by
  unfold State.deliverEager
  extract_lets srq opened
  have hop (m : RxMsg) (t : State) (h : opened = some (m, t)) : t.clerk = s.clerk := by
    simp only [opened] at h
    split at h
    · cases h; rfl
    · split at h
      · next taken =>
        cases h
        simpa using State.firstTagged_clerk taken
      · cases h
  clear_value opened
  split
  · rfl
  · cases opened with
    | none => rfl
    | some y =>
      have same := hop y.1 y.2 rfl
      dsimp only
      split
      · simpa using same
      · split <;> simpa using same

@[simp] theorem State.deliverRts_clerk (s : State) (key : Nat) (p : Packet) : (s.deliverRts key p).2.clerk = s.clerk := by
  unfold State.deliverRts
  dsimp only
  repeat' split
  all_goals simp (disch := assumption) [State.firstTagged_clerk]

@[simp] theorem State.deliverRndv_clerk (s : State) (key : Nat) (c : Ctx) (p : Packet) :
    (s.deliverRndv key c p).2.clerk = s.clerk := by
  unfold State.deliverRndv
  dsimp only
  repeat' split
  all_goals simp

@[simp] theorem State.deliver_clerk (s : State) (key : Nat) (p : Packet) : (s.deliver key p).2.clerk = s.clerk := by
  unfold State.deliver
  repeat' split
  all_goals simp

@[simp] theorem State.admission_clerk (s : State) (key : Nat) (p : Packet) (again : Bool) :
    (s.admission key p again).2.2.clerk = s.clerk := by
  unfold State.admission
  dsimp only
  repeat' split
  all_goals simp

@[simp] theorem State.settleVerdict_clerk (s : State) (key : Nat) (p : Packet) (before : Nat) (v : Verdict) :
    (s.settleVerdict key p before v).clerk = s.clerk := by
  unfold State.settleVerdict
  repeat' split
  all_goals simp

@[simp] theorem State.endLandings_clerk (s : State) (ctx status : Nat) : (s.endLandings ctx status).clerk = s.clerk := by
  simp [State.endLandings, foldl_clerk, apply_ite State.clerk]

@[simp] theorem State.adopt_clerk (s : State) (key : Nat) (c : Ctx) (inc : Nat) : (s.adopt key c inc).clerk = s.clerk := by
  simp [State.adopt, foldl_clerk]

@[simp] theorem State.reconfirm_clerk (s : State) (key : Nat) (c : Ctx) (p : Packet) :
    (s.reconfirm key c p).clerk = s.clerk := by
  unfold State.reconfirm
  split <;> simp [apply_ite State.clerk]

@[simp] theorem State.receiveIn_clerk (s : State) (key : Nat) (p : Packet) (again : Bool) :
    (s.receiveIn key p again).clerk = s.clerk := by
  unfold State.receiveIn
  dsimp only
  repeat' split
  all_goals simp

@[simp] theorem State.receiveAt_clerk (s : State) (key : Nat) (p : Packet) (again : Bool) :
    (s.receiveAt key p again).clerk = s.clerk := by
  unfold State.receiveAt
  split <;> simp [apply_ite State.clerk]

/-- The context that an arrival needs: the one it makes, or none. -/
theorem State.needed_clerk {s t : State} {shared : Bool} {p : HPort} {peer tc : Nat}
    (h : (if shared = true then s.needSt p peer tc else some s) = some t) : t.clerk = s.clerk := by
  split at h
  · exact State.needSt_clerk h
  · cases h; rfl

@[simp] theorem State.receive_clerk (s : State) (p : Packet) (again : Bool) : (s.receive p again).clerk = s.clerk := by
  unfold State.receive
  dsimp only
  repeat' split
  all_goals simp (disch := assumption) [State.needed_clerk]

@[simp] theorem State.confirmDurable_clerk (s : State) (key n : Nat) : (s.confirmDurable key n).clerk = s.clerk := by
  induction n generalizing s with
  | zero => rfl
  | succ n ih =>
    unfold State.confirmDurable
    dsimp only
    repeat' split
    all_goals simp [ih]

@[simp] theorem State.retryOrder_clerk (s : State) (key n : Nat) : (s.retryOrder key n).clerk = s.clerk := by
  induction n generalizing s with
  | zero => rfl
  | succ n ih =>
    unfold State.retryOrder
    repeat' split
    all_goals simp [ih]

@[simp] theorem State.afterReceived_clerk (s : State) (key : Nat) : (s.afterReceived key).clerk = s.clerk := by
  simp [State.afterReceived]

@[simp] theorem State.unbench_clerk (s : State) (why : BenchWait) (again : Bool) : (s.unbench why again).clerk = s.clerk := by
  simp [State.unbench, foldl_clerk]

/-! ## Walks -/

@[simp] theorem State.dropReads_clerk (s : State) (p : HostRead → Bool) : (s.dropReads p).clerk = s.clerk := rfl

@[simp] theorem State.dropMiss_clerk (s : State) (id : Nat) : (s.dropMiss id).clerk = s.clerk := rfl

/-! ## FROZEN ports -/

@[simp] theorem State.rebench_clerk (s : State) (p : Nat × Packet × BenchWait → Bool) : (s.rebench p).clerk = s.clerk := by
  simp [State.rebench, foldl_clerk]

@[simp] theorem State.endMisses_clerk (s : State) (p : Key → Bool) : (s.endMisses p).clerk = s.clerk := by
  unfold State.endMisses
  refine foldl_clerk _ _ (fun s id => ?_) s
  repeat' split
  all_goals simp

@[simp] theorem State.retirePort_clerk (s : State) (p : HPort) : (s.retirePort p).clerk = s.clerk := by
  unfold State.retirePort
  refine foldl_clerk _ _ (fun s key => ?_) s
  split
  · rfl
  · split <;> simp

@[simp] theorem State.clearPath_clerk (s : State) (p : HPort) : (s.clearPath p).clerk = s.clerk := by
  simp [State.clearPath]

@[simp] theorem State.unfetchFn_clerk (s : State) (fn : Nat) : (s.unfetchFn fn).clerk = s.clerk := by
  unfold State.unfetchFn
  split <;> simp

@[simp] theorem State.clearFetches_clerk (s : State) (p : HPort) : (s.clearFetches p).clerk = s.clerk := by
  simp [State.clearFetches, foldl_clerk]

@[simp] theorem State.noteCause_clerk (s : State) (p : HPort) (bit : Nat) : (s.noteCause p bit).clerk = s.clerk := by
  simp [State.noteCause]

@[simp] theorem State.enterFrozen_clerk (s : State) (p : HPort) (bit : Nat) : (s.enterFrozen p bit).clerk = s.clerk := by
  simp [State.enterFrozen]

@[simp] theorem State.loseLists_clerk (s : State) (lost : List Nat) : (s.loseLists lost).clerk = s.clerk := by
  simp [State.loseLists, foldl_clerk]

@[simp] theorem State.containPort_clerk (s : State) (p : HPort) : (s.containPort p).clerk = s.clerk := by
  simp [State.containPort, foldl_clerk, apply_ite State.clerk]

@[simp] theorem State.freezePort_clerk (s : State) (p : HPort) (bit : Nat) : (s.freezePort p bit).clerk = s.clerk := by
  unfold State.freezePort
  split <;> simp

/-! ## The arcade -/

@[simp] theorem State.freeInput_clerk (s : State) (x : InPkt) : (s.freeInput x).clerk = s.clerk := by
  unfold State.freeInput
  dsimp only
  repeat' split
  all_goals simp

@[simp] theorem State.settleInput_clerk (s : State) (x : InPkt) : (s.settleInput x).clerk = s.clerk := by
  unfold State.settleInput
  split <;> simp

@[simp] theorem State.takeBack_clerk (s : State) (q : Nat) : (s.takeBack q).clerk = s.clerk := by
  simp [State.takeBack, foldl_clerk]

@[simp] theorem State.portLost_clerk (s : State) (q : Nat) : (s.portLost q).clerk = s.clerk := by
  simp [State.portLost, foldl_clerk, apply_ite State.clerk]

@[simp] theorem State.mcastPut_clerk (s : State) (v : Nat) : (s.mcastPut v).clerk = s.clerk := rfl

/-! ## Links -/

@[simp] theorem State.health_clerk (s : State) (q sub n : Nat) : (s.health q sub n).clerk = s.clerk := rfl

@[simp] theorem State.cutSending_clerk (s : State) (id : Nat) : (s.cutSending id).clerk = s.clerk := rfl

@[simp] theorem State.cutReceiving_clerk (s : State) (q : Nat) : (s.cutReceiving q).clerk = s.clerk := by
  unfold State.cutReceiving
  dsimp only
  repeat' split
  all_goals simp

@[simp] theorem State.loseSending_clerk (s : State) (q : Nat) : (s.loseSending q).clerk = s.clerk := by
  unfold State.loseSending
  dsimp only
  repeat' split
  all_goals simp

@[simp] theorem State.dropLink_clerk (s : State) (q : Nat) : (s.dropLink q).clerk = s.clerk := by
  unfold State.dropLink
  split <;> simp

/-! ## Lanes -/

@[simp] theorem State.modLanes_clerk (s : State) (q mask : Nat) (f : Lane → Lane) : (s.modLanes q mask f).clerk = s.clerk := by
  simp [State.modLanes, foldl_clerk, apply_ite State.clerk]

@[simp] theorem State.emitLanes_clerk (s : State) (q mask stage content : Nat) :
    (s.emitLanes q mask stage content).clerk = s.clerk := by
  simp [State.emitLanes, foldl_clerk, apply_ite State.clerk]

@[simp] theorem State.toStage_clerk (s : State) (q : Nat) (t : Train) : (s.toStage q t).clerk = s.clerk := rfl

@[simp] theorem State.restartPort_clerk (s : State) (q : Nat) (t : Train) : (s.restartPort q t).clerk = s.clerk := by
  simp [State.restartPort]

@[simp] theorem State.toDetect_clerk (s : State) (q : Nat) : (s.toDetect q).clerk = s.clerk := by
  unfold State.toDetect
  split <;> simp

@[simp] theorem State.toSignon_clerk (s : State) (q : Nat) : (s.toSignon q).clerk = s.clerk := by
  simp [State.toSignon]

@[simp] theorem State.linkFails_clerk (s : State) (q : Nat) : (s.linkFails q).clerk = s.clerk := by
  unfold State.linkFails
  split <;> simp

@[simp] theorem State.portOff_clerk (s : State) (q : Nat) : (s.portOff q).clerk = s.clerk := by
  unfold State.portOff
  split <;> simp

@[simp] theorem State.applyGroups_clerk (s : State) : s.applyGroups.clerk = s.clerk := by
  simp [State.applyGroups, foldl_clerk, apply_ite State.clerk]

@[simp] theorem State.retrain_clerk (s : State) (q : Nat) : (s.retrain q).clerk = s.clerk := by
  unfold State.retrain
  split <;> simp

/-! ## The lifecycle -/

@[simp] theorem State.lapQueue_clerk (s : State) (frames : List LapFrame) : (s.lapQueue frames).clerk = s.clerk := by
  unfold State.lapQueue
  split <;> simp

@[simp] theorem State.notice_clerk (s : State) : s.notice.clerk = s.clerk := by
  simp [State.notice]

@[simp] theorem State.enterLife_clerk (s : State) (l : Life) : (s.enterLife l).clerk = s.clerk := by
  simp [State.enterLife]

@[simp] theorem State.askOpen_clerk (s : State) : s.askOpen.clerk = s.clerk := by
  unfold State.askOpen
  split <;> simp

@[simp] theorem State.clearSources_clerk (s : State) (v : Nat) : (s.clearSources v).clerk = s.clerk := by
  unfold State.clearSources
  split <;> simp

/-! ## The Tally -/

@[simp] theorem State.setDumpEnable_clerk (s : State) (v : Nat) : (s.setDumpEnable v).clerk = s.clerk := by
  unfold State.setDumpEnable
  split <;> simp [apply_ite State.clerk]

/-! ## The Ledger -/

@[simp] theorem State.draws_clerk (s : State) (bound n : Nat) : (s.draws bound n).2.clerk = s.clerk := by
  induction n generalizing s with
  | zero => rfl
  | succ n ih =>
    unfold State.draws
    dsimp only
    rw [ih, State.draw_clerk]

@[simp] theorem State.sense_clerk (s : State) (addr : Nat) : (s.sense addr).clerk = s.clerk := by
  unfold State.sense
  split <;> simp [apply_ite State.clerk]

@[simp] theorem State.stage_clerk (s : State) (b : Nat) (l : List (Nat × Nat)) : (s.stage b l).clerk = s.clerk := rfl

@[simp] theorem State.stageQuiet_clerk (s : State) (addr v : Nat) : (s.stageQuiet addr v).clerk = s.clerk := rfl

/-! ## Mailboxes -/

@[simp] theorem State.modMailbox_clerk (s : State) (fn : Nat) (f : Mailbox → Mailbox) :
    (s.modMailbox fn f).clerk = s.clerk := rfl

/-! ## Firmware -/

@[simp] theorem State.fetchAdmins_clerk (s : State) : s.fetchAdmins.clerk = s.clerk := by
  simp [State.fetchAdmins, foldl_clerk]

end Sys2Proof.Machine
end

section
/-!
SUPPORT. The end of a firmware load, and the changeover (R126, R128, R521 to R523, R526, R545).
-/
namespace Sys2Proof.Machine

/-! What the ends of loads keep: the device's state of life, and the version of the image that runs. -/

/-- The state of life with the version of the running image: what a firmware load sets, and the rest of its end keeps. -/
def State.running (s : State) : Life × Nat := (s.life, s.clerk.version)

theorem State.running_of {s t : State} (kept : t.kept = s.kept) (clerk : t.clerk = s.clerk) : t.running = s.running := by
  have life : t.life = s.life := congrArg (fun k : Unmoved => k.2.2.2.1) kept
  rw [State.running, State.running, life, clerk]

section Kept
variable (s : State)

@[simp] theorem State.setPort_running (p : HPort) (f : HostPort → HostPort) : (s.setPort p f).running = s.running := by
  cases p <;> rfl

@[simp] theorem State.setParam_running (addr v : Nat) : (s.setParam addr v).running = s.running := rfl

@[simp] theorem State.setBoot_running (p : HPort) (f : Boot → Boot) : (s.setBoot p f).running = s.running := by
  cases p <;> rfl

@[simp] theorem State.noteCause_running (p : HPort) (bit : Nat) : (s.noteCause p bit).running = s.running :=
  s.setPort_running ..

@[simp] theorem State.enterFrozen_running (p : HPort) (bit : Nat) : (s.enterFrozen p bit).running = s.running := by
  unfold State.enterFrozen
  rw [State.running_of (State.clearFetches_kept ..) (State.clearFetches_clerk ..),
    State.running_of (State.clearPath_kept ..) (State.clearPath_clerk ..), State.setPort_running, State.noteCause_running]

theorem State.freezePort_running (p : HPort) (bit : Nat) : (s.freezePort p bit).running = s.running := by
  unfold State.freezePort
  split
  · rfl
  · exact s.noteCause_running ..
  · exact s.enterFrozen_running ..
  · dsimp only
    rw [State.running_of (State.loseLists_kept ..) (State.loseLists_clerk ..),
      State.running_of (State.containPort_kept ..) (State.containPort_clerk ..), State.enterFrozen_running]
    rfl

theorem State.askOpen_running : s.askOpen.running = s.running := by
  unfold State.askOpen
  split <;> rfl

theorem State.setDumpEnable_running (v : Nat) : (s.setDumpEnable v).running = s.running := by
  unfold State.setDumpEnable
  dsimp only
  repeat' split
  all_goals rfl

/-- What a write does at once (R495). -/
@[simp] theorem State.perform_running (addr v : Nat) : (s.perform addr v).running = s.running := by
  unfold State.perform
  split
  · rfl
  · exact s.freezePort_running ..
  · exact s.freezePort_running ..
  · exact State.running_of (State.installTree_kept ..) (State.installTree_clerk ..)
  · exact State.running_of (State.removeTree_kept ..) (State.removeTree_clerk ..)
  · rfl
  · rfl
  · exact s.askOpen_running
  · exact State.running_of (State.clearSources_kept ..) (State.clearSources_clerk ..)
  · exact s.setDumpEnable_running v
  · rfl
  · split
    · exact State.running_of (State.retrain_kept ..) (State.retrain_clerk ..)
    · split <;> rfl

theorem State.ledgerWrite_running (pf : Bool) (addr : Nat) (data : Bytes) :
    (s.ledgerWrite pf addr data).2.2.running = s.running := by
  unfold State.ledgerWrite
  dsimp only
  split
  · rfl
  · rfl
  · repeat' split
    · rfl
    · rfl
    · rfl
    · exact s.perform_running ..

theorem State.ledgerRead_running (addr : Nat) : (s.ledgerRead addr).2.2.running = s.running := by
  have sensed : (s.sense addr).running = s.running := by
    obtain ⟨-, -, -, life⟩ := s.sense_leaves addr
    rw [State.running, life, State.sense_clerk]
    rfl
  unfold State.ledgerRead
  dsimp only
  split
  · split
    · rfl
    · exact sensed
  · rfl

theorem ImageTrial.record_running (t : ImageTrial) (r : ImageRecord) : (t.record r).st.running = t.st.running := by
  unfold ImageTrial.record
  dsimp only
  repeat' split
  any_goals rfl
  exact t.st.perform_running ..

theorem imageTrials_running (l : List ImageRecord) (t : ImageTrial) : (l.foldl ImageTrial.record t).st.running = t.st.running := by
  induction l generalizing t with
  | nil => rfl
  | cons r l ih => rw [List.foldl_cons, ih, ImageTrial.record_running]

theorem State.loadImage_running (d : Bytes) : (s.loadImage d).2.running = s.running := by
  unfold State.loadImage
  split
  · rfl
  · split
    · rfl
    · next l _ =>
      have tried := imageTrials_running l ⟨s, [], [], none⟩
      dsimp only
      repeat' split
      · rfl
      · rfl
      · exact tried
      · exact tried

theorem State.putBlock_running (off : Nat) (data : Bytes) : (s.putBlock off data).2.running = s.running := by
  unfold State.putBlock
  dsimp only
  split <;> rfl

/-- A reset that waits for a response is only noted. -/
theorem State.afterAll_running (w : ResetWait) (l : List (Nat × Nat)) : (s.afterAll (some w) l).running = s.running := by
  unfold State.afterAll
  induction l generalizing s with
  | nil => rfl
  | cons e l ih =>
    have once : (s.afterWrite (some w) e.1 e.2).running = s.running := by
      unfold State.afterWrite
      dsimp only
      repeat' split
      all_goals rfl
    rw [List.foldl_cons, ih, once]

theorem State.mgmtAnswer_running (p : Packet) : (s.mgmtAnswer p).running = s.running :=
  calc (s.mgmtAnswer p).running = (s.sendPacket p).running := rfl
    _ = s.running := State.running_of (State.sendPacket_kept ..) (State.sendPacket_clerk ..)

theorem State.lapAnswer_running (src tid : Nat) (frames : List LapFrame) : (s.lapAnswer src tid frames).running = s.running :=
  calc (s.lapAnswer src tid frames).running = (s.lapQueue frames).running := rfl
    _ = s.running := State.running_of (State.lapQueue_kept ..) (State.lapQueue_clerk ..)

theorem State.answer_running (via : Via) (write : Bool) (addr code bell : Nat) (value : Bytes) :
    (s.answer via write addr code bell value).running = s.running := by
  unfold State.answer
  split
  · split <;> rfl
  · exact s.lapAnswer_running ..
  · exact s.mgmtAnswer_running ..

end Kept

theorem MgmtRun.add_running (r : MgmtRun) (s : State) (m : MgmtRec) (code bell : Nat) (value : Bytes) (after : List (Nat × Nat))
    (same : s.running = r.st.running) : (r.add s m code bell value after).st.running = r.st.running := by
  unfold MgmtRun.add
  dsimp only
  split
  · rfl
  · exact same

theorem MgmtRun.record_running (dev reqId : Nat) (r : MgmtRun) (m : MgmtRec) :
    (r.record dev reqId m).st.running = r.st.running := by
  unfold MgmtRun.record
  dsimp only
  repeat' split
  · rfl
  · exact r.add_running _ _ _ _ _ _ (State.ledgerRead_running ..)
  · rfl
  · exact r.add_running _ _ _ _ _ _ (State.putBlock_running ..)
  · exact r.add_running _ _ _ _ _ _ rfl
  · exact r.add_running _ _ _ _ _ _ (State.loadImage_running ..)
  · rfl
  all_goals exact r.add_running _ _ _ _ _ _ (State.ledgerWrite_running ..)

theorem mgmtRuns_running (dev reqId : Nat) (l : List MgmtRec) (r : MgmtRun) :
    (l.foldl (MgmtRun.record dev reqId) r).st.running = r.st.running := by
  induction l generalizing r with
  | nil => rfl
  | cons m l ih => rw [List.foldl_cons, ih, MgmtRun.record_running]

theorem State.runRequest_running (s : State) (q : PartReq) (l : List MgmtRec) : (s.runRequest q l).running = s.running := by
  unfold State.runRequest
  dsimp only
  split
  · exact mgmtRuns_running ..
  · exact (State.afterAll_running ..).trans ((State.mgmtAnswer_running ..).trans (mgmtRuns_running ..))

theorem State.endBulk_running (s : State) (via : Via) (code : Nat) : (s.endBulk via code).running = s.running := by
  unfold State.endBulk
  dsimp only
  split
  · split
    · rfl
    · exact State.runRequest_running ..
  · exact State.answer_running ..

/-- Whoever asked for a load is told, and the running image stays. -/
theorem State.endLoad_running (s : State) (result : Nat) : (s.endLoad result).running = s.running := by
  unfold State.endLoad
  dsimp only
  split
  · rfl
  · split
    · exact State.setBoot_running ..
    · rfl
  · exact State.endBulk_running ..
  · split
    · split
      · split
        · exact (State.running_of (State.admOk_kept ..) (State.admOk_clerk ..)).trans rfl
        · exact (State.running_of (State.admAbort_kept ..) (State.admAbort_clerk ..)).trans rfl
      · rfl
    · rfl

/-! The end of a load. -/

section EndOfLoad
variable {s : State} {r : FwRead}

/-- SEALED takes a good image: the state that FIRMWARE_LOADED ends in. -/
def State.firmwareEntered (s : State) (version : Nat) : State :=
  ((({ s with clerk := { s.clerk with version := version } } : State).enterLife .setup).applyGroups.endLoad 0).fetchAdmins

theorem State.firmwareEntered_running (s : State) (version : Nat) : (s.firmwareEntered version).running = (.setup, version) := by
  unfold State.firmwareEntered
  rw [State.running_of (State.fetchAdmins_kept _) (State.fetchAdmins_clerk _), State.endLoad_running,
    State.running_of (State.applyGroups_kept _) (State.applyGroups_clerk _)]
  have notified (t : State) : t.notice.running = t.running := State.running_of (State.notice_kept _) (State.notice_clerk _)
  exact notified _

theorem firmwareLoaded_good (loading : s.loading = true) (ready : s.clerk.pmemReady = true) (life : s.life = .sealed)
    (good : fwResult (s.loadedBytes r) r.signatureOk = 0) :
    exec (.firmwareLoaded r) s = .next (s.firmwareEntered (fwVersion ((s.loadedBytes r).getD []))) := by
  change execFirmwareLoaded r s = _
  simp [execFirmwareLoaded, loading, ready, life, good, ok, State.firmwareEntered]

theorem firmwareLoaded_bad (loading : s.loading = true) (ready : s.clerk.pmemReady = true) (life : s.life = .sealed)
    (bad : fwResult (s.loadedBytes r) r.signatureOk ≠ 0) :
    exec (.firmwareLoaded r) s = .next (s.endLoad (fwResult (s.loadedBytes r) r.signatureOk)) := by
  change execFirmwareLoaded r s = _
  simp [execFirmwareLoaded, loading, ready, life, bad, ok]

theorem stagingDone_inUse (loading : s.loading = true) (life : s.life = .setup ∨ s.life = .open_) :
    exec (.stagingDone r) s = .next (({ s with clerk := { s.clerk with
        staged := if fwResult (s.loadedBytes r) r.signatureOk = 0 then 2 else 3,
        stagedVersion := if fwResult (s.loadedBytes r) r.signatureOk = 0 then fwVersion ((s.loadedBytes r).getD [])
          else s.clerk.stagedVersion } } : State).endLoad (fwResult (s.loadedBytes r) r.signatureOk)) := by
  have skips : ¬(s.loading = false ∨ s.life = .sealed ∨ s.life = .dark) := by
    rcases life with h | h <;> simp [loading, h]
  change execStagingDone r s = _
  unfold execStagingDone
  rw [if_neg skips]
  simp only [if_pos life]

theorem State.endLoad_boot {p : HPort} {n cmd seq : Nat} (loader : s.clerk.loader = some (.boot p))
    (running : (s.boot p).running = some (cmd, seq)) :
    s.endLoad n = ({ s with clerk := { s.clerk with loader := none } } : State).setBoot p
      (fun b => { b.finish seq n cmd with running := none }) := by
  have same : (({ s with clerk := { s.clerk with loader := none } } : State).boot p).running = some (cmd, seq) := by
    cases p <;> exact running
  unfold State.endLoad
  simp only [loader, same]

/-- An image is good only where it is signed, of its header's length and of this device's format and key (R521). -/
theorem fwResult_zero {d : Bytes} {signed : Bool} (good : fwResult (some d) signed = 0) :
    signed = true ∧ d.length = bits (leNat (d.take 0x1C)) 8 0 32 ∧
      bits (leNat (d.take 0x1C)) 0 0 32 = 0x57465154 ∧ bits (leNat (d.take 0x1C)) 0x14 0 32 = Config.keyId.toNat := by
  unfold fwResult at good
  dsimp only at good
  split at good
  · cases good
  · next header =>
    split at good
    · next checks =>
      simp only [Bool.and_eq_true, beq_iff_eq] at checks
      obtain ⟨⟨⟨sig, -⟩, key⟩, -⟩ := checks
      simp only [not_or, not_not] at header
      obtain ⟨magic, length, -⟩ := header
      exact ⟨sig, length.symm, magic, key⟩
    · cases good

end EndOfLoad

/-! The changeover. -/

section Changeover
variable {s : State} {t b : Nat}

theorem changeoverStart_at (pending : s.clerk.switchBell = some b) (come : b ≤ s.bell) (free : s.clerk.pausedAt = none) :
    exec .changeoverStart s = .next { s with clerk := { s.clerk with pausedAt := some s.ticks } } := by
  change execChangeoverStart s = _
  simp [execChangeoverStart, pending, come, free, ok]

theorem changeoverStart_before (pending : s.clerk.switchBell = some b) (early : s.bell < b) :
    exec .changeoverStart s = .next s := by
  change execChangeoverStart s = _
  simp [execChangeoverStart, pending, Nat.not_le.mpr early, ok]

theorem changeoverReady_inTime (paused : s.clerk.pausedAt = some t) (pending : s.clerk.switchBell ≠ none) (early : s.ticks < t + 3) :
    exec .changeoverReady s = .next { s with clerk := { s.clerk with
      version := s.clerk.stagedVersion, switchResult := 2, switchBell := none, staged := 0,
      switchCount := (s.clerk.switchCount + 1) % 2 ^ 32 } } := by
  change execChangeoverReady s = _
  simp [execChangeoverReady, paused, Option.isSome_iff_ne_none.mpr pending, early, ok]

theorem changeoverFallback_late (paused : s.clerk.pausedAt = some t) (pending : s.clerk.switchBell ≠ none) (late : t + 3 ≤ s.ticks) :
    exec .changeoverFallback s = .next { s with
      clerk := { s.clerk with switchResult := 3, switchBell := none, staged := 3 },
      beadle := s.beadle.occur FaultCode.firmwareFallback 0 0 s.bell s.ticks } := by
  change execChangeoverFallback s = _
  unfold execChangeoverFallback
  simp only [paused]
  rw [if_pos ⟨Option.isSome_iff_ne_none.mpr pending, late⟩]
  rfl

/-- No work was set aside for a domain, so none is done. -/
theorem State.resumeDomain_none (none_ : s.deferred = []) (d : Nat) : s.resumeDomain d = s := by
  unfold State.resumeDomain
  rw [none_]
  change { s with deferred := [] } = s
  rw [← none_]

theorem resumeDomains_none (none_ : s.deferred = []) (l : List Nat) : l.foldl (fun s d => s.resumeDomain (d + 1)) s = s := by
  induction l with
  | nil => rfl
  | cons d l ih => rw [List.foldl_cons, State.resumeDomain_none none_, ih]

theorem changeoverResume_idle (paused : s.clerk.pausedAt = some t) (come : t + 4 ≤ s.ticks) (past : s.clerk.switchBell = none)
    (queue : s.clerk.queue = []) (deferred : s.deferred = []) :
    exec .changeoverResume s = .next { s with clerk := { s.clerk with pausedAt := none, queue := [] } } := by
  change execChangeoverResume s = _
  unfold execChangeoverResume
  simp only [paused]
  rw [if_pos ⟨come, past⟩, queue, resumeDomains_none (by exact deferred)]
  rfl

theorem changeoverResume_before (paused : s.clerk.pausedAt = some t) (early : s.ticks < t + 4) :
    exec .changeoverResume s = .next s := by
  change execChangeoverResume s = _
  unfold execChangeoverResume
  simp only [paused]
  rw [if_neg (fun due => Nat.not_le.mpr early due.1)]

end Changeover

/-- Settles O28: what follows a load keeps the state of life and the running image, which the load itself sets. -/
theorem firmwareLoadsAndChangeover : Obligations.FirmwareLoadsAndChangeover := by
  unfold Obligations.FirmwareLoadsAndChangeover
  refine ⟨fun s r => ⟨fun loading ready life good => ?_, firmwareLoaded_bad, stagingDone_inUse,
    fun p n cmd seq loader running => ?_, fun d signed good => fwResult_zero good⟩,
    fun s => ⟨fun b => changeoverStart_at, fun b => changeoverStart_before, fun t => changeoverReady_inTime,
      fun t => changeoverFallback_late, fun t => changeoverResume_idle, fun t => changeoverResume_before⟩⟩
  · obtain ⟨setup, version⟩ := Prod.mk.inj (s.firmwareEntered_running (fwVersion ((s.loadedBytes r).getD [])))
    exact ⟨_, firmwareLoaded_good loading ready life good, setup, version⟩
  · rw [State.endLoad_boot loader running]
    cases p <;> exact ⟨rfl, rfl, rfl⟩

end Sys2Proof.Machine
end
